-- ==== Sys2Proof/Word.lean ====
section
/-!
DEFINITION. The word types of the Walnuok WT4: a byte of stacked memory, a 32-bit scratchpad word or
vector lane, a 64-bit scalar register, instruction word or sync word operand.
-/

namespace Sys2Proof

/-- One byte of stacked memory or of a message. -/
abbrev Byte := BitVec 8

/-- One 32-bit word: a scratchpad word (R151) or a vector lane (R128). -/
abbrev Word32 := BitVec 32

/-- One 64-bit word: a scalar or address register (R117) or an instruction word (R120). -/
abbrev Word64 := BitVec 64

end Sys2Proof
end

