-- ==== Sys2Proof/Syntax.lean ====
section
/-!
DEFINITION. The commands: one constructor of Instr per row of spec/opcode_table.json, and their operands.
A Plovmi instruction's operands are the fields of its word (Tables 4.2, 5.4, 5.7 and 5.11); an event's
operands are what its agent brings: a message, a completion, a reading, a fault.
-/

namespace Sys2Proof

/-- A logical core: the global cluster and the logical core in it (R14). -/
structure CoreId where
  cluster : Fin 64
  core    : Fin 24
  deriving DecidableEq, Repr

/-- The four places of a core at which an instruction can wait (R113, R126). -/
inductive CoreUnit where
  | seq | mxe | vxe | txe
  deriving DecidableEq, Repr

/-- Layout S (Table 5.4), classes 0x01 to 0x04. -/
structure SArgs where
  d     : BitVec 5
  a     : BitVec 5
  b     : BitVec 5
  i     : Bool
  imm   : BitVec 32
  guard : BitVec 4
  deriving DecidableEq, Repr

/-- Layout Y (Table 5.4), class 0x08; the row says whether L is set. -/
structure YArgs where
  q     : BitVec 2
  a     : BitVec 5
  b     : BitVec 5
  i     : Bool
  imm   : BitVec 16
  tsel  : BitVec 4
  d     : BitVec 5
  guard : BitVec 4
  deriving DecidableEq, Repr

/-- Layout V (Table 5.7), classes 0x18 and 0x19. -/
structure VArgs where
  vd    : BitVec 5
  va    : BitVec 5
  vb    : BitVec 5
  vc    : BitVec 5
  fmt   : BitVec 4
  sat   : Bool
  rnd   : Bool
  trunc : Bool
  sI    : BitVec 5
  sT    : BitVec 5
  sX    : BitVec 5
  lane  : BitVec 6
  guard : BitVec 4
  deriving DecidableEq, Repr

/-- Layout M (Table 5.7), class 0x1A. -/
structure EArgs where
  d     : BitVec 5
  aE    : BitVec 4
  aS    : BitVec 4
  fmt   : BitVec 4
  sat   : Bool
  rnd   : Bool
  sI    : BitVec 5
  sT    : BitVec 5
  imm   : BitVec 16
  guard : BitVec 4
  deriving DecidableEq, Repr

/-- MLOAD (Table 4.2). -/
structure MLoadArgs where
  fmt : BitVec 4
  aE  : BitVec 4
  aS  : BitVec 4
  sG  : BitVec 5
  deriving DecidableEq, Repr

/-- MSTREAM (Table 4.2); the row says whether GATH is set. -/
structure MStreamArgs where
  fmt     : BitVec 4
  aE      : BitVec 4
  aS      : BitVec 4
  sM      : BitVec 5
  sG      : BitVec 5
  accBase : BitVec 9
  dest    : Bool
  acc     : Bool
  aO      : BitVec 4
  deriving DecidableEq, Repr

/-- MDRAIN (Table 4.2). -/
structure MDrainArgs where
  fmt     : BitVec 4
  aO      : BitVec 4
  aS      : BitVec 4
  sM      : BitVec 5
  sG      : BitVec 5
  accBase : BitVec 9
  sI      : BitVec 5
  sT      : BitVec 5
  rnd     : Bool
  sat     : Bool
  clr     : Bool
  deriving DecidableEq, Repr

/-- TLOAD and TSTORE (Table 5.11). -/
structure TMoveArgs where
  aL    : BitVec 4
  aV    : BitVec 4
  sN    : BitVec 5
  sG    : BitVec 5
  sfmt  : BitVec 4
  dfmt  : BitVec 4
  rnd   : Bool
  sat   : Bool
  sI    : BitVec 5
  sT    : BitVec 5
  guard : BitVec 4
  deriving DecidableEq, Repr

/-- TSEND (Table 5.11); the row says whether V is set. -/
structure TSendArgs where
  aL    : BitVec 4
  sN    : BitVec 5
  sR    : BitVec 5
  sfmt  : BitVec 4
  dfmt  : BitVec 4
  rnd   : Bool
  sat   : Bool
  sI    : BitVec 5
  sT    : BitVec 5
  guard : BitVec 4
  deriving DecidableEq, Repr

/-- WOPEN and WCLOSE (Table 5.11). -/
structure WinArgs where
  aB    : BitVec 4
  sN    : BitVec 5
  w     : BitVec 3
  guard : BitVec 4
  deriving DecidableEq, Repr

/-- A port of the Fapin dictionary (R443): MCTP over I3C, MCTP over PCIe VDM, the mailbox of a function. -/
inductive DictPort where
  | i3c
  | vdm
  | mbx (f : Fin 17)
  deriving DecidableEq, Repr

/-- A memory command, its four 64-bit words (Table 8.6). -/
structure MemCmd where
  w0 : Word64
  w1 : Word64
  w2 : Word64
  w3 : Word64
  deriving DecidableEq, Repr

/-- Who reads a line of stacked memory (Table 8.5): a core, fetching an instruction or moving data, another unit of a
context, the host aperture, export, a peer's refill request, the memory manager's page-table read or a copy. -/
inductive LineReader where
  | core (c : CoreId) (fetch : Bool)
  | context (n : Fin 64)
  | host (f : Fin 17)
  | exporter
  | peer
  | manager
  | copier
  deriving DecidableEq, Repr

/-- A line of stacked memory by its device physical place (Table 1.10, R208). -/
structure LineAddr where
  stack : Fin 16
  frame : Fin 65536
  line  : Fin 32768
  deriving DecidableEq, Repr

/-- A place that a corruption in logic leaves with a wrong value (R9): a scratchpad word, an accumulator element, a
weight element or scale of a plane, a vector lane, a scalar or address register of the core, a byte of stacked memory, or the
value of a sync word. -/
inductive WrongAt where
  | word (w : Fin 524288)
  | acc (row : Fin 512) (col : Fin 64)
  | elem (planeB : Bool) (n k : Fin 64)
  | scale (planeB : Bool) (n : Fin 64) (j : Fin 2)
  | lane (v : BitVec 5) (l : Fin 64)
  | sreg (n : BitVec 5)
  | areg (n : BitVec 4)
  | byte (at_ : LineAddr) (b : Fin 64)
  | sync (cluster : Fin 64) (index : Fin 4096)
  deriving DecidableEq, Repr

/-- What goes wrong in the hardware while an engine runs one instruction: nothing; what a detector raises, an engine
parity or residue error (R83), a single-bit or a double-bit scratchpad error met by its reads (R155); or a corruption in
logic that no check covers (R9): it reads the words of `reads` wrong and leaves the places of `leaves` wrong. -/
inductive HwFault where
  | none | parity | eccSingle | eccDouble
  | silent (reads : List (Fin 524288)) (leaves : List WrongAt)
  deriving DecidableEq, Repr

/-- A symbol that arrived wrong: the wire it travelled on (Table 8.4) and the bits that differ. -/
structure SymErr where
  wire : Fin 72
  diff : Byte
  deriving DecidableEq, Repr

/-- A transport message header (Table 11.8). -/
structure MsgHeader where
  status : BitVec 8
  length : BitVec 16
  dcoord : BitVec 16
  dpart  : BitVec 8
  dctx   : BitVec 8
  tag    : BitVec 8
  sctx   : BitVec 8
  scoord : BitVec 16
  spart  : BitVec 8
  score  : BitVec 16
  msgid  : BitVec 32
  daddr  : BitVec 32
  aux    : Word64
  deriving DecidableEq, Repr

/-- How a request that the device issued upstream ends (R426). -/
inductive ReadStatus where
  | ok | unsupported | completerAbort | poisoned | timeout
  deriving DecidableEq, Repr

/-- The result of a Calico condition, a diagnosis or a return's kernels on one slot (R372): pass, failures
in matrix columns only, any other failure, or the condition was prevented (R371). -/
inductive KernelResult where
  | pass
  | columns (bad : List (Fin 66))
  | other
  | deferred
  deriving DecidableEq, Repr

/-- The scope whose reset or watchdog is meant. -/
inductive ResetScope where
  | context (n : Fin 64)
  | partition (k : Fin 16)
  | compute
  deriving DecidableEq, Repr

/-- A firmware class (R470). -/
inductive FwClass where
  | management | compute | calico
  deriving DecidableEq, Repr

/-- A firmware image as the root of trust judges it (R470): the part it names is WT4-16A, the signature
verifies, its SVN, its version word, and whether its header asks to raise the fused minimum (R472). -/
structure FwImage where
  partOk   : Bool
  sigOk    : Bool
  svn      : Fin 256
  version  : BitVec 32
  raiseMin : Bool
  deriving DecidableEq, Repr

/-- A regulator: of the island of a core slot, of another island of a compute die, or of the I/O die (R401). -/
inductive Regulator where
  | slot (cluster : Fin 64) (slot : Fin 25)
  | die (d : Fin 4) (island : Fin 32)
  | io (island : Fin 16)
  deriving DecidableEq, Repr

/-- A PLDM sensor (R445). -/
inductive PldmSensor where
  | powerNow | vin12 | temp (n : Fin 100) | thermStage | ready
  deriving DecidableEq, Repr

/-- A reset input (R396). -/
inductive ResetPin where
  | perst | sysRst
  deriving DecidableEq, Repr

/-- What start-up finds at S (R462, R465): the straps, channels whose interface training failed four times,
edge modules (edge, module) with their trained width (8 or 0), core slots whose PLL does not lock, compute
dies with a fixed-clock island that does not lock, and whether every I/O-die island locked. -/
structure StartFindings where
  bistStrap : Bool
  channels  : List (Fin 16 × Fin 128)
  modules   : List (Fin 8 × Fin 32 × Bool)
  slots     : List (Fin 64 × Fin 25)
  dies      : List (Fin 4)
  ioLocked  : Bool
  deriving DecidableEq, Repr

/-- A failing unit of a self-test (R452). -/
inductive FailUnit where
  | slot (cluster : Fin 64) (slot : Fin 25) (r : KernelResult)
  | row (stack : Fin 16) (channel : Fin 128) (bank : Fin 32) (row : Fin 12288)
  | group (stack : Fin 16) (group : Fin 16)
  | io
  deriving DecidableEq, Repr

/-- A power sample of 10 µs (R404, R405, R407), in watts: the package's draw; the draw of each partition but for replays and
tests; the draw of the replaying spares and of the slots under test in each partition's clusters, and last in clusters of
none; the draw of the islands that the governor does not set; and the 12 V input in mV. -/
structure PowerReading where
  package    : Nat
  partitions : List Nat
  extra      : List Nat
  others     : Nat
  vin12mV    : Nat
  deriving DecidableEq, Repr

/-- Which way the 12 V input leaves its range (R413, R467). -/
inductive RailLoss where
  | outOfRange | removed
  deriving DecidableEq, Repr

/-- What a message of the data phase of a collective carries (R343, R347): class codes on their way to the owner of a
block, the owner's codes spread back, partials on their way to the owner, results spread. -/
inductive CollPhase where
  | code | spread | partial_ | result
  deriving DecidableEq, Repr

/-- A message of the data phase of a collective (R343, R346, R347): the generation, the lane, what it carries, its first
element, the flags raised so far, and the bytes of its elements: a code in 1 B, a partial sum in the 5 B of Table 12.4,
every other value in 4 B. -/
structure CollMsg where
  gen   : Nat
  lane  : Fin 6
  phase : CollPhase
  first : Nat
  flags : BitVec 4
  data  : List Byte
  deriving DecidableEq, Repr

/-- An opening token (R337): the generation, its lane, the sender's signature, ROOT, SEGLEN and GROUP, the slot sum, the
position of the package that forwarded it, that of the package that sent it first and its position on the lowest-numbered
ring, and its way along a segment: 0 to the end of the path, 1 back, 2 beyond its sender to the other end, 3 home. -/
structure OpenToken where
  gen       : Nat
  lane      : Fin 6
  signature : Word64
  root      : BitVec 32
  seglen    : BitVec 16
  group     : BitVec 32
  slotSum   : Nat
  position  : BitVec 11
  origin    : BitVec 11
  rank      : BitVec 11
  leg       : Fin 4
  deriving DecidableEq, Repr

/-- An ABORT token (R338, R349): the generation, the rings of the collective and the lane, SEGLEN, the position of the
package that sent it first, and whether it tells of a mismatch. -/
structure AbortToken where
  gen      : Nat
  lane     : Fin 6
  rings    : BitVec 3
  seglen   : BitVec 16
  origin   : BitVec 11
  mismatch : Bool
  deriving DecidableEq, Repr

/-- A TIME message (R326): a neighbour asks with its count, or answers with the count of the question and its own counts
when that arrived and when the answer leaves. -/
inductive TimeMsg where
  | ask (t1 : Nat)
  | reply (t1 t2 t3 : Nat)
  deriving DecidableEq, Repr

/-- A TIME message and the port it comes on (R326). -/
structure TimeArrival where
  port : Fin 6
  msg  : TimeMsg
  deriving DecidableEq, Repr

/-- Which packet reaches a core: of the packets that are each the first of their writer on their path, the one numbered
`pick`, 0 being the oldest. Nothing orders writers, paths or classes against one another (R20, R173). -/
structure Arrival where
  core : CoreId
  pick : Nat
  deriving DecidableEq, Repr

/-- The commands, one per row of spec/opcode_table.json, in the table's order. -/
inductive Instr where
  | mload (c : CoreId) (x : MLoadArgs) (hw : HwFault)
  | mswap (c : CoreId)
  | mstream (c : CoreId) (x : MStreamArgs) (hw : HwFault)
  | gatheredSubmission (c : CoreId) (x : MStreamArgs) (hw : HwFault)
  | rowGathererFire (c : CoreId) (hw : HwFault)
  | gatherTimeout (c : CoreId)
  | mdrain (c : CoreId) (x : MDrainArgs) (hw : HwFault)
  | add (c : CoreId) (x : SArgs)
  | sub (c : CoreId) (x : SArgs)
  | mul (c : CoreId) (x : SArgs)
  | and (c : CoreId) (x : SArgs)
  | or (c : CoreId) (x : SArgs)
  | xor (c : CoreId) (x : SArgs)
  | shl (c : CoreId) (x : SArgs)
  | shr (c : CoreId) (x : SArgs)
  | sra (c : CoreId) (x : SArgs)
  | min (c : CoreId) (x : SArgs)
  | max (c : CoreId) (x : SArgs)
  | minu (c : CoreId) (x : SArgs)
  | maxu (c : CoreId) (x : SArgs)
  | ceq (c : CoreId) (x : SArgs)
  | cne (c : CoreId) (x : SArgs)
  | clt (c : CoreId) (x : SArgs)
  | cltu (c : CoreId) (x : SArgs)
  | cle (c : CoreId) (x : SArgs)
  | cleu (c : CoreId) (x : SArgs)
  | li (c : CoreId) (x : SArgs)
  | lih (c : CoreId) (x : SArgs)
  | adda (c : CoreId) (x : SArgs)
  | movas (c : CoreId) (x : SArgs)
  | movsa (c : CoreId) (x : SArgs)
  | pand (c : CoreId) (x : SArgs)
  | por (c : CoreId) (x : SArgs)
  | pxor (c : CoreId) (x : SArgs)
  | pnot (c : CoreId) (x : SArgs)
  | pset (c : CoreId) (x : SArgs)
  | br (c : CoreId) (x : SArgs)
  | loop (c : CoreId) (x : SArgs)
  | endTask (c : CoreId) (x : SArgs)
  | nop (c : CoreId) (x : SArgs)
  | flagrd (c : CoreId) (x : SArgs)
  | flagclr (c : CoreId) (x : SArgs)
  | phase (c : CoreId) (x : SArgs)
  | csrrd (c : CoreId) (x : SArgs)
  | drain (c : CoreId) (x : SArgs)
  | illegalInstruction (c : CoreId) (w : Word64)
  | periodChange (c : CoreId)
  | spost (c : CoreId) (x : YArgs)
  | spostLocal (c : CoreId) (x : YArgs)
  | swait (c : CoreId) (x : YArgs)
  | swaitLocal (c : CoreId) (x : YArgs)
  | sbar (c : CoreId) (x : YArgs)
  | slock (c : CoreId) (x : YArgs)
  | sunlock (c : CoreId) (x : YArgs)
  | hpush (c : CoreId) (x : YArgs)
  | hpushLocal (c : CoreId) (x : YArgs)
  | hpop (c : CoreId) (x : YArgs)
  | hpopLocal (c : CoreId) (x : YArgs)
  | scommit (c : CoreId) (x : YArgs)
  | segmentCommit (c : CoreId)
  | postBufferRelease (c : CoreId)
  | syncWaitSatisfied (c : CoreId) (u : CoreUnit)
  | slockGrant (cluster : Fin 64) (index : Fin 4096)
  | handleWaitSatisfied (c : CoreId) (u : CoreUnit)
  | vadd (c : CoreId) (x : VArgs)
  | vsub (c : CoreId) (x : VArgs)
  | vmul (c : CoreId) (x : VArgs)
  | vfma (c : CoreId) (x : VArgs)
  | vmin (c : CoreId) (x : VArgs)
  | vmax (c : CoreId) (x : VArgs)
  | vabs (c : CoreId) (x : VArgs)
  | vneg (c : CoreId) (x : VArgs)
  | vsel (c : CoreId) (x : VArgs)
  | vceq (c : CoreId) (x : VArgs)
  | vcne (c : CoreId) (x : VArgs)
  | vclt (c : CoreId) (x : VArgs)
  | vcle (c : CoreId) (x : VArgs)
  | viadd (c : CoreId) (x : VArgs)
  | vand (c : CoreId) (x : VArgs)
  | vor (c : CoreId) (x : VArgs)
  | vxor (c : CoreId) (x : VArgs)
  | vshl (c : CoreId) (x : VArgs)
  | vshr (c : CoreId) (x : VArgs)
  | vbcast (c : CoreId) (x : VArgs)
  | vlane (c : CoreId) (x : VArgs)
  | vredsum (c : CoreId) (x : VArgs)
  | vredmax (c : CoreId) (x : VArgs)
  | vrcp (c : CoreId) (x : VArgs)
  | vrsqrt (c : CoreId) (x : VArgs)
  | vsqrt (c : CoreId) (x : VArgs)
  | vexp2 (c : CoreId) (x : VArgs)
  | vlog2 (c : CoreId) (x : VArgs)
  | vexp (c : CoreId) (x : VArgs)
  | vln (c : CoreId) (x : VArgs)
  | vsigm (c : CoreId) (x : VArgs)
  | vtanh (c : CoreId) (x : VArgs)
  | vsilu (c : CoreId) (x : VArgs)
  | vcvt (c : CoreId) (x : VArgs)
  | vcvtfi (c : CoreId) (x : VArgs)
  | vcvtif (c : CoreId) (x : VArgs)
  | vrand (c : CoreId) (x : VArgs)
  | vdrop (c : CoreId) (x : VArgs)
  | vld (c : CoreId) (x : EArgs) (hw : HwFault)
  | vst (c : CoreId) (x : EArgs)
  | sld (c : CoreId) (x : EArgs) (hw : HwFault)
  | sldd (c : CoreId) (x : EArgs) (hw : HwFault)
  | sst (c : CoreId) (x : EArgs)
  | sstd (c : CoreId) (x : EArgs)
  | tload (c : CoreId) (x : TMoveArgs)
  | tstore (c : CoreId) (x : TMoveArgs) (hw : HwFault)
  | tsend (c : CoreId) (x : TSendArgs) (hw : HwFault)
  | tsendVoile (c : CoreId) (x : TSendArgs) (hw : HwFault)
  | wopen (c : CoreId) (x : WinArgs)
  | wclose (c : CoreId) (x : WinArgs)
  | transferGrant (cluster : Fin 64)
  | tloadComplete (c : CoreId)
  | tstoreAcknowledged (c : CoreId)
  | tsendAcknowledged (c : CoreId)
  | remoteWriteArrival (a : Arrival)
  | seqStall (c : CoreId)
  | qheadStall (c : CoreId) (u : CoreUnit)
  | waitTimeout (c : CoreId) (u : CoreUnit)
  | heartbeat (n : Fin 64)
  | creditStarved (port : Fin 6) (vc : Fin 6)
  | collStall (n : Fin 64) (gen : Nat)
  | resetStuck (scope : ResetScope)
  | segmentLong (c : CoreId)
  | spareSubstitution (c : CoreId) (deliverable : Bool) (badWords : List (Fin 524288))
  | replayStart (c : CoreId)
  | calicoVisitStart (cluster : Fin 64) (slot : Fin 25)
  | calicoConditionEnd (die : Fin 4) (r : KernelResult) (kernel : BitVec 32)
  | diagnosisVisit (cluster : Fin 64) (slot : Fin 25) (r : KernelResult)
  | edgeModuleLaneLoss (edge : Fin 8) (module : Fin 32) (trainsX8 : Bool)
  | edgeRetrainComplete (edge : Fin 8) (module : Fin 32)
  | memoryLineRead (at_ : LineAddr) (errs : List SymErr) (who : LineReader)
  | memoryLineWrite (at_ : LineAddr) (mask : Word64) (data : BitVec 512) (errs : List SymErr) (who : LineReader)
  | scrubRead (stack : Fin 16) (errs : List SymErr)
  | refillHoldTimeout (at_ : LineAddr)
  | migrationWindowEnd
  | pageMigrationComplete (n : Fin 64) (vpage : Nat)
  | mqFetch (f : Fin 17) (st : ReadStatus) (cmd : MemCmd)
  | alloc (f : Fin 17) (cmd : MemCmd)
  | free (f : Fin 17) (cmd : MemCmd)
  | shareRo (f : Fin 17) (cmd : MemCmd)
  | replReg (f : Fin 17) (cmd : MemCmd)
  | replUnreg (f : Fin 17) (cmd : MemCmd)
  | migrate (f : Fin 17) (cmd : MemCmd)
  | resvWrite (port : DictPort) (n : Fin 64) (value : Word64)
  | updateTrigger (n : Fin 64)
  | prePassEnd (n : Fin 64)
  | normReceive (port : Fin 6) (h : MsgHeader) (step : Nat) (sum : Nat) (nonfinite : Bool)
  | normTimeout (n : Fin 64)
  | upeGroup (n : Fin 64) (record : Nat) (group : Nat) (residueFails : Nat)
  | stepBoundary (n : Fin 64)
  | digestReceive (port : Fin 6) (h : MsgHeader) (step : Nat) (digest : Nat)
  | voteTimeout (n : Fin 64)
  | voteRelease (port : DictPort) (n : Fin 64)
  | exportHeadWrite (port : DictPort) (n : Fin 64) (value : Word64)
  | exportSpillDrain (n : Fin 64)
  | keyreq (port : DictPort) (n : Fin 64)
  | shardreq (port : DictPort) (n : Fin 64)
  | shardExportComplete (n : Fin 64)
  | partClustersWrite (port : DictPort) (k : Fin 16) (mask : Word64)
  | ctxCreate (port : DictPort) (n : Fin 64) (value : BitVec 32)
  | ctxDestroy (port : DictPort) (n : Fin 64) (value : BitVec 32)
  | ctxClustersWrite (port : DictPort) (n : Fin 64) (mask : Word64)
  | cqTailWrite (n : Fin 64) (value : Word64)
  | descriptorFetch (n : Fin 64)
  | descriptorReadCompletion (n : Fin 64) (st : ReadStatus) (d : BitVec 512)
  | taskStart (c : CoreId)
  | seqRun (port : DictPort) (k : Fin 16) (value : Word64)
  | seqStop (port : DictPort) (k : Fin 16) (value : Word64)
  | seqPassStart (k : Fin 16)
  | seqEntryIssue (k : Fin 16)
  | evalSlotSave (n : Fin 64)
  | evalSlotRun (n : Fin 64)
  | evalBudgetExpiry (n : Fin 64)
  | evalSlotEnd (n : Fin 64)
  | evalRestoreComplete (n : Fin 64)
  | portUp (port : Fin 6) (coord : BitVec 16) (authentic : Bool)
  | portDown (port : Fin 6)
  | portEnableWrite (from_ : DictPort) (port : Fin 6) (value : Byte)
  | laneDrop (port : Fin 6) (tx : Bool) (lane : Fin 16)
  | retrainWindow
  | laneReadd (port : Fin 6) (tx : Bool) (lane : Fin 16) (passed : Bool)
  | flitReceive (port : Fin 6) (flit : List Byte)
  | replayRequest (port : Fin 6) (seq : BitVec 16)
  | trainingQueueTimeout (port : Fin 6)
  | writeMessage (h : MsgHeader) (payload : List Byte)
  | voileMessage (h : MsgHeader) (payload : List Byte)
  | postMessage (h : MsgHeader)
  | ackMessage (h : MsgHeader)
  | ackTimeout (c : CoreId) (msgid : BitVec 32)
  | refillReqMessage (h : MsgHeader) (lines : List Nat) (step : Nat)
  | refillRespMessage (h : MsgHeader) (lines : List (Option (BitVec 512))) (notNow : Bool)
  | peerUpdate (port : DictPort) (value : BitVec 32)
  | ringCfgWrite (port : DictPort) (ring : Fin 3) (k : Fin 16) (value : Word64)
  | ringVerify (port : DictPort) (k : Fin 16) (rings : Byte)
  | ringVerifyToken (k : Fin 16) (ring : Fin 3) (inPort : BitVec 3) (position : BitVec 11)
  | ringVerifyTimeout (k : Fin 16) (ring : Fin 3)
  | timeExchange
  | timeMessage (a : TimeArrival)
  | gtHoldoverExpiry
  | collDoorbellWrite (port : DictPort) (n : Fin 64) (value : BitVec 32)
  | collectiveIssue (n : Fin 64)
  | openingToken (port : Fin 6) (h : MsgHeader) (t : OpenToken)
  | abortToken (port : Fin 6) (h : MsgHeader) (t : AbortToken)
  | collDataPhaseStart (n : Fin 64) (gen : Nat)
  | collMessage (port : Fin 6) (h : MsgHeader) (m : CollMsg)
  | collComplete (n : Fin 64)
  | ctxReset (port : DictPort) (n : Fin 64) (value : Byte)
  | contextResetComplete (n : Fin 64)
  | partReset (port : DictPort) (k : Fin 16) (value : Byte)
  | partitionResetComplete (k : Fin 16)
  | computeReset (port : DictPort) (value : Byte)
  | computeResetComplete
  | tagAdvanceDelayExpiry (n : Fin 64)
  | resetInputAssert (pin : ResetPin) (ns : Nat)
  | resetHeld
  | functionLevelReset (f : Fin 17)
  | busMasterEnableClear (f : Fin 17)
  | busMasterEnableSet (f : Fin 17)
  | pcieLinkDown
  | apertureRead (f : Fin 17) (offset : Nat) (length : Nat)
  | apertureWrite (f : Fin 17) (offset : Nat) (data : List Byte) (ep : Bool)
  | mqTailWrite (f : Fin 17) (value : Word64)
  | mqBaseWrite (f : Fin 17) (value : Word64)
  | syncSet (f : Fin 17) (cluster : Fin 64) (index : Fin 4096) (value : Word64)
  | syncHostPost (f : Fin 17) (cluster : Fin 64) (index : Fin 4096) (value : Word64)
  | syncConfigWrite (f : Fin 17) (cluster : Fin 64) (index : Fin 4096) (value : Word64)
  | armSlotWrite (f : Fin 17) (slot : Fin 64) (field : Fin 4) (value : Word64)
  | dictRead (port : DictPort) (index : BitVec 16) (sub : Byte)
  | dictWrite (port : DictPort) (index : BitVec 16) (sub : Byte) (data : List Byte)
  | registerWrite (f : Fin 17) (offset : BitVec 26) (size : Nat) (value : Word64)
  | watermarkMarkWrite (port : DictPort) (index : BitVec 16) (value : BitVec 32)
  | selftestLogic (port : DictPort)
  | selftestMemory (port : DictPort)
  | selftestSlot (port : DictPort)
  | selftestComplete (fails : List FailUnit)
  | returnCoreSlot (port : DictPort) (cluster : Fin 64) (slot : Fin 32)
  | returnChannelGroup (port : DictPort) (stack : Fin 16) (group : Fin 16)
  | returnUpe (port : DictPort) (engine : Fin 16)
  | returnComplete (die : Fin 4) (r : KernelResult)
  | powerSample (r : PowerReading)
  | powerCapWrite (port : DictPort) (value : BitVec 16)
  | slopeWrite (port : DictPort) (value : BitVec 16)
  | govRelearn (port : DictPort) (k : Fin 16)
  | rampGridInstant
  | thermalSensorRead (raw : List Int)
  | ivrPhase (r : Regulator)
  | mainRailApply
  | mainRailLoss (how : RailLoss)
  | auxRailRise
  | auxRailLoss
  | refclkLoss
  | managementBootComplete (strapAddr : BitVec 2)
  | startPoint (found : StartFindings)
  | flashRecordsApply
  | memoryInitComplete
  | devReady
  | startupStepStuck
  | firmwareUpdate (port : DictPort) (cls : FwClass) (img : FwImage)
  | pldmSensorRead (port : DictPort) (sensor : PldmSensor)
  | getVersion (port : DictPort)
  | getCapabilities (port : DictPort)
  | negotiateAlgorithms (port : DictPort) (p384 : Bool) (sha384 : Bool)
  | getDigests (port : DictPort)
  | getCertificate (port : DictPort) (slot : Fin 8)
  | challenge (port : DictPort) (slot : Fin 8) (nonce : BitVec 256)
  | getMeasurements (port : DictPort) (block : Byte)
  | extest
  | samplePreload
  | idcode
  | clamp
  | highz
  | netSel
  | bypass (code : Byte)
  | tapReset
  | sibUpdate (bits : List Bool)
  | lbistStart (die : Fin 4) (cmask : BitVec 16)
  | ioBistStart
  | mbStart (stack : Fin 16) (gmask : BitVec 16) (pattern : BitVec 2)
  | resetInputRelease (pin : ResetPin)
  | portTraining (port : Fin 6)
  | portRetrainComplete (port : Fin 6)
  | pcieLinkUp
  | hostInterfaceConfigLoaded
  | spareRowCopyComplete (stack : Fin 16) (channel : Fin 128) (bank : Fin 32) (row : Fin 12288)
  | flashEntryWritten (index : BitVec 16) (sub : Byte)
  deriving DecidableEq, Repr

end Sys2Proof
end

