-- ==== Sys2Proof/Decode.lean ====
section
/-!
DEFINITION. Decoding. No row of the table of commands carries bits, so decodeTableWord answers none. The Plovmi
instruction words, which the manual encodes bit by bit (R84, R120 to R134, Tables 4.2, 5.3 to 5.11), have a decoder
and an encoder here: ILLEGAL_INSTRUCTION and the fault log use them.
-/

namespace Sys2Proof

/-- The command that a word of the table spells: no row of spec/opcode_table.json gives bits. -/
def decodeTableWord (_ _ : Nat) : Option Instr := none

/-! ### Words of the operand layouts, high bits first -/

/-- Layout S (Table 5.4). -/
def wordS (cls op : BitVec 6) (x : SArgs) : Word64 :=
  cls ++ op ++ x.d ++ x.a ++ x.b ++ BitVec.ofBool x.i ++ x.imm ++ x.guard

/-- Layout Y (Table 5.4), class 0x08. -/
def wordY (op : BitVec 6) (l : Bool) (x : YArgs) : Word64 :=
  0x08#6 ++ op ++ x.q ++ BitVec.ofBool l ++ 0#2 ++ x.a ++ x.b ++ BitVec.ofBool x.i ++ x.imm ++ x.tsel ++ x.d ++ 0#7 ++
    x.guard

/-- Layout V (Table 5.7). -/
def wordV (cls op : BitVec 6) (x : VArgs) : Word64 :=
  cls ++ op ++ x.vd ++ x.va ++ x.vb ++ x.vc ++ x.fmt ++ BitVec.ofBool x.sat ++ BitVec.ofBool x.rnd ++
    BitVec.ofBool x.trunc ++ x.sI ++ x.sT ++ x.sX ++ x.lane ++ x.guard

/-- Layout M (Table 5.7), class 0x1A. -/
def wordE (op : BitVec 6) (x : EArgs) : Word64 :=
  0x1A#6 ++ op ++ x.d ++ x.aE ++ 0#1 ++ x.aS ++ 0#1 ++ x.fmt ++ BitVec.ofBool x.sat ++ BitVec.ofBool x.rnd ++ x.sI ++
    x.sT ++ x.imm ++ 0#1 ++ x.guard

/-- TLOAD and TSTORE (Table 5.11). -/
def wordMove (op : BitVec 6) (x : TMoveArgs) : Word64 :=
  0x20#6 ++ op ++ x.aL ++ x.aV ++ x.sN ++ x.sG ++ x.sfmt ++ x.dfmt ++ BitVec.ofBool x.rnd ++ BitVec.ofBool x.sat ++
    x.sI ++ x.sT ++ 0#10 ++ x.guard

/-- TSEND (Table 5.11); V is bit 13. -/
def wordSend (v : Bool) (x : TSendArgs) : Word64 :=
  0x20#6 ++ 0x03#6 ++ x.aL ++ 0#4 ++ x.sN ++ x.sR ++ x.sfmt ++ x.dfmt ++ BitVec.ofBool x.rnd ++ BitVec.ofBool x.sat ++
    x.sI ++ x.sT ++ BitVec.ofBool v ++ 0#9 ++ x.guard

/-- WOPEN and WCLOSE (Table 5.11). -/
def wordWin (op : BitVec 6) (x : WinArgs) : Word64 :=
  0x20#6 ++ op ++ x.aB ++ 0#4 ++ x.sN ++ 0#26 ++ x.w ++ 0#6 ++ x.guard

/-- MLOAD (Table 4.2). -/
def wordMload (x : MLoadArgs) : Word64 := 0x10#6 ++ 0x01#6 ++ x.fmt ++ x.aE ++ x.aS ++ x.sG ++ 0#35

/-- MSWAP (Table 4.2). -/
def wordMswap : Word64 := 0x10#6 ++ 0x02#6 ++ 0#52

/-- MSTREAM (Table 4.2); GATH is bit 18. -/
def wordMstream (gath : Bool) (x : MStreamArgs) : Word64 :=
  0x10#6 ++ 0x03#6 ++ x.fmt ++ x.aE ++ x.aS ++ x.sM ++ x.sG ++ x.accBase ++ BitVec.ofBool x.dest ++
    BitVec.ofBool x.acc ++ BitVec.ofBool gath ++ x.aO ++ 0#14

/-- MDRAIN (Table 4.2). -/
def wordMdrain (x : MDrainArgs) : Word64 :=
  0x10#6 ++ 0x04#6 ++ x.fmt ++ x.aO ++ x.aS ++ x.sM ++ x.sG ++ x.accBase ++ x.sI ++ x.sT ++ BitVec.ofBool x.rnd ++
    BitVec.ofBool x.sat ++ BitVec.ofBool x.clr ++ 0#8

/-! ### Fields of a word -/

/-- Bits [lo + n - 1 : lo] of a word. -/
def fld (w : Word64) (lo n : Nat) : BitVec n := w.extractLsb' lo n

/-- Layout S of a word. -/
def fieldsS (w : Word64) : SArgs :=
  { d := fld w 47 5, a := fld w 42 5, b := fld w 37 5, i := w.getLsbD 36, imm := fld w 4 32, guard := fld w 0 4 }

/-- Layout Y of a word. -/
def fieldsY (w : Word64) : YArgs :=
  { q := fld w 50 2, a := fld w 42 5, b := fld w 37 5, i := w.getLsbD 36, imm := fld w 20 16, tsel := fld w 16 4,
    d := fld w 11 5, guard := fld w 0 4 }

/-- Layout V of a word. -/
def fieldsV (w : Word64) : VArgs :=
  { vd := fld w 47 5, va := fld w 42 5, vb := fld w 37 5, vc := fld w 32 5, fmt := fld w 28 4, sat := w.getLsbD 27,
    rnd := w.getLsbD 26, trunc := w.getLsbD 25, sI := fld w 20 5, sT := fld w 15 5, sX := fld w 10 5,
    lane := fld w 4 6, guard := fld w 0 4 }

/-- Layout M of a word. -/
def fieldsE (w : Word64) : EArgs :=
  { d := fld w 47 5, aE := fld w 43 4, aS := fld w 38 4, fmt := fld w 33 4, sat := w.getLsbD 32, rnd := w.getLsbD 31,
    sI := fld w 26 5, sT := fld w 21 5, imm := fld w 5 16, guard := fld w 0 4 }

/-- TLOAD and TSTORE fields of a word. -/
def fieldsMove (w : Word64) : TMoveArgs :=
  { aL := fld w 48 4, aV := fld w 44 4, sN := fld w 39 5, sG := fld w 34 5, sfmt := fld w 30 4, dfmt := fld w 26 4,
    rnd := w.getLsbD 25, sat := w.getLsbD 24, sI := fld w 19 5, sT := fld w 14 5, guard := fld w 0 4 }

/-- TSEND fields of a word. -/
def fieldsSend (w : Word64) : TSendArgs :=
  { aL := fld w 48 4, sN := fld w 39 5, sR := fld w 34 5, sfmt := fld w 30 4, dfmt := fld w 26 4,
    rnd := w.getLsbD 25, sat := w.getLsbD 24, sI := fld w 19 5, sT := fld w 14 5, guard := fld w 0 4 }

/-- WOPEN and WCLOSE fields of a word. -/
def fieldsWin (w : Word64) : WinArgs := { aB := fld w 48 4, sN := fld w 39 5, w := fld w 10 3, guard := fld w 0 4 }

/-- MLOAD fields of a word. -/
def fieldsMload (w : Word64) : MLoadArgs := { fmt := fld w 48 4, aE := fld w 44 4, aS := fld w 40 4, sG := fld w 35 5 }

/-- MSTREAM fields of a word. -/
def fieldsMstream (w : Word64) : MStreamArgs :=
  { fmt := fld w 48 4, aE := fld w 44 4, aS := fld w 40 4, sM := fld w 35 5, sG := fld w 30 5, accBase := fld w 21 9,
    dest := w.getLsbD 20, acc := w.getLsbD 19, aO := fld w 14 4 }

/-- MDRAIN fields of a word. -/
def fieldsMdrain (w : Word64) : MDrainArgs :=
  { fmt := fld w 48 4, aO := fld w 44 4, aS := fld w 40 4, sM := fld w 35 5, sG := fld w 30 5, accBase := fld w 21 9,
    sI := fld w 16 5, sT := fld w 11 5, rnd := w.getLsbD 10, sat := w.getLsbD 9, clr := w.getLsbD 8 }

/-- Class 0x01 (Table 5.5). -/
def decodeS1 (c : CoreId) (op : BitVec 6) (x : SArgs) : Option Instr :=
  match op with
  | 0x01#6 => some (.add c x)
  | 0x02#6 => some (.sub c x)
  | 0x03#6 => some (.mul c x)
  | 0x04#6 => some (.and c x)
  | 0x05#6 => some (.or c x)
  | 0x06#6 => some (.xor c x)
  | 0x07#6 => some (.shl c x)
  | 0x08#6 => some (.shr c x)
  | 0x09#6 => some (.sra c x)
  | 0x0A#6 => some (.min c x)
  | 0x0B#6 => some (.max c x)
  | 0x0C#6 => some (.minu c x)
  | 0x0D#6 => some (.maxu c x)
  | 0x10#6 => some (.ceq c x)
  | 0x11#6 => some (.cne c x)
  | 0x12#6 => some (.clt c x)
  | 0x13#6 => some (.cltu c x)
  | 0x14#6 => some (.cle c x)
  | 0x15#6 => some (.cleu c x)
  | 0x18#6 => some (.li c x)
  | 0x19#6 => some (.lih c x)
  | _ => none

/-- Class 0x02 (Table 5.5). -/
def decodeS2 (c : CoreId) (op : BitVec 6) (x : SArgs) : Option Instr :=
  match op with
  | 0x01#6 => some (.adda c x)
  | 0x02#6 => some (.movas c x)
  | 0x03#6 => some (.movsa c x)
  | 0x08#6 => some (.pand c x)
  | 0x09#6 => some (.por c x)
  | 0x0A#6 => some (.pxor c x)
  | 0x0B#6 => some (.pnot c x)
  | 0x0C#6 => some (.pset c x)
  | _ => none

/-- Class 0x03 (Table 5.5). -/
def decodeS3 (c : CoreId) (op : BitVec 6) (x : SArgs) : Option Instr :=
  match op with
  | 0x01#6 => some (.br c x)
  | 0x02#6 => some (.loop c x)
  | 0x03#6 => some (.endTask c x)
  | _ => none

/-- Class 0x04 (Table 5.5). -/
def decodeS4 (c : CoreId) (op : BitVec 6) (x : SArgs) : Option Instr :=
  match op with
  | 0x01#6 => some (.nop c x)
  | 0x02#6 => some (.flagrd c x)
  | 0x03#6 => some (.flagclr c x)
  | 0x04#6 => some (.phase c x)
  | 0x05#6 => some (.csrrd c x)
  | 0x06#6 => some (.drain c x)
  | _ => none

/-- The CSR numbers of Table 5.2. -/
def csrDefined (x : SArgs) : Bool := decide (x.imm.toNat % 4096 < 6)

/-- Class 0x08 (Table 5.6): L = 1 only where the table allows it, SCOMMIT and SBAR only with Q = 0 (R122, R184). -/
def decodeY (c : CoreId) (op : BitVec 6) (l : Bool) (x : YArgs) : Option Instr :=
  match op, l with
  | 0x01#6, false => some (.spost c x)
  | 0x01#6, true => some (.spostLocal c x)
  | 0x02#6, false => some (.swait c x)
  | 0x02#6, true => some (.swaitLocal c x)
  | 0x03#6, false => if x.q = 0#2 then some (.sbar c x) else none
  | 0x04#6, false => some (.slock c x)
  | 0x05#6, false => some (.sunlock c x)
  | 0x06#6, false => some (.hpush c x)
  | 0x06#6, true => some (.hpushLocal c x)
  | 0x07#6, false => some (.hpop c x)
  | 0x07#6, true => some (.hpopLocal c x)
  | 0x08#6, false => if x.q = 0#2 then some (.scommit c x) else none
  | _, _ => none

/-- Class 0x18 (Table 5.8). -/
def decodeV18 (c : CoreId) (op : BitVec 6) (x : VArgs) : Option Instr :=
  match op with
  | 0x01#6 => some (.vadd c x)
  | 0x02#6 => some (.vsub c x)
  | 0x03#6 => some (.vmul c x)
  | 0x04#6 => some (.vfma c x)
  | 0x05#6 => some (.vmin c x)
  | 0x06#6 => some (.vmax c x)
  | 0x07#6 => some (.vabs c x)
  | 0x08#6 => some (.vneg c x)
  | 0x09#6 => some (.vsel c x)
  | 0x0A#6 => some (.vceq c x)
  | 0x0B#6 => some (.vcne c x)
  | 0x0C#6 => some (.vclt c x)
  | 0x0D#6 => some (.vcle c x)
  | 0x10#6 => some (.viadd c x)
  | 0x11#6 => some (.vand c x)
  | 0x12#6 => some (.vor c x)
  | 0x13#6 => some (.vxor c x)
  | 0x14#6 => some (.vshl c x)
  | 0x15#6 => some (.vshr c x)
  | 0x18#6 => some (.vbcast c x)
  | 0x19#6 => some (.vlane c x)
  | 0x1A#6 => some (.vredsum c x)
  | 0x1B#6 => some (.vredmax c x)
  | _ => none

/-- Class 0x19 (Table 5.8). -/
def decodeV19 (c : CoreId) (op : BitVec 6) (x : VArgs) : Option Instr :=
  match op with
  | 0x01#6 => some (.vrcp c x)
  | 0x02#6 => some (.vrsqrt c x)
  | 0x03#6 => some (.vsqrt c x)
  | 0x04#6 => some (.vexp2 c x)
  | 0x05#6 => some (.vlog2 c x)
  | 0x08#6 => some (.vexp c x)
  | 0x09#6 => some (.vln c x)
  | 0x0A#6 => some (.vsigm c x)
  | 0x0B#6 => some (.vtanh c x)
  | 0x0C#6 => some (.vsilu c x)
  | 0x10#6 => some (.vcvt c x)
  | 0x11#6 => some (.vcvtfi c x)
  | 0x12#6 => some (.vcvtif c x)
  | 0x18#6 => some (.vrand c x)
  | 0x19#6 => some (.vdrop c x)
  | _ => none

/-- Class 0x1A (Table 5.9). -/
def decodeE (c : CoreId) (op : BitVec 6) (x : EArgs) : Option Instr :=
  match op with
  | 0x01#6 => some (.vld c x .none)
  | 0x02#6 => some (.vst c x)
  | 0x08#6 => some (.sld c x .none)
  | 0x09#6 => some (.sldd c x .none)
  | 0x0A#6 => some (.sst c x)
  | 0x0B#6 => some (.sstd c x)
  | _ => none

/-- Class 0x20 (Table 5.11). -/
def decodeT (c : CoreId) (op : BitVec 6) (w : Word64) : Option Instr :=
  match op with
  | 0x01#6 => some (.tload c (fieldsMove w))
  | 0x02#6 => some (.tstore c (fieldsMove w) .none)
  | 0x03#6 => if w.getLsbD 13 then some (.tsendVoile c (fieldsSend w) .none) else some (.tsend c (fieldsSend w) .none)
  | 0x04#6 => some (.wopen c (fieldsWin w))
  | 0x05#6 => some (.wclose c (fieldsWin w))
  | _ => none

/-- Class 0x10 (Table 4.2). -/
def decodeMat (c : CoreId) (op : BitVec 6) (w : Word64) : Option Instr :=
  match op with
  | 0x01#6 => some (.mload c (fieldsMload w) .none)
  | 0x02#6 => some (.mswap c)
  | 0x03#6 => if w.getLsbD 18 then some (.gatheredSubmission c (fieldsMstream w) .none)
    else some (.mstream c (fieldsMstream w) .none)
  | 0x04#6 => some (.mdrain c (fieldsMdrain w) .none)
  | _ => none

/-- The instruction that a word spells on core c (Table 5.3); none: an illegal instruction (R122, R184). -/
def decodePlovmi (c : CoreId) (w : Word64) : Option Instr :=
  let op := fld w 52 6
  match fld w 58 6 with
  | 0x01#6 => decodeS1 c op (fieldsS w)
  | 0x02#6 => decodeS2 c op (fieldsS w)
  | 0x03#6 => decodeS3 c op (fieldsS w)
  | 0x04#6 => if op = 0x05#6 ∧ csrDefined (fieldsS w) = false then none else decodeS4 c op (fieldsS w)
  | 0x08#6 => decodeY c op (w.getLsbD 49) (fieldsY w)
  | 0x10#6 => decodeMat c op w
  | 0x18#6 => decodeV18 c op (fieldsV w)
  | 0x19#6 => decodeV19 c op (fieldsV w)
  | 0x1A#6 => decodeE c op (fieldsE w)
  | 0x20#6 => decodeT c op w
  | _ => none

/-- The word of an instruction command; none for the commands that are no instruction. -/
def encodePlovmi : Instr → Option Word64
  | .add _ x => some (wordS 0x01#6 0x01#6 x)
  | .sub _ x => some (wordS 0x01#6 0x02#6 x)
  | .mul _ x => some (wordS 0x01#6 0x03#6 x)
  | .and _ x => some (wordS 0x01#6 0x04#6 x)
  | .or _ x => some (wordS 0x01#6 0x05#6 x)
  | .xor _ x => some (wordS 0x01#6 0x06#6 x)
  | .shl _ x => some (wordS 0x01#6 0x07#6 x)
  | .shr _ x => some (wordS 0x01#6 0x08#6 x)
  | .sra _ x => some (wordS 0x01#6 0x09#6 x)
  | .min _ x => some (wordS 0x01#6 0x0A#6 x)
  | .max _ x => some (wordS 0x01#6 0x0B#6 x)
  | .minu _ x => some (wordS 0x01#6 0x0C#6 x)
  | .maxu _ x => some (wordS 0x01#6 0x0D#6 x)
  | .ceq _ x => some (wordS 0x01#6 0x10#6 x)
  | .cne _ x => some (wordS 0x01#6 0x11#6 x)
  | .clt _ x => some (wordS 0x01#6 0x12#6 x)
  | .cltu _ x => some (wordS 0x01#6 0x13#6 x)
  | .cle _ x => some (wordS 0x01#6 0x14#6 x)
  | .cleu _ x => some (wordS 0x01#6 0x15#6 x)
  | .li _ x => some (wordS 0x01#6 0x18#6 x)
  | .lih _ x => some (wordS 0x01#6 0x19#6 x)
  | .adda _ x => some (wordS 0x02#6 0x01#6 x)
  | .movas _ x => some (wordS 0x02#6 0x02#6 x)
  | .movsa _ x => some (wordS 0x02#6 0x03#6 x)
  | .pand _ x => some (wordS 0x02#6 0x08#6 x)
  | .por _ x => some (wordS 0x02#6 0x09#6 x)
  | .pxor _ x => some (wordS 0x02#6 0x0A#6 x)
  | .pnot _ x => some (wordS 0x02#6 0x0B#6 x)
  | .pset _ x => some (wordS 0x02#6 0x0C#6 x)
  | .br _ x => some (wordS 0x03#6 0x01#6 x)
  | .loop _ x => some (wordS 0x03#6 0x02#6 x)
  | .endTask _ x => some (wordS 0x03#6 0x03#6 x)
  | .nop _ x => some (wordS 0x04#6 0x01#6 x)
  | .flagrd _ x => some (wordS 0x04#6 0x02#6 x)
  | .flagclr _ x => some (wordS 0x04#6 0x03#6 x)
  | .phase _ x => some (wordS 0x04#6 0x04#6 x)
  | .csrrd _ x => some (wordS 0x04#6 0x05#6 x)
  | .drain _ x => some (wordS 0x04#6 0x06#6 x)
  | .spost _ x => some (wordY 0x01#6 false x)
  | .spostLocal _ x => some (wordY 0x01#6 true x)
  | .swait _ x => some (wordY 0x02#6 false x)
  | .swaitLocal _ x => some (wordY 0x02#6 true x)
  | .sbar _ x => some (wordY 0x03#6 false x)
  | .slock _ x => some (wordY 0x04#6 false x)
  | .sunlock _ x => some (wordY 0x05#6 false x)
  | .hpush _ x => some (wordY 0x06#6 false x)
  | .hpushLocal _ x => some (wordY 0x06#6 true x)
  | .hpop _ x => some (wordY 0x07#6 false x)
  | .hpopLocal _ x => some (wordY 0x07#6 true x)
  | .scommit _ x => some (wordY 0x08#6 false x)
  | .vadd _ x => some (wordV 0x18#6 0x01#6 x)
  | .vsub _ x => some (wordV 0x18#6 0x02#6 x)
  | .vmul _ x => some (wordV 0x18#6 0x03#6 x)
  | .vfma _ x => some (wordV 0x18#6 0x04#6 x)
  | .vmin _ x => some (wordV 0x18#6 0x05#6 x)
  | .vmax _ x => some (wordV 0x18#6 0x06#6 x)
  | .vabs _ x => some (wordV 0x18#6 0x07#6 x)
  | .vneg _ x => some (wordV 0x18#6 0x08#6 x)
  | .vsel _ x => some (wordV 0x18#6 0x09#6 x)
  | .vceq _ x => some (wordV 0x18#6 0x0A#6 x)
  | .vcne _ x => some (wordV 0x18#6 0x0B#6 x)
  | .vclt _ x => some (wordV 0x18#6 0x0C#6 x)
  | .vcle _ x => some (wordV 0x18#6 0x0D#6 x)
  | .viadd _ x => some (wordV 0x18#6 0x10#6 x)
  | .vand _ x => some (wordV 0x18#6 0x11#6 x)
  | .vor _ x => some (wordV 0x18#6 0x12#6 x)
  | .vxor _ x => some (wordV 0x18#6 0x13#6 x)
  | .vshl _ x => some (wordV 0x18#6 0x14#6 x)
  | .vshr _ x => some (wordV 0x18#6 0x15#6 x)
  | .vbcast _ x => some (wordV 0x18#6 0x18#6 x)
  | .vlane _ x => some (wordV 0x18#6 0x19#6 x)
  | .vredsum _ x => some (wordV 0x18#6 0x1A#6 x)
  | .vredmax _ x => some (wordV 0x18#6 0x1B#6 x)
  | .vrcp _ x => some (wordV 0x19#6 0x01#6 x)
  | .vrsqrt _ x => some (wordV 0x19#6 0x02#6 x)
  | .vsqrt _ x => some (wordV 0x19#6 0x03#6 x)
  | .vexp2 _ x => some (wordV 0x19#6 0x04#6 x)
  | .vlog2 _ x => some (wordV 0x19#6 0x05#6 x)
  | .vexp _ x => some (wordV 0x19#6 0x08#6 x)
  | .vln _ x => some (wordV 0x19#6 0x09#6 x)
  | .vsigm _ x => some (wordV 0x19#6 0x0A#6 x)
  | .vtanh _ x => some (wordV 0x19#6 0x0B#6 x)
  | .vsilu _ x => some (wordV 0x19#6 0x0C#6 x)
  | .vcvt _ x => some (wordV 0x19#6 0x10#6 x)
  | .vcvtfi _ x => some (wordV 0x19#6 0x11#6 x)
  | .vcvtif _ x => some (wordV 0x19#6 0x12#6 x)
  | .vrand _ x => some (wordV 0x19#6 0x18#6 x)
  | .vdrop _ x => some (wordV 0x19#6 0x19#6 x)
  | .vld _ x _ => some (wordE 0x01#6 x)
  | .vst _ x => some (wordE 0x02#6 x)
  | .sld _ x _ => some (wordE 0x08#6 x)
  | .sldd _ x _ => some (wordE 0x09#6 x)
  | .sst _ x => some (wordE 0x0A#6 x)
  | .sstd _ x => some (wordE 0x0B#6 x)
  | .tload _ x => some (wordMove 0x01#6 x)
  | .tstore _ x _ => some (wordMove 0x02#6 x)
  | .tsend _ x _ => some (wordSend false x)
  | .tsendVoile _ x _ => some (wordSend true x)
  | .wopen _ x => some (wordWin 0x04#6 x)
  | .wclose _ x => some (wordWin 0x05#6 x)
  | .mload _ x _ => some (wordMload x)
  | .mswap _ => some wordMswap
  | .mstream _ x _ => some (wordMstream false x)
  | .gatheredSubmission _ x _ => some (wordMstream true x)
  | .mdrain _ x _ => some (wordMdrain x)
  | _ => none

end Sys2Proof
end

