-- ==== Sys2Proof/Machine/Gauze.lean ====
section
/-!
DEFINITION. The Gauze generator (R272, R273), the 16-bit values of an element (R55) and the Damask chunk
digest (R270).
-/

namespace Sys2Proof.Machine

/-- The four 32-bit words of a Gauze counter or result. -/
structure Quad where
  x0 : Word32
  x1 : Word32
  x2 : Word32
  x3 : Word32
  deriving DecidableEq, Repr

/-- Rotation of x3 in round r (R272). -/
def gauzeA (r : Nat) : Nat := match r % 4 with | 0 => 9 | 1 => 21 | 2 => 5 | _ => 14

/-- Rotation of x1 in round r (R272). -/
def gauzeB (r : Nat) : Nat := match r % 4 with | 0 => 25 | 1 => 6 | 2 => 18 | _ => 11

/-- One round r; the key enters after rounds 3, 7 and 11 (R272). -/
def gauzeRound (k0 k1 : Word32) (r : Nat) (q : Quad) : Quad :=
  let x0 := q.x0 + q.x1
  let x3 := (q.x3 ^^^ x0).rotateLeft (gauzeA r)
  let x2 := q.x2 + x3
  let x1 := (q.x1 ^^^ x2).rotateLeft (gauzeB r)
  if r % 4 = 3 then
    { x0 := x0 + k0 + BitVec.ofNat 32 ((r + 1) / 4) * 0x9E3779B9#32, x1 := x1 ^^^ k1, x2 := x2, x3 := x3 }
  else { x0 := x0, x1 := x1, x2 := x2, x3 := x3 }

/-- gauze_rounds of R272: k0 = [31:0] and k1 = [63:32] of the key (R273). -/
def gauzeRounds (key : Word64) (q : Quad) : Quad :=
  (List.range 12).foldl (fun q r => gauzeRound (key.extractLsb' 0 32) (key.extractLsb' 32 32) r q) q

/-- Word j of a Quad. -/
def Quad.word (q : Quad) (j : Nat) : Word32 := match j with | 0 => q.x0 | 1 => q.x1 | 2 => q.x2 | _ => q.x3

/-- The value u of element index i under a key, a step and a tensor id (R55, R273). -/
def gauzeValue (key : Word64) (step tensor i : Nat) : Nat :=
  let i := i % 2 ^ 64
  let c := i / 8
  let out := gauzeRounds key
    { x0 := BitVec.ofNat 32 c, x1 := BitVec.ofNat 32 (c / 2 ^ 32), x2 := BitVec.ofNat 32 tensor,
      x3 := BitVec.ofNat 32 step }
  let j := i % 8
  (out.word (j / 2)).toNat / 2 ^ (16 * (j % 2)) % 2 ^ 16

/-- chunk_digest of R270; word k of the chunk is d k. -/
def chunkDigest (key : Word64) (tensor i0 : Nat) (d : Nat → Word32) : Nat :=
  let q := (List.range 4).foldl (fun q j =>
    gauzeRounds key
      { x0 := q.x0 ^^^ d (4 * j), x1 := q.x1 ^^^ d (4 * j + 1), x2 := q.x2 ^^^ d (4 * j + 2),
        x3 := q.x3 ^^^ d (4 * j + 3) })
    { x0 := BitVec.ofNat 32 i0, x1 := BitVec.ofNat 32 (i0 / 2 ^ 32), x2 := BitVec.ofNat 32 tensor, x3 := 0#32 : Quad }
  q.x0.toNat + q.x1.toNat * 2 ^ 32 + q.x2.toNat * 2 ^ 64 + q.x3.toNat * 2 ^ 96

end Sys2Proof.Machine
end

