-- ==== Sys2Proof/Config.lean ====
section
/-!
DEFINITION. What an implementation fixes and this manual does not state: the free values. Each is an
uninterpreted constant: nothing can evaluate it, and a claim that uses one holds whatever its value is.
-/

namespace Sys2Proof.Config

/-- The free number of index n, used for an outcome the manual calls unpredictable (R6, R7) or leaves
unstated. State.freeCtr supplies the index (assumption 2). -/
opaque freeNat : Nat → Nat

/-- A free truth value, for example whether a word in two windows with differing filters is written (R159). -/
opaque freeBool : Nat → Bool

/-- Which of the free frames of a channel group the memory manager takes (R227 names the group, not the
frame): read modulo the number of free frames (assumption 10). -/
opaque framePick : Nat → Nat

/-- The serial number of the part, from factory test (0x1000:03, R456). -/
opaque serial : Nat

/-- Bytes the root of trust answers that no rule states: certificates, digests, signatures and measured
digests (R473, R474), by message and request. -/
opaque spdmBytes : Nat → Nat → List Byte

/-- Contents of a test data register that no rule states: IO_ID, DIE_ID, IO_STATUS and the DRAM layer
registers (R496). -/
opaque testRegister : Nat → Nat

/-- The governor's choice of operating points: core and fabric point of a phase of a partition, at a
step (R409 states the goal of the choice, not the choice). -/
opaque governorPoint : Nat → Nat

/-- The places that hold wrong values after a moment in which the 12 V input is out of its range: core and place (R403: the
manual states no results for that time; assumption 62). -/
opaque sagWrong : Nat → List (Nat × WrongAt)

/-- Bytes 16 to 31 of a fault log record: the placement of its arguments in ARGS is code-specific and not stated
(Table 13.7): a function of the code and the arguments. -/
opaque logArgs : Nat → List Nat → Nat

end Sys2Proof.Config
end

