-- ==== Sys2Proof/Machine/Catalog.lean ====
section
/-!
DEFINITION. The Fapin dictionary's entries, one row per entry as the tables of the manual list them (R438, Table
17.13): where it stands, type, access, owner, persistence, scope, default and accepted range. An entry's key is
256 x index + subindex.
-/

namespace Sys2Proof.Machine

/-- The entry types of Table 17.1. -/
inductive EType where
  | bool | uint | int | f32 | str | blob
  deriving DecidableEq, Repr

/-- The access codes of Table 17.2. -/
inductive EAccess where
  | ro | rw | wo | w1c | rwl | rws
  deriving DecidableEq, Repr

/-- The owners of R444 and R446. -/
inductive EOwner where
  | any | mgmt | host
  deriving DecidableEq, Repr

/-- Persistence (Table 17.3). -/
inductive EPers where
  | volatile | retained | flash
  deriving DecidableEq, Repr

/-- What a subindex of the entry belongs to (R432, R444): the package, the physical function only, partition
sub - 1, context sub - 1, the fault-log cursor of the reader (R377), or the context a PEER_UPDATE names. -/
inductive EScope where
  | package | pfOnly | part | ctx | log | peer
  deriving DecidableEq, Repr

/-- A row of the catalog: the entries at keys lo + 256 i + j for i < idx and j < cnt. -/
structure ERow where
  lo     : Nat
  cnt    : Nat
  idx    : Nat
  type   : EType
  size   : Nat
  acc    : EAccess
  owner  : EOwner
  pers   : EPers
  scope  : EScope
  /-- The default of the entry at an index (from 0 within the row) and subindex. -/
  dflt   : Nat → Nat → Nat
  min    : Nat
  max    : Nat
  /-- Reserved bits: a write that sets one is refused (R442). -/
  resv   : Nat
  /-- The value is a multiple of this. -/
  align  : Nat
  /-- The value is a power of two. -/
  pow2   : Bool

/-- The factory core map of cluster c (R112; assumption 9): logical core j in slot j, spare slot 24. -/
def factoryMap (_ sub : Nat) : Nat :=
  (List.range 24).foldl (fun v j => v + (j + 32 * (sub - 1)) * 2 ^ (16 * j)) (24 * 2 ^ 384)

/-- 1,000,000 microseconds for each TSEL (Table 14.5, WAIT_TIMEOUTS). -/
def waitDefaults (_ _ : Nat) : Nat := (List.range 16).foldl (fun v j => v + 1000000 * 2 ^ (32 * j)) 0

/-- Table 14.5a: FIRST 2, 1, 1, 0 for sources 1 to 4, CEIL 3, WINDOW 60. -/
def escDefaults (_ sub : Nat) : Nat :=
  (if sub = 1 then 2 else if sub = 4 then 0 else 1) + 3 * 8 + 60 * 256

/-- SERIAL: 16 bytes from factory test. -/
def serialDefault (_ _ : Nat) : Nat := Config.serial % 2 ^ 128

/-! ### Keys of the entries -/
namespace Ent

/-- ORDER_CODE (Table 17.12). -/
abbrev orderCode : Nat := 1048577
/-- FAMILY (Table 17.12). -/
abbrev family : Nat := 1048578
/-- SERIAL (Table 17.12). -/
abbrev serial : Nat := 1048579
/-- FW_VERSION (Table 17.12). -/
abbrev fwVersion : Nat := 1048580
/-- DICT_VERSION (Table 17.12). -/
abbrev dictVersion : Nat := 1048581
/-- STEPPING (Table 17.12). -/
abbrev stepping : Nat := 1048582
/-- STACKS (Table 17.12). -/
abbrev stackCount : Nat := 1048583
/-- READY (Table 17.12). -/
abbrev ready : Nat := 1048832
/-- COMPUTE_RESET (Table 14.5). -/
abbrev computeReset : Nat := 1049089
/-- COMPUTE_STATE (Table 14.5). -/
abbrev computeState : Nat := 1049090
/-- RESET_HELD_TIME (Table 14.5). -/
abbrev resetHeldTime : Nat := 1049345
/-- RESET_STATUS (Table 14.5). -/
abbrev resetStatus : Nat := 1049601
/-- ALERT_STATUS (Table 17.12). -/
abbrev alertStatus : Nat := 1052673
/-- ALERT_ENABLE (Table 17.12). -/
abbrev alertEnable : Nat := 1052674
/-- WM_ALERT (Table 17.12). -/
abbrev wmAlert : Nat := 1052929
/-- NOTIFY_EN (Table 17.12). -/
abbrev notifyEn : Nat := 1053185
/-- CORE_CAP of cluster c, subindex j (Table 4.6). -/
abbrev coreCap (c j : Nat) : Nat := 1114112 + 256 * c + j
/-- SPARE_CAP of cluster c, subindex j (Table 4.6). -/
abbrev spareCap (c j : Nat) : Nat := 1114112 + 256 * c + j
/-- NARROWED (Table 4.6). -/
abbrev narrowed : Nat := 1130497
/-- MIN_W (Table 4.6). -/
abbrev minW : Nat := 1130498
/-- FACT_VERSION (Table 17.7). -/
abbrev factVersion : Nat := 2097153
/-- FACT_CORE_MAP at subindex n + 1 (Table 17.7). -/
abbrev factCoreMap (n : Nat) : Nat := 2097409 + n
/-- FACT_BADCOL at subindex n + 1 (Table 17.7). -/
abbrev factBadcol (n : Nat) : Nat := 2097665 + n
/-- SENSOR_OFFSET at subindex n + 1 (Table 17.7). -/
abbrev sensorOffset (n : Nat) : Nat := 2101249 + n
/-- CORE_VTRIM at subindex n + 1 (Table 17.7). -/
abbrev coreVtrim (n : Nat) : Nat := 2101505 + n
/-- FABRIC_VTRIM at subindex n + 1 (Table 17.7). -/
abbrev fabricVtrim (n : Nat) : Nat := 2101761 + n
/-- LINK_TXEQ at subindex n + 1 (Table 17.7). -/
abbrev linkTxeq (n : Nat) : Nat := 2105345 + n
/-- STACK_RDLY at subindex n + 1 (Table 17.7). -/
abbrev stackRdly (n : Nat) : Nat := 2109441 + n
/-- SENSOR_OFFSET_EFF at subindex n + 1 (Table 17.7). -/
abbrev sensorOffsetEff (n : Nat) : Nat := 2625537 + n
/-- CORE_VTRIM_EFF at subindex n + 1 (Table 17.7). -/
abbrev coreVtrimEff (n : Nat) : Nat := 2625793 + n
/-- FABRIC_VTRIM_EFF at subindex n + 1 (Table 17.7). -/
abbrev fabricVtrimEff (n : Nat) : Nat := 2626049 + n
/-- LINK_TXEQ_EFF at subindex n + 1 (Table 17.7). -/
abbrev linkTxeqEff (n : Nat) : Nat := 2629633 + n
/-- STACK_RDLY_EFF at subindex n + 1 (Table 17.7). -/
abbrev stackRdlyEff (n : Nat) : Nat := 2633729 + n
/-- SENSOR_OFFSET_DELTA at subindex n + 1 (Table 17.7). -/
abbrev sensorOffsetDelta (n : Nat) : Nat := 3149825 + n
/-- CORE_VTRIM_DELTA at subindex n + 1 (Table 17.7). -/
abbrev coreVtrimDelta (n : Nat) : Nat := 3150081 + n
/-- FABRIC_VTRIM_DELTA at subindex n + 1 (Table 17.7). -/
abbrev fabricVtrimDelta (n : Nat) : Nat := 3150337 + n
/-- LINK_TXEQ_DELTA at subindex n + 1 (Table 17.7). -/
abbrev linkTxeqDelta (n : Nat) : Nat := 3153921 + n
/-- STACK_RDLY_DELTA at subindex n + 1 (Table 17.7). -/
abbrev stackRdlyDelta (n : Nat) : Nat := 3158017 + n
/-- POWER_CAP (Table 15.6). -/
abbrev powerCap : Nat := 4194305
/-- SLOPE (Table 15.6). -/
abbrev slope : Nat := 4194561
/-- RAMP_PERIOD (Table 15.6). -/
abbrev rampPeriod : Nat := 4194817
/-- RAMP_OFFSET (Table 15.6). -/
abbrev rampOffset : Nat := 4194818
/-- RAMP_FREE (Table 15.6). -/
abbrev rampFree : Nat := 4194819
/-- POWER_NOW (Table 15.6). -/
abbrev powerNow : Nat := 4195073
/-- POWER_PEAK (Table 15.6). -/
abbrev powerPeak : Nat := 4195074
/-- VIN_12 (Table 15.6). -/
abbrev vin12 : Nat := 4195075
/-- CAP_STATUS (Table 15.6). -/
abbrev capStatus : Nat := 4195076
/-- GOV_STEP_CTX at subindex n + 1 (Table 15.6). -/
abbrev govStepCtx (n : Nat) : Nat := 4198401 + n
/-- GOV_WINDOW at subindex n + 1 (Table 15.6). -/
abbrev govWindow (n : Nat) : Nat := 4198657 + n
/-- GOV_STATUS at subindex n + 1 (Table 15.6). -/
abbrev govStatus (n : Nat) : Nat := 4198913 + n
/-- GOV_PLAN at subindex n + 1 (Table 15.6). -/
abbrev govPlan (n : Nat) : Nat := 4199169 + n
/-- GOV_RELEARN at subindex n + 1 (Table 15.6). -/
abbrev govRelearn (n : Nat) : Nat := 4199425 + n
/-- TEMPS (Table 15.6). -/
abbrev temps : Nat := 4202497
/-- THERM_STAGE (Table 15.6). -/
abbrev thermStage : Nat := 4202753
/-- THERM_TRIP (Table 15.6). -/
abbrev thermTrip : Nat := 4202754
/-- STAGE_ENTRIES (Table 15.6). -/
abbrev stageEntries : Nat := 4203009
/-- WM_COMPUTE_TEMP_LEVEL (Table 15.7). -/
abbrev wmComputeTempLevel : Nat := 4206593
/-- WM_COMPUTE_TEMP_MARK (Table 15.7). -/
abbrev wmComputeTempMark : Nat := 4206594
/-- WM_COMPUTE_TEMP_CROSSED (Table 15.7). -/
abbrev wmComputeTempCrossed : Nat := 4206595
/-- WM_COMPUTE_TEMP_COUNT (Table 15.7). -/
abbrev wmComputeTempCount : Nat := 4206596
/-- WM_DRAM_TEMP_LEVEL (Table 15.7). -/
abbrev wmDramTempLevel : Nat := 4206849
/-- WM_DRAM_TEMP_MARK (Table 15.7). -/
abbrev wmDramTempMark : Nat := 4206850
/-- WM_DRAM_TEMP_CROSSED (Table 15.7). -/
abbrev wmDramTempCrossed : Nat := 4206851
/-- WM_DRAM_TEMP_COUNT (Table 15.7). -/
abbrev wmDramTempCount : Nat := 4206852
/-- WM_VIN_LEVEL (Table 15.7). -/
abbrev wmVinLevel : Nat := 4207105
/-- WM_VIN_MARK (Table 15.7). -/
abbrev wmVinMark : Nat := 4207106
/-- WM_VIN_CROSSED (Table 15.7). -/
abbrev wmVinCrossed : Nat := 4207107
/-- WM_VIN_COUNT (Table 15.7). -/
abbrev wmVinCount : Nat := 4207108
/-- PART_CLUSTERS at subindex n + 1 (Table 10.1). -/
abbrev partClusters (n : Nat) : Nat := 5242881 + n
/-- PART_STATE at subindex n + 1 (Table 10.1). -/
abbrev partState (n : Nat) : Nat := 5243137 + n
/-- PART_RESET at subindex n + 1 (Table 14.5). -/
abbrev partReset (n : Nat) : Nat := 5243393 + n
/-- CTX_DEF at subindex n + 1 (Table 10.1). -/
abbrev ctxDef (n : Nat) : Nat := 5246977 + n
/-- CTX_CLUSTERS at subindex n + 1 (Table 10.1). -/
abbrev ctxClusters (n : Nat) : Nat := 5247233 + n
/-- CTX_STATE at subindex n + 1 (Table 10.1). -/
abbrev ctxState (n : Nat) : Nat := 5247489 + n
/-- CTX_TASKS at subindex n + 1 (Table 10.1). -/
abbrev ctxTasks (n : Nat) : Nat := 5247745 + n
/-- SEQ_TABLE at subindex n + 1 (Table 10.6). -/
abbrev seqTable (n : Nat) : Nat := 5251073 + n
/-- SEQ_CTL at subindex n + 1 (Table 10.6). -/
abbrev seqCtl (n : Nat) : Nat := 5251329 + n
/-- SEQ_STATUS at subindex n + 1 (Table 10.6). -/
abbrev seqStatus (n : Nat) : Nat := 5251585 + n
/-- SEQ_PASS at subindex n + 1 (Table 10.6). -/
abbrev seqPass (n : Nat) : Nat := 5251841 + n
/-- EVAL_CFG at subindex n + 1 (Table 10.8). -/
abbrev evalCfg (n : Nat) : Nat := 5255169 + n
/-- EVAL_SAVE at subindex n + 1 (Table 10.8). -/
abbrev evalSave (n : Nat) : Nat := 5255425 + n
/-- EVAL_DONE at subindex n + 1 (Table 10.8). -/
abbrev evalDone (n : Nat) : Nat := 5255681 + n
/-- EVAL_SLOTS at subindex n + 1 (Table 10.8). -/
abbrev evalSlots (n : Nat) : Nat := 5255937 + n
/-- CTX_FLAGS at subindex n + 1 (R64). -/
abbrev ctxFlags (n : Nat) : Nat := 5259265 + n
/-- GATHER_TIMEOUT at subindex n + 1 (Table 4.6). -/
abbrev gatherTimeout (n : Nat) : Nat := 5263361 + n
/-- TRANSFER_GRANTS at subindex n + 1 (R137). -/
abbrev transferGrants (n : Nat) : Nat := 5267457 + n
/-- WIN_DROP_RX at subindex n + 1 (Table 6.4). -/
abbrev winDropRx (n : Nat) : Nat := 5271553 + n
/-- WIN_DROP_TX at subindex n + 1 (Table 6.4). -/
abbrev winDropTx (n : Nat) : Nat := 5271809 + n
/-- SYNC_REMOTE_DROP at subindex n + 1 (Table 7.10). -/
abbrev syncRemoteDrop (n : Nat) : Nat := 5275649 + n
/-- SYNC_HOST_DROP at subindex n + 1 (Table 7.10). -/
abbrev syncHostDrop (n : Nat) : Nat := 5275905 + n
/-- SYNC_RESTRICTED at subindex n + 1 (Table 7.10). -/
abbrev syncRestricted (n : Nat) : Nat := 5276161 + n
/-- WAIT_TIMEOUTS at subindex n + 1 (Table 14.5). -/
abbrev waitTimeouts (n : Nat) : Nat := 5279745 + n
/-- QHEAD_LIMIT at subindex n + 1 (Table 14.5). -/
abbrev qheadLimit (n : Nat) : Nat := 5280001 + n
/-- HEARTBEAT at subindex n + 1 (Table 14.5). -/
abbrev heartbeat (n : Nat) : Nat := 5280257 + n
/-- SELVEDGE_TAG at subindex n + 1 (Table 14.5). -/
abbrev selvedgeTag (n : Nat) : Nat := 5280513 + n
/-- STALE_DROP at subindex n + 1 (Table 14.5). -/
abbrev staleDrop (n : Nat) : Nat := 5280769 + n
/-- CTX_RESET at subindex n + 1 (Table 14.5). -/
abbrev ctxReset (n : Nat) : Nat := 5281025 + n
/-- RESET_COUNT at subindex n + 1 (Table 14.5). -/
abbrev resetCount (n : Nat) : Nat := 5281281 + n
/-- USABLE_FRAMES (Table 8.9). -/
abbrev usableFrames : Nat := 6291457
/-- FREE_FRAMES (Table 8.9). -/
abbrev freeFrames : Nat := 6291458
/-- FREE_FRAMES_DIE at subindex n + 1 (Table 8.9). -/
abbrev freeFramesDie (n : Nat) : Nat := 6291713 + n
/-- MIGRATE_EN (Table 8.9). -/
abbrev migrateEn : Nat := 6291969
/-- MIGRATE_RATE (Table 8.9). -/
abbrev migrateRate : Nat := 6291970
/-- MEM_QUOTA at subindex n + 1 (Table 8.9). -/
abbrev memQuota (n : Nat) : Nat := 6292225 + n
/-- RESV at subindex n + 1 (Table 8.9). -/
abbrev resv (n : Nat) : Nat := 6295553 + n
/-- RESV_PEAK at subindex n + 1 (Table 8.9). -/
abbrev resvPeak (n : Nat) : Nat := 6295809 + n
/-- RESV_SUM at subindex n + 1 (Table 8.9). -/
abbrev resvSum (n : Nat) : Nat := 6295813 + n
/-- RESV_SHRINK_COUNT (Table 8.9). -/
abbrev resvShrinkCount : Nat := 6295817
/-- SCRUB_PERIOD (Table 8.9). -/
abbrev scrubPeriod : Nat := 6299649
/-- SCRUB_PROGRESS (Table 8.9). -/
abbrev scrubProgress : Nat := 6299650
/-- SCRUB_UE (Table 8.9). -/
abbrev scrubUe : Nat := 6299651
/-- REFILL_OK (Table 8.9). -/
abbrev refillOk : Nat := 6299652
/-- REFILL_FAIL (Table 8.9). -/
abbrev refillFail : Nat := 6299653
/-- WM_CORRECTIONS_LEVEL (Table 8.10). -/
abbrev wmCorrectionsLevel : Nat := 6303745
/-- WM_CORRECTIONS_MARK (Table 8.10). -/
abbrev wmCorrectionsMark : Nat := 6303746
/-- WM_CORRECTIONS_CROSSED (Table 8.10). -/
abbrev wmCorrectionsCrossed : Nat := 6303747
/-- WM_CORRECTIONS_COUNT (Table 8.10). -/
abbrev wmCorrectionsCount : Nat := 6303748
/-- WM_POISON_LEVEL (Table 8.10). -/
abbrev wmPoisonLevel : Nat := 6304001
/-- WM_POISON_MARK (Table 8.10). -/
abbrev wmPoisonMark : Nat := 6304002
/-- WM_POISON_CROSSED (Table 8.10). -/
abbrev wmPoisonCrossed : Nat := 6304003
/-- WM_POISON_COUNT (Table 8.10). -/
abbrev wmPoisonCount : Nat := 6304004
/-- WM_FREE_FRAMES_LEVEL (Table 8.10). -/
abbrev wmFreeFramesLevel : Nat := 6304257
/-- WM_FREE_FRAMES_MARK (Table 8.10). -/
abbrev wmFreeFramesMark : Nat := 6304258
/-- WM_FREE_FRAMES_CROSSED (Table 8.10). -/
abbrev wmFreeFramesCrossed : Nat := 6304259
/-- WM_FREE_FRAMES_COUNT (Table 8.10). -/
abbrev wmFreeFramesCount : Nat := 6304260
/-- GROUPS_IN_SERVICE at subindex n + 1 (Table 8.9). -/
abbrev groupsInService (n : Nat) : Nat := 6307841 + n
/-- ERASED_WIRES at subindex n + 1 (Table 8.9). -/
abbrev erasedWires (n : Nat) : Nat := 6308097 + n
/-- SPARE_ROWS_USED at subindex n + 1 (Table 8.9). -/
abbrev spareRowsUsed (n : Nat) : Nat := 6308353 + n
/-- POISON_LINES at subindex n + 1 (Table 8.9). -/
abbrev poisonLines (n : Nat) : Nat := 6311937 + n
/-- PKG_COORD (Table 11.9). -/
abbrev pkgCoord : Nat := 7340033
/-- MACHINE_DIMS (Table 11.9). -/
abbrev machineDims : Nat := 7340034
/-- PORT_STATE at subindex n + 1 (Table 11.9). -/
abbrev portState (n : Nat) : Nat := 7340289 + n
/-- PORT_PARTNER at subindex n + 1 (Table 11.9). -/
abbrev portPartner (n : Nat) : Nat := 7340545 + n
/-- PORT_ENABLE at subindex n + 1 (Table 11.9). -/
abbrev portEnable (n : Nat) : Nat := 7340801 + n
/-- LINK_REPLAYS at subindex n + 1 (Table 11.9). -/
abbrev linkReplays (n : Nat) : Nat := 7341057 + n
/-- LANE_DROPS at subindex n + 1 (Table 11.9). -/
abbrev laneDrops (n : Nat) : Nat := 7341313 + n
/-- RETRAIN_INTERVAL (Table 11.9). -/
abbrev retrainInterval : Nat := 7341569
/-- CREDIT_LIMIT (Table 14.5). -/
abbrev creditLimit : Nat := 7341825
/-- PEER_TABLE at subindex n + 1 (Table 11.9). -/
abbrev peerTable (n : Nat) : Nat := 7344129 + n
/-- PEER_COUNT at subindex n + 1 (Table 11.9). -/
abbrev peerCount (n : Nat) : Nat := 7344385 + n
/-- PEER_UPDATE (Table 11.9). -/
abbrev peerUpdate : Nat := 7344641
/-- PEER_REJECT at subindex n + 1 (Table 11.9). -/
abbrev peerReject (n : Nat) : Nat := 7344897 + n
/-- LINK_DROP at subindex n + 1 (Table 11.9). -/
abbrev linkDrop (n : Nat) : Nat := 7345153 + n
/-- PART_BLOCK at subindex n + 1 (Table 11.10). -/
abbrev partBlock (n : Nat) : Nat := 7348225 + n
/-- RING_CFG r of partition n (Table 11.10). -/
abbrev ringCfg (r n : Nat) : Nat := 7348481 + 256 * r + n
/-- RING_VERIFY at subindex n + 1 (Table 11.10). -/
abbrev ringVerify (n : Nat) : Nat := 7349249 + n
/-- RING_STATUS at subindex n + 1 (Table 11.10). -/
abbrev ringStatus (n : Nat) : Nat := 7349505 + n
/-- GLOBAL_TIME (Table 11.9). -/
abbrev globalTime : Nat := 7352321
/-- GT_CTL (Table 11.9). -/
abbrev gtCtl : Nat := 7352322
/-- GT_LOCKED (Table 11.9). -/
abbrev gtLocked : Nat := 7352323
/-- GT_STEPS (Table 11.9). -/
abbrev gtSteps : Nat := 7352324
/-- COLL_QUEUE at subindex n + 1 (Table 12.8). -/
abbrev collQueue (n : Nat) : Nat := 7356417 + n
/-- COLL_QSIZE at subindex n + 1 (Table 12.8). -/
abbrev collQsize (n : Nat) : Nat := 7356673 + n
/-- COLL_DOORBELL at subindex n + 1 (Table 12.8). -/
abbrev collDoorbell (n : Nat) : Nat := 7356929 + n
/-- COLL_ISSUED at subindex n + 1 (Table 12.8). -/
abbrev collIssued (n : Nat) : Nat := 7357185 + n
/-- COLL_FLAGS at subindex n + 1 (Table 12.8). -/
abbrev collFlags (n : Nat) : Nat := 7357441 + n
/-- COLL_FAILS at subindex n + 1 (Table 12.8). -/
abbrev collFails (n : Nat) : Nat := 7357697 + n
/-- RSRAM_FREE (Table 12.8). -/
abbrev rsramFree : Nat := 7357953
/-- COLL_STALL at subindex n + 1 (Table 14.5). -/
abbrev collStall (n : Nat) : Nat := 7358209 + n
/-- COLL_DB_BASE at subindex n + 1 (Table 12.8). -/
abbrev collDbBase (n : Nat) : Nat := 7358465 + n
/-- LOG_HEAD (Table 13.8). -/
abbrev logHead : Nat := 8388609
/-- LOG_TAIL (Table 13.8). -/
abbrev logTail : Nat := 8388610
/-- LOG_RECORD (Table 13.8). -/
abbrev logRecord : Nat := 8388611
/-- LOG_LOST (Table 13.8). -/
abbrev logLost : Nat := 8388612
/-- FENCED at subindex n + 1 (Table 13.8). -/
abbrev fenced (n : Nat) : Nat := 8392705 + n
/-- CORE_MAP at subindex n + 1 (Table 13.8). -/
abbrev coreMap (n : Nat) : Nat := 8392961 + n
/-- BADCOL_MAP at subindex n + 1 (Table 13.8). -/
abbrev badcolMap (n : Nat) : Nat := 8393217 + n
/-- DEGRADED_DIES (Table 13.8). -/
abbrev degradedDies : Nat := 8393473
/-- REPLACE (Table 13.8). -/
abbrev replace : Nat := 8396801
/-- DRAIN_REQ (Table 13.8). -/
abbrev drainReq : Nat := 8396802
/-- DAMASK_INTERVAL at subindex n + 1 (Table 13.8). -/
abbrev damaskInterval (n : Nat) : Nat := 8400897 + n
/-- VOTE_PEERS at subindex n + 1 (Table 13.8). -/
abbrev votePeers (n : Nat) : Nat := 8401153 + n
/-- VOTE_STATUS at subindex n + 1 (Table 13.8). -/
abbrev voteStatus (n : Nat) : Nat := 8401409 + n
/-- VOTE_TIMEOUT at subindex n + 1 (Table 13.8). -/
abbrev voteTimeout (n : Nat) : Nat := 8401665 + n
/-- VOTE_RELEASE at subindex n + 1 (Table 13.8). -/
abbrev voteRelease (n : Nat) : Nat := 8401921 + n
/-- LAST_VERIFIED at subindex n + 1 (Table 13.8). -/
abbrev lastVerified (n : Nat) : Nat := 8402177 + n
/-- ROLLBACK_REQ at subindex n + 1 (Table 13.8). -/
abbrev rollbackReq (n : Nat) : Nat := 8402433 + n
/-- VOTE_LATE at subindex n + 1 (Table 13.8). -/
abbrev voteLate (n : Nat) : Nat := 8402689 + n
/-- CALICO_PERIOD (Table 13.8). -/
abbrev calicoPeriod : Nat := 8404993
/-- CALICO_DIES (Table 13.8). -/
abbrev calicoDies : Nat := 8405249
/-- CALICO_VMARGIN (Table 13.8). -/
abbrev calicoVmargin : Nat := 8405505
/-- CALICO_FMAX (Table 13.8). -/
abbrev calicoFmax : Nat := 8405761
/-- CALICO_TEMP (Table 13.8). -/
abbrev calicoTemp : Nat := 8406017
/-- CALICO_PROGRESS (Table 13.8). -/
abbrev calicoProgress : Nat := 8406273
/-- CALICO_FAILS (Table 13.8). -/
abbrev calicoFails : Nat := 8406529
/-- CALICO_LAST (Table 13.8). -/
abbrev calicoLast : Nat := 8406785
/-- ESC_POLICY at subindex n + 1 (Table 14.5). -/
abbrev escPolicy (n : Nat) : Nat := 8409089 + n
/-- ESC_COUNT at subindex n + 1 (Table 14.5). -/
abbrev escCount (n : Nat) : Nat := 8409345 + n
/-- UPD_TABLE at subindex n + 1 (Table 9.10). -/
abbrev updTable (n : Nat) : Nat := 9437185 + n
/-- UPD_TRIGGER at subindex n + 1 (Table 9.10). -/
abbrev updTrigger (n : Nat) : Nat := 9437441 + n
/-- UPD_DONE at subindex n + 1 (Table 9.10). -/
abbrev updDone (n : Nat) : Nat := 9437697 + n
/-- STEP at subindex n + 1 (Table 9.10). -/
abbrev step (n : Nat) : Nat := 9437953 + n
/-- UPD_STATUS at subindex n + 1 (Table 9.10). -/
abbrev updStatus (n : Nat) : Nat := 9438209 + n
/-- UPD_FLAGS at subindex n + 1 (Table 9.10). -/
abbrev updFlags (n : Nat) : Nat := 9438465 + n
/-- GAUZE_KEY at subindex n + 1 (Table 9.10). -/
abbrev gauzeKey (n : Nat) : Nat := 9438721 + n
/-- DIGEST_KEY at subindex n + 1 (Table 9.10). -/
abbrev digestKey (n : Nat) : Nat := 9438977 + n
/-- LAST_NORM at subindex n + 1 (Table 9.10). -/
abbrev lastNorm (n : Nat) : Nat := 9439233 + n
/-- SKIP_COUNT at subindex n + 1 (Table 9.10). -/
abbrev skipCount (n : Nat) : Nat := 9439489 + n
/-- NORM_TIMEOUT at subindex n + 1 (Table 9.10). -/
abbrev normTimeout (n : Nat) : Nat := 9439745 + n
/-- LAST_DIGEST at subindex n + 1 (Table 9.10). -/
abbrev lastDigest (n : Nat) : Nat := 9441281 + n
/-- EXPORT_MODE at subindex n + 1 (Table 9.10). -/
abbrev exportMode (n : Nat) : Nat := 9445377 + n
/-- EXPORT_RING at subindex n + 1 (Table 9.10). -/
abbrev exportRing (n : Nat) : Nat := 9445633 + n
/-- EXPORT_SIZE at subindex n + 1 (Table 9.10). -/
abbrev exportSize (n : Nat) : Nat := 9445889 + n
/-- EXPORT_HEAD at subindex n + 1 (Table 9.10). -/
abbrev exportHead (n : Nat) : Nat := 9446145 + n
/-- EXPORT_TAIL at subindex n + 1 (Table 9.10). -/
abbrev exportTail (n : Nat) : Nat := 9446401 + n
/-- EXPORT_SPILL at subindex n + 1 (Table 9.10). -/
abbrev exportSpill (n : Nat) : Nat := 9446657 + n
/-- EXPORT_GAPS at subindex n + 1 (Table 9.10). -/
abbrev exportGaps (n : Nat) : Nat := 9446913 + n
/-- EXPORT_CTL at subindex n + 1 (Table 9.10). -/
abbrev exportCtl (n : Nat) : Nat := 9447169 + n
/-- SELFTEST_REQ (Table 17.12). -/
abbrev selftestReq : Nat := 10485761
/-- SELFTEST_SLOT (Table 17.12). -/
abbrev selftestSlot : Nat := 10485762
/-- SELFTEST_STATUS (Table 17.12). -/
abbrev selftestStatus : Nat := 10485763
/-- RETURN_REQ (Table 17.12). -/
abbrev returnReq : Nat := 10489857
/-- RETURN_STATUS (Table 17.12). -/
abbrev returnStatus : Nat := 10489858
end Ent

/-! ### The rows, by the first digit of the index -/

/-- Entries at 0x1000 to 0x1FFF. -/
def Catalog.rows1 : List ERow :=
  [⟨1048577, 1, 1, .str, 8, .ro, .any, .flash, .package, fun _ _ => 18355458325894231, 0, 18446744073709551615, 0, 1, false⟩,
   ⟨1048578, 1, 1, .str, 8, .ro, .any, .flash, .package, fun _ _ => 30240372662493527, 0, 18446744073709551615, 0, 1, false⟩,
   ⟨1048579, 1, 1, .str, 16, .ro, .any, .flash, .package, serialDefault, 0, 2 ^ 128, 0, 1, false⟩,
   ⟨1048580, 1, 1, .uint, 4, .ro, .any, .flash, .package, fun _ _ => 0, 0, 4294967295, 0, 1, false⟩,
   ⟨1048581, 1, 1, .uint, 2, .ro, .any, .flash, .package, fun _ _ => 1, 0, 65535, 0, 1, false⟩,
   ⟨1048582, 1, 1, .uint, 1, .ro, .any, .flash, .package, fun _ _ => 0x01, 0, 255, 0, 1, false⟩,
   ⟨1048583, 1, 1, .uint, 1, .ro, .any, .flash, .package, fun _ _ => 16, 0, 255, 0, 1, false⟩,
   ⟨1048832, 1, 1, .bool, 1, .ro, .any, .volatile, .package, fun _ _ => 0, 0, 1, 0, 1, false⟩,
   ⟨1049089, 1, 1, .bool, 1, .wo, .any, .volatile, .package, fun _ _ => 0, 0, 1, 0, 1, false⟩,
   ⟨1049090, 1, 1, .uint, 1, .ro, .any, .volatile, .package, fun _ _ => 0, 0, 255, 0, 1, false⟩,
   ⟨1049345, 1, 1, .uint, 2, .rw, .mgmt, .flash, .package, fun _ _ => 5, 1, 3600, 0, 1, false⟩,
   ⟨1049601, 1, 1, .uint, 4, .ro, .any, .retained, .package, fun _ _ => 0, 0, 4294967295, 0, 1, false⟩,
   ⟨1052673, 1, 1, .uint, 4, .w1c, .mgmt, .retained, .package, fun _ _ => 0, 0, 4294967295, 4294967168, 1, false⟩,
   ⟨1052674, 1, 1, .uint, 4, .rw, .mgmt, .flash, .package, fun _ _ => 0x7F, 0, 4294967295, 4294967168, 1, false⟩,
   ⟨1052929, 1, 1, .uint, 4, .rw, .mgmt, .flash, .package, fun _ _ => 0x3F, 0, 4294967295, 4294967232, 1, false⟩,
   ⟨1053185, 1, 1, .bool, 1, .rw, .mgmt, .flash, .package, fun _ _ => 1, 0, 1, 0, 1, false⟩,
   ⟨1114113, 24, 64, .uint, 4, .ro, .any, .volatile, .package, fun _ _ => 0, 0, 4294967295, 0, 1, false⟩,
   ⟨1114137, 1, 64, .uint, 4, .ro, .any, .volatile, .package, fun _ _ => 0, 0, 4294967295, 0, 1, false⟩,
   ⟨1130497, 1, 1, .uint, 2, .ro, .any, .volatile, .package, fun _ _ => 0, 0, 65535, 0, 1, false⟩,
   ⟨1130498, 1, 1, .uint, 1, .ro, .any, .volatile, .package, fun _ _ => 64, 0, 255, 0, 1, false⟩]

/-- Entries at 0x2000 to 0x2FFF. -/
def Catalog.rows2 : List ERow :=
  [⟨2097153, 1, 1, .uint, 2, .ro, .any, .flash, .package, fun _ _ => 1, 0, 65535, 0, 1, false⟩,
   ⟨2097409, 64, 1, .blob, 50, .ro, .any, .flash, .package, factoryMap, 0, 2 ^ 400, 0, 1, false⟩,
   ⟨2097665, 64, 1, .blob, 225, .ro, .any, .flash, .package, fun _ _ => 0, 0, 2 ^ 1800, 0, 1, false⟩,
   ⟨2101249, 100, 1, .int, 4, .ro, .any, .flash, .package, fun _ _ => 0, 0, 4294967295, 0, 1, false⟩,
   ⟨2101505, 7, 1, .int, 4, .ro, .any, .flash, .package, fun _ _ => 0, 0, 4294967295, 0, 1, false⟩,
   ⟨2101761, 6, 1, .int, 4, .ro, .any, .flash, .package, fun _ _ => 0, 0, 4294967295, 0, 1, false⟩,
   ⟨2105345, 6, 1, .blob, 16, .ro, .any, .flash, .package, fun _ _ => 0, 0, 2 ^ 128, 0, 1, false⟩,
   ⟨2109441, 16, 1, .int, 4, .ro, .any, .flash, .package, fun _ _ => 0, 0, 4294967295, 0, 1, false⟩,
   ⟨2625537, 100, 1, .int, 4, .ro, .any, .flash, .package, fun _ _ => 0, 0, 4294967295, 0, 1, false⟩,
   ⟨2625793, 7, 1, .int, 4, .ro, .any, .flash, .package, fun _ _ => 0, 0, 4294967295, 0, 1, false⟩,
   ⟨2626049, 6, 1, .int, 4, .ro, .any, .flash, .package, fun _ _ => 0, 0, 4294967295, 0, 1, false⟩,
   ⟨2629633, 6, 1, .blob, 16, .ro, .any, .flash, .package, fun _ _ => 0, 0, 2 ^ 128, 0, 1, false⟩,
   ⟨2633729, 16, 1, .int, 4, .ro, .any, .flash, .package, fun _ _ => 0, 0, 4294967295, 0, 1, false⟩]

/-- Entries at 0x3000 to 0x3FFF. -/
def Catalog.rows3 : List ERow :=
  [⟨3149825, 100, 1, .int, 4, .rw, .mgmt, .flash, .package, fun _ _ => 0, 0, 32, 0, 1, false⟩,
   ⟨3150081, 7, 1, .int, 4, .rw, .mgmt, .flash, .package, fun _ _ => 0, 0, 20, 0, 1, false⟩,
   ⟨3150337, 6, 1, .int, 4, .rw, .mgmt, .flash, .package, fun _ _ => 0, 0, 20, 0, 1, false⟩,
   ⟨3153921, 6, 1, .blob, 16, .rw, .mgmt, .flash, .package, fun _ _ => 0, 0, 2, 0, 1, false⟩,
   ⟨3158017, 16, 1, .int, 4, .rw, .mgmt, .flash, .package, fun _ _ => 0, 0, 50, 0, 1, false⟩]

/-- Entries at 0x4000 to 0x4FFF. -/
def Catalog.rows4 : List ERow :=
  [⟨4194305, 1, 1, .uint, 2, .rw, .mgmt, .retained, .package, fun _ _ => 6000, 1500, 6000, 0, 1, false⟩,
   ⟨4194561, 1, 1, .uint, 2, .rw, .mgmt, .flash, .package, fun _ _ => 150, 10, 300, 0, 1, false⟩,
   ⟨4194817, 1, 1, .uint, 2, .rw, .mgmt, .retained, .package, fun _ _ => 100, 0, 65535, 0, 1, false⟩,
   ⟨4194818, 1, 1, .uint, 4, .rw, .mgmt, .retained, .package, fun _ _ => 0, 0, 4294967295, 0, 1, false⟩,
   ⟨4194819, 1, 1, .uint, 2, .rw, .mgmt, .retained, .package, fun _ _ => 300, 0, 6000, 0, 1, false⟩,
   ⟨4195073, 1, 1, .uint, 2, .ro, .any, .volatile, .package, fun _ _ => 0, 0, 65535, 0, 1, false⟩,
   ⟨4195074, 1, 1, .uint, 2, .rw, .any, .volatile, .package, fun _ _ => 0, 0, 65535, 0, 1, false⟩,
   ⟨4195075, 1, 1, .uint, 2, .ro, .any, .volatile, .package, fun _ _ => 0, 0, 65535, 0, 1, false⟩,
   ⟨4195076, 1, 1, .uint, 1, .ro, .any, .volatile, .package, fun _ _ => 0, 0, 255, 0, 1, false⟩,
   ⟨4198401, 16, 1, .uint, 1, .rwl, .host, .volatile, .part, fun _ _ => 0xFF, 0, 255, 0, 1, false⟩,
   ⟨4198657, 16, 1, .uint, 1, .rwl, .host, .volatile, .part, fun _ _ => 4, 2, 4, 0, 1, false⟩,
   ⟨4198913, 16, 1, .uint, 4, .ro, .any, .volatile, .part, fun _ _ => 0, 0, 4294967295, 0, 1, false⟩,
   ⟨4199169, 16, 1, .blob, 32, .ro, .any, .retained, .part, fun _ _ => 0, 0, 2 ^ 256, 0, 1, false⟩,
   ⟨4199425, 16, 1, .bool, 1, .wo, .host, .volatile, .part, fun _ _ => 0, 0, 1, 0, 1, false⟩,
   ⟨4202497, 1, 1, .blob, 200, .ro, .any, .volatile, .package, fun _ _ => 0, 0, 2 ^ 1600, 0, 1, false⟩,
   ⟨4202753, 1, 1, .uint, 2, .ro, .any, .volatile, .package, fun _ _ => 0, 0, 65535, 0, 1, false⟩,
   ⟨4202754, 1, 1, .uint, 2, .ro, .any, .retained, .package, fun _ _ => 0, 0, 65535, 0, 1, false⟩,
   ⟨4203009, 1, 1, .uint, 4, .rw, .any, .volatile, .package, fun _ _ => 0, 0, 4294967295, 0, 1, false⟩,
   ⟨4206593, 1, 1, .uint, 4, .ro, .any, .volatile, .package, fun _ _ => 0, 0, 4294967295, 0, 1, false⟩,
   ⟨4206594, 1, 1, .uint, 4, .rw, .any, .volatile, .package, fun _ _ => 95, 0, 4294967295, 0, 1, false⟩,
   ⟨4206595, 1, 1, .bool, 1, .w1c, .any, .volatile, .package, fun _ _ => 0, 0, 1, 0, 1, false⟩,
   ⟨4206596, 1, 1, .uint, 2, .ro, .any, .volatile, .package, fun _ _ => 0, 0, 65535, 0, 1, false⟩,
   ⟨4206849, 1, 1, .uint, 4, .ro, .any, .volatile, .package, fun _ _ => 0, 0, 4294967295, 0, 1, false⟩,
   ⟨4206850, 1, 1, .uint, 4, .rw, .any, .volatile, .package, fun _ _ => 85, 0, 4294967295, 0, 1, false⟩,
   ⟨4206851, 1, 1, .bool, 1, .w1c, .any, .volatile, .package, fun _ _ => 0, 0, 1, 0, 1, false⟩,
   ⟨4206852, 1, 1, .uint, 2, .ro, .any, .volatile, .package, fun _ _ => 0, 0, 65535, 0, 1, false⟩,
   ⟨4207105, 1, 1, .uint, 4, .ro, .any, .volatile, .package, fun _ _ => 0, 0, 4294967295, 0, 1, false⟩,
   ⟨4207106, 1, 1, .uint, 4, .rw, .any, .volatile, .package, fun _ _ => 11500, 0, 4294967295, 0, 1, false⟩,
   ⟨4207107, 1, 1, .bool, 1, .w1c, .any, .volatile, .package, fun _ _ => 0, 0, 1, 0, 1, false⟩,
   ⟨4207108, 1, 1, .uint, 2, .ro, .any, .volatile, .package, fun _ _ => 0, 0, 65535, 0, 1, false⟩]

/-- Entries at 0x5000 to 0x5FFF. -/
def Catalog.rows5 : List ERow :=
  [⟨5242881, 16, 1, .uint, 8, .rw, .host, .volatile, .pfOnly, fun _ _ => 0, 0, 18446744073709551615, 0, 1, false⟩,
   ⟨5243137, 16, 1, .uint, 1, .ro, .any, .volatile, .part, fun _ _ => 0, 0, 255, 0, 1, false⟩,
   ⟨5243393, 16, 1, .bool, 1, .wo, .any, .volatile, .part, fun _ _ => 0, 0, 1, 0, 1, false⟩,
   ⟨5246977, 64, 1, .uint, 4, .rw, .host, .volatile, .ctx, fun _ _ => 0, 0, 4294967295, 4294963200, 1, false⟩,
   ⟨5247233, 64, 1, .uint, 8, .rw, .host, .volatile, .ctx, fun _ _ => 0, 0, 18446744073709551615, 0, 1, false⟩,
   ⟨5247489, 64, 1, .uint, 1, .ro, .any, .volatile, .ctx, fun _ _ => 0, 0, 255, 0, 1, false⟩,
   ⟨5247745, 64, 1, .uint, 8, .ro, .any, .volatile, .ctx, fun _ _ => 0, 0, 18446744073709551615, 0, 1, false⟩,
   ⟨5251073, 16, 1, .uint, 8, .rws, .host, .volatile, .part, fun _ _ => 0, 0, 18446744073709551615, 0, 64, false⟩,
   ⟨5251329, 16, 1, .uint, 8, .rw, .host, .volatile, .part, fun _ _ => 0, 0, 18446744073709551615, 4294967168, 1, false⟩,
   ⟨5251585, 16, 1, .uint, 4, .ro, .any, .volatile, .part, fun _ _ => 0, 0, 4294967295, 0, 1, false⟩,
   ⟨5251841, 16, 1, .uint, 8, .ro, .any, .volatile, .part, fun _ _ => 0, 0, 18446744073709551615, 0, 1, false⟩,
   ⟨5255169, 64, 1, .uint, 8, .rwl, .host, .volatile, .ctx, fun _ _ => 0, 0, 18446744073709551615, 18446462598732840960, 1, false⟩,
   ⟨5255425, 64, 1, .uint, 4, .rwl, .host, .volatile, .ctx, fun _ _ => 0, 0, 4294967295, 4160749568, 1, false⟩,
   ⟨5255681, 64, 1, .uint, 4, .rwl, .host, .volatile, .ctx, fun _ _ => 0, 0, 4294967295, 4294705152, 1, false⟩,
   ⟨5255937, 64, 1, .uint, 4, .rw, .host, .volatile, .ctx, fun _ _ => 0, 0, 4294967295, 0, 1, false⟩,
   ⟨5259265, 64, 1, .uint, 1, .w1c, .host, .volatile, .ctx, fun _ _ => 0, 0, 255, 240, 1, false⟩,
   ⟨5263361, 64, 1, .uint, 2, .rwl, .host, .volatile, .ctx, fun _ _ => 200, 0, 1000, 0, 1, false⟩,
   ⟨5267457, 16, 1, .uint, 1, .rwl, .host, .volatile, .part, fun _ _ => 8, 1, 24, 0, 1, false⟩,
   ⟨5271553, 64, 1, .uint, 4, .rw, .host, .volatile, .ctx, fun _ _ => 0, 0, 4294967295, 0, 1, false⟩,
   ⟨5271809, 64, 1, .uint, 4, .rw, .host, .volatile, .ctx, fun _ _ => 0, 0, 4294967295, 0, 1, false⟩,
   ⟨5275649, 16, 1, .uint, 4, .rw, .host, .volatile, .part, fun _ _ => 0, 0, 4294967295, 0, 1, false⟩,
   ⟨5275905, 16, 1, .uint, 4, .rw, .host, .volatile, .part, fun _ _ => 0, 0, 4294967295, 0, 1, false⟩,
   ⟨5276161, 16, 1, .bool, 1, .ro, .any, .volatile, .part, fun _ _ => 1, 0, 1, 0, 1, false⟩,
   ⟨5279745, 64, 1, .blob, 64, .rwl, .host, .volatile, .ctx, waitDefaults, 0, 2 ^ 512, 0, 1, false⟩,
   ⟨5280001, 64, 1, .uint, 4, .rwl, .host, .volatile, .ctx, fun _ _ => 16777216, 65536, 2147483648, 0, 1, false⟩,
   ⟨5280257, 64, 1, .uint, 4, .rwl, .host, .volatile, .ctx, fun _ _ => 1000000, 0, 4294967295, 0, 1, false⟩,
   ⟨5280513, 64, 1, .uint, 1, .ro, .any, .retained, .ctx, fun _ _ => 0, 0, 255, 0, 1, false⟩,
   ⟨5280769, 64, 1, .uint, 4, .rw, .host, .volatile, .ctx, fun _ _ => 0, 0, 4294967295, 0, 1, false⟩,
   ⟨5281025, 64, 1, .bool, 1, .wo, .any, .volatile, .ctx, fun _ _ => 0, 0, 1, 0, 1, false⟩,
   ⟨5281281, 64, 1, .uint, 4, .rw, .host, .volatile, .ctx, fun _ _ => 0, 0, 4294967295, 0, 1, false⟩]

/-- Entries at 0x6000 to 0x6FFF. -/
def Catalog.rows6 : List ERow :=
  [⟨6291457, 1, 1, .uint, 4, .ro, .any, .volatile, .package, fun _ _ => 770048, 0, 4294967295, 0, 1, false⟩,
   ⟨6291458, 1, 1, .uint, 4, .ro, .any, .volatile, .package, fun _ _ => 770048, 0, 4294967295, 0, 1, false⟩,
   ⟨6291713, 4, 1, .uint, 4, .ro, .any, .volatile, .package, fun _ _ => 192512, 0, 4294967295, 0, 1, false⟩,
   ⟨6291969, 1, 1, .bool, 1, .rwl, .host, .volatile, .package, fun _ _ => 1, 0, 1, 0, 1, false⟩,
   ⟨6291970, 1, 1, .uint, 2, .rwl, .host, .volatile, .package, fun _ _ => 256, 16, 1024, 0, 1, false⟩,
   ⟨6292225, 16, 1, .uint, 4, .rw, .host, .volatile, .pfOnly, fun _ _ => 0, 0, 4294967295, 0, 1, false⟩,
   ⟨6295553, 64, 1, .uint, 8, .rwl, .host, .volatile, .ctx, fun _ _ => 0, 0, 18446744073709551615, 0, 1, false⟩,
   ⟨6295809, 4, 1, .uint, 4, .ro, .any, .volatile, .package, fun _ _ => 26214, 0, 4294967295, 0, 1, false⟩,
   ⟨6295813, 4, 1, .uint, 4, .ro, .any, .volatile, .package, fun _ _ => 0, 0, 4294967295, 0, 1, false⟩,
   ⟨6295817, 1, 1, .uint, 2, .ro, .any, .volatile, .package, fun _ _ => 0, 0, 65535, 0, 1, false⟩,
   ⟨6299649, 1, 1, .uint, 2, .rw, .any, .flash, .package, fun _ _ => 24, 0, 168, 0, 1, false⟩,
   ⟨6299650, 1, 1, .uint, 2, .ro, .any, .volatile, .package, fun _ _ => 0, 0, 65535, 0, 1, false⟩,
   ⟨6299651, 1, 1, .uint, 4, .rw, .any, .volatile, .package, fun _ _ => 0, 0, 4294967295, 0, 1, false⟩,
   ⟨6299652, 1, 1, .uint, 4, .rw, .any, .volatile, .package, fun _ _ => 0, 0, 4294967295, 0, 1, false⟩,
   ⟨6299653, 1, 1, .uint, 4, .rw, .any, .volatile, .package, fun _ _ => 0, 0, 4294967295, 0, 1, false⟩,
   ⟨6303745, 1, 1, .uint, 4, .ro, .any, .volatile, .package, fun _ _ => 0, 0, 4294967295, 0, 1, false⟩,
   ⟨6303746, 1, 1, .uint, 4, .rw, .any, .volatile, .package, fun _ _ => 1000, 0, 4294967295, 0, 1, false⟩,
   ⟨6303747, 1, 1, .bool, 1, .w1c, .any, .volatile, .package, fun _ _ => 0, 0, 1, 0, 1, false⟩,
   ⟨6303748, 1, 1, .uint, 2, .ro, .any, .volatile, .package, fun _ _ => 0, 0, 65535, 0, 1, false⟩,
   ⟨6304001, 1, 1, .uint, 4, .ro, .any, .volatile, .package, fun _ _ => 0, 0, 4294967295, 0, 1, false⟩,
   ⟨6304002, 1, 1, .uint, 4, .rw, .any, .volatile, .package, fun _ _ => 49152, 0, 4294967295, 0, 1, false⟩,
   ⟨6304003, 1, 1, .bool, 1, .w1c, .any, .volatile, .package, fun _ _ => 0, 0, 1, 0, 1, false⟩,
   ⟨6304004, 1, 1, .uint, 2, .ro, .any, .volatile, .package, fun _ _ => 0, 0, 65535, 0, 1, false⟩,
   ⟨6304257, 1, 1, .uint, 4, .ro, .any, .volatile, .package, fun _ _ => 0, 0, 4294967295, 0, 1, false⟩,
   ⟨6304258, 1, 1, .uint, 4, .rw, .any, .volatile, .package, fun _ _ => 8192, 0, 4294967295, 0, 1, false⟩,
   ⟨6304259, 1, 1, .bool, 1, .w1c, .any, .volatile, .package, fun _ _ => 0, 0, 1, 0, 1, false⟩,
   ⟨6304260, 1, 1, .uint, 2, .ro, .any, .volatile, .package, fun _ _ => 0, 0, 65535, 0, 1, false⟩,
   ⟨6307841, 16, 1, .uint, 2, .ro, .any, .flash, .package, fun _ _ => 0xFFFF, 0, 65535, 0, 1, false⟩,
   ⟨6308097, 16, 1, .uint, 2, .ro, .any, .flash, .package, fun _ _ => 0, 0, 65535, 0, 1, false⟩,
   ⟨6308353, 16, 1, .uint, 4, .ro, .any, .flash, .package, fun _ _ => 0, 0, 4294967295, 0, 1, false⟩,
   ⟨6311937, 16, 1, .uint, 4, .ro, .any, .volatile, .package, fun _ _ => 0, 0, 4294967295, 0, 1, false⟩]

/-- Entries at 0x7000 to 0x7FFF. -/
def Catalog.rows7 : List ERow :=
  [⟨7340033, 1, 1, .uint, 2, .rw, .mgmt, .volatile, .package, fun _ _ => 0, 0, 65535, 0, 1, false⟩,
   ⟨7340034, 1, 1, .uint, 2, .rw, .mgmt, .volatile, .package, fun _ _ => 0, 0, 65535, 63488, 1, false⟩,
   ⟨7340289, 6, 1, .uint, 4, .ro, .any, .volatile, .package, fun _ _ => 0, 0, 4294967295, 0, 1, false⟩,
   ⟨7340545, 6, 1, .uint, 2, .ro, .any, .volatile, .package, fun _ _ => 0, 0, 65535, 0, 1, false⟩,
   ⟨7340801, 6, 1, .bool, 1, .rw, .mgmt, .volatile, .package, fun _ _ => 1, 0, 1, 0, 1, false⟩,
   ⟨7341057, 6, 1, .uint, 4, .rw, .any, .volatile, .package, fun _ _ => 0, 0, 4294967295, 0, 1, false⟩,
   ⟨7341313, 6, 1, .uint, 4, .rw, .any, .volatile, .package, fun _ _ => 0, 0, 4294967295, 0, 1, false⟩,
   ⟨7341569, 1, 1, .uint, 2, .rw, .mgmt, .flash, .package, fun _ _ => 10, 1, 3600, 0, 1, false⟩,
   ⟨7341825, 1, 1, .uint, 4, .rw, .mgmt, .flash, .package, fun _ _ => 10000, 100, 1000000, 0, 1, false⟩,
   ⟨7344129, 64, 1, .uint, 8, .rwl, .host, .volatile, .ctx, fun _ _ => 0, 0, 18446744073709551615, 0, 64, false⟩,
   ⟨7344385, 64, 1, .uint, 2, .rwl, .host, .volatile, .ctx, fun _ _ => 0, 0, 4095, 0, 1, false⟩,
   ⟨7344641, 1, 1, .uint, 4, .wo, .any, .volatile, .peer, fun _ _ => 0, 0, 4294967295, 4227858432, 1, false⟩,
   ⟨7344897, 64, 1, .uint, 4, .rw, .host, .volatile, .ctx, fun _ _ => 0, 0, 4294967295, 0, 1, false⟩,
   ⟨7345153, 64, 1, .uint, 4, .rw, .host, .volatile, .ctx, fun _ _ => 0, 0, 4294967295, 0, 1, false⟩,
   ⟨7348225, 16, 1, .uint, 4, .rw, .mgmt, .volatile, .part, fun _ _ => 0, 0, 4294967295, 4160813056, 1, false⟩,
   ⟨7348481, 16, 3, .uint, 8, .rw, .mgmt, .volatile, .part, fun _ _ => 0, 0, 18446744073709551615, 18446726485817950336, 1, false⟩,
   ⟨7349249, 16, 1, .uint, 1, .wo, .mgmt, .volatile, .part, fun _ _ => 0, 0, 255, 0, 1, false⟩,
   ⟨7349505, 16, 1, .uint, 1, .ro, .any, .volatile, .part, fun _ _ => 0, 0, 255, 0, 1, false⟩,
   ⟨7352321, 1, 1, .uint, 8, .ro, .any, .volatile, .package, fun _ _ => 0, 0, 18446744073709551615, 0, 1, false⟩,
   ⟨7352322, 1, 1, .uint, 1, .rw, .mgmt, .volatile, .package, fun _ _ => 0, 0, 255, 240, 1, false⟩,
   ⟨7352323, 1, 1, .bool, 1, .ro, .any, .volatile, .package, fun _ _ => 0, 0, 1, 0, 1, false⟩,
   ⟨7352324, 1, 1, .uint, 4, .rw, .any, .volatile, .package, fun _ _ => 0, 0, 4294967295, 0, 1, false⟩,
   ⟨7356417, 64, 1, .uint, 8, .rws, .host, .volatile, .ctx, fun _ _ => 0, 0, 18446744073709551615, 0, 128, false⟩,
   ⟨7356673, 64, 1, .uint, 2, .rws, .host, .volatile, .ctx, fun _ _ => 16, 16, 4096, 0, 1, true⟩,
   ⟨7356929, 64, 1, .uint, 4, .rws, .host, .volatile, .ctx, fun _ _ => 0, 0, 4294967295, 2147221504, 1, false⟩,
   ⟨7357185, 64, 1, .uint, 8, .ro, .any, .volatile, .ctx, fun _ _ => 0, 0, 18446744073709551615, 0, 1, false⟩,
   ⟨7357441, 64, 1, .uint, 1, .w1c, .host, .volatile, .ctx, fun _ _ => 0, 0, 255, 240, 1, false⟩,
   ⟨7357697, 64, 1, .uint, 4, .rw, .host, .volatile, .ctx, fun _ _ => 0, 0, 4294967295, 0, 1, false⟩,
   ⟨7357953, 1, 1, .uint, 1, .ro, .any, .volatile, .package, fun _ _ => 32, 0, 255, 0, 1, false⟩,
   ⟨7358209, 64, 1, .uint, 4, .rwl, .host, .volatile, .ctx, fun _ _ => 100000, 1000, 600000000, 0, 1, false⟩,
   ⟨7358465, 64, 1, .uint, 8, .ro, .any, .volatile, .ctx, fun _ _ => 0, 0, 18446744073709551615, 0, 1, false⟩]

/-- Entries at 0x8000 to 0x8FFF. -/
def Catalog.rows8 : List ERow :=
  [⟨8388609, 1, 1, .uint, 8, .ro, .any, .retained, .package, fun _ _ => 0, 0, 18446744073709551615, 0, 1, false⟩,
   ⟨8388610, 1, 1, .uint, 8, .rw, .any, .retained, .log, fun _ _ => 0, 0, 18446744073709551615, 0, 1, false⟩,
   ⟨8388611, 1, 1, .blob, 32, .ro, .any, .retained, .log, fun _ _ => 0, 0, 2 ^ 256, 0, 1, false⟩,
   ⟨8388612, 1, 1, .uint, 4, .rw, .any, .retained, .package, fun _ _ => 0, 0, 4294967295, 0, 1, false⟩,
   ⟨8392705, 64, 1, .uint, 4, .ro, .any, .flash, .package, fun _ _ => 0, 0, 4294967295, 0, 1, false⟩,
   ⟨8392961, 64, 1, .blob, 50, .ro, .any, .flash, .package, factoryMap, 0, 2 ^ 400, 0, 1, false⟩,
   ⟨8393217, 64, 1, .blob, 225, .ro, .any, .flash, .package, fun _ _ => 0, 0, 2 ^ 1800, 0, 1, false⟩,
   ⟨8393473, 1, 1, .uint, 1, .ro, .any, .volatile, .package, fun _ _ => 0, 0, 255, 0, 1, false⟩,
   ⟨8396801, 1, 1, .uint, 4, .w1c, .mgmt, .flash, .package, fun _ _ => 0, 0, 4294967295, 4294966784, 1, false⟩,
   ⟨8396802, 1, 1, .bool, 1, .w1c, .mgmt, .volatile, .package, fun _ _ => 0, 0, 1, 0, 1, false⟩,
   ⟨8400897, 64, 1, .uint, 1, .rwl, .host, .volatile, .ctx, fun _ _ => 4, 1, 64, 0, 1, false⟩,
   ⟨8401153, 64, 1, .blob, 16, .rwl, .host, .volatile, .ctx, fun _ _ => 0, 0, 2 ^ 128, 0, 1, false⟩,
   ⟨8401409, 64, 1, .uint, 4, .ro, .any, .volatile, .ctx, fun _ _ => 0, 0, 4294967295, 0, 1, false⟩,
   ⟨8401665, 64, 1, .uint, 4, .rwl, .host, .volatile, .ctx, fun _ _ => 100000, 1000, 10000000, 0, 1, false⟩,
   ⟨8401921, 64, 1, .bool, 1, .wo, .host, .volatile, .ctx, fun _ _ => 0, 0, 1, 0, 1, false⟩,
   ⟨8402177, 64, 1, .uint, 8, .ro, .any, .volatile, .ctx, fun _ _ => 0, 0, 18446744073709551615, 0, 1, false⟩,
   ⟨8402433, 64, 1, .bool, 1, .w1c, .host, .volatile, .ctx, fun _ _ => 0, 0, 1, 0, 1, false⟩,
   ⟨8402689, 64, 1, .uint, 4, .rw, .host, .volatile, .ctx, fun _ _ => 0, 0, 4294967295, 0, 1, false⟩,
   ⟨8404993, 1, 1, .uint, 2, .rw, .mgmt, .flash, .package, fun _ _ => 24, 0, 720, 0, 1, false⟩,
   ⟨8405249, 1, 1, .uint, 1, .rw, .mgmt, .flash, .package, fun _ _ => 0x0F, 0, 255, 240, 1, false⟩,
   ⟨8405505, 1, 1, .uint, 2, .rw, .mgmt, .flash, .package, fun _ _ => 30, 10, 80, 0, 1, false⟩,
   ⟨8405761, 1, 1, .uint, 2, .rw, .mgmt, .flash, .package, fun _ _ => 1950, 1800, 1950, 0, 1, false⟩,
   ⟨8406017, 1, 1, .uint, 1, .rw, .mgmt, .flash, .package, fun _ _ => 95, 70, 100, 0, 1, false⟩,
   ⟨8406273, 1, 1, .uint, 2, .ro, .any, .volatile, .package, fun _ _ => 0, 0, 65535, 0, 1, false⟩,
   ⟨8406529, 1, 1, .uint, 4, .ro, .any, .flash, .package, fun _ _ => 0, 0, 4294967295, 0, 1, false⟩,
   ⟨8406785, 1, 1, .blob, 16, .ro, .any, .volatile, .package, fun _ _ => 0, 0, 2 ^ 128, 0, 1, false⟩,
   ⟨8409089, 4, 1, .uint, 2, .rw, .mgmt, .flash, .package, escDefaults, 0, 65535, 0, 1, false⟩,
   ⟨8409345, 5, 1, .uint, 4, .ro, .any, .retained, .package, fun _ _ => 0, 0, 4294967295, 0, 1, false⟩]

/-- Entries at 0x9000 to 0x9FFF. -/
def Catalog.rows9 : List ERow :=
  [⟨9437185, 64, 1, .uint, 8, .rwl, .host, .volatile, .ctx, fun _ _ => 0, 0, 18446744073709551615, 0, 64, false⟩,
   ⟨9437441, 64, 1, .uint, 8, .rwl, .host, .volatile, .ctx, fun _ _ => 0, 0, 18446744073709551615, 4294705152, 1, false⟩,
   ⟨9437697, 64, 1, .uint, 4, .rwl, .host, .volatile, .ctx, fun _ _ => 0, 0, 4294967295, 4294705152, 1, false⟩,
   ⟨9437953, 64, 1, .uint, 8, .rwl, .host, .volatile, .ctx, fun _ _ => 0, 0, 18446744073709551615, 0, 1, false⟩,
   ⟨9438209, 64, 1, .uint, 4, .ro, .any, .volatile, .ctx, fun _ _ => 0, 0, 4294967295, 0, 1, false⟩,
   ⟨9438465, 64, 1, .uint, 1, .w1c, .host, .volatile, .ctx, fun _ _ => 0, 0, 255, 240, 1, false⟩,
   ⟨9438721, 64, 1, .uint, 8, .rwl, .host, .volatile, .ctx, fun _ _ => 0, 0, 18446744073709551615, 0, 1, false⟩,
   ⟨9438977, 64, 1, .uint, 8, .rwl, .host, .volatile, .ctx, fun _ _ => 0, 0, 18446744073709551615, 0, 1, false⟩,
   ⟨9439233, 64, 1, .f32, 4, .ro, .any, .volatile, .ctx, fun _ _ => 0, 0, 4294967295, 0, 1, false⟩,
   ⟨9439489, 64, 1, .uint, 4, .rw, .host, .volatile, .ctx, fun _ _ => 0, 0, 4294967295, 0, 1, false⟩,
   ⟨9439745, 64, 1, .uint, 4, .rwl, .host, .volatile, .ctx, fun _ _ => 100000, 1000, 10000000, 0, 1, false⟩,
   ⟨9441281, 64, 1, .blob, 24, .ro, .any, .volatile, .ctx, fun _ _ => 0, 0, 2 ^ 192, 0, 1, false⟩,
   ⟨9445377, 64, 1, .uint, 1, .rwl, .host, .volatile, .ctx, fun _ _ => 0, 0, 1, 0, 1, false⟩,
   ⟨9445633, 64, 1, .uint, 8, .rwl, .host, .volatile, .ctx, fun _ _ => 0, 0, 18446744073709551615, 0, 4096, false⟩,
   ⟨9445889, 64, 1, .uint, 4, .rwl, .host, .volatile, .ctx, fun _ _ => 0, 65536, 2147483648, 0, 1, true⟩,
   ⟨9446145, 64, 1, .uint, 8, .rw, .any, .volatile, .ctx, fun _ _ => 0, 0, 18446744073709551615, 0, 1, false⟩,
   ⟨9446401, 64, 1, .uint, 8, .ro, .any, .volatile, .ctx, fun _ _ => 0, 0, 18446744073709551615, 0, 1, false⟩,
   ⟨9446657, 64, 1, .uint, 8, .rwl, .host, .volatile, .ctx, fun _ _ => 0, 0, 18446744073709551615, 18446462602893590528, 1, false⟩,
   ⟨9446913, 64, 1, .uint, 4, .rw, .host, .volatile, .ctx, fun _ _ => 0, 0, 4294967295, 0, 1, false⟩,
   ⟨9447169, 64, 1, .uint, 1, .rw, .host, .volatile, .ctx, fun _ _ => 0, 0, 255, 252, 1, false⟩]

/-- Entries at 0xA000 to 0xAFFF. -/
def Catalog.rowsA : List ERow :=
  [⟨10485761, 1, 1, .uint, 1, .wo, .any, .volatile, .package, fun _ _ => 0, 1, 3, 0, 1, false⟩,
   ⟨10485762, 1, 1, .uint, 2, .rw, .any, .volatile, .package, fun _ _ => 0, 0, 65535, 63488, 1, false⟩,
   ⟨10485763, 1, 1, .uint, 4, .ro, .any, .volatile, .package, fun _ _ => 0, 0, 4294967295, 0, 1, false⟩,
   ⟨10489857, 1, 1, .uint, 4, .wo, .mgmt, .volatile, .package, fun _ _ => 0, 0, 4294967295, 4278190328, 1, false⟩,
   ⟨10489858, 1, 1, .uint, 4, .ro, .any, .volatile, .package, fun _ _ => 0, 0, 4294967295, 0, 1, false⟩]

/-- The rows whose index begins with digit d. -/
def Catalog.rowsOf (d : Nat) : List ERow :=
  match d with
  | 1 => Catalog.rows1
  | 2 => Catalog.rows2
  | 3 => Catalog.rows3
  | 4 => Catalog.rows4
  | 5 => Catalog.rows5
  | 6 => Catalog.rows6
  | 7 => Catalog.rows7
  | 8 => Catalog.rows8
  | 9 => Catalog.rows9
  | 10 => Catalog.rowsA
  | _ => []

/-- Whether key k lies in row r. -/
def ERow.covers (r : ERow) (k : Nat) : Bool :=
  Nat.ble (r.lo) k && Nat.blt ((k - r.lo) / 256) r.idx && Nat.blt ((k - r.lo) % 256) r.cnt

/-- The row that defines the entry with key k. -/
def Catalog.row (k : Nat) : Option ERow := (Catalog.rowsOf (k / 1048576)).find? (fun r => r.covers k)

/-- The default of the entry with key k. -/
def Catalog.dflt (k : Nat) : Nat :=
  match Catalog.row k with
  | some r => r.dflt ((k - r.lo) / 256) (k % 256)
  | none => 0

/-- The highest subindex in use at an index, which its subindex 0x00 holds (R438); none where no entry stands. -/
def Catalog.top (index : Nat) : Option Nat :=
  ((Catalog.rowsOf (index / 4096)).filterMap fun r =>
    if Nat.ble (r.lo / 256) index && Nat.blt (index - r.lo / 256) r.idx then some (r.lo % 256 + r.cnt - 1)
    else none).foldl (fun m t => some (match m with | none => t | some u => if u < t then t else u)) none

end Sys2Proof.Machine
end

