-- ==== Sys2Proof/Machine/Flags.lean ====
section
/-!
DEFINITION. The sticky flags (R61, Table 2.6): bit 0 INEXACT, 1 UNDERFLOW, 2 OVERFLOW, 3 INVALID. Every
operation that can raise flags returns them beside its value, and callers OR them together.
-/

namespace Sys2Proof.Machine

/-- The four flags, laid out as Table 2.6. -/
abbrev FFlags := BitVec 4

/-- No flag raised. -/
def FFlags.none : FFlags := 0#4

/-- INEXACT. -/
def FFlags.inexact : FFlags := 1#4

/-- UNDERFLOW. -/
def FFlags.underflow : FFlags := 2#4

/-- OVERFLOW. -/
def FFlags.overflow : FFlags := 4#4

/-- INVALID. -/
def FFlags.invalid : FFlags := 8#4

/-- The flag f when b holds, otherwise none. -/
def FFlags.when (b : Bool) (f : FFlags) : FFlags := if b then f else 0#4

/-- The OR of a list of flag sets. -/
def FFlags.all (l : List FFlags) : FFlags := l.foldl (· ||| ·) 0#4

end Sys2Proof.Machine
end

