-- ==== Sys2Proof/Machine/Float.lean ====
section
/-!
DEFINITION. Number formats and conversions (02_number_formats.md): decoding (R47 to R50), the one rounding
procedure (R54), special results (R56), MX blocks (R57), integer conversions (R58), fp32 arithmetic (R46)
and packing (R52). Values are exact: sign, natural significand, integer exponent.
-/

namespace Sys2Proof.Machine

/-- The formats of Table 2.1. -/
inductive Fmt where
  | fp32 | b16 | f16 | e4m3 | e5m2 | e3m2 | e2m3 | e2m1 | mxint8
  deriving DecidableEq, Repr

/-- The format a 4-bit code names; a reserved code names none (R41). -/
def Fmt.ofCode (c : BitVec 4) : Option Fmt :=
  match c.toNat with
  | 0 => some .fp32 | 1 => some .b16 | 2 => some .f16 | 3 => some .e4m3 | 4 => some .e5m2
  | 5 => some .e3m2 | 6 => some .e2m3 | 7 => some .e2m1 | 8 => some .mxint8 | _ => none

/-- The formats that carry an MX block scale (Table 2.1). -/
def Fmt.isMx : Fmt → Bool
  | .e3m2 | .e2m3 | .e2m1 | .mxint8 => true
  | _ => false

/-- Exponent field bits (Table 2.2). -/
def Fmt.ebits : Fmt → Nat
  | .fp32 | .b16 => 8 | .f16 | .e5m2 => 5 | .e4m3 => 4 | .e3m2 => 3 | .e2m3 | .e2m1 => 2 | .mxint8 => 0

/-- Fraction bits (Table 2.2); for MXINT8, p - 1 = 6 (R54). -/
def Fmt.fbits : Fmt → Nat
  | .fp32 => 23 | .b16 => 7 | .f16 => 10 | .e4m3 => 3 | .e5m2 => 2 | .e3m2 => 2 | .e2m3 => 3 | .e2m1 => 1
  | .mxint8 => 6

/-- Exponent bias (Table 2.2). -/
def Fmt.bias : Fmt → Int
  | .fp32 | .b16 => 127 | .f16 | .e5m2 => 15 | .e4m3 => 7 | .e3m2 => 3 | .e2m3 | .e2m1 => 1 | .mxint8 => 1

/-- Smallest normal exponent emin; for MXINT8, 0 (R54). -/
def Fmt.emin (f : Fmt) : Int := 1 - f.bias

/-- Largest exponent emax, 0 for MXINT8 (Table 2.2, R57). -/
def Fmt.emax : Fmt → Int
  | .fp32 | .b16 => 127 | .f16 | .e5m2 => 15 | .e4m3 => 8 | .e3m2 => 4 | .e2m3 | .e2m1 => 2 | .mxint8 => 0

/-- The largest finite magnitude as significand and exponent (Table 2.2, R54). -/
def Fmt.maxFinite : Fmt → Nat × Int
  | .fp32 => (0xFFFFFF, 104) | .b16 => (255, 120) | .f16 => (2047, 5) | .e4m3 => (7, 6) | .e5m2 => (7, 13)
  | .e3m2 => (7, 2) | .e2m3 => (15, -1) | .e2m1 => (3, 1) | .mxint8 => (127, -6)

/-- The encoding of the largest finite positive value. -/
def Fmt.maxBits : Fmt → Nat
  | .fp32 => 0x7F7FFFFF | .b16 => 0x7F7F | .f16 => 0x7BFF | .e4m3 => 0x7E | .e5m2 => 0x7B | .e3m2 => 0x1F
  | .e2m3 => 0x1F | .e2m1 => 0x7 | .mxint8 => 0x7F

/-- The canonical NaN (Table 2.2), 0 for formats without one. -/
def Fmt.nanBits : Fmt → Nat
  | .fp32 => 0x7FC00000 | .b16 => 0x7FC0 | .f16 => 0x7E00 | .e4m3 => 0x7F | .e5m2 => 0x7E | _ => 0

/-- +infinity (Table 2.2), for formats that have it. -/
def Fmt.infBits : Fmt → Nat
  | .fp32 => 0x7F800000 | .b16 => 0x7F80 | .f16 => 0x7C00 | .e5m2 => 0x7C | _ => 0

/-- Element width in bits (Table 2.1). -/
def Fmt.width : Fmt → Nat
  | .fp32 => 32 | .b16 | .f16 => 16 | .e4m3 | .e5m2 | .mxint8 => 8 | .e3m2 | .e2m3 => 6 | .e2m1 => 4

/-- The weight of the sign bit of an element. -/
def Fmt.signWeight (f : Fmt) : Nat := 2 ^ (f.width - 1)

/-- An exact value: NaN, an infinity, or (-1)^s * m * 2^e. -/
inductive Fp where
  | nan
  | inf (s : Bool)
  | fin (s : Bool) (m : Nat) (e : Int)
  deriving DecidableEq, Repr

/-- A zero of either sign. -/
def Fp.isZero : Fp → Bool
  | .fin _ m _ => m = 0
  | _ => false

/-- The sign of a value; a NaN has none. -/
def Fp.sign : Fp → Bool
  | .nan => false
  | .inf s => s
  | .fin s _ _ => s

/-- The value of an element (R47, R48, R50 without the scale). -/
def Fmt.decode (f : Fmt) (bits : Nat) : Fp :=
  let b := bits % 2 ^ f.width
  match f with
  | .mxint8 => if b < 128 then .fin false b (-6) else .fin true (256 - b) (-6)
  | _ =>
    let s := decide (f.signWeight ≤ b)
    let x := (b % f.signWeight) / 2 ^ f.fbits
    let t := b % 2 ^ f.fbits
    let ones := 2 ^ f.ebits - 1
    if f = .e4m3 ∧ x = 15 ∧ t = 7 then .nan
    else if (f = .fp32 ∨ f = .b16 ∨ f = .f16 ∨ f = .e5m2) ∧ x = ones then
      if t = 0 then .inf s else .nan
    else if x = 0 then .fin s t (f.emin - f.fbits)
    else .fin s (2 ^ f.fbits + t) ((x : Int) - f.bias - f.fbits)

/-- The value of an fp32 pattern. -/
def f32val (x : Word32) : Fp := Fmt.decode .fp32 x.toNat

/-- The canonical fp32 NaN (R45). -/
def f32nan : Word32 := 0x7FC00000#32

/-- An fp32 infinity of sign s. -/
def f32inf (s : Bool) : Word32 := if s then 0xFF800000#32 else 0x7F800000#32

/-- An fp32 zero of sign s. -/
def f32zero (s : Bool) : Word32 := if s then 0x80000000#32 else 0#32

/-- fp32 1.0. -/
def f32one : Word32 := 0x3F800000#32

/-- Bit length of a natural number: 0 for 0. -/
def bitLength (m : Nat) : Nat := if m = 0 then 0 else Nat.log2 m + 1

/-- m * 2^k for an integer k, truncated toward zero. -/
def shiftInt (m : Nat) (k : Int) : Nat := if 0 ≤ k then m <<< k.toNat else m >>> (-k).toNat

/-- How a conversion rounds: to nearest even, or stochastically with the Gauze value u (R54). -/
inductive RoundMode where
  | rne
  | sr (u : Nat)
  deriving DecidableEq, Repr

/-- What replaces a finite value that rounds above the largest finite (Table 2.4; fp32 gives ±infinity, R72). -/
def overflowResult (f : Fmt) (s sat : Bool) : Nat × FFlags :=
  let sg := if s then f.signWeight else 0
  let oi := FFlags.overflow ||| FFlags.inexact
  match f with
  | .fp32 => (sg + f.infBits, oi)
  | .b16 | .f16 | .e5m2 => if sat then (sg + f.maxBits, oi) else (sg + f.infBits, oi)
  | .e4m3 => if sat then (sg + f.maxBits, oi) else (f.nanBits, oi ||| FFlags.invalid)
  | .mxint8 => if s then (0x81, oi) else (0x7F, oi)
  | _ => (sg + f.maxBits, oi)

/-- The encoding of keep * 2^q, already rounded to the destination's grid (R54, encode). -/
def encodeMag (f : Fmt) (s : Bool) (keep : Nat) (q : Int) : Nat :=
  if f = .mxint8 then (if s then (256 - keep) % 256 else keep)
  else
    let sg := if s then f.signWeight else 0
    let (k, q) := if 2 ^ (f.fbits + 1) ≤ keep then (keep / 2, q + 1) else (keep, q)
    if k < 2 ^ f.fbits then sg + k
    else sg + (q + f.fbits + f.bias).toNat * 2 ^ f.fbits + (k - 2 ^ f.fbits)

/-- round_to of R54, for an exact value (-1)^s * m * 2^e with m > 0. -/
def roundTo (f : Fmt) (s : Bool) (m : Nat) (e : Int) (mode : RoundMode) (sat : Bool) : Nat × FFlags :=
  let x : Int := e + (bitLength m - 1 : Nat)
  let q : Int := Max.max x f.emin - f.fbits
  let d : Nat := (q - e).toNat
  let keep0 := if q ≤ e then m <<< (e - q).toNat else m >>> d
  let rest := if q ≤ e then 0 else m - (keep0 <<< d)
  let up : Bool :=
    if q ≤ e then false
    else match mode with
      | .rne => let half := 1 <<< (d - 1); decide (half < rest ∨ (rest = half ∧ keep0 % 2 = 1))
      | .sr u => decide (65536 ≤ (rest <<< 16) >>> d + u)
  let keep := if up then keep0 + 1 else keep0
  let (mm, me) := f.maxFinite
  let beyond : Bool := if me ≤ q then decide (mm < keep <<< (q - me).toNat) else decide (mm <<< (me - q).toNat < keep)
  if beyond then overflowResult f s sat
  else
    let inexact := decide (rest ≠ 0)
    let tiny := decide (f ≠ Fmt.mxint8 ∧ x < f.emin)
    (if keep = 0 then (if s ∧ f ≠ Fmt.mxint8 then f.signWeight else 0) else encodeMag f s keep q,
      FFlags.when inexact FFlags.inexact ||| FFlags.when (inexact && tiny) FFlags.underflow)

/-- Round an exact fp32 result to nearest even (R46). -/
def roundF32 (s : Bool) (m : Nat) (e : Int) : Word32 × FFlags :=
  let r := roundTo .fp32 s m e .rne false
  (BitVec.ofNat 32 r.1, r.2)

/-- fp32 addition (R44, R46). -/
def f32add (a b : Word32) : Word32 × FFlags :=
  match f32val a, f32val b with
  | .nan, _ | _, .nan => (f32nan, 0#4)
  | .inf s, .inf t => if s = t then (f32inf s, 0#4) else (f32nan, FFlags.invalid)
  | .inf s, _ => (f32inf s, 0#4)
  | _, .inf t => (f32inf t, 0#4)
  | .fin s m e, .fin t n g =>
    let lo := Min.min e g
    let x : Int := (m <<< (e - lo).toNat : Nat)
    let y : Int := (n <<< (g - lo).toNat : Nat)
    let sum : Int := (if s then -x else x) + (if t then -y else y)
    if sum = 0 then (f32zero (s && t), 0#4)
    else roundF32 (decide (sum < 0)) sum.natAbs lo

/-- Negation acts on bits (R45). -/
def f32neg (a : Word32) : Word32 := a ^^^ 0x80000000#32

/-- Absolute value acts on bits (R45). -/
def f32abs (a : Word32) : Word32 := a &&& 0x7FFFFFFF#32

/-- fp32 subtraction: a + (-b), where the negation of a NaN does not matter (R46). -/
def f32sub (a b : Word32) : Word32 × FFlags := f32add a (f32neg b)

/-- fp32 multiplication (R46). -/
def f32mul (a b : Word32) : Word32 × FFlags :=
  match f32val a, f32val b with
  | .nan, _ | _, .nan => (f32nan, 0#4)
  | .inf s, .inf t => (f32inf (s != t), 0#4)
  | .inf s, .fin t n _ => if n = 0 then (f32nan, FFlags.invalid) else (f32inf (s != t), 0#4)
  | .fin s m _, .inf t => if m = 0 then (f32nan, FFlags.invalid) else (f32inf (s != t), 0#4)
  | .fin s m e, .fin t n g =>
    if m * n = 0 then (f32zero (s != t), 0#4) else roundF32 (s != t) (m * n) (e + g)

/-- The addend's part of a fused multiply-add whose product is the infinity of sign s. -/
def fmaInf (s : Bool) : Fp → Word32 × FFlags
  | .nan => (f32nan, 0#4)
  | .inf t => if s = t then (f32inf s, 0#4) else (f32nan, FFlags.invalid)
  | .fin _ _ _ => (f32inf s, 0#4)

/-- fp32 fused multiply-add a * b + c with one rounding (R46). -/
def f32fma (a b c : Word32) : Word32 × FFlags :=
  match f32val a, f32val b with
  | .nan, _ | _, .nan => (f32nan, 0#4)
  | .inf s, .inf t => fmaInf (s != t) (f32val c)
  | .inf s, .fin t n _ => if n = 0 then (f32nan, FFlags.invalid) else fmaInf (s != t) (f32val c)
  | .fin s m _, .inf t => if m = 0 then (f32nan, FFlags.invalid) else fmaInf (s != t) (f32val c)
  | .fin s m e, .fin t n g =>
    match f32val c with
    | .nan => (f32nan, 0#4)
    | .inf u => (f32inf u, 0#4)
    | .fin u k h =>
      let lo := Min.min (e + g) h
      let x : Int := ((m * n) <<< (e + g - lo).toNat : Nat)
      let y : Int := (k <<< (h - lo).toNat : Nat)
      let ps := s != t
      let sum : Int := (if ps then -x else x) + (if u then -y else y)
      if sum = 0 then (f32zero (ps && u), 0#4)
      else roundF32 (decide (sum < 0)) sum.natAbs lo

/-- The order of two values that are not NaN, -0 equal to +0: negative, zero or positive. -/
def fpCmp : Fp → Fp → Int
  | .inf s, .inf t => if s = t then 0 else if s then -1 else 1
  | .inf s, _ => if s then -1 else 1
  | _, .inf t => if t then 1 else -1
  | .fin s m e, .fin t n g =>
    let lo := Min.min e g
    let x : Int := (m <<< (e - lo).toNat : Nat)
    let y : Int := (n <<< (g - lo).toNat : Nat)
    (if s then -x else x) - (if t then -y else y)
  | _, _ => 0

/-- The relations of the vector comparisons (Table 5.8). -/
inductive FRel where
  | eq | ne | lt | le
  deriving DecidableEq, Repr

/-- A comparison: false for every relation with a NaN, except not-equal; no flag (R46). -/
def f32rel (r : FRel) (a b : Word32) : Bool :=
  match f32val a, f32val b with
  | .nan, _ | _, .nan => r = .ne
  | x, y =>
    match r with
    | .eq => fpCmp x y = 0
    | .ne => fpCmp x y ≠ 0
    | .lt => fpCmp x y < 0
    | .le => fpCmp x y ≤ 0

/-- Minimum (mx false) or maximum: canonical NaN if either is a NaN, -0 below +0, no flag (R46). -/
def f32minmax (mx : Bool) (a b : Word32) : Word32 :=
  match f32val a, f32val b with
  | .nan, _ | _, .nan => f32nan
  | x, y =>
    let aLess : Bool := if fpCmp x y = 0 then x.sign && !y.sign else decide (fpCmp x y < 0)
    if aLess then (if mx then b else a) else (if mx then a else b)

/-- Maximum under R46. -/
def f32max (a b : Word32) : Word32 := f32minmax true a b

/-- Minimum under R46. -/
def f32min (a b : Word32) : Word32 := f32minmax false a b

/-- Conversion of one fp32 value to a format without block scale (R53, R54, Table 2.4). fp32 itself
keeps the value and makes a NaN canonical (R45). -/
def convertTo (f : Fmt) (x : Word32) (mode : RoundMode) (sat : Bool) : Nat × FFlags :=
  match f32val x with
  | .nan => (f.nanBits, 0#4)
  | .inf s =>
    if f = .e4m3 then
      ((if sat then (if s then 0xFE else 0x7E) else f.nanBits), FFlags.invalid)
    else ((if s then f.signWeight else 0) + f.infBits, 0#4)
  | .fin s m e => if m = 0 then ((if s then f.signWeight else 0), 0#4) else roundTo f s m e mode sat

/-- The fp32 pattern of an element of a format without block scale, exactly (R53). -/
def widen (f : Fmt) (bits : Nat) : Word32 :=
  match f.decode bits with
  | .nan => f32nan
  | .inf s => f32inf s
  | .fin s m e => if m = 0 then f32zero s else (roundF32 s m e).1

/-- Element of an MX block under scale byte b, as fp32 (R50, R53). -/
def widenMx (f : Fmt) (bits scale : Nat) : Word32 × FFlags :=
  if scale % 256 = 255 then (f32nan, 0#4)
  else match f.decode bits with
    | .fin s m e => if m = 0 then (f32zero s, 0#4) else roundF32 s m (e + (scale % 256 : Nat) - 127)
    | _ => (f32nan, 0#4)

/-- An fp32 pattern's exact magnitude exponent floor(log2 |v|), for a finite non-zero value. -/
def expOf (m : Nat) (e : Int) : Int := e + (bitLength m - 1 : Nat)

/-- The larger of two optional exponents. -/
def maxExp : Option Int → Option Int → Option Int
  | none, y => y
  | some x, none => some x
  | some x, some y => some (Max.max x y)

/-- encode_mx_block of R57: the scale byte, the elements and the flags. modeOf gives the rounding mode of
element i. -/
def encodeMx (f : Fmt) (v : List Word32) (modeOf : Nat → RoundMode) : Nat × List Nat × FFlags :=
  if v.any (fun x => match f32val x with | .nan => true | .inf _ => true | _ => false) then
    (0xFF, v.map fun _ => 0, FFlags.invalid)
  else
    let ea := (v.map fun x => match f32val x with
      | .fin _ m e => if m = 0 then none else some (expOf m e)
      | _ => none).foldl maxExp none
    match ea with
    | none =>
      (0, v.map fun x => if x = 0x80000000#32 ∧ f ≠ Fmt.mxint8 then f.signWeight else 0, 0#4)
    | some ea =>
      let x := Max.max (-127) (Min.min 127 (ea - f.emax))
      let es := v.zipIdx.map fun p => match f32val p.1 with
        | .fin s m e =>
          if m = 0 then ((if s ∧ f ≠ Fmt.mxint8 then f.signWeight else 0), 0#4)
          else roundTo f s m (e - x) (modeOf p.2) true
        | _ => (0, 0#4)
      ((x + 127).toNat, es.map (·.1), FFlags.all (es.map (·.2)))

/-- i32 to fp32, to nearest even (R58). -/
def i32ToF32 (x : Word32) : Word32 × FFlags :=
  if x = 0#32 then (0#32, 0#4) else roundF32 x.msb x.toInt.natAbs 0

/-- fp32 to i32 by rounding to nearest even or truncating; saturation is invalid (R58, Table 2.4). -/
def f32ToI32 (x : Word32) (trunc : Bool) : Word32 × FFlags :=
  match f32val x with
  | .nan => (0#32, FFlags.invalid)
  | .inf s => ((if s then 0x80000000#32 else 0x7FFFFFFF#32), FFlags.invalid)
  | .fin s m e =>
    let d := (-e).toNat
    let keep0 := if 0 ≤ e then m <<< e.toNat else m >>> d
    let rest := if 0 ≤ e then 0 else m - (keep0 <<< d)
    let half := 1 <<< (d - 1)
    let up := !trunc && decide (e < 0 ∧ (half < rest ∨ (rest = half ∧ keep0 % 2 = 1)))
    let k := if up then keep0 + 1 else keep0
    if s ∧ 2 ^ 31 < k then (0x80000000#32, FFlags.invalid)
    else if !s ∧ 2 ^ 31 ≤ k then (0x7FFFFFFF#32, FFlags.invalid)
    else (if s then -BitVec.ofNat 32 k else BitVec.ofNat 32 k, FFlags.when (decide (rest ≠ 0)) FFlags.inexact)

/-- cvt of R264: an unsigned integer to fp32, to nearest even. -/
def natToF32 (n : Nat) : Word32 × FFlags := if n = 0 then (0#32, 0#4) else roundF32 false n 0

/-- 32-bit words that n elements of a format take, rounded up to whole words (R52). -/
def Fmt.wordsFor (f : Fmt) (n : Nat) : Nat := (n * f.width + 31) / 32

/-- Element i of a run of packed words, read by word offset (Table 2.3). -/
def unpackElem (f : Fmt) (word : Nat → Word32) (i : Nat) : Nat :=
  let bit := i * f.width
  let w := bit / 32
  ((word w).toNat + (word (w + 1)).toNat * 2 ^ 32) / 2 ^ (bit % 32) % 2 ^ f.width

/-- Pack elements into words, element 0 in the lowest bits of word 0 (Table 2.3). -/
def packElems (f : Fmt) (l : List Nat) : List Word32 :=
  let total := l.zipIdx.foldl (fun acc p => acc + (p.1 % 2 ^ f.width) * 2 ^ (p.2 * f.width)) 0
  (List.range (f.wordsFor l.length)).map fun w => BitVec.ofNat 32 (total / 2 ^ (32 * w))

end Sys2Proof.Machine
end

