-- ==== Sys2Proof/Machine/SMap.lean ====
section
/-!
DEFINITION. Sparse maps: a list of (key, value) pairs in one canonical form, keys strictly rising and no
entry equal to what an unlisted key reads as. Every register file, memory and table of the model is one.
The value an unlisted key reads as is a function of the key, given to each operation.
-/

namespace Sys2Proof.Machine

/-- A sparse map from numbers to values. -/
abbrev SMap (V : Type) := List (Nat × V)

/-- The value at key k; d k where k is not listed. -/
def SMap.get {V : Type} (d : Nat → V) : SMap V → Nat → V
  | [], k => d k
  | (j, v) :: m, k => if j = k then v else SMap.get d m k

/-- List v at key k, in its place. -/
def SMap.put {V : Type} : SMap V → Nat → V → SMap V
  | [], k, v => [(k, v)]
  | (j, w) :: m, k, v =>
    if j = k then (k, v) :: m
    else if k < j then (k, v) :: (j, w) :: m
    else (j, w) :: SMap.put m k v

/-- List no value at key k. -/
def SMap.drop {V : Type} (m : SMap V) (k : Nat) : SMap V := m.filter fun e => e.1 != k

/-- Write v at key k, keeping the canonical form: writing what the key reads as unlisted removes it. -/
def SMap.set {V : Type} [DecidableEq V] (d : Nat → V) (m : SMap V) (k : Nat) (v : V) : SMap V :=
  if v = d k then SMap.drop m k else SMap.put m k v

/-- The keys at which two maps in canonical form differ; the fuel is the sum of their lengths. -/
def SMap.changed {V : Type} [DecidableEq V] : Nat → SMap V → SMap V → List Nat
  | 0, _, _ => []
  | _ + 1, [], b => b.map (·.1)
  | _ + 1, a, [] => a.map (·.1)
  | n + 1, (j, v) :: a, (k, w) :: b =>
    if j = k then (if v = w then SMap.changed n a b else j :: SMap.changed n a b)
    else if j < k then j :: SMap.changed n a ((k, w) :: b)
    else k :: SMap.changed n ((j, v) :: a) b

/-- Every listed key is above b, keys rise strictly, and no entry equals its unlisted value. -/
def SMap.wfFrom {V : Type} [DecidableEq V] (d : Nat → V) : Option Nat → SMap V → Bool
  | _, [] => true
  | b, (k, v) :: m =>
    (match b with
      | none => true
      | some j => decide (j < k)) && decide (v ≠ d k) && SMap.wfFrom d (some k) m

/-- The canonical form. -/
def SMap.wf {V : Type} [DecidableEq V] (d : Nat → V) (m : SMap V) : Bool := SMap.wfFrom d none m

/-- The map whose value at k is f k for k in [base, base + n) and d elsewhere. -/
def SMap.ofRange {V : Type} [DecidableEq V] (d : Nat → V) (base n : Nat) (f : Nat → V) : SMap V :=
  (List.range n).filterMap fun i =>
    if f (base + i) = d (base + i) then none else some (base + i, f (base + i))

/-- Drop every key for which p holds: those keys read as unlisted afterwards. -/
def SMap.dropKeys {V : Type} (p : Nat → Bool) (m : SMap V) : SMap V := m.filter fun e => !p e.1

/-- Write a list of (key, value) pairs, the first first. -/
def SMap.setAll {V : Type} [DecidableEq V] (d : Nat → V) (m : SMap V) (l : List (Nat × V)) : SMap V :=
  l.foldl (fun m e => SMap.set d m e.1 e.2) m

/-- Change the value of every listed key, dropping those that become unlisted ones. -/
def SMap.mapVals {V : Type} [DecidableEq V] (d : Nat → V) (f : Nat → V → V) (m : SMap V) : SMap V :=
  m.foldr (fun e r => SMap.set d r e.1 (f e.1 e.2)) []

end Sys2Proof.Machine
end

