-- ==== Sys2Proof/Machine/State.lean ====
section
/-!
DEFINITION. The state of the package as plain data: every register, queue, table, memory and pin the manual
names, and the queue of waiting commands. State.reset is the package with both rails off (R458, R459).
-/

namespace Sys2Proof.Machine

/-- How a command can stop the machine: none does. Every command ends in a next state, so this type is empty
(safe: no claim leans on a stop). -/
inductive Fault where
  deriving DecidableEq, Repr

/-- Why a command has no meaning. -/
inductive Refusal where
  /-- Raised by Machine/Dispatch.lean alone for a row of the table without a meaning (safe: the machine stops). -/
  | notModelled (mnemonic : String)
  deriving DecidableEq, Repr

/-! ### Cores (05, 06, 04) -/

/-- The vector opcodes of classes 0x18 and 0x19 (Table 5.8). -/
inductive VOp where
  | vadd | vsub | vmul | vfma | vmin | vmax | vabs | vneg | vsel | vceq | vcne | vclt | vcle
  | viadd | vand | vor | vxor | vshl | vshr | vbcast | vlane | vredsum | vredmax
  | vrcp | vrsqrt | vsqrt | vexp2 | vlog2 | vexp | vln | vsigm | vtanh | vsilu
  | vcvt | vcvtfi | vcvtif | vrand | vdrop
  deriving DecidableEq, Repr

/-- The opcodes of class 0x1A (Table 5.9). -/
inductive MOp where
  | vld | vst | sld | sldd | sst | sstd
  deriving DecidableEq, Repr

/-- What an engine queue holds: an engine or synchronisation instruction, with the fault a detector raises
while it runs. -/
inductive EngOp where
  | mload (x : MLoadArgs) (hw : HwFault)
  | mswap
  | mstream (x : MStreamArgs) (gath : Bool) (hw : HwFault)
  | mdrain (x : MDrainArgs) (hw : HwFault)
  | vec (op : VOp) (x : VArgs)
  | vmem (op : MOp) (x : EArgs) (hw : HwFault)
  | tload (x : TMoveArgs)
  | tstore (x : TMoveArgs) (hw : HwFault)
  | tsend (x : TSendArgs) (voile : Bool) (hw : HwFault)
  | wopen (x : WinArgs)
  | wclose (x : WinArgs)
  | spost (l : Bool) (x : YArgs)
  | swait (l : Bool) (x : YArgs)
  | slock (x : YArgs)
  | sunlock (x : YArgs)
  | hpush (l : Bool) (x : YArgs)
  | hpop (l : Bool) (x : YArgs)
  deriving DecidableEq, Repr

/-- A register an instruction reads or writes (R116). -/
inductive RegName where
  | s (n : BitVec 5)
  | a (n : BitVec 4)
  | p (n : BitVec 3)
  deriving DecidableEq, Repr

/-- The kinds of engine instructions (R135). -/
inductive Period where
  | transfer
  | compute
  deriving DecidableEq, Repr

/-- A window table entry (R157): open with base, bound and filter, or closed. -/
structure Window where
  isOpen   : Bool
  base     : Nat
  bound    : Nat
  filter   : Nat
  fcore    : Nat
  fcluster : Nat
  deriving DecidableEq, Repr

/-- A closed window. -/
def Window.closed : Window := { isOpen := false, base := 0, bound := 0, filter := 0, fcore := 0, fcluster := 0 }

/-- A weight plane (R87): the code recorded at its load (none: empty, code 0xF), element k of column n at
64n + k, scale of block j of column n at 2n + j. -/
structure Plane where
  fmt    : Option Fmt
  elems  : SMap Nat
  scales : SMap Nat
  deriving DecidableEq, Repr

/-- An empty plane. -/
def Plane.empty : Plane := { fmt := none, elems := [], scales := [] }

/-- A gathered submission (R106, R108): destination, rows in all, and the flags of its rows so far. -/
structure GathSub where
  dest    : Bool
  acc     : Bool
  accBase : Nat
  aO      : Nat
  ostride : Nat
  rows    : Nat
  written : Nat
  flags   : FFlags
  deriving DecidableEq, Repr

/-- A row copied into the gatherer's buffer: its submission, its number in it, its elements and scales. -/
structure GathRow where
  sub    : Nat
  r      : Nat
  elems  : List Nat
  scales : List Nat
  deriving DecidableEq, Repr

/-- The row gatherer (R106): rows in copy order, submissions pending (the first is number `first`), and
whether the gather timeout has run out. -/
structure Gatherer where
  rows    : List GathRow
  subs    : List GathSub
  first   : Nat
  timeout : Bool
  deriving DecidableEq, Repr

/-- An empty gatherer. -/
def Gatherer.empty : Gatherer := { rows := [], subs := [], first := 0, timeout := false }

/-- An entry of an engine queue: the instruction, its PC, its place in program order, whether it waits at
the head on its condition, and the rows of a gathered submission copied so far. -/
structure QEntry where
  op      : EngOp
  pc      : Nat
  seq     : Nat
  waiting : Bool
  prog    : Nat
  deriving DecidableEq, Repr

/-- A barrier that an SBAR waits for: the word, the target value (R192) and TSEL (R126). -/
structure BarRef where
  cluster : Nat
  index   : Nat
  target  : Nat
  tsel    : Nat
  deriving DecidableEq, Repr

/-- What the sequencer is held by: a synchronisation instruction with Q = 0 (R126), the steps of SCOMMIT (R138),
END (R143) or SBAR (R192), and SBAR's wait for its generation. -/
inductive SeqHold where
  | none
  | op (e : QEntry)
  | commit
  | commitEnd
  | commitBar (b : BarRef)
  | barWait (b : BarRef)
  deriving DecidableEq, Repr

/-- The effect that a post-buffer entry carries (Table 5.6). -/
inductive PostKind where
  /-- An increment of a sync word of the own partition: global cluster and index. -/
  | add (cluster index : Nat) (inc : Nat)
  /-- An increment of a word of a peer (R190). -/
  | peerAdd (peer : Nat) (addr : Nat) (inc : Nat)
  /-- A barrier arrival (R192). -/
  | arrive (cluster index : Nat)
  /-- The release of a lock (R196). -/
  | unlock (cluster index : Nat)
  /-- A push into queue q of the core with the given key (R176). -/
  | push (core q slot : Nat) (desc : Word64)
  /-- The consumer's view of its own queue q, which becomes its CC at the commit (R176). -/
  | adv (q : Nat) (view : Nat)
  deriving DecidableEq, Repr

/-- A post-buffer entry (R139, R141): committed or not, with the context and the Selvedge tag it carries, the instruction
that made it and its place in program order. -/
structure PostEntry where
  kind      : PostKind
  committed : Bool
  ctx       : Nat
  tag       : Nat
  pc        : Nat
  seq       : Nat
  deriving DecidableEq, Repr

/-- The commit record (R138, R192). -/
structure CommitRec where
  pc    : Nat
  s     : SMap Word64
  a     : SMap Word64
  p     : BitVec 8
  phase : Nat
  flags : FFlags
  bar   : Option BarRef
  dispatched : Nat
  deriving DecidableEq, Repr

/-- The commit record of a core that holds no task. -/
def CommitRec.init : CommitRec :=
  { pc := 0, s := [], a := [], p := 0#8, phase := 0, flags := 0#4, bar := none, dispatched := 0 }

/-- A task descriptor (Table 10.3), with the number of its task instance. -/
structure TaskDesc where
  inst     : Nat
  ctx      : Nat
  pc       : Nat
  s0       : Word64
  s1       : Word64
  s2       : Word64
  s3       : Word64
  taskid   : Nat
  deriving DecidableEq, Repr

/-- The task a core runs: its instance, context and tag, and the STEP and Gauze key at its start (R55, R119). -/
structure RunTask where
  inst   : Nat
  ctx    : Nat
  taskid : Nat
  step   : Nat
  key    : Word64
  deriving DecidableEq, Repr

/-- The role of a logical core: in service; fenced and waiting for a spare; spare copying; lost (R358 to R363). -/
inductive Role where
  | inService
  | fenced
  | copying
  | lost
  deriving DecidableEq, Repr

/-- The smallest contiguous range that contains a transfer's rows (R166): the scratchpad destination of a TLOAD in
flight in words, or the memory of a TSTORE not yet acknowledged in bytes; `hi` lies beyond it. `pc`: the instruction.
`flags`: what a converting TLOAD sets when it retires (R163). -/
structure Flight where
  lo : Nat
  hi : Nat
  pc : Nat
  flags : FFlags
  deriving DecidableEq, Repr

/-- The scalar side of a core (Table 5.1). -/
structure Regs where
  pc    : Nat
  s     : SMap Word64
  a     : SMap Word64
  p     : BitVec 8
  lctr  : SMap Word64
  v     : SMap Word32
  phase : Nat
  deriving DecidableEq, Repr

/-- All registers 0 (assumption 3; R118 at a task start). -/
def Regs.zero : Regs := { pc := 0, s := [], a := [], p := 0#8, lctr := [], v := [], phase := 0 }

/-- The scratchpad of a core: words, poison marks (R148), the window table, and what a slot holds aside: the table (R296)
and the marks of the words that its save page holds (R297). A word unlisted in poison has the mark poisonAll. -/
structure Scratch where
  words     : SMap Word32
  poisonAll : Bool
  poison    : SMap Bool
  win       : SMap Window
  held      : Option (SMap Window)
  heldAll   : Bool
  heldPoison : SMap Bool
  deriving DecidableEq, Repr

/-- A zeroed scratchpad with closed windows. -/
def Scratch.zero : Scratch :=
  { words := [], poisonAll := false, poison := [], win := [], held := none, heldAll := false,
    heldPoison := [] }

/-- The matrix engine (04): planes, the active selector (true: B), the accumulator (key 64 row + column) and the
gatherer. -/
structure Mxe where
  planeA  : Plane
  planeB  : Plane
  activeB : Bool
  acc     : SMap Word32
  gath    : Gatherer
  deriving DecidableEq, Repr

/-- Planes empty, accumulator -0 (R94). -/
def Mxe.clear : Mxe :=
  { planeA := Plane.empty, planeB := Plane.empty, activeB := false, acc := [], gath := Gatherer.empty }

/-- Handle queues (R174, R176): local queues, and PC, CC, local view and slots (16q + slot) of the cross-core
queues this core consumes, with the cores that have pushed to and popped from each since they were last emptied (R175). -/
structure Handles where
  loc  : SMap (List Word64)
  pc   : SMap Nat
  cc   : SMap Nat
  view : SMap Nat
  slot : SMap Word64
  prod : SMap (List Nat)
  cons : SMap (List Nat)
  deriving DecidableEq, Repr

/-- Empty handle queues. -/
def Handles.empty : Handles := { loc := [], pc := [], cc := [], view := [], slot := [], prod := [], cons := [] }

/-- An acknowledgement on its way back to the sender of a TSEND (R160, R167): the sending context and tag, the words
dropped, whether the drop has been recorded at the destination in this package, and the scratchpad global address of the
first word dropped. -/
structure SendAck where
  ctx      : Nat
  tag      : Nat
  dropped  : Nat
  recorded : Bool
  dst      : Nat
  deriving DecidableEq, Repr

/-- Scratchpad words that a compute engine has read or written in the compute period under way (R156). -/
structure Touch where
  unit  : CoreUnit
  write : Bool
  words : List Nat
  deriving DecidableEq, Repr

/-- A step of an engine on a local counter (key 0 to 15: its new value), or on a local handle queue (key 32 + q a push, 48 + q
a pop): the accesses of the engine among the first `upto` of the period come before it. -/
structure SyncMark where
  key   : Nat
  value : Nat
  unit  : CoreUnit
  upto  : Nat
  deriving DecidableEq, Repr

/-- What orders the scratchpad accesses of the matrix and the vector engine in a compute period (R156): the accesses in the
order in which they acted, the steps on local counters and handle queues, and how many of the accesses each engine comes
after. -/
structure Races where
  touches : List Touch
  marks   : List SyncMark
  mxe     : Nat
  vxe     : Nat
  deriving DecidableEq, Repr

/-- No access yet. -/
def Races.none : Races := { touches := [], marks := [], mxe := 0, vxe := 0 }

/-- The queues and dispatch state of a core: engine queues, what holds the sequencer, whether it waits for the
engines to retire (R107), period and awaited period, TLOADs in flight, stores and sends not acknowledged,
acknowledgements on their way, the transfer grant, the extra grant of a replay (R357), the contexts of TLOADs and
TSTOREs whose read data or acknowledgement a context reset overtook (R387 step 4), the number of instructions
dispatched, which orders them (R139), and the accesses of the compute period (R156). -/
structure Disp where
  qM      : List QEntry
  qV      : List QEntry
  qT      : List QEntry
  hold    : SeqHold
  drain   : Bool
  period  : Option Period
  awaited : Option Period
  loads   : List Flight
  stores  : List Flight
  sends   : Nat
  acks    : List SendAck
  grant   : Bool
  extra   : Bool
  lateLoads  : List Nat
  lateStores : List Nat
  count   : Nat
  races   : Races
  deriving DecidableEq, Repr

/-- Empty queues, nothing held. -/
def Disp.idle : Disp :=
  { qM := [], qV := [], qT := [], hold := .none, drain := false, period := none, awaited := none, loads := [],
    stores := [], sends := 0, acks := [], grant := false, extra := false, lateLoads := [], lateStores := [],
    count := 0, races := Races.none }

/-- Flags of the three engines, and all flags set since the last SCOMMIT (R61, R63). -/
structure Flags4 where
  m   : FFlags
  v   : FFlags
  t   : FFlags
  seg : FFlags
  deriving DecidableEq, Repr

/-- No flag set. -/
def Flags4.zero : Flags4 := { m := 0#4, v := 0#4, t := 0#4, seg := 0#4 }

/-- A logical core with everything its slot and its cluster fabric hold for it (Table 5.1); `icache`: the 256 B lines of
context memory that its instruction cache holds (R114); `fencedAt`: when its slot was last fenced (R33). -/
structure Core where
  regs    : Regs
  icache  : List Nat
  sp      : Scratch
  mxe     : Mxe
  hq      : Handles
  disp    : Disp
  flags   : Flags4
  post    : List PostEntry
  crec    : CommitRec
  tasks   : List TaskDesc
  run     : Option RunTask
  segLong : Bool
  role    : Role
  fencedAt : Nat
  replay  : Bool
  deriving DecidableEq, Repr

/-- A core that holds no task. -/
def Core.init : Core :=
  { regs := Regs.zero, icache := [], sp := Scratch.zero, mxe := Mxe.clear, hq := Handles.empty, disp := Disp.idle,
    flags := Flags4.zero, post := [], crec := CommitRec.init, tasks := [], run := none, segLong := false,
    role := .inService, fencedAt := 0, replay := false }

/-! ### Synchronisation (07) -/

/-- The holder of a lock (R194). -/
structure Holder where
  ctx       : Nat
  cluster   : Nat
  core      : Nat
  tag       : Nat
  status    : Nat
  committed : Bool
  deriving DecidableEq, Repr

/-- A sync word: value, CONFIG (Table 7.1), lock holder and abandoned mark (R194, R197). -/
structure SyncWord where
  value     : Nat
  config    : Nat
  holder    : Option Holder
  abandoned : Bool
  deriving DecidableEq, Repr

/-- A sync word that reads 0 with CONFIG = 0 (R181). -/
def SyncWord.zero : SyncWord := { value := 0, config := 0, holder := none, abandoned := false }

/-- A watch (R186, R188), or a queued SLOCK request, of a core's queue head or sequencer on a word (global
cluster and index). -/
structure Watch where
  core    : Nat
  unit    : CoreUnit
  cluster : Nat
  index   : Nat
  target  : Nat
  isLock  : Bool
  deriving DecidableEq, Repr

/-- An arm slot (Table 7.8). -/
structure ArmSlot where
  word   : Nat
  enable : Bool
  target : Nat
  vector : Nat
  fired  : Bool
  resv0  : Nat
  resv2  : Nat
  deriving DecidableEq, Repr

/-- A disabled arm slot, at its defaults. -/
def ArmSlot.zero : ArmSlot :=
  { word := 0, enable := false, target := 0, vector := 0, fired := false, resv0 := 0, resv2 := 0 }

/-- Sync memory (key 4096 cluster + index), the watches in order of arrival, and arm slots (key 64 partition +
slot). -/
structure Sync where
  words   : SMap SyncWord
  watches : List Watch
  arms    : SMap ArmSlot
  deriving DecidableEq, Repr

/-- Sync memory cleared. -/
def Sync.zero : Sync := { words := [], watches := [], arms := [] }

/-! ### Stacked memory (08) -/

/-- A mapped page (R226 to R230): the frame that holds it, the owner's context and page, read-only mapping,
pinned, and the peer entry and page it is a replica of. -/
structure Page where
  stack : Nat
  frame : Nat
  owner : Nat
  opage : Nat
  ro    : Bool
  pin   : Bool
  repl  : Option (Nat × Nat)
  deriving DecidableEq, Repr

/-- A wire of a channel (R225): consecutive corrected reads that found it in error, the rows and times of those
that count, and whether it is erased. -/
structure WireRec where
  run    : Nat
  hits   : List (Nat × Nat)
  erased : Bool
  deriving DecidableEq, Repr

/-- A wire never found in error. -/
def WireRec.init : WireRec := { run := 0, hits := [], erased := false }

/-- A refill pending (R231): the line, the requests refused so far, whether it waits for a step boundary, and the request
that asked for it last with its place in it. -/
structure Refill where
  line  : Nat
  tries : Nat
  wait  : Bool
  req   : Nat
  idx   : Nat
  deriving DecidableEq, Repr

/-- A replicated frame that the scrubber of a stack reads through at once (R223): its next line, and how many are left. -/
structure Rescan where
  stack : Nat
  frame : Nat
  next  : Nat
  left  : Nat
  deriving DecidableEq, Repr

/-- A page on its way to another frame (R233). -/
structure Migr where
  ctx   : Nat
  vpage : Nat
  stack : Nat
  frame : Nat
  deriving DecidableEq, Repr

/-- The stacks and the memory manager. Keys: line = device physical address / 64; page = 2^27 context + virtual
page; wire = 72 (128 stack + channel) + wire; row = 12,288 (32 (128 stack + channel) + bank) + row. `refilled`: lines of
frames poisoned whole that a refill has delivered since (R219). -/
structure Mem where
  cells        : List Host.Cell
  poison       : SMap Bool
  poisonFrames : List Nat
  refilled     : SMap Bool
  wires        : SMap WireRec
  rowErr       : SMap (List (Nat × Nat))
  ues          : SMap (List (Nat × Nat))
  spare        : SMap Nat
  copying      : List Nat
  held         : List (Nat × LineReader)
  refills      : List Refill
  nextReq      : Nat
  scrubAt      : SMap Nat
  rescan       : List Rescan
  lastGroup    : SMap Nat
  pages        : SMap (Option Page)
  migr         : List Migr
  accesses     : SMap Nat
  prevWin      : SMap Nat
  retiring     : List Nat
  corrected    : List Nat
  served       : Bool
  deriving DecidableEq, Repr

/-- The stacks without power: nothing listed, nothing served. -/
def Mem.cold : Mem :=
  { cells := [], poison := [], poisonFrames := [], refilled := [], wires := [], rowErr := [], ues := [], spare := [],
    copying := [], held := [], refills := [], nextReq := 0, scrubAt := [], rescan := [], lastGroup := [], pages := [],
    migr := [], accesses := [], prevWin := [], retiring := [], corrected := [], served := false }

/-! ### Contexts, tasks, updates (09, 10) -/

/-- A task in flight (R289): its number, whether a core has started it, the cores of its group that have not ended it, its
DONEWORD, and the partition whose sequencer issued it. -/
structure TaskInst where
  id   : Nat
  started : Bool
  left : Nat
  done : Option Nat
  seq  : Option Nat
  deriving DecidableEq, Repr

/-- A group record of the update table as the UPEs read it (Table 9.3). -/
structure UpdGroup where
  kind   : Nat
  nest   : Bool
  clip   : Bool
  sched  : Nat
  lrMax  : Word32
  lrMin  : Word32
  warmup : Nat
  total  : Nat
  beta1  : Word32
  beta2  : Word32
  eps    : Word32
  lambda : Word32
  k      : Nat
  b1p    : Word32
  b2p    : Word32
  deriving DecidableEq, Repr

/-- A tensor record of the update table (Table 9.4). -/
structure TensorRec where
  master   : Nat
  mom1     : Nat
  mom2     : Nat
  grad     : Nat
  work     : Nat
  wscale   : Nat
  count    : Nat
  tensor   : Nat
  group    : Nat
  wfmt     : Nat
  wrnd     : Bool
  wsat     : Bool
  dig      : Nat
  exp      : Nat
  lcols    : Nat
  fullCols : Nat
  row0     : Nat
  col0     : Nat
  coord    : List Byte
  deriving DecidableEq, Repr

/-- The update table as captured at the trigger (R252). -/
structure UpdTable where
  clipNorm : Word32
  ceiling  : Word32
  peers    : List Nat
  groups   : List UpdGroup
  recs     : List TensorRec
  deriving DecidableEq, Repr

/-- No table captured. -/
def UpdTable.empty : UpdTable := { clipNorm := 0#32, ceiling := 0#32, peers := [], groups := [], recs := [] }

/-- Where a triggered step stands (R255): nothing, pre-pass, norm awaited, sweep, step boundary due. -/
inductive UpdStage where
  | idle
  | prePass
  | norm
  | sweep
  | boundary
  deriving DecidableEq, Repr

/-- The update engines' state of one context: next target, queued triggers, stage, step, table, sum of the pre-pass and
its non-finite bit, kept partials (peer, step, sum, non-finite), clip scale, skipped, groups swept (record, group), each
engine's last completed element (engine, record, element), the XOR of what the sweep changed by virtual address and the lines
of which it could not be formed (R277), the bytes that the sweep wrote and digests as written (R271), and whether this sweep
sends KEY records. -/
structure Upd where
  target   : Nat
  queued   : Nat
  stage    : UpdStage
  step     : Nat
  table    : UpdTable
  sum      : Nat
  nonfin   : Bool
  partials : List (Nat × Nat × Nat × Bool)
  scale    : Word32
  skipped  : Bool
  groups   : List (Nat × Nat)
  ends     : List (Nat × Nat × Nat)
  diff     : SMap Byte
  lost     : List Nat
  wrote    : SMap Byte
  keyed    : Bool
  deriving DecidableEq, Repr

/-- No step of the context is in progress. -/
def Upd.init : Upd :=
  { target := 0, queued := 0, stage := .idle, step := 0, table := UpdTable.empty, sum := 0, nonfin := false,
    partials := [], scale := 0x3F800000#32, skipped := false, groups := [], ends := [], diff := [], lost := [],
    wrote := [], keyed := false }

/-- Export of one context (R276 to R280): KEY records due, records waiting in the spill (offset in its area, length), a
GAP due, records of the current step dropped, a shard export that has not read its arrays, its records that wait, and a
request that waits for the step boundary. -/
structure Export where
  key     : Bool
  spill   : List (Nat × Nat)
  gap     : Bool
  dropped : Bool
  shard   : Bool
  shardQ  : List (List Byte)
  held    : Bool
  deriving DecidableEq, Repr

/-- Nothing exported yet: the first sweep sends KEY records (R277). -/
def Export.init : Export :=
  { key := true, spill := [], gap := false, dropped := false, shard := false, shardQ := [], held := false }

/-- Voting of one context (R366 to R368): the local digest with its step while the vote is open, digests of peers
(peer, step, digest), and a withheld DONE. -/
structure Vote where
  own      : Option (Nat × Nat)
  kept     : List (Nat × Nat × Nat)
  withheld : Bool
  deriving DecidableEq, Repr

/-- No vote held. -/
def Vote.init : Vote := { own := none, kept := [], withheld := false }

/-- A collective descriptor (Table 12.1) as the engine reads it. -/
structure CollDesc where
  kind   : Nat
  op     : Nat
  type   : Nat
  rings  : Nat
  root   : Nat
  count  : Nat
  nslot  : Nat
  stotal : Nat
  seglen : Nat
  stride : Nat
  src    : List Nat
  dst    : List Nat
  done   : Nat
  group  : Nat
  resv   : Bool
  deriving DecidableEq, Repr

/-- Where a collective stands (R337, R348): opening lap, confirmed, data phase, past its last step, or ended with a
status. -/
inductive CollStage where
  | opening
  | confirmed
  | data
  | moved
  | ended (status : Nat)
  deriving DecidableEq, Repr

/-- A piece of a block that has arrived (R347): what it carries, whether it moves toward OUT_PORT, its first element and
its length. -/
structure CollPiece where
  phase : CollPhase
  up    : Bool
  first : Nat
  len   : Nat
  deriving DecidableEq, Repr

/-- A collective issued and not complete: its generation, the address of its descriptor, the descriptor, lanes whose own
token has returned, the place on the lowest-numbered ring of the package before this one on each lane, messages of the data
phase that came before it (with their way), pieces that have arrived, messages from one end of a segment that wait at their
owner for those of the other, the chunk in progress on each lane (R347), and flags. -/
structure Coll where
  gen     : Nat
  addr    : Nat
  desc    : CollDesc
  stage   : CollStage
  lanes   : List Nat
  before  : SMap Nat
  inbox   : List (Bool × CollMsg)
  recv    : List CollPiece
  halves  : List CollMsg
  chunk   : SMap Nat
  flags   : FFlags
  deriving DecidableEq, Repr

/-- The stages of an evaluation slot of a parent (R296). -/
inductive EvalStage where
  | none
  | saving (e : Nat)
  | copied (e : Nat)
  | running (e : Nat) (expired : Bool)
  | restoring (e : Nat)
  deriving DecidableEq, Repr

/-- A peer table entry as cached in the I/O die (Table 11.7). -/
structure Peer where
  coord : Nat
  part  : Nat
  ctx   : Nat
  tag   : Nat
  valid : Bool
  deriving DecidableEq, Repr

/-- A context id (10): the cause while a reset is in progress, a delayed tag advance, tag values left and when,
first-drop records already written (bit 0 WIN_DROP_RX, 1 WIN_DROP_TX, 2 STALE_DROP, 3 LINK_DROP), tasks in
flight, descriptors read and not issued, tags of reads outstanding, a held CQ_TAIL; opening tokens held with the port they
came on, and generations not yet issued that another member has aborted (with a mismatch or not). -/
structure Ctx where
  resetting : Option Nat
  tagDelay  : Bool
  tagLeft   : List (Nat × Nat)
  first     : BitVec 4
  tasks     : List TaskInst
  cqRead    : List (BitVec 512)
  cqOut     : List Nat
  heldTail  : Option Nat
  eval      : EvalStage
  evalDue   : List Nat
  peers     : SMap (Option Peer)
  upd       : Upd
  exp       : Export
  vote      : Vote
  colls     : List Coll
  tokens    : List (Fin 6 × OpenToken)
  aborted   : List (Nat × Bool)
  deriving DecidableEq, Repr

/-- A context id that is FREE. -/
def Ctx.init : Ctx :=
  { resetting := none, tagDelay := false, tagLeft := [], first := 0#4, tasks := [], cqRead := [], cqOut := [],
    heldTail := none, eval := .none, evalDue := [], peers := [], upd := Upd.init, exp := Export.init,
    vote := Vote.init, colls := [], tokens := [], aborted := [] }

/-- A schedule entry (Table 10.5), with its template and group resolved. -/
structure SeqEntry where
  kind   : Nat
  vstage : Nat
  mb     : Nat
  gateEn : Bool
  gate   : Nat
  target : Nat
  pc     : Nat
  s0     : Word64
  done   : Nat
  clus0  : Nat
  ncl    : Nat
  cores  : Nat
  deriving DecidableEq, Repr

/-- A stage sequencer (R290 to R293): the table of the pass, the next entry, whether a pass is under way. -/
structure Seq where
  table  : List SeqEntry
  inc    : Nat
  next   : Nat
  inPass : Bool
  atBoundary : Bool
  left   : Nat
  deriving DecidableEq, Repr

/-- A stopped sequencer. -/
def Seq.stopped : Seq := { table := [], inc := 0, next := 0, inPass := false, atBoundary := false, left := 0 }

/-- The phase governor's state of a partition (R405 to R409): the stage of learning (0 to 2), steps since the last
relearn, a relearn requested, whether a plan was ever in force, points that the limiter holds core and fabric islands
below the plan, the factor by which lent shares raised its own at its last plan (num / den), the phase changes seen in
this step and the last (core, phase), and the index of the free point at which its cores run while it is not learned. -/
structure Gov where
  stage   : Nat
  steps   : Nat
  relearn : Bool
  planned : Bool
  coreLow : Nat
  fabLow  : Nat
  num     : Nat
  den     : Nat
  seen    : List (Nat × Nat)
  last    : Option (List (Nat × Nat))
  alike   : Nat
  deriving DecidableEq, Repr

/-- A governor that has not started: it begins to learn at the first step boundary. -/
def Gov.init : Gov :=
  { stage := 0, steps := 0, relearn := true, planned := false, coreLow := 0, fabLow := 0, num := 1, den := 1, seen := [],
    last := none, alike := 0 }

/-- A partition: partition reset in progress, its sequencer and its governor. -/
structure Part where
  resetting : Bool
  seq       : Seq
  gov       : Gov
  deriving DecidableEq, Repr

/-- An undefined partition. -/
def Part.init : Part := { resetting := false, seq := Seq.stopped, gov := Gov.init }

/-! ### Host interface (16) -/

/-- A memory command queue of a function (R428): fetched commands not yet performed, how many of them were read before a
function-level reset (Table 16.8), MQ_ERROR, and completions held until Bus Master Enable returns (R433). -/
structure MemQ where
  cmds  : List MemCmd
  stale : Nat
  error : Bool
  held  : List (List Byte)
  deriving DecidableEq, Repr

/-- An empty queue. -/
def MemQ.init : MemQ := { cmds := [], stale := 0, error := false, held := [] }

/-- A mailbox (Table 16.5): the request word, the status word and the data bytes. -/
structure Mailbox where
  op     : Nat
  status : Nat
  data   : SMap Byte
  deriving DecidableEq, Repr

/-- A mailbox at its defaults. -/
def Mailbox.init : Mailbox := { op := 0, status := 0, data := [] }

/-- The host interface: function registers (key 4096 function + offset), context pages (key 4096 context +
offset), mailboxes, MSI-X table (key 1024 function + byte offset of an 8-byte half), pending bits, Bus Master
Enable, function generations, memory command queues, functions whose aperture drop was recorded, functions under
reset, contexts whose descriptor read waits, link and configuration state. -/
structure HostIf where
  regs   : SMap Nat
  pages  : SMap Nat
  mbx    : SMap Mailbox
  msix   : SMap Nat
  pba    : SMap Nat
  bme    : SMap Bool
  gen    : SMap Nat
  mq     : SMap MemQ
  aptRec : List Nat
  flr    : List Nat
  pcieUp : Bool
  cfgUp  : Bool
  deriving DecidableEq, Repr

/-- The host interface after a reset of the physical function: defaults, no bus mastering. -/
def HostIf.init : HostIf :=
  { regs := [], pages := [], mbx := [], msix := [], pba := [], bme := [], gen := [], mq := [], aptRec := [],
    flr := [], pcieUp := false, cfgUp := false }

/-! ### Reliability (13, 14, 17) -/

/-- A fault log record (Table 13.7); arguments are listed, their placement in ARGS is not stated. -/
structure LogRec where
  time : Nat
  code : Nat
  part : Nat
  ctx  : Nat
  core : Nat
  slot : Nat
  args : List Nat
  deriving DecidableEq, Repr

/-- Why a slot is visited (R370, R452, R454). -/
inductive VisitKind where
  | rotation
  | selftest
  | diagnosis
  deriving DecidableEq, Repr

/-- A visit of a slot by Calico kernels: the condition in force (0 to 3) and whether any was deferred. -/
structure Visit where
  cluster : Nat
  slot    : Nat
  kind    : VisitKind
  cond    : Nat
  deferred : Bool
  deriving DecidableEq, Repr

/-- An action of a policy source in a scope (R382): its level, the core that a level-2 action replaces (R384), when it
completed (none: still in progress). -/
structure EscRec where
  source : Nat
  scope  : Nat
  level  : Nat
  core   : Option Nat
  ended  : Option Nat
  deriving DecidableEq, Repr

/-- Fault log (newest first), cursors per reader (0 I3C, 1 VDM, 2 + function), visits per die, next slot of the
rotation per die, visits queued, slots held in reserve, escalation history, resets in progress. -/
structure Rel where
  log      : List LogRec
  cursors  : SMap Nat
  visits   : SMap (Option Visit)
  next     : SMap Nat
  queued   : List Visit
  reserve  : List (Nat × Nat)
  esc      : List EscRec
  creset   : Bool
  selftest : Option Nat
  rets     : List (Nat × Nat)
  upeOut   : BitVec 16
  dieLost  : BitVec 4
  edgeOut  : BitVec 8
  edges    : SMap Nat
  ivr      : SMap Nat
  starved  : SMap (Option Nat)
  beyond   : SMap Bool
  deriving DecidableEq, Repr

/-- Nothing recorded. -/
def Rel.init : Rel :=
  { log := [], cursors := [], visits := [], next := [], queued := [], reserve := [], esc := [], creset := false,
    selftest := none, rets := [], upeOut := 0#16, dieLost := 0#4, edgeOut := 0#8, edges := [], ivr := [],
    starved := [], beyond := [] }

/-! ### Remote traffic and links (06, 11) -/

/-- A packet of remote words on its way to a core: the source (context, tag, logical core, partition-relative
cluster, own package or not), the destination core, its first word, the words, the message identity where the
packet came over a link, whether it travels on the Voile path (R171), and the words that another writer's packet reached
before them unordered (R30). -/
structure Packet where
  ctx     : Nat
  tag     : Nat
  score   : Nat
  scluster : Nat
  own     : Bool
  part    : Nat
  dst     : Option Nat
  word    : Nat
  data    : List Word32
  sender  : Option Nat
  reply   : Option MsgHeader
  voile   : Bool
  raced   : List Nat
  deriving DecidableEq, Repr

/-- A transport message: its TYPE (Table 11.8), the rest of its header and its payload. -/
structure Msg where
  kind    : Nat
  h       : MsgHeader
  payload : List Byte
  deriving DecidableEq, Repr

/-- A message sent and not yet acknowledged (R320): the sending core, its MSGID, context, tag, peer number, whether the
core counts it as a TSEND, its destination address, and whether this package itself recorded a drop of its words (R160). -/
structure Sent where
  core  : Nat
  msgid : Nat
  ctx   : Nat
  tag   : Nat
  peer  : Nat
  send  : Bool
  daddr : Nat
  recorded : Bool
  deriving DecidableEq, Repr

/-- A message that waits at a port, or is partly sent: a number of its own, its virtual channel, the flits of it already
sent, and the message. -/
structure TxMsg where
  id   : Nat
  vc   : Nat
  sent : Nat
  msg  : Msg
  deriving DecidableEq, Repr

/-- A flit in a replay buffer (R308): its SEQ, KIND, virtual channel and payload, with the message it is part of. -/
structure TxFlit where
  seq     : Nat
  kind    : Nat
  vc      : Nat
  payload : List Byte
  id      : Nat
  msg     : Option Msg
  deriving DecidableEq, Repr

/-- A port (R303 to R313): state code of PORT_STATE, next expected SEQ, next SEQ to send, replay buffer, the SEQ
last requested of this end and how often in succession, requests sent for the SEQ expected now, discarding until a
retransmission, credits per virtual channel, buffers freed and not yet returned, the channel of each class that had its
last turn, flits sent past each waiting class (R309), lanes dropped in each direction, lanes in error checking (transmit or
not, lane), messages that wait, the number of the next one, a retrain in progress, and the bytes of the message arriving on
each virtual channel. -/
structure Port where
  state   : Nat
  rxSeq   : Nat
  txSeq   : Nat
  replay  : List TxFlit
  reqSeq  : Nat
  reqRun  : Nat
  askRun  : Nat
  discard : Bool
  credits : SMap Nat
  owed    : SMap Nat
  turn    : SMap Nat
  passed  : SMap Nat
  txDrop  : BitVec 16
  rxDrop  : BitVec 16
  check   : List (Bool × Nat)
  queue   : List TxMsg
  nextId  : Nat
  retrain : Bool
  rx      : SMap (List Byte)
  deriving DecidableEq, Repr

/-- A port without power. -/
def Port.init : Port :=
  { state := 0, rxSeq := 0, txSeq := 0, replay := [], reqSeq := 0, reqRun := 0, askRun := 0, discard := false,
    credits := [], owed := [], turn := [], passed := [], txDrop := 0#16, rxDrop := 0#16, check := [], queue := [],
    nextId := 0, retrain := false, rx := [] }

/-- Links: ports, packets in the crossings, unacknowledged messages, MSGID counters, ring checks running
(partition, ring), collectives in the order in which they confirmed (context, generation). -/
structure Links where
  ports   : SMap Port
  packets : List Packet
  sent    : List Sent
  msgid   : SMap Nat
  checks  : List (Nat × Nat)
  order   : List (Nat × Nat)
  deriving DecidableEq, Repr

/-- No traffic. -/
def Links.init : Links := { ports := [], packets := [], sent := [], msgid := [], checks := [], order := [] }

/-- Global time (R326, R327): the counter, the value a backward correction waits for, this package's count when the
exchange under way began, the rate correction in parts per million with the part of a nanosecond it has built up, and
whether the counter has been locked since reset release. -/
structure GTime where
  count    : Nat
  hold     : Option Nat
  asked    : Option Nat
  rate     : Int
  frac     : Int
  locked   : Bool
  deriving DecidableEq, Repr

/-- A counter that has not started: no rate correction learned. -/
def GTime.init : GTime := { count := 0, hold := none, asked := none, rate := 0, frac := 0, locked := false }

/-! ### Power, platform, test (15, 18, 19) -/

/-- Power and thermal: samples of the last 10 ms, newest first (package draw, 12 V input in mV, draw of islands that the
governor does not set), the last sample, the last temperatures, readings in succession in which every sensor of a die was low
enough to leave a stage (key 4 die + stage), a rise that waits for the grid, points that the limiter holds the islands of
clusters in no partition below point 4, and samples until the points it last lowered are in force. -/
structure Power where
  samples : List (Nat × Nat × Nat)
  last    : Option PowerReading
  temps   : List Int
  below   : SMap Nat
  rise    : Bool
  coreLow : Nat
  fabLow  : Nat
  settle  : Nat
  deriving DecidableEq, Repr

/-- No sample taken. -/
def Power.init : Power :=
  { samples := [], last := none, temps := [], below := [], rise := false, coreLow := 0, fabLow := 0, settle := 0 }

/-- A firmware image in a slot: its SVN, version word, and whether it asks to raise the fused minimum. -/
structure FwSlot where
  svn     : Nat
  version : Nat
  raiseMin : Bool
  ok      : Bool
  deriving DecidableEq, Repr

/-- A firmware class (R470 to R472): slots A and B, the one marked active (true: B), the one running, the fused
minimum SVN. -/
structure Fw where
  a       : Option FwSlot
  b       : Option FwSlot
  activeB : Bool
  running : Option FwSlot
  fused   : Nat
  deriving DecidableEq, Repr

/-- A class as it leaves the factory (assumption 9). -/
def Fw.factory : Fw :=
  { a := some { svn := 1, version := 0x01000000, raiseMin := false, ok := true }, b := none, activeB := false,
    running := none, fused := 1 }

/-- The stages of start-up (Table 18.1): off, management booted and waiting for S, steps 3 to 4 done, flash records
applied, memory initialised, READY; stopped without READY until a new start-up; recovery. -/
inductive StartStage where
  | off
  | booted
  | calibrated
  | recordsApplied
  | memoryReady
  | ready
  | noReady
  | recovery
  deriving DecidableEq, Repr

/-- Rails, pins, start-up and firmware: the rails in range, the converters on, when the main rail came without the
auxiliary rail and whether that lasted too long (R458), reset inputs asserted (bit 0 PERST_N, bit 1 SYS_RST_N), lanes in
electrical idle, sampled straps, THERMTRIP_N, PWR_CYCLE_REQ_N, DEV_READY and ALERT_N (true: asserted), SYS_REFCLK lost, log
records lost with the stacks and not yet counted, what flash holds of the flash entries, firmware, how far the SPDM exchange
of a port has come (0 I3C, 1 VDM), and measurement 8. -/
structure Plat where
  aux      : Bool
  main     : Bool
  conv     : Bool
  mainAt   : Option Nat
  barred   : Bool
  stage    : StartStage
  rst      : BitVec 2
  idle     : Bool
  bist     : Bool
  strap    : BitVec 2
  thermtrip : Bool
  pwrCycle : Bool
  devReady : Bool
  alertN   : Bool
  refLost  : Bool
  lostLog  : Nat
  flash    : SMap Nat
  fwMgmt   : Fw
  fwComp   : Fw
  fwCal    : Fw
  spdm     : SMap Nat
  tested   : Bool
  deriving DecidableEq, Repr

/-- Both rails off (R458), reset inputs deasserted (assumption 8). -/
def Plat.cold : Plat :=
  { aux := false, main := false, conv := false, mainAt := none, barred := false, stage := .off, rst := 0#2, idle := true,
    bist := false, strap := 0#2, thermtrip := false, pwrCycle := false, devReady := false, alertN := false,
    refLost := false, lostLog := 0, flash := [], fwMgmt := Fw.factory, fwComp := Fw.factory, fwCal := Fw.factory,
    spdm := [], tested := false }

/-- The test access port (R494 to R498): the instruction code, open SIBs (0 SIB_IO, 1 + d SIB_Dd, 5 + s SIB_S of
stack s, 21 + s SIB_M of stack s), LBIST masks and statuses per die, IO_BIST status, STK_IF fields per stack. -/
structure Tap where
  ir       : Nat
  sibs     : SMap Bool
  lbMask   : SMap Nat
  lbStat   : SMap Nat
  ioStat   : Nat
  mbPat    : SMap Nat
  mbMask   : SMap Nat
  mbStat   : SMap Nat
  mbFail   : SMap Nat
  started  : Option Nat
  deriving DecidableEq, Repr

/-- The TAP after a reset: IDCODE selected, every SIB closed (Table 19.10, Table 19.12). -/
def Tap.init : Tap :=
  { ir := 2, sibs := [], lbMask := [], lbStat := [], ioStat := 0, mbPat := [], mbMask := [], mbStat := [],
    mbFail := [], started := none }

/-! ### What the device sends outside -/

/-- A message, completion or response that leaves the package. -/
inductive Out where
  /-- An MSI-X message of table entry v of function f (R431). -/
  | msix (f v : Nat)
  /-- NOTIFY over I3C (R443): the cause, global time and ALERT_STATUS. -/
  | notify (index sub time alert : Nat)
  /-- The answer to a dictionary access on an MCTP port: result and data. -/
  | dict (port : DictPort) (result : Nat) (data : List Byte)
  /-- A PLDM reading; none where the sensor is unavailable. -/
  | pldm (port : DictPort) (value : Option Int)
  /-- The result of a firmware update: accepted or refused. -/
  | firmware (port : DictPort) (accepted : Bool)
  /-- An SPDM response: the message code and its data. -/
  | spdm (port : DictPort) (code : Nat) (data : List Byte)
  /-- An upstream read. -/
  | read (f addr len : Nat)
  /-- An upstream write. -/
  | write (f addr : Nat) (data : List Byte)
  /-- The completion of a BAR2 read; ep marks poisoned data. -/
  | complete (f : Nat) (data : List Byte) (ep : Bool)
  /-- An advisory error reported through AER (R430). -/
  | aer (f : Nat)
  /-- A flit sent on a port, its 256 bytes (R307). -/
  | flit (port : Nat) (bytes : List Byte)
  /-- The data register in the scan path of the test access port: its length in bits and what it captured, the bit
  nearest TDO least significant. -/
  | tdo (len bits : Nat)
  deriving DecidableEq, Repr

/-! ### The package -/

/-- The whole package, with the queue of waiting commands. -/
structure State where
  pending : List Instr
  freeCtr : Nat
  now     : Nat
  out     : List Out
  cores   : SMap Core
  grants  : SMap (List Nat)
  sync    : Sync
  mem     : Mem
  ctxs    : SMap Ctx
  parts   : SMap Part
  nextId  : Nat
  dict    : SMap Nat
  live    : SMap (Option Nat)
  host    : HostIf
  rel     : Rel
  links   : Links
  gtime   : GTime
  power   : Power
  plat    : Plat
  tap     : Tap
  deriving DecidableEq, Repr

/-- The package right after reset, before anything is applied to it: both rails off (R458, R459, R467 cold start).
Every dictionary entry reads its default; nothing is listed in memory; no command waits. -/
def State.reset : State :=
  { pending := [], freeCtr := 0, now := 0, out := [], cores := [], grants := [], sync := Sync.zero, mem := Mem.cold,
    ctxs := [], parts := [], nextId := 0, dict := [], live := [], host := HostIf.init, rel := Rel.init,
    links := Links.init, gtime := GTime.init,
    power := Power.init, plat := Plat.cold, tap := Tap.init }

end Sys2Proof.Machine
end

