-- ==== Sys2Proof/Machine/Ops.lean ====
section
/-!
DEFINITION. The operations every family of commands shares: dictionary entries and their fields (R438), contexts,
partitions and cores by number (R35, R36), the fault log (R376), cause bits and MSI-X messages (R431),
notifications, alerts and watermarks (R449 to R451), and free values.
-/

namespace Sys2Proof.Machine

open Sys2Proof

/-! ### Bit fields of numbers -/

/-- Bits [lo + n - 1 : lo] of v. -/
def bitsAt (v lo n : Nat) : Nat := v / 2 ^ lo % 2 ^ n

/-- v with bits [lo + n - 1 : lo] replaced by x. -/
def putBits (v lo n x : Nat) : Nat := v - bitsAt v lo n * 2 ^ lo + x % 2 ^ n * 2 ^ lo

/-- One bit as a number. -/
def b2n (b : Bool) : Nat := if b then 1 else 0

/-- The numbers of the set bits of v below n, ascending. -/
def setBits (v n : Nat) : List Nat := (List.range n).filter v.testBit

/-- A number from bytes, the first byte least significant (R10). -/
def leNat : List Byte → Nat
  | [] => 0
  | b :: l => b.toNat + 256 * leNat l

/-- The n bytes of v, the first byte least significant (R10). -/
def leBytes (n v : Nat) : List Byte := (List.range n).map fun i => BitVec.ofNat 8 (v / 256 ^ i)

/-- Bytes [i, i + n) of a list as a number. -/
def fieldAt (l : List Byte) (i n : Nat) : Nat := leNat ((l.drop i).take n)

/-- The two's complement reading of a 32-bit value. -/
def toI32 (v : Nat) : Int := if v % 4294967296 < 2147483648 then (v % 4294967296 : Nat) else (v % 4294967296 : Nat) - (4294967296 : Int)

/-- The 32-bit two's complement word of an integer. -/
def ofI32 (x : Int) : Nat := (x % 4294967296).toNat

/-! ### Dictionary entries -/

/-- The value in force of the entry with key k. -/
def State.ent (s : State) (k : Nat) : Nat := SMap.get Catalog.dflt s.dict k

/-- Set the value in force of an entry. -/
def State.setEnt (s : State) (k v : Nat) : State := { s with dict := SMap.set Catalog.dflt s.dict k v }

/-- Bit b of an entry. -/
def State.entBit (s : State) (k b : Nat) : Bool := (s.ent k).testBit b

/-- Bits [lo + n - 1 : lo] of an entry. -/
def State.entBits (s : State) (k lo n : Nat) : Nat := bitsAt (s.ent k) lo n

/-- Replace bits [lo + n - 1 : lo] of an entry. -/
def State.setEntBits (s : State) (k lo n x : Nat) : State := s.setEnt k (putBits (s.ent k) lo n x)

/-- Set or clear bit b of an entry. -/
def State.setEntBit (s : State) (k b : Nat) (on : Bool) : State := s.setEntBits k b 1 (b2n on)

/-- Raise a count, which saturates at the top of its type. -/
def State.bumpBy (s : State) (k n : Nat) : State :=
  s.setEnt k (Nat.min (s.ent k + n)
    (match Catalog.row k with
      | some r => 256 ^ r.size - 1
      | none => s.ent k + n))

/-- Raise a count by 1. -/
def State.bump (s : State) (k : Nat) : State := s.bumpBy k 1

/-! ### Free values -/

/-- Take a free number (assumption 2). -/
def State.freeNat (s : State) : Nat × State := (Config.freeNat s.freeCtr, { s with freeCtr := s.freeCtr + 1 })

/-- Take a free truth value (assumption 2). -/
def State.freeBool (s : State) : Bool × State := (Config.freeBool s.freeCtr, { s with freeCtr := s.freeCtr + 1 })

/-! ### Contexts, partitions, cores -/

/-- Context id n. -/
def State.ctx (s : State) (n : Nat) : Ctx := SMap.get (fun _ => Ctx.init) s.ctxs n

/-- Set context id n. -/
def State.setCtx (s : State) (n : Nat) (c : Ctx) : State :=
  { s with ctxs := SMap.set (fun _ => Ctx.init) s.ctxs n c }

/-- Change context id n. -/
def State.modCtx (s : State) (n : Nat) (f : Ctx → Ctx) : State := s.setCtx n (f (s.ctx n))

/-- Partition k. -/
def State.part (s : State) (k : Nat) : Part := SMap.get (fun _ => Part.init) s.parts k

/-- Set partition k. -/
def State.setPart (s : State) (k : Nat) (p : Part) : State :=
  { s with parts := SMap.set (fun _ => Part.init) s.parts k p }

/-- Change partition k. -/
def State.modPart (s : State) (k : Nat) (f : Part → Part) : State := s.setPart k (f (s.part k))

/-- The logical core with key k = 24 x global cluster + core. -/
def State.core (s : State) (k : Nat) : Core := SMap.get (fun _ => Core.init) s.cores k

/-- Set a logical core. -/
def State.setCore (s : State) (k : Nat) (c : Core) : State :=
  { s with cores := SMap.set (fun _ => Core.init) s.cores k c }

/-- Change a logical core. -/
def State.modCore (s : State) (k : Nat) (f : Core → Core) : State := s.setCore k (f (s.core k))

/-- The key of a logical core. -/
def coreKey (c : CoreId) : Nat := 24 * c.cluster.val + c.core.val

/-- CTX_DEF VALID. -/
def State.ctxValid (s : State) (n : Nat) : Bool := Nat.blt n 64 && s.entBit (Ent.ctxDef n) 0

/-- CTX_DEF EVAL. -/
def State.ctxEval (s : State) (n : Nat) : Bool := s.entBit (Ent.ctxDef n) 1

/-- The partition of a context. -/
def State.ctxPart (s : State) (n : Nat) : Nat := s.entBits (Ent.ctxDef n) 2 4

/-- The context whose clusters a context uses: itself, or the PARENT of an evaluation context (R286). -/
def State.ctxHome (s : State) (n : Nat) : Nat := if s.ctxEval n then s.entBits (Ent.ctxDef n) 6 6 else n

/-- Whether n is a context of partition k. -/
def State.ctxOf (s : State) (k n : Nat) : Bool := s.ctxValid n && s.ctxPart n == k

/-- The contexts of partition k, ascending. -/
def State.ctxsOf (s : State) (k : Nat) : List Nat := (List.range 64).filter (s.ctxOf k)

/-- The evaluation contexts of a parent, ascending. -/
def State.evalsOf (s : State) (n : Nat) : List Nat :=
  (List.range 64).filter fun e => s.ctxValid e && s.ctxEval e && s.ctxHome e == n

/-- The current Selvedge tag of a context (R392). -/
def State.tag (s : State) (n : Nat) : Nat := s.ent (Ent.selvedgeTag n)

/-- Whether traffic that carries a tag matches (R392): never while a tag advance is delayed (R393). -/
def State.tagOk (s : State) (n tag : Nat) : Bool := s.tag n == tag && !(s.ctx n).tagDelay

/-- The global clusters of partition k, ascending (R35). -/
def State.partClusters (s : State) (k : Nat) : List Nat := setBits (s.ent (Ent.partClusters k)) 64

/-- Whether partition k is defined (R283). -/
def State.partDefined (s : State) (k : Nat) : Bool := Nat.blt k 16 && s.ent (Ent.partClusters k) != 0

/-- The global cluster of a partition-relative cluster number (R35). -/
def State.globalCluster (s : State) (k rel : Nat) : Option Nat := (s.partClusters k)[rel]?

/-- The partition-relative number of a global cluster of partition k (R35). -/
def State.relCluster (s : State) (k c : Nat) : Nat := ((s.partClusters k).filter (fun g => Nat.blt g c)).length

/-- The partition that holds a global cluster (R282). -/
def State.clusterPart (s : State) (c : Nat) : Option Nat :=
  (List.range 16).find? fun k => s.entBit (Ent.partClusters k) c

/-- The scratchpad global address of word w of core k in partition p (Table 1.7). -/
def State.globalAddr (s : State) (p k w : Nat) : Nat := w % 2 ^ 19 + 2 ^ 19 * (k % 24) + 2 ^ 24 * s.relCluster p (k / 24)

/-- The global clusters bound to a context, or to its parent (R286, R288). -/
def State.boundClusters (s : State) (n : Nat) : List Nat :=
  (setBits (s.ent (Ent.ctxClusters (s.ctxHome n))) 64).filterMap (s.globalCluster (s.ctxPart n))

/-- The cores of the bound clusters of a context. -/
def State.boundCores (s : State) (n : Nat) : List Nat :=
  (s.boundClusters n).flatMap fun c => (List.range 24).map fun j => 24 * c + j

/-- The cores that run a task of context n. -/
def State.runningCores (s : State) (n : Nat) : List Nat :=
  s.cores.filterMap fun e =>
    match e.2.run with
    | some r => if r.ctx = n then some e.1 else none
    | none => none

/-- Change every core of a list. -/
def State.modCores (s : State) (l : List Nat) (f : Core → Core) : State := l.foldl (fun s k => s.modCore k f) s

/-- The physical place of a logical core, from CORE_MAP (Table 13.8): global cluster and slot. -/
def State.slotOf (s : State) (k : Nat) : Nat × Nat :=
  (s.entBits (Ent.coreMap (k / 24)) (16 * (k % 24) + 5) 6, s.entBits (Ent.coreMap (k / 24)) (16 * (k % 24)) 5)

/-- Whether CORE_MAP marks a logical core LOST (R363). -/
def State.coreLost (s : State) (k : Nat) : Bool := s.entBit (Ent.coreMap (k / 24)) (16 * (k % 24) + 15)

/-- The standby spare slot of a cluster; 31: none (Table 13.8). -/
def State.spareOf (s : State) (c : Nat) : Nat := s.entBits (Ent.coreMap c) 384 5

/-- Whether a physical slot is fenced (Table 13.8). -/
def State.slotFenced (s : State) (c slot : Nat) : Bool := s.entBit (Ent.fenced c) slot

/-- The die of a global cluster (R14): 16 clusters a die. -/
def dieOf (c : Nat) : Nat := c / 16

/-! ### What leaves the device -/

/-- Record a message that leaves the device. -/
def State.emit (s : State) (o : Out) : State := { s with out := s.out ++ [o] }

/-- A register of function f at an offset (Table 16.3); MQ_SIZE defaults to 16. -/
def fnDefault (k : Nat) : Nat := if k % 4096 = 0x050 then 16 else 0

/-- The stored value of a function register. -/
def State.fn (s : State) (f off : Nat) : Nat := SMap.get fnDefault s.host.regs (4096 * f + off)

/-- Set a function register. -/
def State.setFn (s : State) (f off v : Nat) : State :=
  { s with host := { s.host with regs := SMap.set fnDefault s.host.regs (4096 * f + off) v } }

/-- Raise a 32-bit saturating count of a function (HOST_DROP, APT_DROP). -/
def State.bumpFn (s : State) (f off : Nat) : State := s.setFn f off (Nat.min (s.fn f off + 1) 4294967295)

/-- Count a BAR0 access that was dropped (HOST_DROP). -/
def State.hostDrop (s : State) (f : Nat) : State := s.bumpFn f 0x028

/-- A context page register (Table 16.4); CQ_SIZE defaults to 64. -/
def pageDefault (k : Nat) : Nat := if k % 4096 = 0x008 then 64 else 0

/-- The stored value of a context page register. -/
def State.pg (s : State) (n off : Nat) : Nat := SMap.get pageDefault s.host.pages (4096 * n + off)

/-- Set a context page register. -/
def State.setPg (s : State) (n off v : Nat) : State :=
  { s with host := { s.host with pages := SMap.set pageDefault s.host.pages (4096 * n + off) v } }

/-- Bus Master Enable of a function. -/
def State.bme (s : State) (f : Nat) : Bool := SMap.get (fun _ => false) s.host.bme f

/-- What an unwritten half of an MSI-X table entry reads as: masked vector control in the second half (PCIe; log
assumption 6). -/
def msixDefault (k : Nat) : Nat := if k % 16 = 8 then 4294967296 else 0

/-- A half (8 bytes) of the MSI-X table of function f, by byte offset. -/
def State.msixHalf (s : State) (f off : Nat) : Nat := SMap.get msixDefault s.host.msix (1024 * f + off)

/-- Whether a table entry is masked: bit 0 of its vector control. -/
def State.msixMasked (s : State) (f v : Nat) : Bool := (s.msixHalf f (16 * v + 8)).testBit 32

/-- Pending bits of a function. -/
def State.pba (s : State) (f : Nat) : Nat := SMap.get (fun _ => 0) s.host.pba f

/-- Set the pending bits of a function. -/
def State.setPba (s : State) (f v : Nat) : State :=
  { s with host := { s.host with pba := SMap.set (fun _ => 0) s.host.pba f v } }

/-- Send the message of table entry v of function f (R431): held as a pending bit while Bus Master Enable is 0
(Table 16.7) or the entry is masked; a vector beyond the table sends nothing (R202). -/
def State.msix (s : State) (f v : Nat) : State :=
  if Nat.ble 64 v then s
  else if s.bme f && !s.msixMasked f v then s.emit (.msix f v)
  else s.setPba f (putBits (s.pba f) v 1 1)

/-- Send the pending messages of a function that may now be sent, in ascending order of entry. -/
def State.flushPba (s : State) (f : Nat) : State :=
  if s.bme f then
    (setBits (s.pba f) 64).foldl (fun s v =>
      if s.msixMasked f v then s else (s.setPba f (putBits (s.pba f) v 1 0)).emit (.msix f v)) s
  else s

/-- Set cause bit b of function f (R431): its message is sent when the bit changes from 0 to 1 and its EVENT_EN bit
is 1. -/
def State.cause (s : State) (f b : Nat) : State :=
  if (s.fn f 0x010).testBit b then s
  else if (s.fn f 0x020).testBit b then
    (s.setFn f 0x010 (putBits (s.fn f 0x010) b 1 1)).msix f (bitsAt (s.fn f 0x018) (8 * b) 6)
  else s.setFn f 0x010 (putBits (s.fn f 0x010) b 1 1)

/-- Set CQ_EVENT bit b of a context's page, which sets CTX in the partition's function (Table 16.3). -/
def State.cqEvent (s : State) (n b : Nat) : State :=
  (s.setPg n 0x020 (putBits (s.pg n 0x020) b 1 1)).cause (s.ctxPart n + 1) 0

/-! ### The fault log -/

/-- The number of records the log holds: 4,096 in the I/O die and 1,048,576 in the overflow (R376). -/
def logCap : Nat := 4096 + 1048576

/-- Write a record (R376): LOG_HEAD rises, the oldest record is discarded and counted when the log is full, and
FAULT is set in the functions that can see the record. -/
def State.logRec (s : State) (r : LogRec) : State :=
  let s1 := { s with rel := { s.rel with log := (r :: s.rel.log).take logCap } }
  let s2 := s1.bump Ent.logHead
  let s3 := if Nat.ble logCap s.rel.log.length then s2.bump Ent.logLost else s2
  let s4 := s3.cause 0 3
  if Nat.blt r.part 16 then s4.cause (r.part + 1) 3 else s4

/-- A package-wide record. -/
def State.log (s : State) (code : Nat) (args : List Nat) : State :=
  s.logRec { time := s.gtime.count, code := code, part := 0xFF, ctx := 0xFF, core := 0, slot := 0, args := args }

/-- A record of a physical slot. -/
def State.logSlot (s : State) (code c slot : Nat) (args : List Nat) : State :=
  s.logRec { time := s.gtime.count, code := code, part := (s.clusterPart c).getD 0xFF, ctx := 0xFF, core := 0,
             slot := slot + 32 * c, args := args }

/-- A record of a slot under test or diagnosis: it belongs to no partition (R203, R371). -/
def State.logTested (s : State) (code c slot : Nat) (args : List Nat) : State :=
  s.logRec { time := s.gtime.count, code := code, part := 0xFF, ctx := 0xFF, core := 0, slot := slot + 32 * c,
             args := args }

/-- A record of a context. -/
def State.logCtx (s : State) (code n : Nat) (args : List Nat) : State :=
  s.logRec { time := s.gtime.count, code := code, part := if s.ctxValid n then s.ctxPart n else 0xFF, ctx := n,
             core := 0, slot := 0, args := args }

/-- A record of a partition. -/
def State.logPart (s : State) (code k : Nat) (args : List Nat) : State :=
  s.logRec { time := s.gtime.count, code := code, part := k, ctx := 0xFF, core := 0, slot := 0, args := args }

/-- A record that names a logical core and its slot, for a context. -/
def State.logCore (s : State) (code n k : Nat) (args : List Nat) : State :=
  s.logRec { time := s.gtime.count, code := code, part := if s.ctxValid n then s.ctxPart n else 0xFF, ctx := n,
             core := k % 24 + 32 * (k / 24), slot := (s.slotOf k).2 + 32 * (s.slotOf k).1, args := args }

/-- A record of an access to the stacks, for the agent that made it: a core that runs a task, a context, the function of a
host access, or the package (Table 13.7). -/
def State.logAgent (s : State) (code : Nat) (who : LineReader) (args : List Nat) : State :=
  match who with
  | .core c _ =>
    match (s.core (coreKey c)).run with
    | some r => s.logCore code r.ctx (coreKey c) args
    | none => s.log code args
  | .context n => s.logCtx code n args
  | .host f => if f.val = 0 then s.log code args else s.logPart code (f.val - 1) args
  | .exporter | .peer | .manager | .copier => s.log code args

/-- A record of a slot that holds logical core k: it names both, and the context whose task the core runs. -/
def State.logHeld (s : State) (code k : Nat) (args : List Nat) : State :=
  s.logRec { time := s.gtime.count, code := code, part := (s.clusterPart (k / 24)).getD 0xFF,
             ctx := ((s.core k).run.map fun r => r.ctx).getD 0xFF, core := k % 24 + 32 * (k / 24),
             slot := (s.slotOf k).2 + 32 * (s.slotOf k).1, args := args }

/-- The codes of Table 17.11. -/
def Code.formatMismatch : Nat := 0x0101
def Code.illegalInstruction : Nat := 0x0102
def Code.postOverflow : Nat := 0x0103
def Code.segmentLong : Nat := 0x0104
def Code.misalignedTransfer : Nat := 0x0105
def Code.windowDrop : Nat := 0x0106
def Code.spCorrected : Nat := 0x0107
def Code.taskGroup : Nat := 0x0108
def Code.syncConfigInvalid : Nat := 0x0201
def Code.syncOwner : Nat := 0x0202
def Code.syncMode : Nat := 0x0203
def Code.syncSaturated : Nat := 0x0204
def Code.lockNotOwner : Nat := 0x0205
def Code.syncRemoteDrop : Nat := 0x0206
def Code.syncAddress : Nat := 0x0207
def Code.poisonConsumed : Nat := 0x0301
def Code.poisonHostRead : Nat := 0x0302
def Code.poisonPartialWrite : Nat := 0x0303
def Code.scrubUe : Nat := 0x0304
def Code.refillFail : Nat := 0x0305
def Code.unmapped : Nat := 0x0306
def Code.protection : Nat := 0x0307
def Code.wireErased : Nat := 0x0308
def Code.rowRetired : Nat := 0x0309
def Code.groupRetired : Nat := 0x030A
def Code.capacityShort : Nat := 0x030B
def Code.resvShrunk : Nat := 0x030C
def Code.poisonFull : Nat := 0x030D
def Code.updTableInvalid : Nat := 0x0401
def Code.stepSkipped : Nat := 0x0402
def Code.normTimeout : Nat := 0x0403
def Code.upeFailed : Nat := 0x0404
def Code.sweepAborted : Nat := 0x0405
def Code.seqTableInvalid : Nat := 0x0406
def Code.evalSaveUnmapped : Nat := 0x0407
def Code.edgeRetrain : Nat := 0x0501
def Code.edgeOut : Nat := 0x0502
def Code.dieLost : Nat := 0x0503
def Code.laneDrop : Nat := 0x0504
def Code.portState : Nat := 0x0505
def Code.linkDrop : Nat := 0x0506
def Code.ringMismatch : Nat := 0x0507
def Code.gtStep : Nat := 0x0508
def Code.fence : Nat := 0x0601
def Code.degraded : Nat := 0x0602
def Code.coreLost : Nat := 0x0603
def Code.voteMissing : Nat := 0x0604
def Code.damaskPeerOdd : Nat := 0x0605
def Code.damaskOdd : Nat := 0x0606
def Code.damaskRollback : Nat := 0x0607
def Code.calicoDeferred : Nat := 0x0608
def Code.calicoFail : Nat := 0x0609
def Code.unitReturned : Nat := 0x060A
def Code.selftest : Nat := 0x060B
def Code.seqStall : Nat := 0x0701
def Code.qheadStall : Nat := 0x0702
def Code.waitTimeout : Nat := 0x0703
def Code.heartbeat : Nat := 0x0704
def Code.creditStarved : Nat := 0x0705
def Code.collStall : Nat := 0x0706
def Code.resetStuck : Nat := 0x0707
def Code.contextReset : Nat := 0x0708
def Code.staleDrop : Nat := 0x0709
def Code.partitionReset : Nat := 0x070A
def Code.computeReset : Nat := 0x070B
def Code.hostReset : Nat := 0x070C
def Code.ivrPhase : Nat := 0x0801
def Code.capUnmet : Nat := 0x0802
def Code.thermStage : Nat := 0x0803
def Code.replayThrottled : Nat := 0x0804
def Code.thermTrip : Nat := 0x0805
def Code.hostReadError : Nat := 0x0901
def Code.apertureDrop : Nat := 0x0902
def Code.watermark : Nat := 0x0903
def Code.alert : Nat := 0x0904

/-- The types of stale traffic that are no message, in the record's arguments (assumption 21); a message has its TYPE. -/
def Stale.word : Nat := 0x20
def Stale.release : Nat := 0x21
def Stale.read : Nat := 0x22
def Stale.store : Nat := 0x23
def Stale.send : Nat := 0x24
def Stale.completion : Nat := 0x25

/-- Count traffic dropped under R392; the first since a clear is recorded with its type and source. -/
def State.staleDropBy (s : State) (n count : Nat) (args : List Nat) : State :=
  let s1 := s.bumpBy (Ent.staleDrop n) count
  if count = 0 || (s.ctx n).first.getLsbD 2 then s1
  else (s1.modCtx n (fun c => { c with first := c.first ||| 4#4 })).logCtx Code.staleDrop n args

/-- Count one request, reply or release dropped under R392. -/
def State.staleDrop (s : State) (n : Nat) (args : List Nat) : State := s.staleDropBy n 1 args

/-! ### Notifications, alerts, watermarks -/

/-- A notification of an entry (R451): NOTIFY over I3C while NOTIFY_EN is 1, DICT in the physical function and in
the function of the partition of a vote, and a log record that names the entry. -/
def State.notify (s : State) (code key : Nat) (votePart : Option Nat) : State :=
  let s1 := if s.ent Ent.notifyEn = 0 then s
    else s.emit (.notify (key / 256) (key % 256) s.gtime.count (s.ent Ent.alertStatus))
  let s2 := s1.cause 0 2
  let s3 := match votePart with
    | some k => s2.cause (k + 1) 2
    | none => s2
  s3.log code [key / 256, key % 256]

/-- ALERT_N follows ALERT_STATUS AND ALERT_ENABLE (R450); its assertion sets ALERT in the physical function. -/
def State.updateAlertN (s : State) : State :=
  let on := s.ent Ent.alertStatus &&& s.ent Ent.alertEnable != 0
  let s1 := { s with plat := { s.plat with alertN := on } }
  if on && !s.plat.alertN then s1.cause 0 4 else s1

/-- Set an ALERT_STATUS bit (Table 17.8, R450); a newly set bit is a notification (R451). -/
def State.alertFor (s : State) (b : Nat) (votePart : Option Nat) : State :=
  if s.entBit Ent.alertStatus b then s
  else ((s.setEntBit Ent.alertStatus b true).updateAlertN).notify Code.alert Ent.alertStatus votePart

/-- Set an ALERT_STATUS bit that belongs to no vote. -/
def State.alert (s : State) (b : Nat) : State := s.alertFor b none

/-- The bit of WM_ALERT of a watermark (Table 17.12). -/
def wmBit (index : Nat) : Nat := if Nat.ble 0x6030 index then index - 0x6030 + 3 else index - 0x4030

/-- Whether a watermark crosses downward (Tables 8.10 and 15.7). -/
def wmFalls (index : Nat) : Bool := index == 0x4032 || index == 0x6032

/-- Judge a watermark's level against its mark (R449): a change from not beyond to beyond is a crossing edge. -/
def State.wmJudge (s : State) (index : Nat) : State :=
  let lvl := s.ent (256 * index + 1)
  let mark := s.ent (256 * index + 2)
  let now := if wmFalls index then Nat.blt lvl mark else Nat.blt mark lvl
  let was := SMap.get (fun _ => false) s.rel.beyond index
  let s1 := { s with rel := { s.rel with beyond := SMap.set (fun _ => false) s.rel.beyond index now } }
  if now && !was then
    let s2 := ((s1.setEnt (256 * index + 3) 1).bump (256 * index + 4)).notify Code.watermark (256 * index + 3) none
    if s2.entBit Ent.wmAlert (wmBit index) then s2.alert 6 else s2
  else s1

/-- Set a watermark's level and judge it. -/
def State.wmLevel (s : State) (index lvl : Nat) : State := (s.setEnt (256 * index + 1) lvl).wmJudge index

/-- A write of MARK restarts the watermark as not beyond, then judges the level (R449). -/
def State.wmMark (s : State) (index mark : Nat) : State :=
  State.wmJudge { (s.setEnt (256 * index + 2) mark) with
    rel := { s.rel with beyond := SMap.set (fun _ => false) s.rel.beyond index false } } index

/-- Request a drain (R375): DRAIN_REQ and the DRAIN alert. -/
def State.drain (s : State) : State := (s.setEnt Ent.drainReq 1).alert 0

/-- Set bit b of REPLACE, which requests a drain (R374, R375). -/
def State.setReplace (s : State) (b : Nat) : State := (s.setEntBit Ent.replace b true).drain

end Sys2Proof.Machine
end

