-- ==== Sys2Proof/Machine/SyncOps.lean ====
section
/-!
DEFINITION. Sync words, locks and arm slots (07): what every command that reaches a sync word shares.
-/

namespace Sys2Proof.Machine

open Sys2Proof

/-- The key of a sync word: 4,096 x global cluster + index. -/
def wordKey (cluster index : Nat) : Nat := 4096 * cluster + index

/-- The sync word with a key. -/
def State.word (s : State) (k : Nat) : SyncWord := SMap.get (fun _ => SyncWord.zero) s.sync.words k

/-- Set a sync word. -/
def State.setWord (s : State) (k : Nat) (w : SyncWord) : State :=
  { s with sync := { s.sync with words := SMap.set (fun _ => SyncWord.zero) s.sync.words k w } }

/-- An arm slot: key 64 x partition + slot (R202). -/
def State.arm (s : State) (k : Nat) : ArmSlot := SMap.get (fun _ => ArmSlot.zero) s.sync.arms k

/-- Set an arm slot. -/
def State.setArm (s : State) (k : Nat) (a : ArmSlot) : State :=
  { s with sync := { s.sync with arms := SMap.set (fun _ => ArmSlot.zero) s.sync.arms k a } }

/-- The key of the word that an 18-bit sync word address names in partition k (Table 1.8, R35); none where it names
no cluster of the partition. -/
def State.syncKey (s : State) (k addr : Nat) : Option Nat :=
  (s.globalCluster k (bitsAt addr 12 6)).map fun c => wordKey c (bitsAt addr 0 12)

/-- Whether partition k is in restricted signalling (R203): before READY, during a package-wide self-test, and
during a partition or compute reset. -/
def State.restricted (s : State) (k : Nat) : Bool :=
  s.plat.stage != .ready || s.rel.creset || (s.part k).resetting ||
    (match s.rel.selftest with
      | some t => t == 1 || t == 2
      | none => false)

/-- Saturate at 2^64 - 1. -/
def sat64 (v : Nat) : Nat := Nat.min v 18446744073709551615

/-- Fire the armed slots of partition k whose word has reached its target (R202); none fires in restricted
signalling (R203). A slot whose WORD names no cluster of the partition stays armed and does not fire (DESIGN CHOICE,
assumption 101). -/
def State.testArms (s : State) (k : Nat) : State :=
  if s.restricted k then s
  else (List.range 64).foldl (fun s i =>
    let a := s.arm (64 * k + i)
    if a.enable then
      match s.syncKey k a.word with
      | some w =>
        if Nat.ble a.target (s.word w).value then
          (s.setArm (64 * k + i) { a with enable := false, fired := true }).msix (k + 1) a.vector
        else s
      | none => s
    else s) s

/-- Test the arm slots of the partition that holds a word. -/
def State.wordChanged (s : State) (key : Nat) : State :=
  match s.clusterPart (key / 4096) with
  | some k => s.testArms k
  | none => s

/-- Record that an addition saturated a word (R185): of the context and core whose post it was, or of the partition. -/
def State.logSaturated (s : State) (key : Nat) (who : Option (Nat × Nat)) : State :=
  match who with
  | some p => s.logCore Code.syncSaturated p.1 p.2 [key]
  | none => s.logPart Code.syncSaturated ((s.clusterPart (key / 4096)).getD 0xFF) [key]

/-- Add to a sync word for a poster (context, core) or for none (R185): an addition past 2^64 - 1 saturates and is
recorded. -/
def State.addWordFor (s : State) (key inc : Nat) (who : Option (Nat × Nat)) : State :=
  let w := s.word key
  let s1 := s.setWord key { w with value := sat64 (w.value + inc) }
  State.wordChanged (if Nat.blt 18446744073709551615 (w.value + inc) then s1.logSaturated key who else s1) key

/-- Add to a sync word for no core. -/
def State.addWord (s : State) (key inc : Nat) : State := s.addWordFor key inc none

/-- Add to the word that an address of partition k names; nothing where it names none. -/
def State.postTo (s : State) (k addr inc : Nat) : State :=
  match s.syncKey k addr with
  | some key => s.addWord key inc
  | none => s

/-- CONFIG MODE. -/
def SyncWord.mode (w : SyncWord) : Nat := bitsAt w.config 0 2

/-- The owner of a private word; none for a shared one. -/
def SyncWord.owner (w : SyncWord) : Option Nat := if w.config.testBit 2 then some (bitsAt w.config 3 6) else none

/-- Whether a word admits a context (R183). -/
def SyncWord.admitsCtx (w : SyncWord) (n : Nat) : Bool :=
  match w.owner with
  | some o => o == n
  | none => true

/-- Free a lock (R194): its value rises by 1. -/
def State.freeLock (s : State) (key : Nat) (abandoned : Bool) : State :=
  let w := s.word key
  (s.setWord key { w with value := sat64 (w.value + 1), holder := none, abandoned := abandoned }).wordChanged key

/-- Free every lock that context n holds, marked abandoned (R197). -/
def State.abandonLocks (s : State) (n : Nat) : State :=
  (s.sync.words.filterMap fun e =>
    match (s.word e.1).holder with
    | some h => if h.ctx = n then some e.1 else none
    | none => none).foldl (fun s k => s.freeLock k true) s

/-- Set every private word of context n to 0 (R387 step 6, Table 7.9). -/
def State.zeroPrivate (s : State) (n : Nat) : State :=
  (s.sync.words.filterMap fun e => if e.2.owner = some n then some e.1 else none).foldl
    (fun s k => s.setWord k { s.word k with value := 0 }) s

/-- Make every private word of context n shared, with value 0 and its MODE and P kept (R182). -/
def State.sharePrivate (s : State) (n : Nat) : State :=
  (s.sync.words.filterMap fun e => if e.2.owner = some n then some e.1 else none).foldl
    (fun s k => s.setWord k { s.word k with value := 0, config := putBits (s.word k).config 2 7 0 }) s

/-- Remove the watches of cores of a list (R188). -/
def State.dropWatches (s : State) (cores : List Nat) : State :=
  { s with sync := { s.sync with watches := s.sync.watches.filter fun w => !cores.contains w.core } }

/-- Clear the sync memory of some clusters: values 0, locks free and marks cleared; CONFIG too in a compute reset
(Table 7.9). -/
def State.clearWords (s : State) (clusters : List Nat) (config : Bool) : State :=
  { s with sync := { s.sync with
      words := SMap.mapVals (fun _ => SyncWord.zero) (fun k w =>
        if clusters.contains (k / 4096) then
          { value := 0, config := if config then 0 else w.config, holder := none, abandoned := false }
        else w) s.sync.words } }

/-- Disable the arm slots whose key meets p and clear FIRED (Table 7.9). -/
def State.disarm (s : State) (p : Nat → Bool) : State :=
  { s with sync := { s.sync with
      arms := SMap.mapVals (fun _ => ArmSlot.zero) (fun i a =>
        if p i then { a with enable := false, fired := false } else a) s.sync.arms } }

/-- Disable the arm slots of a partition. -/
def State.clearArms (s : State) (k : Nat) : State := s.disarm fun i => i / 64 == k

end Sys2Proof.Machine
end

