-- ==== Sys2Proof/Machine/Egress.lean ====
section
/-!
DEFINITION. What a port sends: flits and their CRC (R307), the replay buffer (R308), credits and egress arbitration
(R309), and how a transmit request meets a port (R313).
-/

namespace Sys2Proof.Machine

open Sys2Proof

/-! ### Message types (Table 11.8) -/

def Kind.write : Nat := 0x01
def Kind.voile : Nat := 0x02
def Kind.post : Nat := 0x03
def Kind.ack : Nat := 0x04
def Kind.refillReq : Nat := 0x05
def Kind.refillResp : Nat := 0x06
def Kind.norm : Nat := 0x07
def Kind.coll : Nat := 0x08
def Kind.time : Nat := 0x09
def Kind.token : Nat := 0x0A

/-- The class of a message (R318): 0 Voile, 1 collective, 2 transport. -/
def msgClass (kind : Nat) : Nat :=
  if kind = Kind.write || kind = Kind.refillReq || kind = Kind.refillResp then 2
  else if kind = Kind.coll then 1 else 0

/-- A message header as its 32 bytes (Table 11.8). -/
def encodeHeader (kind : Nat) (h : MsgHeader) : List Byte :=
  leBytes 1 kind ++ leBytes 1 h.status.toNat ++ leBytes 2 h.length.toNat ++ leBytes 2 h.dcoord.toNat ++
    leBytes 1 h.dpart.toNat ++ leBytes 1 h.dctx.toNat ++ leBytes 1 h.tag.toNat ++ leBytes 1 h.sctx.toNat ++
    leBytes 2 h.scoord.toNat ++ leBytes 1 h.spart.toNat ++ [0#8] ++ leBytes 2 h.score.toNat ++ leBytes 4 h.msgid.toNat ++
    leBytes 4 h.daddr.toNat ++ leBytes 8 h.aux.toNat

/-- A message header from its 32 bytes (Table 11.8): TYPE and the rest. -/
def decodeHeader (b : List Byte) : Nat × MsgHeader :=
  let v := fun (n i k : Nat) => BitVec.ofNat n (fieldAt b i k)
  (fieldAt b 0 1,
   { status := v 8 1 1, length := v 16 2 2, dcoord := v 16 4 2, dpart := BitVec.ofNat 8 (bitsAt (fieldAt b 6 1) 0 4),
     dctx := BitVec.ofNat 8 (bitsAt (fieldAt b 7 1) 0 6), tag := v 8 8 1, sctx := BitVec.ofNat 8 (bitsAt (fieldAt b 9 1) 0 6),
     scoord := v 16 10 2, spart := BitVec.ofNat 8 (bitsAt (fieldAt b 12 1) 0 4), score := v 16 14 2, msgid := v 32 16 4,
     daddr := v 32 20 4, aux := v 64 24 8 })

/-- Flits of a message: its 32 B header and its payload, 240 B a flit (R306, R317). -/
def Msg.flits (m : Msg) : Nat := (32 + m.payload.length + 239) / 240

/-- The payload of flit i of a message: bytes 240i of its header and payload on, filled up with 0. -/
def Msg.flitPayload (m : Msg) (i : Nat) : List Byte :=
  let b := ((encodeHeader m.kind m.h ++ m.payload).drop (240 * i)).take 240
  b ++ List.replicate (240 - b.length) 0#8

/-! ### Flits (R307, Table 11.3) -/

/-- One bit of the CRC-64. -/
def crcBit (c : BitVec 64) : BitVec 64 := if c.getLsbD 63 then (c <<< 1) ^^^ 0x42F0E1EBA9EA3693#64 else c <<< 1

/-- One byte of the CRC-64, bit 7 first. -/
def crcByte (c : BitVec 64) (b : Byte) : BitVec 64 :=
  (List.range 8).foldl (fun c _ => crcBit c) (c ^^^ ((b.setWidth 64) <<< 56))

/-- The CRC field of a flit: the complement of the remainder over bytes 0 to 247. -/
def flitCrc (l : List Byte) : BitVec 64 := ~~~ ((l.take 248).foldl crcByte (~~~ 0#64))

/-- Whether a flit is whole and its CRC holds. -/
def flitOk (l : List Byte) : Bool := l.length == 256 && fieldAt l 248 8 == (flitCrc l).toNat

/-- A flit with its CRC. -/
def sealFlit (l : List Byte) : List Byte := l ++ leBytes 8 (flitCrc l).toNat

/-! ### Ports -/

/-- Lanes of a mask of dropped lanes that still work. -/
def lanesLeft (m : BitVec 16) : Nat := 16 - (setBits m.toNat 16).length

/-- The PORT_STATE word of a port (Table 11.9): lanes of the lesser direction and the transmit lane mask while it has
a link. -/
def Port.word (p : Port) : Nat :=
  if p.state = 3 || p.state = 4 then
    p.state + 8 * Nat.min (lanesLeft p.txDrop) (lanesLeft p.rxDrop) + 256 * (~~~ p.txDrop).toNat
  else p.state

/-- Port p. -/
def State.port (s : State) (p : Nat) : Port := SMap.get (fun _ => Port.init) s.links.ports p

/-- Set port p and its PORT_STATE. -/
def State.setPort (s : State) (p : Nat) (x : Port) : State :=
  State.setEnt { s with links := { s.links with ports := SMap.set (fun _ => Port.init) s.links.ports p x } }
    (Ent.portState p) x.word

/-- Change a port and its PORT_STATE. -/
def State.modPort (s : State) (p : Nat) (f : Port → Port) : State := s.setPort p (f (s.port p))

/-- Whether a port carries traffic: UP or DEGRADED. -/
def Port.up (p : Port) : Bool := p.state == 3 || p.state == 4

/-- Credits of a virtual channel: 1,024 when the port came up (R309). -/
def Port.credit (p : Port) (vc : Nat) : Nat := SMap.get (fun _ => 1024) p.credits vc

/-- Buffers of a virtual channel freed and not yet returned to the partner. -/
def Port.owes (p : Port) (vc : Nat) : Nat := SMap.get (fun _ => 0) p.owed vc

/-- Note that buffers of a virtual channel are free again. -/
def Port.free (p : Port) (vc n : Nat) : Port := { p with owed := SMap.set (fun _ => 0) p.owed vc (p.owes vc + n) }

/-! ### Sending flits (R307, R309) -/

/-- The virtual channel whose credits the next flit returns: the lowest with any. -/
def Port.returning (p : Port) : Nat := ((List.range 6).find? fun v => p.owes v != 0).getD 0

/-- The header of the next flit sent (Table 11.3), with what it returns to the partner: ACKSEQ and the credits of one
channel. -/
def Port.flitHeader (p : Port) (kind seq vc : Nat) : Nat :=
  let v := p.returning
  seq % 65536 + 2 ^ 16 * ((p.rxSeq + 65535) % 65536) + 2 ^ 32 * vc + 2 ^ 36 * kind + 2 ^ 40 * v + 2 ^ 48 * Nat.min 65535 (p.owes v)

/-- The port after a flit has returned its credits. -/
def Port.returned (p : Port) : Port := { p with owed := SMap.set (fun _ => 0) p.owed p.returning 0 }

/-- Send a flit of a KIND on a port. -/
def State.sendFlit (s : State) (p kind seq vc : Nat) (payload : List Byte) : State :=
  let x := s.port p
  (s.setPort p x.returned).emit (.flit p (sealFlit (leBytes 8 (x.flitHeader kind seq vc) ++ payload)))

/-- Send a flit without payload: idle (1), or a replay request for a SEQ (2). -/
def State.sendBare (s : State) (p kind seq : Nat) : State := s.sendFlit p kind seq 0 (List.replicate 240 0#8)

/-- Return the credits still owed in idle flits, one channel each. -/
def State.returnCredits (s : State) (p : Nat) : State :=
  (List.range 6).foldl (fun s v => if (s.port p).owes v = 0 then s else s.sendBare p 1 0) s

/-- Put a flit into the replay buffer and send it. -/
def State.sendSequenced (s : State) (p : Nat) (f : TxFlit) : State :=
  let x := s.port p
  (s.setPort p { x with txSeq := (x.txSeq + 1) % 65536, replay := x.replay ++ [f] }).sendFlit p f.kind f.seq f.vc f.payload

/-! ### Arbitration (R309, Table 1.5) -/

/-- Whether a virtual channel has a flit that its credits allow. -/
def Port.ready (p : Port) (vc : Nat) : Bool := p.queue.any (fun m => m.vc == vc) && Nat.blt 0 (p.credit vc)

/-- Whether a class has a flit ready. -/
def Port.waits (p : Port) (c : Nat) : Bool := p.ready (2 * c) || p.ready (2 * c + 1)

/-- Flits sent past a class since its last turn. -/
def Port.passedBy (p : Port) (c : Nat) : Nat := SMap.get (fun _ => 0) p.passed c

/-- The class of the next flit: one that 14 flits have passed, so that every class that waits has 1 flit in 16, else Voile,
then collective, then transport. -/
def Port.nextClass (p : Port) : Option Nat :=
  match (List.range 3).find? fun c => p.waits c && Nat.ble 14 (p.passedBy c) with
  | some c => some c
  | none => (List.range 3).find? p.waits

/-- The virtual channel of the next flit: the two channels of a class take its turns round-robin. -/
def Port.nextVc (p : Port) : Option Nat :=
  p.nextClass.map fun c =>
    let other := 1 - SMap.get (fun _ => 1) p.turn c
    if p.ready (2 * c + other) then 2 * c + other else 2 * c + (1 - other)

/-- The port after its turn has gone to a virtual channel. -/
def Port.took (p : Port) (vc : Nat) : Port :=
  { p with
    turn := SMap.set (fun _ => 1) p.turn (vc / 2) (vc % 2)
    passed := (List.range 3).foldl (fun m c =>
      SMap.set (fun _ => 0) m c (if c = vc / 2 || !p.waits c then 0 else p.passedBy c + 1)) p.passed }

/-- Count a flit of the first message of a channel as sent. -/
def sentOne (vc : Nat) : List TxMsg → List TxMsg
  | [] => []
  | m :: l => if m.vc = vc then (if Nat.ble m.msg.flits (m.sent + 1) then l else { m with sent := m.sent + 1 } :: l)
      else m :: sentOne vc l

/-- Send the next flit of a virtual channel: it takes a credit and a SEQ, and stays in the replay buffer until it is
acknowledged (R308, R309). -/
def State.sendNext (s : State) (p vc : Nat) : State :=
  let x := s.port p
  match x.queue.find? fun m => m.vc == vc with
  | none => s
  | some m =>
    let x1 := x.took vc
    (s.setPort p { x1 with
      queue := sentOne vc x.queue
      credits := SMap.set (fun _ => 1024) x.credits vc (x.credit vc - 1) }).sendSequenced p
      { seq := x.txSeq, kind := 0, vc := vc, payload := m.msg.flitPayload m.sent, id := m.id, msg := some m.msg }

/-- Send flits while the port carries traffic, a class has one ready and the replay buffer of 2,048 has room. -/
def State.drive (s : State) (p : Nat) : Nat → State
  | 0 => s
  | fuel + 1 =>
    let x := s.port p
    if x.up && !x.retrain && Nat.blt x.replay.length 2048 then
      match x.nextVc with
      | some vc => State.drive (s.sendNext p vc) p fuel
      | none => s
    else s

/-- The flits that wait at a port. -/
def Port.waiting (p : Port) : Nat := p.queue.foldl (fun a m => a + (m.msg.flits - m.sent)) 0

/-- Send what waits behind a port as far as credits allow. -/
def State.flushPort (s : State) (p : Nat) : State := s.drive p (s.port p).waiting

/-- Send what was queued while a port trained, message by message in order (R313). -/
def State.sendQueued (s : State) (p : Nat) : Nat → State
  | 0 => s
  | fuel + 1 =>
    let x := s.port p
    match x.queue with
    | m :: _ => if Nat.blt 0 (x.credit m.vc) && Nat.blt x.replay.length 2048 then State.sendQueued (s.sendNext p m.vc) p fuel else s
    | [] => s

/-- Put a message behind a port. -/
def State.enqueue (s : State) (p vc : Nat) (m : Msg) : State :=
  s.modPort p fun x => { x with
    queue := x.queue ++ [{ id := x.nextId, vc := vc, sent := 0, msg := m }]
    nextId := x.nextId + 1 }

/-- Meet a port with a transmit request (R313): whether it is sent or queued, and the state. -/
def State.transmit (s : State) (p vc : Nat) (m : Msg) : Bool × State :=
  let x := s.port p
  if x.up then (true, (s.enqueue p vc m).flushPort p)
  else if x.state = 2 then (true, s.enqueue p vc m)
  else (false, s)

/-- The messages that a port has not fully delivered: those with flits in its replay buffer, then those not yet sent, each
once. -/
def Port.held (p : Port) : List Msg :=
  let out := p.replay.filterMap fun f => f.msg.map fun m => (f.id, m)
  let l := out ++ p.queue.map fun m => (m.id, m.msg)
  (l.foldl (fun a e => if a.any fun x => x.1 == e.1 then a else a ++ [e]) ([] : List (Nat × Msg))).map (·.2)

/-- Whether flit number a comes before b (modulo 2^16). -/
def seqBefore (a b : Nat) : Bool := decide ((b + 65536 - a) % 65536 < 32768 ∧ a ≠ b)

/-- Resend what the replay buffer holds from a SEQ on, flit by flit (R308). -/
def State.resend (s : State) (p seq : Nat) : State :=
  ((s.port p).replay.filter fun f => !seqBefore f.seq seq).foldl (fun s f => s.sendFlit p f.kind f.seq f.vc f.payload) s

end Sys2Proof.Machine
end

