-- ==== Sys2Proof/Machine/Net.lean ====
section
/-!
DEFINITION. Messages between packages as their senders and receivers share them: peers (R315), routes (R322, R323),
sending (R317, R320), acceptance (R319) and what an acknowledgement completes (R320).
-/

namespace Sys2Proof

/-- A header with the bits of DPART, DCTX, SCTX and SPART that Table 11.8 gives them. -/
def MsgHeader.clean (h : MsgHeader) : MsgHeader :=
  { h with dpart := h.dpart &&& 15#8, dctx := h.dctx &&& 63#8, sctx := h.sctx &&& 63#8, spart := h.spart &&& 15#8 }

end Sys2Proof

namespace Sys2Proof.Machine

open Sys2Proof

/-- ACK status codes (Table 11.8). -/
def Ack.ok : Nat := 0
def Ack.dropped : Nat := 1
def Ack.rejected : Nat := 2
def Ack.stale : Nat := 3
def Ack.linkDown : Nat := 4

/-! ### Coordinates, blocks and routes -/

/-- The coordinate of an axis (0 x, 1 y, 2 z) in the layout of Table 11.7. -/
def axisOf (coord axis : Nat) : Nat := bitsAt coord (4 * axis) (if axis = 2 then 3 else 4)

/-- The size of an axis of the machine (MACHINE_DIMS). -/
def State.dim (s : State) (axis : Nat) : Nat := axisOf (s.ent Ent.machineDims) axis + 1

/-- The block of partition k along an axis: origin and size (PART_BLOCK). -/
def State.block (s : State) (k axis : Nat) : Nat × Nat :=
  (axisOf (s.ent (Ent.partBlock k)) axis, axisOf (s.ent (Ent.partBlock k) / 65536) axis + 1)

/-- Whether a coordinate lies in the block of partition k (R322). -/
def State.inBlock (s : State) (k coord : Nat) : Bool :=
  (List.range 3).all fun a =>
    Nat.blt (axisOf coord a) (s.dim a) &&
      Nat.blt ((axisOf coord a + s.dim a - (s.block k a).1) % s.dim a) (s.block k a).2

/-- The packages of a block. -/
def State.blockSize (s : State) (k : Nat) : Nat := (s.block k 0).2 * (s.block k 1).2 * (s.block k 2).2

/-- The next hop from this package toward a coordinate for partition k (R323): the port, and whether the axis is
wrapped with the message going round it past the dateline at or before this link. None at the destination. -/
def State.route (s : State) (k src dst : Nat) : Option (Nat × Bool) :=
  let me := s.ent Ent.pkgCoord
  ((List.range 3).find? fun a => axisOf me a != axisOf dst a).map fun a =>
    let d := s.dim a
    let m := axisOf me a
    let t := axisOf dst a
    let start := axisOf src a
    if (s.block k a).2 = d then
      let up := Nat.ble ((t + d - m) % d) ((m + d - t) % d)
      let next := if up then (m + 1) % d else (m + d - 1) % d
      if up then (2 * a, Nat.blt next start) else (2 * a + 1, Nat.blt start next)
    else
      let o := (s.block k a).1
      (if Nat.blt ((m + d - o) % d) ((t + d - o) % d) then 2 * a else 2 * a + 1, false)

/-- The number of the first entry of a context's peer table that names a source. -/
def State.peerNo (s : State) (n coord part ctx : Nat) : Option Nat :=
  ((s.ctx n).peers.find? fun e =>
    match e.2 with
    | some p => p.valid && p.coord == coord && p.part == part && p.ctx == ctx
    | none => false).map (·.1)

/-- The entry of a context's peer table that names the source of a message. -/
def State.sourcePeer (s : State) (h : MsgHeader) : Option Peer :=
  (s.peerNo h.dctx.toNat h.scoord.toNat h.spart.toNat h.sctx.toNat).bind fun j =>
    SMap.get (fun _ => none) (s.ctx h.dctx.toNat).peers j

/-- A valid peer of context n (R315): listed, VALID and inside the block of the context's partition. -/
def State.peerOf (s : State) (n j : Nat) : Option Peer :=
  match SMap.get (fun _ => none) (s.ctx n).peers j with
  | some p => if p.valid && s.inBlock (s.ctxPart n) p.coord then some p else none
  | none => none

/-- The neighbour coordinate of a port (Table 11.1). -/
def State.neighbour (s : State) (p : Nat) : Nat :=
  let a := p / 2
  let me := s.ent Ent.pkgCoord
  let d := s.dim a
  let c := if p % 2 = 0 then (axisOf me a + 1) % d else (axisOf me a + d - 1) % d
  putBits (bitsAt me 0 11) (4 * a) (if a = 2 then 3 else 4) c

/-- Whether the link of a port crosses the dateline of an axis that the block of partition k wraps (R323). -/
def State.crosses (s : State) (k p : Nat) : Bool :=
  let a := p / 2
  let me := axisOf (s.ent Ent.pkgCoord) a
  (s.block k a).2 == s.dim a && (if p % 2 = 0 then me + 1 == s.dim a else me == 0)

/-- The virtual channel of a message of partition k that goes one link, out of a port: the upper one of its class where the
link crosses a dateline (R323). -/
def State.linkVc (s : State) (k p kind : Nat) : Nat := 2 * msgClass kind + b2n (s.crosses k p)

/-! ### Transmission -/

/-- The partition that a message belongs to in this package: its source's where it comes from here, else its
destination's. -/
def State.msgPart (s : State) (m : Msg) : Nat :=
  if m.h.scoord.toNat = s.ent Ent.pkgCoord then m.h.spart.toNat else m.h.dpart.toNat

/-- The port and virtual channel of a message's next hop (R318, R323). -/
def State.hop (s : State) (m : Msg) : Option (Nat × Nat) :=
  (s.route (s.msgPart m) m.h.scoord.toNat m.h.dcoord.toNat).map fun r => (r.1, 2 * msgClass m.kind + b2n r.2)

/-! ### Completion at the source (R320) -/

/-- The core key of a header's SCORE within the partition that sent it. -/
def State.scoreCore (s : State) (h : MsgHeader) : Option Nat :=
  (s.globalCluster h.spart.toNat (bitsAt h.score.toNat 5 6)).map fun g => 24 * g + bitsAt h.score.toNat 0 5

/-- Count a status other than OK in LINK_DROP; the first since a clear is recorded with the peer and the status. -/
def State.linkDrop (s : State) (n peer status : Nat) : State :=
  let s1 := s.bump (Ent.linkDrop n)
  if (s.ctx n).first.getLsbD 3 then s1
  else (s1.modCtx n fun c => { c with first := c.first ||| 8#4 }).logCtx Code.linkDrop n [peer, status]

/-- Count words of a context dropped at their destination in WIN_DROP_TX; the first since a clear is recorded with its
source and destination, unless this package recorded the same word at its destination (R160). -/
def State.winDropTx (s : State) (n words : Nat) (args : List Nat) (recorded : Bool) : State :=
  let s1 := s.bumpBy (Ent.winDropTx n) words
  if words = 0 || (s.ctx n).first.getLsbD 1 then s1
  else
    let s2 := s1.modCtx n fun c => { c with first := c.first ||| 2#4 }
    if recorded then s2 else s2.logCtx Code.windowDrop n args

/-- Complete a message that this package sent with a status; `words` are the words that a DROPPED reports (assumption
13). -/
def State.completeSent (s : State) (e : Sent) (status words : Nat) : State :=
  let s1 := { s with links := { s.links with sent := s.links.sent.filter fun x => x != e } }
  let s2 := if e.send && s.tagOk e.ctx e.tag then
      s1.modCore e.core fun c => { c with disp := { c.disp with sends := c.disp.sends - 1 } }
    else s1
  let s3 := if status = Ack.ok then s2 else s2.linkDrop e.ctx e.peer status
  if status = Ack.dropped then
    s3.winDropTx e.ctx words [e.core % 24 + 32 * s.relCluster (s.ctxPart e.ctx) (e.core / 24), s.ent Ent.pkgCoord, e.daddr,
      e.peer] e.recorded
  else s3

/-- A drop of the words of a message of this package to itself has been recorded at its destination (R160). -/
def State.noteRecorded (s : State) (h : MsgHeader) : State :=
  if h.scoord.toNat = s.ent Ent.pkgCoord then
    { s with links := { s.links with
        sent := s.links.sent.map fun e =>
          if some e.core = s.scoreCore h && e.msgid = h.msgid.toNat then { e with recorded := true } else e } }
  else s

/-- The record of a message that this package sent. -/
def State.findSent (s : State) (core msgid : Nat) : Option Sent :=
  s.links.sent.find? fun e => e.core == core && e.msgid == msgid

/-- An ACK reaches its destination package: it completes the message, or is discarded (R320); one for a message of an earlier
tag of its context is dropped and counted (R392). -/
def State.takeAck (s : State) (h : MsgHeader) : State :=
  match s.globalCluster h.dpart.toNat (bitsAt h.score.toNat 5 6) with
  | some g =>
    if Nat.ble 24 (bitsAt h.score.toNat 0 5) then s
    else match s.findSent (24 * g + bitsAt h.score.toNat 0 5) h.msgid.toNat with
      | some e =>
        if s.tagOk e.ctx e.tag then s.completeSent e h.status.toNat h.aux.toNat
        else State.staleDrop { s with links := { s.links with sent := s.links.sent.filter fun x => x != e } } e.ctx
          [Kind.ack, h.scoord.toNat]
      | none => s
  | none => s

/-! ### Acknowledging -/

/-- The header of the ACK of a message: from this package back to its source, MSGID and SCORE echoed, the tag that of the
peer entry that names the source. A package on the way, and a context that has no such entry, puts 0 (assumption 13). -/
def State.ackHeader (s : State) (h : MsgHeader) (status words : Nat) : MsgHeader :=
  { status := BitVec.ofNat 8 status, length := 0, dcoord := h.scoord, dpart := h.spart, dctx := h.sctx,
    tag := if h.dcoord.toNat = s.ent Ent.pkgCoord then ((s.sourcePeer h).map fun p => BitVec.ofNat 8 p.tag).getD 0 else 0,
    sctx := h.dctx, scoord := BitVec.ofNat 16 (s.ent Ent.pkgCoord), spart := h.dpart, score := h.score, msgid := h.msgid,
    daddr := h.daddr, aux := BitVec.ofNat 64 words }

/-- Send an ACK; one whose next port is not up completes nowhere (R313, R320: its source then times out). -/
def State.sendAck (s : State) (h : MsgHeader) (status words : Nat) : State :=
  let a : Msg := { kind := Kind.ack, h := s.ackHeader h status words, payload := [] }
  if h.scoord.toNat = s.ent Ent.pkgCoord then s.takeAck a.h
  else match s.hop a with
    | some (p, vc) => (s.transmit p vc a).2
    | none => s

/-- Whether a message carries work of a context that no core sends: refills, norm partials, digests and collective data. -/
def Msg.ofContext (m : Msg) : Bool :=
  m.kind == Kind.refillReq || m.kind == Kind.refillResp || m.kind == Kind.norm || m.kind == Kind.coll

/-- Complete a message held here with LINK_DOWN (R313, R323): at its source directly, else by an ACK to it. One that this
package sent for a context is counted as answered other than OK (Table 11.9); tokens and TIME messages are lost. -/
def State.failMsg (s : State) (m : Msg) : State :=
  if m.kind = Kind.write || m.kind = Kind.voile || m.kind = Kind.post then
    if m.h.scoord.toNat = s.ent Ent.pkgCoord then
      match s.scoreCore m.h with
      | some k =>
        match s.findSent k m.h.msgid.toNat with
        | some e => s.completeSent e Ack.linkDown 0
        | none => s
      | none => s
    else s.sendAck m.h Ack.linkDown 0
  else if m.ofContext then
    if m.h.scoord.toNat = s.ent Ent.pkgCoord then
      s.linkDrop m.h.sctx.toNat
        ((s.peerNo m.h.sctx.toNat m.h.dcoord.toNat m.h.dpart.toNat m.h.dctx.toNat).getD 0) Ack.linkDown
    else s.sendAck m.h Ack.linkDown 0
  else s

/-- Pass a message on toward its destination (R323). -/
def State.forward (s : State) (m : Msg) : State :=
  match s.hop m with
  | some (p, vc) =>
    let r := s.transmit p vc m
    if r.1 then r.2 else r.2.failMsg m
  | none => s.failMsg m

/-! ### Acceptance (R319) -/

/-- Whether a context's peer table names a source (check 3). -/
def State.namesPeer (s : State) (n coord part ctx : Nat) : Bool := (s.peerNo n coord part ctx).isSome

/-- Checks 1 to 3 of R319. -/
def State.accepts (s : State) (h : MsgHeader) : Bool :=
  s.partDefined h.dpart.toNat && s.ctxOf h.dpart.toNat h.dctx.toNat &&
    s.inBlock h.dpart.toNat h.scoord.toNat && s.namesPeer h.dctx.toNat h.scoord.toNat h.spart.toNat h.sctx.toNat

/-- Run the checks of R319: refuse and answer, or continue. A message of `kind` that fails check 4 is recorded with its
type and source (R392). -/
def State.admitAny (s : State) (h : MsgHeader) (kind : Nat) (f : State → State) : State :=
  if !s.accepts h then (s.bump (Ent.peerReject h.dctx.toNat)).sendAck h Ack.rejected 0
  else if !s.tagOk h.dctx.toNat h.tag.toNat then
    (s.staleDrop h.dctx.toNat [kind, h.scoord.toNat, h.sctx.toNat]).sendAck h Ack.stale 0
  else f s

/-- The same for messages that a compute reset refuses (R390): one that would pass is answered REJECTED meanwhile. -/
def State.admitMsg (s : State) (h : MsgHeader) (kind : Nat) (f : State → State) : State :=
  s.admitAny h kind fun s =>
    if s.rel.creset then (s.bump (Ent.peerReject h.dctx.toNat)).sendAck h Ack.rejected 0 else f s

/-- A WRITE or VOILE that passes R319 goes to the core that its DADDR names, where its words are checked (R158); one
that names no cluster or no core drops every word (R36, R160). -/
def State.takeWrite (s : State) (m : Msg) : State :=
  s.admitMsg m.h m.kind fun s =>
    let a := m.h.daddr.toNat
    let dst := if Nat.blt (bitsAt a 19 5) 24 then
        (s.globalCluster m.h.dpart.toNat (bitsAt a 24 6)).map fun g => 24 * g + bitsAt a 19 5
      else none
    let p : Packet :=
      { ctx := m.h.dctx.toNat, tag := m.h.tag.toNat, score := bitsAt m.h.score.toNat 0 5,
        scluster := bitsAt m.h.score.toNat 5 6, own := false, part := m.h.dpart.toNat, dst := dst,
        word := bitsAt a 0 19,
        data := (List.range (m.payload.length / 4)).map fun i => BitVec.ofNat 32 (fieldAt m.payload (4 * i) 4),
        sender := none, reply := some m.h, voile := m.kind == Kind.voile, raced := [] }
    match dst with
    | some _ => { s with links := { s.links with packets := s.links.packets ++ [p] } }
    | none =>
      let n := m.h.dctx.toNat
      let s1 := s.bumpBy (Ent.winDropRx n) p.data.length
      let s2 := if (s.ctx n).first.getLsbD 0 || p.data.isEmpty then s1
        else ((s1.modCtx n fun c => { c with first := c.first ||| 1#4 }).logCtx Code.windowDrop n
          [m.h.score.toNat, m.h.scoord.toNat, a]).noteRecorded m.h
      s2.sendAck m.h Ack.dropped p.data.length

/-- Drop a post from another package (R190, R203). -/
def State.dropPost (s : State) (h : MsgHeader) : State :=
  ((s.bump (Ent.syncRemoteDrop h.dpart.toNat)).logPart Code.syncRemoteDrop h.dpart.toNat
    [h.daddr.toNat, h.scoord.toNat]).sendAck h Ack.dropped 0

/-- A POST that passes R319 is applied to a shared word in counter or barrier mode, and otherwise dropped (R190); a
partition in restricted signalling drops it (R203). -/
def State.takePost (s : State) (h : MsgHeader) : State :=
  s.admitMsg h Kind.post fun s =>
    let k := h.dpart.toNat
    if s.restricted k then s.dropPost h
    else match s.syncKey k h.daddr.toNat with
      | some key =>
        if (s.word key).owner.isNone && Nat.blt (s.word key).mode 2 then
          (s.addWord key h.aux.toNat).sendAck h Ack.ok 0
        else s.dropPost h
      | none => s.dropPost h

/-- The header of a message of context n to a peer that no core sends: SCORE names logical core 31, which does not
exist, of a cluster with the number of the message's TYPE (assumption 16). -/
def State.ctxHeader (s : State) (n : Nat) (p : Peer) (kind len aux : Nat) : MsgHeader :=
  { status := 0, length := BitVec.ofNat 16 len, dcoord := BitVec.ofNat 16 p.coord, dpart := BitVec.ofNat 8 p.part,
    dctx := BitVec.ofNat 8 p.ctx, tag := BitVec.ofNat 8 p.tag, sctx := BitVec.ofNat 8 n,
    scoord := BitVec.ofNat 16 (s.ent Ent.pkgCoord), spart := BitVec.ofNat 8 (s.ctxPart n),
    score := BitVec.ofNat 16 (31 + 32 * kind), msgid := 0, daddr := 0, aux := BitVec.ofNat 64 aux }

/-- Send a message whose destination may be this package itself. -/
def State.sendMsg (s : State) (m : Msg) : State :=
  if m.h.dcoord.toNat = s.ent Ent.pkgCoord then
    if m.kind = Kind.write || m.kind = Kind.voile then s.takeWrite m
    else if m.kind = Kind.post then s.takePost m.h
    else s
  else s.forward m

/-- Send a WRITE, VOILE or POST of a core to a peer: it takes the core's next MSGID and stays unacknowledged (R317,
R320). -/
def State.sendPeer (s : State) (core n tag peer kind : Nat) (p : Peer) (daddr : Nat) (aux : Nat) (send : Bool)
    (payload : List Byte) : State :=
  let id := SMap.get (fun _ => 0) s.links.msgid core
  let k := s.ctxPart n
  let h : MsgHeader :=
    { status := 0, length := BitVec.ofNat 16 payload.length, dcoord := BitVec.ofNat 16 p.coord,
      dpart := BitVec.ofNat 8 p.part, dctx := BitVec.ofNat 8 p.ctx, tag := BitVec.ofNat 8 p.tag,
      sctx := BitVec.ofNat 8 n, scoord := BitVec.ofNat 16 (s.ent Ent.pkgCoord), spart := BitVec.ofNat 8 k,
      score := BitVec.ofNat 16 (core % 24 + 32 * s.relCluster k (core / 24)), msgid := BitVec.ofNat 32 id,
      daddr := BitVec.ofNat 32 daddr, aux := BitVec.ofNat 64 aux }
  let e : Sent := { core := core, msgid := id, ctx := n, tag := tag, peer := peer, send := send, daddr := daddr,
                    recorded := false }
  let s1 := { s with links := { s.links with
    msgid := SMap.set (fun _ => 0) s.links.msgid core ((id + 1) % 4294967296)
    sent := s.links.sent ++ [e] } }
  let s2 := if send then s1.modCore core fun c => { c with disp := { c.disp with sends := c.disp.sends + 1 } } else s1
  s2.sendMsg { kind := kind, h := h, payload := payload }

end Sys2Proof.Machine
end

