-- ==== Sys2Proof/Machine/Memory.lean ====
section
/-!
DEFINITION. Stacked memory as its users reach it: device physical bytes (Table 1.10), poison marks (R218, R219),
frames and their counts (R39, R227), page tables (R226 to R229), and reads and writes by context virtual address
(R37, R38, R207, R220, R234).
-/

namespace Sys2Proof.Machine

open Sys2Proof

/-! ### Addresses (Table 1.10, R208) -/

/-- The device physical address of an offset in a frame. -/
def paOf (stack frame off : Nat) : Nat := stack * 2 ^ 37 + frame * 2 ^ 21 + off

/-- The stack of a device physical address. -/
def paStack (pa : Nat) : Nat := pa / 2 ^ 37 % 16

/-- The frame of a device physical address within its stack. -/
def paFrame (pa : Nat) : Nat := pa / 2 ^ 21 % 65536

/-- The line number of a device physical address: address / 64. -/
def lineNo (pa : Nat) : Nat := pa / 64

/-- The channel group of a frame (R208). -/
def frameGroup (frame : Nat) : Nat := frame % 16

/-- The channel that carries a line (map_line of R208). -/
def lineChannel (frame x : Nat) : Nat := 8 * (frame % 16) + Nat.xor (Nat.xor (x % 8) (x / 8 % 8)) (x / 64 % 8)

/-- The bank of a line. -/
def lineBank (frame x : Nat) : Nat := Nat.xor (x / 256 % 32) (frame / 16 % 32)

/-- The row of a line. -/
def lineRow (frame x : Nat) : Nat := 4 * (frame / 16) + x / 8192

/-- The column of a line within its row. -/
def lineColumn (x : Nat) : Nat := x / 8 % 32

/-- The key of a row: 12,288 (32 (128 stack + channel) + bank) + row. -/
def rowKey (stack frame x : Nat) : Nat :=
  12288 * (32 * (128 * stack + lineChannel frame x) + lineBank frame x) + lineRow frame x

/-! ### Bytes -/

/-- The byte at a device physical address; what nothing has written reads 0x00 (assumption 5). -/
def State.memByte (s : State) (pa : Nat) : Byte := SMap.get (fun _ => (0#8 : Byte)) s.mem.cells pa

/-- Replace the stacks and the memory manager's state. -/
def State.modMem (s : State) (f : Mem → Mem) : State := { s with mem := f s.mem }

/-- n bytes from a device physical address. -/
def State.readPhys (s : State) (pa n : Nat) : List Byte := (List.range n).map fun i => s.memByte (pa + i)

/-- Write bytes from a device physical address up. -/
def memWrite (cells : List Host.Cell) (pa : Nat) : List Byte → List Host.Cell
  | [] => cells
  | b :: l => memWrite (SMap.set (fun _ => (0#8 : Byte)) cells pa b) (pa + 1) l

/-- Write bytes at a device physical address. -/
def State.writePhys (s : State) (pa : Nat) (l : List Byte) : State :=
  s.modMem fun m => { m with cells := memWrite m.cells pa l }

/-- The canonical form of stacked memory: addresses rise strictly, and no listed byte is what an unlisted address reads. -/
def Memory.wf (m : Mem) : Bool := SMap.wf (fun _ => (0#8 : Byte)) m.cells

/-- Zero a frame (R227). -/
def State.zeroFrame (s : State) (stack frame : Nat) : State :=
  s.modMem fun m => { m with
    cells := SMap.dropKeys (fun a => Nat.ble (paOf stack frame 0) a && Nat.blt a (paOf stack frame 0 + 2 ^ 21)) m.cells }

/-! ### Poison -/

/-- Whether a line reads as poisoned (R218, R219). -/
def State.poisoned (s : State) (line : Nat) : Bool :=
  SMap.get (fun _ => false) s.mem.poison line || s.mem.poisonFrames.contains (line / 32768)

/-- Entries in the poison table of a stack. -/
def State.poisonCount (s : State) (stack : Nat) : Nat :=
  (s.mem.poison.filter fun e => e.1 / 2 ^ 31 == stack).length

/-- Report the fill of the poison tables: POISON_LINES, and watermark 0x6031 for the fullest (Table 8.10). -/
def State.reportPoison (s : State) : State :=
  let l := (List.range 16).map s.poisonCount
  let s1 := (List.range 16).foldl (fun s k => s.setEnt (Ent.poisonLines k) (l.getD k 0)) s
  s1.wmLevel 0x6031 (l.foldl Nat.max 0)

/-- Enter a line in the poison table of its stack (R218); a full table poisons the whole frame, sets POISON_FULL in
REPLACE and records it (R219). -/
def State.poisonLine (s : State) (line : Nat) : State :=
  if s.poisoned line then s
  else if Nat.blt (s.poisonCount (line / 2 ^ 31)) 65536 then
    (s.modMem fun m => { m with poison := SMap.set (fun _ => false) m.poison line true }).reportPoison
  else
    (((s.modMem fun m => { m with poisonFrames := m.poisonFrames ++ [line / 32768] }).log Code.poisonFull
      [line / 32768]).setReplace 8)

/-- A whole-line write or a refill removes the line's poison entry and cancels its refill (R218, R231); a read held for
that refill returns the new line (R224). -/
def State.clearPoison (s : State) (line : Nat) : State :=
  if SMap.get (fun _ => false) s.mem.poison line || s.mem.refills.any (fun r => r.line == line) then
    (s.modMem fun m => { m with
      poison := SMap.set (fun _ => false) m.poison line false,
      refills := m.refills.filter fun r => r.line != line
      held := m.held.filter fun h => h.1 != line }).reportPoison
  else s

/-- Remove every poison entry of a frame (R228). -/
def State.clearFramePoison (s : State) (stack frame : Nat) : State :=
  let f := stack * 65536 + frame
  (s.modMem fun m => { m with
    poison := SMap.dropKeys (fun l => l / 32768 == f) m.poison,
    poisonFrames := m.poisonFrames.filter (· != f),
    refilled := SMap.dropKeys (fun l => l / 32768 == f) m.refilled,
    refills := m.refills.filter fun r => r.line / 32768 != f }).reportPoison

/-- A line of a frame that is poisoned whole has been refilled: the frame reads as poisoned until its last line has
(R219). -/
def State.noteRefilled (s : State) (line : Nat) : State :=
  let f := line / 32768
  if !s.mem.poisonFrames.contains f then s
  else
    let l := SMap.set (fun _ => false) s.mem.refilled line true
    if (l.filter fun e => e.1 / 32768 == f).length = 32768 then
      s.modMem fun m => { m with
        poisonFrames := m.poisonFrames.filter (· != f), refilled := SMap.dropKeys (fun x => x / 32768 == f) l }
    else s.modMem fun m => { m with refilled := l }

/-! ### Frames -/

/-- The mapped page of context n, if any (R226). -/
def State.page (s : State) (n v : Nat) : Option Page := SMap.get (fun _ => none) s.mem.pages (134217728 * n + v)

/-- Set or remove a mapping. -/
def State.setPage (s : State) (n v : Nat) (p : Option Page) : State :=
  s.modMem fun m => { m with pages := SMap.set (fun _ => none) m.pages (134217728 * n + v) p }

/-- Whether an entry of the page tables is the owner's own mapping. -/
def ownMapping (e : Nat × Option Page) : Bool :=
  match e.2 with
  | some p => e.1 == 134217728 * p.owner + p.opage
  | none => false

/-- The frames that hold pages, as (stack, frame), the owner's mapping of each, and those that pages are moving into. -/
def State.usedFrames (s : State) : List (Nat × Nat) :=
  ((s.mem.pages.filter ownMapping).filterMap fun e => e.2.map fun p => (p.stack, p.frame)) ++
    s.mem.migr.map fun m => (m.stack, m.frame)

/-- The owner's mapping of a frame: its key and page. -/
def State.frameOwner (s : State) (stack frame : Nat) : Option Page :=
  (s.mem.pages.find? fun e => ownMapping e && (match e.2 with
    | some p => p.stack == stack && p.frame == frame
    | none => false)).bind (·.2)

/-- The registration of the frame of a line (R230): its owner's page with the peer entry and page. -/
def State.replica (s : State) (line : Nat) : Option (Page × Nat × Nat) :=
  match s.frameOwner (line / 32768 / 65536) (line / 32768 % 65536) with
  | some p => p.repl.map fun r => (p, r.1, r.2)
  | none => none

/-- The virtual address at which context n maps a device physical address, the lowest where there are several. -/
def State.virtOf (s : State) (n pa : Nat) : Option Nat :=
  (s.mem.pages.find? fun e => e.1 / 134217728 == n && (match e.2 with
    | some p => p.stack == paStack pa && p.frame == paFrame pa
    | none => false)).map fun e => 2 ^ 21 * (e.1 % 134217728) + pa % 2 ^ 21

/-- Whether a group of a stack is in service. -/
def State.groupIn (s : State) (stack g : Nat) : Bool := s.entBit (Ent.groupsInService stack) g

/-- Groups in service on a die. -/
def State.dieGroups (s : State) (d : Nat) : Nat :=
  (List.range 4).foldl (fun a i => a + (setBits (s.ent (Ent.groupsInService (4 * d + i))) 16).length) 0

/-- Whether a frame is usable: below the reserved frames, in a group in service (R39, R237). -/
def State.frameUsable (s : State) (stack frame : Nat) : Bool :=
  Nat.blt frame 48128 && s.groupIn stack (frameGroup frame)

/-- The usable frames of a group that hold pages. -/
def State.groupUsed (s : State) (stack g : Nat) : Nat :=
  (s.usedFrames.filter fun f => f.1 == stack && frameGroup f.2 == g && Nat.blt f.2 48128).length

/-- Report capacity: USABLE_FRAMES, FREE_FRAMES, FREE_FRAMES_DIE and watermark 0x6032 (Table 8.9). -/
def State.reportFrames (s : State) : State :=
  let used := s.usedFrames.filter fun f => s.frameUsable f.1 f.2
  let total := (List.range 4).map fun d => 3008 * s.dieGroups d
  let free := (List.range 4).map fun d => total.getD d 0 - (used.filter fun f => f.1 / 4 == d).length
  let s1 := (List.range 4).foldl (fun s d => s.setEnt (Ent.freeFramesDie d) (free.getD d 0)) s
  let s2 := s1.setEnt Ent.usableFrames (total.foldl (· + ·) 0)
  let s3 := s2.setEnt Ent.freeFrames (free.foldl (· + ·) 0)
  s3.wmLevel 0x6032 (free.foldl (· + ·) 0)

/-- The peak of a die in GB/s, rounded down: 409.6 per group in service (R209, R241). -/
def diePeak (groups : Nat) : Nat := groups * 4096 / 10

/-- Report RESV_PEAK and RESV_SUM of every die (Table 8.9). -/
def State.reportResv (s : State) : State :=
  (List.range 4).foldl (fun s d =>
    (s.setEnt (Ent.resvPeak d) (diePeak (s.dieGroups d))).setEnt (Ent.resvSum d)
      ((List.range 64).foldl (fun a n => a + s.entBits (Ent.resv n) (16 * d) 16) 0)) s

/-! ### Access by context virtual address -/

/-- The device physical address of a context virtual address; none where no page is mapped, where bits [63:48] are
not zero, or in page 0 (R38). -/
def State.translate (s : State) (n va : Nat) : Option Nat :=
  if Nat.ble (2 ^ 48) va || Nat.blt va (2 ^ 21) then none
  else (s.page n (va / 2 ^ 21)).map fun p => paOf p.stack p.frame (va % 2 ^ 21)

/-- The parts of [va, va + len) line by line, ascending, as (address, length). -/
def lineParts (va len : Nat) : List (Nat × Nat) :=
  if len = 0 then []
  else (List.range ((va % 64 + len + 63) / 64)).map fun i =>
    let a := Nat.max va (va / 64 * 64 + 64 * i)
    (a, Nat.min (va + len) (va / 64 * 64 + 64 * i + 64) - a)

/-- How a read by virtual address ends: the bytes, or the first line that faults with its fault log code
(UNMAPPED, R234; POISON_CONSUMED, R220). -/
inductive VRead where
  | ok (l : List Byte)
  | fail (code va : Nat)
  deriving DecidableEq, Repr

/-- Read the parts in order. -/
def State.readParts (s : State) (n : Nat) : List (Nat × Nat) → VRead
  | [] => .ok []
  | (va, k) :: l =>
    match s.translate n va with
    | none => .fail Code.unmapped va
    | some pa =>
      if s.poisoned (lineNo pa) then .fail Code.poisonConsumed va
      else match s.readParts n l with
        | .ok r => .ok (s.readPhys pa k ++ r)
        | .fail c a => .fail c a

/-- Read len bytes of context n from va. -/
def State.readVirt (s : State) (n va len : Nat) : VRead := s.readParts n (lineParts va len)

/-- Write the bytes of one line, or of a part of one (R207): a whole-line write clears poison; a partial write to a
poisoned line is discarded and recorded for the agent that wrote (R220). -/
def State.writeLinePart (s : State) (who : LineReader) (pa : Nat) (l : List Byte) : State :=
  if l.length = 64 then (s.writePhys pa l).clearPoison (lineNo pa)
  else if s.poisoned (lineNo pa) then s.logAgent Code.poisonPartialWrite who [pa]
  else s.writePhys pa l

/-- How a write by virtual address ends: the state, with the code and address of the first line not performed
(UNMAPPED, R234; PROTECTION, R229). -/
structure VWrite where
  s    : State
  fail : Option (Nat × Nat)
  deriving DecidableEq, Repr

/-- Write the parts in order, stopping at the first that is not performed. -/
def State.writeParts (s : State) (n : Nat) : List (Nat × Nat) → List Byte → VWrite
  | [], _ => ⟨s, none⟩
  | (va, k) :: l, d =>
    match s.page n (va / 2 ^ 21), s.translate n va with
    | some p, some pa =>
      if p.ro then ⟨s, some (Code.protection, va)⟩
      else State.writeParts (s.writeLinePart (.context (Fin.ofNat 64 n)) pa (d.take k)) n l (d.drop k)
    | _, _ => ⟨s, some (Code.unmapped, va)⟩

/-- Write bytes of context n at va. -/
def State.writeVirt (s : State) (n va : Nat) (d : List Byte) : VWrite := s.writeParts n (lineParts va d.length) d

/-- Count the line accesses that a die makes to the pages of [va, va + len) (R232): key 4 x page key + die. -/
def State.countLines (s : State) (n va len die : Nat) : State :=
  let f := fun (a : SMap Nat) (p : Nat × Nat) =>
    match SMap.get (fun _ => none) s.mem.pages (134217728 * n + p.1 / 2 ^ 21) with
    | some g => SMap.set (fun _ => 0) a (4 * (134217728 * g.owner + g.opage) + die)
        (SMap.get (fun _ => 0) a (4 * (134217728 * g.owner + g.opage) + die) + 1)
    | none => a
  s.modMem fun m => { m with accesses := (lineParts va len).foldl f m.accesses }

end Sys2Proof.Machine
end

