-- ==== Sys2Proof/Machine/Ring.lean ====
section
/-!
DEFINITION. Rings as messages follow them (R324, R330, R331): ports and positions, the packages of a collective's ring
or segment, and ABORT tokens (R338, R349).
-/

namespace Sys2Proof.Machine

open Sys2Proof

/-! ### Rings (R324, Table 11.10) -/

def State.ringIn (s : State) (k r : Nat) : Nat := s.entBits (Ent.ringCfg r k) 0 3
def State.ringOut (s : State) (k r : Nat) : Nat := s.entBits (Ent.ringCfg r k) 3 3
def State.ringValid (s : State) (k r : Nat) : Bool := s.entBit (Ent.ringCfg r k) 6
def State.ringPos (s : State) (k r : Nat) : Nat := s.entBits (Ent.ringCfg r k) 8 11
def State.ringLen (s : State) (k r : Nat) : Nat := s.entBits (Ent.ringCfg r k) 32 12

/-- The member dies of a partition (R324), ascending. -/
def State.memberDies (s : State) (k : Nat) : List Nat :=
  (List.range 4).filter fun d => (s.partClusters k).any fun c => dieOf c == d

/-- The rings a descriptor uses, ascending. -/
def CollDesc.ringList (d : CollDesc) : List Nat := setBits d.rings 3

/-- The lowest-numbered ring used. -/
def CollDesc.ring0 (d : CollDesc) : Nat := d.ringList.headD 0

/-- The packages of the ring or group (R330). -/
def State.collPkgs (s : State) (k : Nat) (d : CollDesc) : Nat := if d.seglen = 0 then s.ringLen k d.ring0 else d.seglen

/-- This package's place on ring r, within its group where there are groups (R330). -/
def State.groupPos (s : State) (k r seglen : Nat) : Nat :=
  if seglen = 0 then s.ringPos k r else s.ringPos k r % seglen

/-- The port toward the next package of ring r, up (toward OUT_PORT) or down (toward IN_PORT); none at the end of a
segment's path, whose links alone are used, and on a ring of one package (R330, R331). -/
def State.stepPort (s : State) (k r seglen : Nat) (up : Bool) : Option Nat :=
  let q := s.groupPos k r seglen
  if !s.ringValid k r || s.ringLen k r = 1 || (seglen != 0 && (if up then q + 1 == seglen else q == 0)) then none
  else some (if up then s.ringOut k r else s.ringIn k r)

/-- The position that the next package of ring r has. -/
def State.nextPos (s : State) (k r : Nat) (up : Bool) : Nat :=
  let n := Nat.max 1 (s.ringLen k r)
  (if up then s.ringPos k r + 1 else s.ringPos k r + n - 1) % n

/-- Whether a lane leaves on OUT_PORT (R331). -/
def laneUp (lane : Nat) : Bool := lane % 2 == 0

/-- The ring of a lane. -/
def laneRing (rings lane : Nat) : Nat := (setBits rings 3).getD (lane / 2) 0

/-! ### Messages from package to package along a ring -/

/-- The entry of a context's peer table that names the neighbour of a port; where there is none, the same context there
with this package's partition and tag (assumption 16). -/
def State.neighbourPeer (s : State) (n p : Nat) : Peer :=
  match ((s.ctx n).peers.find? fun e => match e.2 with
    | some x => x.valid && x.coord == s.neighbour p
    | none => false).bind (·.2) with
  | some x => x
  | none => { coord := s.neighbour p, part := s.ctxPart n, ctx := n, tag := s.tag n, valid := true }

/-- A message of context n to the neighbour of a port. -/
def State.hopMsg (s : State) (n p kind daddr aux : Nat) (payload : List Byte) : Msg :=
  { kind := kind
    h := { s.ctxHeader n (s.neighbourPeer n p) kind payload.length aux with daddr := BitVec.ofNat 32 daddr }
    payload := payload }

/-- Send a message of context n out of a port, to its neighbour; on a port without a link it completes with LINK_DOWN
(R313). -/
def State.sendHop (s : State) (n p kind daddr aux : Nat) (payload : List Byte) : State :=
  let m := s.hopMsg n p kind daddr aux payload
  let r := s.transmit p (s.linkVc (s.ctxPart n) p kind) m
  if r.1 then r.2 else r.2.failMsg m

/-! ### ABORT tokens (R338, R349) -/

/-- The kinds of RING_TOKEN, in DADDR [7:0] (assumption 16): a ring check, an opening token, an ABORT token. -/
def Token.check : Nat := 0
def Token.opening : Nat := 1
def Token.abort : Nat := 2

/-- An ABORT token on a link: DADDR names the kind and the lane, the payload holds the rest (assumption 16). -/
def abortBytes (t : AbortToken) : List Byte :=
  leBytes 8 t.gen ++ leBytes 1 t.rings.toNat ++ leBytes 2 t.seglen.toNat ++ leBytes 2 t.origin.toNat ++
    leBytes 1 (b2n t.mismatch)

/-- An ABORT token from its bytes. -/
def decodeAbort (lane : Nat) (b : List Byte) : AbortToken :=
  { gen := fieldAt b 0 8, lane := Fin.ofNat 6 lane, rings := BitVec.ofNat 3 (fieldAt b 8 1),
    seglen := BitVec.ofNat 16 (fieldAt b 9 2), origin := BitVec.ofNat 11 (fieldAt b 11 2),
    mismatch := fieldAt b 13 1 != 0 }

/-- Send an ABORT token on along its lane; it ends where a segment's path ends, and before the package that sent it
first. -/
def State.sendAbort (s : State) (n : Nat) (t : AbortToken) : State :=
  let k := s.ctxPart n
  let r := laneRing t.rings.toNat t.lane.val
  let up := laneUp t.lane.val
  match s.stepPort k r t.seglen.toNat up with
  | some p =>
    if t.seglen.toNat = 0 && s.nextPos k r up = t.origin.toNat then s
    else s.sendHop n p Kind.token (Token.abort + 256 * t.lane.val) 0 (abortBytes t)
  | none => s

/-- Send an ABORT token on every lane of a collective (R338). -/
def State.abortLanes (s : State) (n gen : Nat) (d : CollDesc) (mismatch : Bool) : State :=
  (List.range (2 * d.ringList.length)).foldl (fun s l =>
    s.sendAbort n { gen := gen, lane := Fin.ofNat 6 l, rings := BitVec.ofNat 3 d.rings,
                    seglen := BitVec.ofNat 16 d.seglen,
                    origin := BitVec.ofNat 11 (s.ringPos (s.ctxPart n) (laneRing d.rings l)), mismatch := mismatch }) s

/-- Whether a collective has ended. -/
def Coll.ended (c : Coll) : Bool :=
  match c.stage with
  | .ended _ => true
  | _ => false

/-- The reduction SRAM buffers that a collective holds: 2 for each lane of its data phase (R348). -/
def Coll.buffers (c : Coll) : Nat :=
  match c.stage with
  | .data => 4 * (setBits c.desc.rings 3).length
  | _ => 0

end Sys2Proof.Machine
end

