-- ==== Sys2Proof/Machine/ResetOps.lean ====
section
/-!
DEFINITION. What resets and fences share: a context reset (R387), which every program fault requires, a partition
reset (R389), a compute reset (R390), the tag advance (R393), a fence (R358) and spares exhausted (R363).
-/

namespace Sys2Proof.Machine

open Sys2Proof

/-- 10 ms in nanoseconds (R393). -/
def tagHoldNs : Nat := 10000000

/-- Advance the Selvedge tag of a context (R393): an advance that would return to a value left less than 10 ms ago is
delayed. -/
def State.advanceTag (s : State) (n : Nat) : State :=
  let old := s.tag n
  let new := (old + 1) % 256
  let c := s.ctx n
  let left := c.tagLeft.filter fun p => Nat.blt s.now (p.2 + tagHoldNs)
  if left.any (fun p => p.1 == new) then s.modCtx n fun c => { c with tagDelay := true, tagLeft := left }
  else (s.modCtx n fun c => { c with tagDelay := false, tagLeft := left ++ [(old, s.now)] }).setEnt
    (Ent.selvedgeTag n) new

/-- Record the level of the last reset taken in RESET_STATUS (Table 14.5). -/
def State.resetLevel (s : State) (l : Nat) : State := s.setEntBits Ent.resetStatus 2 3 l

/-- Set the next trigger target of a context afresh (R254): the trigger word's value plus TRIG_INC. -/
def State.retarget (s : State) (n : Nat) : State :=
  match s.syncKey (s.ctxPart n) (s.entBits (Ent.updTrigger n) 0 18) with
  | some key => s.modCtx n fun c => { c with upd := { c.upd with
      target := (s.word key).value + s.entBits (Ent.updTrigger n) 32 32 } }
  | none => s

/-- A core of a context after steps 2 to 5 of R387: nothing queued, uncommitted posts discarded, scratchpad zeroed,
windows closed, engines, flags, local counters and queues cleared. A window table held aside stays with its slot; read data
and acknowledgements still returning are dropped where they land (step 4). -/
def Core.afterReset (c : Core) (drop : TaskDesc → Bool) : Core :=
  { c with
    regs := { c.regs with lctr := [], v := [] }
    icache := []
    sp := { Scratch.zero with held := c.sp.held, heldAll := c.sp.heldAll, heldPoison := c.sp.heldPoison }
    mxe := Mxe.clear
    hq := Handles.empty
    disp := { Disp.idle with
      acks := c.disp.acks
      lateLoads := c.disp.lateLoads ++ c.disp.loads.map fun _ => (c.run.map fun r => r.ctx).getD 0
      lateStores := c.disp.lateStores ++ c.disp.stores.map fun _ => (c.run.map fun r => r.ctx).getD 0 }
    flags := Flags4.zero
    post := c.post.filter (·.committed)
    tasks := c.tasks.filter fun t => !drop t
    run := none
    segLong := false
    replay := false }

/-- Remove cores from the transfer grants of their clusters. -/
def State.dropGrants (s : State) (cores : List Nat) : State :=
  { s with grants := SMap.mapVals (fun _ => []) (fun _ l => l.filter fun k => !cores.contains k) s.grants }

/-- Discard the collectives of a context: ABORT tokens go out, buffers return, COLL_ISSUED returns to 0 and
COLL_DB_BASE takes the doorbell word's value (R332, R349, R387). -/
def State.dropColls (s : State) (n : Nat) : State :=
  let c := s.ctx n
  let back := c.colls.foldl (fun a x => a + x.buffers) 0
  let s1 := c.colls.foldl (fun s x => if x.ended then s else s.abortLanes n x.gen x.desc false) s
  let s2 := (s1.modCtx n fun c => { c with colls := [], tokens := [], aborted := [] }).setEnt Ent.rsramFree
    (Nat.min 32 (s.ent Ent.rsramFree + back))
  let s3 := { s2 with links := { s2.links with order := s2.links.order.filter fun p => p.1 != n } }
  let s4 := s3.setEnt (Ent.collIssued n) 0
  match s4.syncKey (s4.ctxPart n) (s4.entBits (Ent.collDoorbell n) 0 18) with
  | some key => s4.setEnt (Ent.collDbBase n) (s4.word key).value
  | none => s4

/-- Stop the sequencer of partition k before its next issue (R290). -/
def State.stopSeq (s : State) (k : Nat) : State :=
  (s.setEntBit (Ent.seqCtl k) 6 false).modPart k fun p => { p with seq := { Seq.stopped with left := p.seq.left } }

/-- Discard the update-engine items of a context (Table 9.7): a sweep under way ends with SWEEP_ABORTED, which names each
engine that has completed a group with its record and its last element, and CAUSE 5;
triggers queued are discarded, and a DONE that a vote withholds is dropped (R368). -/
def State.dropSweep (s : State) (n : Nat) : State :=
  let u := (s.ctx n).upd
  let s1 := if u.stage = .sweep then
      (s.logCtx Code.sweepAborted n (u.ends.flatMap fun e => [e.1, e.2.1, e.2.2])).setEntBits (Ent.updStatus n) 2 3 5
    else s
  (s1.modCtx n fun c => { c with
    upd := { Upd.init with target := u.target }
    vote := { c.vote with own := none, withheld := false } }).setEntBit (Ent.updStatus n) 0 false

/-- Discard the tasks of a context everywhere: running, queued in cores, and in flight. -/
def State.dropTasks (s : State) (n : Nat) : State :=
  let run := s.runningCores n
  let s1 := s.modCores run (Core.afterReset · fun t => t.ctx == n)
  let s2 := { s1 with cores := SMap.mapVals (fun _ => Core.init) (fun _ c =>
    { c with tasks := c.tasks.filter fun t => t.ctx != n }) s1.cores }
  let issued := ((s.ctx n).tasks.filter fun t => t.seq.isSome).length
  (((s2.dropWatches run).dropGrants run).modCtx n fun c => { c with tasks := [] }).modPart (s.ctxPart n) fun p =>
    { p with seq := { p.seq with left := p.seq.left - issued } }

/-- Discard the descriptors of a context queue: those read, and those written and not yet read (R427). -/
def State.dropQueue (s : State) (n : Nat) : State :=
  (s.modCtx n fun c => { c with cqRead := [] }).setPg n 0x010 (s.pg n 0x040)

/-- Discard the pending live values of a context (R301): entries at its subindex. -/
def State.dropLive (s : State) (n : Nat) : State :=
  { s with live := s.live.filter fun e =>
      match Catalog.row e.1 with
      | some r => !(r.scope == .ctx && e.1 % 256 == n + 1)
      | none => true }

/-- What a reset of a context does to an evaluation slot (R299): a reset of the parent ends the slot at once, discards
the evaluation context's tasks and zeroes the bound scratchpads; a reset of the evaluation context takes the slot to step 6, with no
further task of it. -/
def State.endSlot (s : State) (n : Nat) : State :=
  let home := s.ctxHome n
  let last := fun (s : State) => s.modCtx home fun c => { c with eval := .running n true }
  if s.ctxEval n then
    match (s.ctx home).eval with
    | .copied e => if e = n then last s else s
    | .running e _ => if e = n then last s else s
    | _ => s
  else
  let finish := fun (s : State) => (s.modCores (s.boundCores n) fun c => { c with sp := Scratch.zero }).modCtx n fun c =>
    { c with eval := .none, evalDue := [] }
  match (s.ctx n).eval with
  | .none => s
  | .running e _ => finish (s.dropTasks e)
  | _ => finish s

/-- The cores whose scratchpads a reset of context n zeroes (R118, R387 step 5): the bound cores of a training
context; for an evaluation context the cores that run its tasks. -/
def State.resetCores (s : State) (n : Nat) : List Nat := if s.ctxEval n then s.runningCores n else s.boundCores n

/-- Steps 1 to 7 of R387 for context n. The tag of a context whose own reset a larger one absorbs has advanced already
(R393, R395). -/
def State.ctxResetSteps (s : State) (n cause : Nat) : State :=
  let cores := s.resetCores n
  let s0 := s.modCtx n fun c => { c with resetting := some cause }
  let s1 := if (s.ctx n).resetting.isSome then s0 else s0.advanceTag n
  let s2 := ((s1.dropTasks n).dropQueue n)
  let s3 := ((s2.modCores cores (Core.afterReset · fun t => t.ctx == n)).dropWatches cores).dropGrants cores
  let s4 := s3.setEnt (Ent.ctxFlags n) 0
  let s5 := (s4.zeroPrivate n).abandonLocks n
  let s6 := ((s5.dropSweep n).retarget n).dropColls n
  let s7 := (List.range 16).foldl (fun s k =>
    if s.entBit (Ent.seqCtl k) 6 && s.entBits (Ent.seqCtl k) 0 6 == n && s.ctxPart n == k then s.stopSeq k else s) s6
  (s7.dropLive n).endSlot n

/-- Give a context a reset (R387): merged into a reset of the context, its partition or the compute dies that is
already in progress (R395). -/
def State.ctxReset (s : State) (n cause : Nat) : State :=
  if !s.ctxValid n || (s.ctx n).resetting.isSome || (s.part (s.ctxPart n)).resetting || s.rel.creset then s
  else (s.ctxResetSteps n cause).resetLevel 1

/-- A fault of a task on a core: record it with the logical core, the PC and its arguments, and reset the context. -/
def State.coreFault (s : State) (k n code pc : Nat) (args : List Nat) : State :=
  (s.logCore code n k (pc :: args)).ctxReset n code

/-- A unit of the device fails to read or write memory of a context: the context is reset (Table 8.5, R234). -/
def State.unitFault (s : State) (n code va : Nat) : State := (s.logCtx code n [va]).ctxReset n code

/-- A reset has completed: the policy actions that asked for it are over (R382). -/
def State.escEnded (s : State) (p : EscRec → Bool) : State :=
  let f : EscRec → EscRec := fun e => if e.ended.isNone && p e then { e with ended := some s.now } else e
  { s with rel := { s.rel with esc := s.rel.esc.map f } }

/-- Step 8 of R387: the context enters IDLE, RESET_COUNT rises, CONTEXT_RESET is recorded with the cause, the host is
notified, and a held CQ_TAIL write is applied (R427). -/
def State.ctxResetDone (s : State) (n : Nat) : State :=
  match (s.ctx n).resetting with
  | none => s
  | some cause =>
    let s1 := (s.modCtx n fun c => { c with resetting := none }).bump (Ent.resetCount n)
    let s2 := (s1.logCtx Code.contextReset n [cause]).setPg n 0x028 cause
    let s3 := (s2.cqEvent n 0).escEnded fun e => Nat.ble e.level 2 && e.scope == (if e.source = 4 then s.ctxPart n else n)
    match (s.ctx n).heldTail with
    | none => s3
    | some t =>
      let s4 := s3.modCtx n fun c => { c with heldTail := none }
      if Nat.blt t (s4.pg n 0x040) || Nat.blt (s4.pg n 0x010 + s4.pg n 0x008) t then s4.cqEvent n 1
      else s4.setPg n 0x040 t

/-- The part of R389 that a compute reset shares: sync memory, every context's reset, the fabrics of the clusters with
their post buffers, watches and crossings, the sequencer. Sync memory is cleared before the contexts' targets and doorbell
bases are set afresh, so that COLL_DB_BASE is 0 for a word that the reset clears (R332) and the next target is TRIG_INC
(R254; DEDUCED, assumption 102). -/
def State.partResetSteps (s : State) (k cause : Nat) (config : Bool) : State :=
  let clusters := s.partClusters k
  let cores := clusters.flatMap fun c => (List.range 24).map fun j => 24 * c + j
  let s1 := (s.modPart k fun p => { p with resetting := true }).clearWords clusters config
  let s2 := (s1.ctxsOf k).foldl (fun s n => s.ctxResetSteps n cause) s1
  let s3 := s2.modCores cores fun c => { (Core.afterReset c fun _ => true) with post := [], tasks := [], disp := Disp.idle }
  let s4 := (s3.dropWatches cores).dropGrants cores
  let s5 := { s4 with links := { s4.links with packets := s4.links.packets.filter fun p =>
    match p.dst with
    | some d => !cores.contains d
    | none => true } }
  (s5.clearArms k).stopSeq k

/-- Give partition k a reset (R389), absorbed by one already in progress or by a compute reset (R395). -/
def State.partReset (s : State) (k : Nat) : State :=
  if !s.partDefined k || (s.part k).resetting || s.rel.creset then s
  else ((s.partResetSteps k Code.partitionReset false).resetLevel 3).alert 2

/-- Give the compute dies a reset (R390): every partition passes through R389 together, the reduction engine is
reset, and the stacks are held until it completes (R239). -/
def State.compReset (s : State) : State :=
  if s.rel.creset then s
  else
    let s1 := { s with rel := { s.rel with creset := true } }
    let s2 := (List.range 16).foldl (fun s k => if s.partDefined k then s.partResetSteps k Code.computeReset true else s) s1
    let s3 := { s2 with cores := SMap.mapVals (fun _ => Core.init) (fun _ c =>
      { (Core.afterReset c fun _ => true) with post := [], tasks := [], disp := Disp.idle }) s2.cores, grants := [] }
    let s4 := State.disarm { s3 with
      sync := { s3.sync with words := [], watches := [] }
      links := { s3.links with packets := [], order := [] }
      mem := { s3.mem with served := false } } fun _ => true
    ((s4.setEnt Ent.rsramFree 32).resetLevel 4).alert 2

/-- Ask for a power cycle (R386): PWR_CYCLE_REQ_N and ALERT_N are asserted, POWER_CYCLE_REQ is set, the compute dies
are held, DEV_READY and READY fall (R466), and the links carry nothing, in electrical idle. -/
def State.powerCycleReq (s : State) : State :=
  let s1 := (s.compReset).setEntBit Ent.resetStatus 1 true
  let s2 := { s1 with
    plat := { s1.plat with pwrCycle := true, idle := true, devReady := false, stage := .noReady }
    links := Links.init }
  (s2.resetLevel 5).alert 2

/-- Take a reset of a level in the scope of a context (Table 14.2). -/
def State.takeReset (s : State) (level n cause : Nat) : State :=
  match level with
  | 1 => s.ctxReset n cause
  | 3 => s.partReset (s.ctxPart n)
  | 4 => s.compReset
  | 5 => s.powerCycleReq
  | _ => s

/-! ### Width (R101) -/

/-- The bad physical columns of a slot (BADCOL_MAP, Table 13.8). -/
def State.badCols (s : State) (c slot : Nat) : Nat := (setBits (s.entBits (Ent.badcolMap c) (72 * slot) 66) 66).length

/-- W for a number of bad columns (R101). -/
def widthOf (bad : Nat) : Nat := if Nat.ble bad 2 then 64 else 66 - bad

/-- W of a slot. -/
def State.slotWidth (s : State) (c slot : Nat) : Nat := widthOf (s.badCols c slot)

/-- Whether a slot may take a logical identity: W is at least 32 (R102). -/
def State.slotWorks (s : State) (c slot : Nat) : Bool := Nat.ble 32 (s.slotWidth c slot)

/-! ### Fences and spares (R358 to R363) -/

/-- The clusters of a die. -/
def dieClusters (d : Nat) : List Nat := (List.range 16).map fun i => 16 * d + i

/-- The logical core that holds a slot, if any. -/
def State.slotHolder (s : State) (c slot : Nat) : Option Nat :=
  ((dieClusters (dieOf c)).flatMap fun x => (List.range 24).map fun j => 24 * x + j).find? fun k =>
    s.slotOf k == (c, slot) && !s.coreLost k

/-- The visit under way on a die. -/
def State.visitOn (s : State) (d : Nat) : Option Visit := SMap.get (fun _ => none) s.rel.visits d

/-- The slot of cluster c under a Calico test: it serves as the spare where one is needed (R373). -/
def State.testSlot (s : State) (c : Nat) : Option Nat :=
  match s.visitOn (dieOf c) with
  | some v => if v.cluster = c then some v.slot else none
  | none => none

/-- Whether a die has a standby spare, or a slot under test that can serve as one (R363, R373). -/
def State.dieHasSpare (s : State) (d : Nat) : Bool :=
  (dieClusters d).any fun c => s.spareOf c != 31 || (s.testSlot c).isSome

/-- The logical cores of a die that are lost, lowest global cluster first, then lowest core (R363). -/
def State.lostOn (s : State) (d : Nat) : List Nat :=
  ((dieClusters d).flatMap fun c => (List.range 24).map fun j => 24 * c + j).filter s.coreLost

/-- A die without a standby spare enters DEGRADED (R363). -/
def State.judgeDie (s : State) (d : Nat) : State :=
  if s.dieHasSpare d then
    (if (s.lostOn d).isEmpty then s.setEntBit Ent.degradedDies d false else s)
  else if s.entBit Ent.degradedDies d then s
  else ((s.setEntBit Ent.degradedDies d true).log Code.degraded [d]).setReplace 2

/-- The context that owns a logical core: the one whose task it runs, else the training context bound to its
cluster. -/
def State.coreOwner (s : State) (k : Nat) : Option Nat :=
  match (s.core k).run with
  | some r => some r.ctx
  | none => (List.range 64).find? fun n => s.ctxValid n && !s.ctxEval n && (s.boundClusters n).contains (k / 24)

/-- The substitution of core k is over, with its replay where there was one: so is the level-2 action that asked for it
(R382, R384). -/
def State.coreReplaced (s : State) (k : Nat) : State := s.escEnded fun e => e.level == 2 && e.core == some k

/-- A logical identity is lost (R363): LOST is set in CORE_MAP, CORE_LOST is recorded and the owner is reset. -/
def State.loseCore (s : State) (k : Nat) : State :=
  let s1 := ((s.setEntBits (Ent.coreMap (k / 24)) (16 * (k % 24) + 15) 1 1).modCore k fun c =>
    { c with role := .lost }).coreReplaced k
  match s.coreOwner k with
  | some n => (s1.logCore Code.coreLost n k []).ctxReset n Code.coreLost
  | none => s1.logHeld Code.coreLost k []

/-- Set a slot's FENCED bit and record the fence of a slot that holds no identity (R358). -/
def State.markFenced (s : State) (c slot : Nat) : State :=
  (s.setEntBit (Ent.fenced c) slot true).logSlot Code.fence c slot []

/-- Acknowledgements of what the failed attempt of core k sent no longer count for it (R358: what returns to the slot is
discarded). -/
def State.orphanSends (s : State) (k : Nat) : State :=
  { s with links := { s.links with
      packets := s.links.packets.map fun p => if p.sender = some k then { p with sender := none } else p
      sent := s.links.sent.map fun e => if e.core = k then { e with send := false } else e } }

/-- Fence the physical core that holds logical core k (R358): dispatch and issue stop, its watches and uncommitted
entries go, FENCED is set; on a die without a spare the identity is lost. The moment of the fence orders it among others
(R33, R359). -/
def State.fence (s : State) (k : Nat) : State :=
  if (s.core k).role = .fenced || (s.core k).role = .lost then s
  else
    let p := s.slotOf k
    let s0 := (s.setEntBit (Ent.fenced p.1) p.2 true).logHeld Code.fence k []
    let s1 := s0.modCore k fun c => { c with
      disp := { Disp.idle with count := c.disp.count }
      post := c.post.filter (·.committed)
      role := .fenced
      fencedAt := s.now }
    let s2 := ((s1.dropWatches [k]).dropGrants [k]).orphanSends k
    if s2.dieHasSpare (dieOf p.1) then s2 else s2.loseCore k

/-- Fence for a residue or parity error (R83): a diagnosis visit of the slot is queued ahead of the rotation (R454). -/
def State.fenceParity (s : State) (k : Nat) : State :=
  let p := s.slotOf k
  let s1 := s.fence k
  if (s.core k).role = .fenced || (s.core k).role = .lost then s1
  else { s1 with rel := { s1.rel with queued := s1.rel.queued ++
    [{ cluster := p.1, slot := p.2, kind := .diagnosis, cond := 0, deferred := false }] } }

/-- Add a working slot to the standby spares (R453, R363): a lost identity of the die is filled first; a cluster that
has a spare holds the slot in reserve. One with W < 32 stays out (R102). -/
def State.addSpare (s : State) (c slot : Nat) : State :=
  if !s.slotWorks c slot then s
  else
  let s1 := s.setEntBit (Ent.fenced c) slot false
  match s1.lostOn (dieOf c) with
  | k :: _ =>
    let m := putBits (s1.ent (Ent.coreMap (k / 24))) (16 * (k % 24)) 16
      (slot + 32 * c + (if c = k / 24 then 0 else 16384))
    ((s1.setEnt (Ent.coreMap (k / 24)) m).modCore k fun x => { x with role := .inService }).judgeDie (dieOf c)
  | [] =>
    if s1.spareOf c = 31 then (s1.setEntBits (Ent.coreMap c) 384 5 slot).judgeDie (dieOf c)
    else { s1 with rel := { s1.rel with reserve := s1.rel.reserve ++ [(c, slot)] } }

/-- The standby spare of cluster c takes an identity: the next slot in reserve becomes standby, if there is one
(Table 17.10). -/
def State.useSpare (s : State) (c : Nat) : State :=
  match s.rel.reserve.find? fun p => p.1 == c with
  | some p => { (s.setEntBits (Ent.coreMap c) 384 5 p.2) with
      rel := { s.rel with reserve := s.rel.reserve.filter fun q => q != p } }
  | none => s.setEntBits (Ent.coreMap c) 384 5 31

end Sys2Proof.Machine
end

