-- ==== Sys2Proof/Machine/Scratch.lean ====
section
/-!
DEFINITION. A core's registers (R117), scratchpad (R151) and flags (R61), and the state a task starts in (R118).
-/

namespace Sys2Proof.Machine

open Sys2Proof

/-! ### Registers -/

/-- Scalar register n. -/
def Core.sreg (c : Core) (n : BitVec 5) : Word64 := SMap.get (fun _ => (0#64 : Word64)) c.regs.s n.toNat

/-- Address register n. -/
def Core.areg (c : Core) (n : BitVec 4) : Word64 := SMap.get (fun _ => (0#64 : Word64)) c.regs.a n.toNat

/-- Predicate register n; p0 is 1 (R117). -/
def Core.preg (c : Core) (n : BitVec 3) : Bool := n == 0#3 || c.regs.p.getLsbD n.toNat

/-- Write a scalar register. -/
def Core.setS (c : Core) (n : BitVec 5) (v : Word64) : Core :=
  { c with regs := { c.regs with s := SMap.set (fun _ => (0#64 : Word64)) c.regs.s n.toNat v } }

/-- Write an address register. -/
def Core.setA (c : Core) (n : BitVec 4) (v : Word64) : Core :=
  { c with regs := { c.regs with a := SMap.set (fun _ => (0#64 : Word64)) c.regs.a n.toNat v } }

/-- The eight predicate bits with bit n set to v; p0 discards the write (R117). -/
def setPbit (p : BitVec 8) (n : BitVec 3) (v : Bool) : BitVec 8 :=
  if n = 0#3 then p
  else if v then p ||| (1#8 <<< n.toNat) else p &&& ~~~(1#8 <<< n.toNat)

/-- Write a predicate register. -/
def Core.setP (c : Core) (n : BitVec 3) (v : Bool) : Core := { c with regs := { c.regs with p := setPbit c.regs.p n v } }

/-- A guard (R121): bits [2:0] name a predicate register, bit 3 inverts it. -/
def Core.guard (c : Core) (g : BitVec 4) : Bool := c.preg (g.extractLsb' 0 3) != g.getLsbD 3

/-- Lane l of vector register v. -/
def Core.vlane (c : Core) (v : BitVec 5) (l : Nat) : Word32 :=
  SMap.get (fun _ => (0#32 : Word32)) c.regs.v (64 * v.toNat + l)

/-- The 64 lanes of a vector register. -/
def Core.vreg (c : Core) (v : BitVec 5) : List Word32 := (List.range 64).map (c.vlane v)

/-- Write the lanes of a vector register. -/
def Core.setV (c : Core) (v : BitVec 5) (l : List Word32) : Core :=
  { c with regs := { c.regs with
      v := SMap.setAll (fun _ => (0#32 : Word32)) c.regs.v (l.zipIdx.map fun p => (64 * v.toNat + p.2, p.1)) } }

/-- A local counter (R127). -/
def Core.lctr (c : Core) (n : Nat) : Nat := (SMap.get (fun _ => (0#64 : Word64)) c.regs.lctr n).toNat

/-- Set a local counter. -/
def Core.setLctr (c : Core) (n v : Nat) : Core :=
  { c with regs := { c.regs with lctr := SMap.set (fun _ => (0#64 : Word64)) c.regs.lctr n (BitVec.ofNat 64 v) } }

/-- Set the program counter, 48 bits (R114). -/
def Core.setPc (c : Core) (pc : Nat) : Core := { c with regs := { c.regs with pc := pc % 2 ^ 48 } }

/-! ### Flags (R61 to R63) -/

/-- An engine that holds flags. -/
inductive Engine where
  | mxe | vxe | txe
  deriving DecidableEq, Repr

/-- Set flags of an engine: they stay set, and the core gathers them for its context (R63). -/
def Core.raise (c : Core) (e : Engine) (f : FFlags) : Core :=
  { c with flags :=
    { m := if e = .mxe then c.flags.m ||| f else c.flags.m
      v := if e = .vxe then c.flags.v ||| f else c.flags.v
      t := if e = .txe then c.flags.t ||| f else c.flags.t
      seg := c.flags.seg ||| f } }

/-- The core's flags: the OR of its engines' flags (R62). -/
def Core.coreFlags (c : Core) : FFlags := c.flags.m ||| c.flags.v ||| c.flags.t

/-! ### Scratchpad (R151) -/

/-- Words of a scratchpad. -/
def spSize : Nat := 524288

/-- A scratchpad word; addresses wrap (R85). -/
def Core.rd (c : Core) (w : Nat) : Word32 := SMap.get (fun _ => (0#32 : Word32)) c.sp.words (w % spSize)

/-- Whether a word is poisoned (R148). -/
def Core.poisonedAt (c : Core) (w : Nat) : Bool := SMap.get (fun _ => c.sp.poisonAll) c.sp.poison (w % spSize)

/-- Write a word, which clears its poison (R148). -/
def Core.wr (c : Core) (w : Nat) (v : Word32) : Core :=
  { c with sp := { c.sp with
      words := SMap.set (fun _ => (0#32 : Word32)) c.sp.words (w % spSize) v
      poison := SMap.set (fun _ => c.sp.poisonAll) c.sp.poison (w % spSize) false } }

/-- Write words upward from w, wrapping. -/
def Core.wrWords (c : Core) (w : Nat) : List Word32 → Core
  | [] => c
  | v :: l => Core.wrWords (c.wr w v) (w + 1) l

/-- Byte b of the scratchpad. -/
def Core.rdByte (c : Core) (b : Nat) : Nat := (c.rd (b / 4)).toNat / 256 ^ (b % 4) % 256

/-- Write one byte: the word is read, the byte replaced and the word written back (R151). -/
def Core.wrByte (c : Core) (b v : Nat) : Core :=
  c.wr (b / 4) (BitVec.ofNat 32 (putBits (c.rd (b / 4)).toNat (8 * (b % 4)) 8 v))

/-- Put a value in a scratchpad word without an access: its mark stays (R9). -/
def Core.putWord (c : Core) (w : Nat) (v : Word32) : Core :=
  { c with sp := { c.sp with words := SMap.set (fun _ => (0#32 : Word32)) c.sp.words (w % spSize) v } }

/-- Whether any word of a list of addresses is poisoned. -/
def Core.anyPoison (c : Core) (l : List Nat) : Bool := l.any c.poisonedAt

/-- The n word addresses from w. -/
def wordRun (w n : Nat) : List Nat := (List.range n).map (w + ·)

/-- The word address in an address register (R85). -/
def Core.wordAddr (c : Core) (a : BitVec 4) : Nat := (c.areg a).toNat % spSize

/-! ### Task start (R118) -/

/-- A core in the state in which a task starts: PC and s0 to s3 from its descriptor, all else of R118 cleared. -/
def Core.startTask (c : Core) (t : TaskDesc) (r : RunTask) : Core :=
  let z : SMap Word64 := []
  let set := SMap.set (fun _ => (0#64 : Word64))
  let sregs := set (set (set (set z 0 t.s0) 1 t.s1) 2 t.s2) 3 t.s3
  { c with
    regs := { Regs.zero with pc := t.pc % 2 ^ 48, s := sregs }
    icache := []
    mxe := Mxe.clear
    flags := Flags4.zero
    disp := { Disp.idle with acks := c.disp.acks, lateLoads := c.disp.lateLoads, lateStores := c.disp.lateStores,
                              count := c.disp.count }
    hq := { c.hq with loc := [] }
    crec := { CommitRec.init with pc := t.pc % 2 ^ 48, s := sregs, dispatched := c.disp.count }
    run := some r
    segLong := false }

end Sys2Proof.Machine
end

