-- ==== Sys2Proof/Machine/CoreOps.lean ====
section
/-!
DEFINITION. Dispatch (R113 to R122, R126, R135), the queues and their entries, register interlocks (R116), what a
detector's fault does (R83, R155), and what the engines share.
-/

namespace Sys2Proof.Machine

open Sys2Proof

/-! ### Queue entries -/

/-- The queue that a Q field names (Table 5.4). -/
def qUnit (q : BitVec 2) : CoreUnit :=
  match q with
  | 0#2 => .seq
  | 1#2 => .mxe
  | 2#2 => .vxe
  | _ => .txe

/-- The unit that an entry executes in (Table 5.3). -/
def EngOp.unit : EngOp → CoreUnit
  | .mload _ _ | .mswap | .mstream _ _ _ | .mdrain _ _ => .mxe
  | .vec _ _ | .vmem _ _ _ => .vxe
  | .tload _ | .tstore _ _ | .tsend _ _ _ | .wopen _ | .wclose _ => .txe
  | .spost _ x | .swait _ x | .slock x | .sunlock x | .hpush _ x | .hpop _ x => qUnit x.q

/-- The word of a synchronisation instruction (Table 5.6). -/
def EngOp.syncWord : EngOp → Word64
  | .spost l x => wordY 0x01#6 l x
  | .swait l x => wordY 0x02#6 l x
  | .slock x => wordY 0x04#6 false x
  | .sunlock x => wordY 0x05#6 false x
  | .hpush l x => wordY 0x06#6 l x
  | .hpop l x => wordY 0x07#6 l x
  | _ => 0#64

/-- Whether an entry moves data (R136). -/
def EngOp.moves : EngOp → Bool
  | .tload _ | .tstore _ _ | .tsend _ _ _ => true
  | _ => false

/-- Whether an entry is a gathered submission (R106). -/
def EngOp.gathers : EngOp → Bool
  | .mstream _ g _ => g
  | _ => false

/-- The kind of an instruction by its unit (R135). -/
def unitPeriod : CoreUnit → Period
  | .txe => .transfer
  | _ => .compute

/-- The queue of a unit. -/
def Disp.queue (d : Disp) : CoreUnit → List QEntry
  | .mxe => d.qM
  | .vxe => d.qV
  | .txe => d.qT
  | .seq => []

/-- Replace the queue of a unit. -/
def Disp.setQueue (d : Disp) (u : CoreUnit) (q : List QEntry) : Disp :=
  match u with
  | .mxe => { d with qM := q }
  | .vxe => { d with qV := q }
  | .txe => { d with qT := q }
  | .seq => d

/-- Every entry queued. -/
def Disp.queued (d : Disp) : List QEntry := d.qM ++ d.qV ++ d.qT

/-! ### Registers that an entry reads and writes (R85, R116, R130, R134) -/

/-- The registers of a stochastic rounding: none with RND = 0 (R130). -/
def rndReads (rnd : Bool) (sI sT : BitVec 5) : List RegName := if rnd then [.s sI, .s sT] else []

/-- The registers that an entry reads. -/
def EngOp.reads : EngOp → List RegName
  | .mload x _ => [.a x.aE, .a x.aS, .s x.sG]
  | .mswap => []
  | .mstream x _ _ => [.a x.aE, .a x.aS, .s x.sM, .s x.sG] ++ (if x.dest then [.a x.aO] else [])
  | .mdrain x _ => [.a x.aO, .a x.aS, .s x.sM, .s x.sG] ++ rndReads x.rnd x.sI x.sT
  | .vec op x =>
    match op with
    | .vbcast => [.s x.sX]
    | .vdrop => [.s x.sX, .s x.sI, .s x.sT]
    | .vrand => [.s x.sI, .s x.sT]
    | .vcvt => rndReads x.rnd x.sI x.sT
    | _ => []
  | .vmem op x _ =>
    match op with
    | .vld => [.a x.aE, .a x.aS]
    | .vst => [.a x.aE, .a x.aS] ++ rndReads x.rnd x.sI x.sT
    | .sld => [.a x.aE]
    | .sldd => [.a x.aE]
    | .sst => [.a x.aE, .s x.d]
    | .sstd => [.a x.aE, .s x.d]
  | .tload x => [.a x.aL, .a x.aV, .s x.sN, .s x.sG] ++ rndReads x.rnd x.sI x.sT
  | .tstore x _ => [.a x.aL, .a x.aV, .s x.sN, .s x.sG] ++ rndReads x.rnd x.sI x.sT
  | .tsend x _ _ => [.a x.aL, .s x.sN, .s x.sR] ++ rndReads x.rnd x.sI x.sT
  | .wopen x => [.a x.aB, .s x.sN]
  | .wclose _ => []
  | .spost _ x | .swait _ x | .hpush _ x => .s x.a :: (if x.i then [] else [.s x.b])
  | .slock x | .sunlock x | .hpop _ x => [.s x.a]

/-- The registers that an entry writes. -/
def EngOp.writes : EngOp → List RegName
  | .vec .vlane x | .vec .vredsum x | .vec .vredmax x => [.s x.sX]
  | .vmem .sld x _ | .vmem .sldd x _ => [.s x.d]
  | .slock x | .hpop _ x => [.s x.d]
  | _ => []

/-- Whether two lists of registers share one. -/
def meets (a b : List RegName) : Bool := a.any b.contains

/-- Whether the interlock of R116 holds an instruction back behind what is queued. -/
def Core.interlocked (c : Core) (rd wr : List RegName) : Bool :=
  c.disp.queued.any fun e => meets rd e.op.writes || meets wr e.op.writes || meets wr e.op.reads

/-! ### Detectors -/

/-- How an entry at a queue head ends: it leaves the queue, it stays there, or the queue is gone with a reset or a
fence. -/
inductive HeadRes where
  | done (s : State)
  | wait (s : State) (e : QEntry)
  | gone (s : State)

/-- Change the state that an entry leaves. -/
def HeadRes.map (h : HeadRes) (f : State → State) : HeadRes :=
  match h with
  | .done s => .done (f s)
  | .wait s e => .wait (f s) e
  | .gone s => .gone (f s)

/-- Change the state that an entry leaves, unless it is gone. -/
def HeadRes.onward (h : HeadRes) (f : State → State) : HeadRes :=
  match h with
  | .done s => .done (f s)
  | .wait s e => .wait (f s) e
  | .gone s => .gone s

/-- Change the state of an entry that is done. -/
def HeadRes.onDone (h : HeadRes) (f : State → State) : HeadRes :=
  match h with
  | .done s => .done (f s)
  | .wait s e => .wait s e
  | .gone s => .gone s

/-! ### Unordered accesses (R156) -/

/-- How many of the period's accesses come before what unit u does now. -/
def Races.known (r : Races) (u : CoreUnit) : Nat :=
  match u with
  | .mxe => r.mxe
  | .vxe => r.vxe
  | _ => r.touches.length

/-- The words that the other compute engine has accessed, or written, with nothing to order that before unit u. -/
def Races.unordered (r : Races) (u : CoreUnit) (writes : Bool) : List Nat :=
  ((r.touches.drop (r.known u)).filter fun t => t.unit != u && (t.write || !writes)).flatMap (·.words)

/-- Record accesses of a compute engine. -/
def Races.touch (r : Races) (u : CoreUnit) (write : Bool) (words : List Nat) : Races :=
  if words.isEmpty || (u != .mxe && u != .vxe) then r
  else { r with touches := r.touches ++ [{ unit := u, write := write, words := words }] }

/-- Unit u comes after the first n accesses; what the sequencer waits for comes before both engines. -/
def Races.learn (r : Races) (u : CoreUnit) (n : Nat) : Races :=
  { r with
    mxe := if u = .mxe || u = .seq then Nat.max r.mxe n else r.mxe
    vxe := if u = .vxe || u = .seq then Nat.max r.vxe n else r.vxe }

/-- Record a step of unit u on a local counter or handle queue. -/
def Races.mark (r : Races) (u : CoreUnit) (key value : Nat) : Races :=
  { r with marks := r.marks ++ [{ key := key, value := value, unit := u, upto := r.touches.length }] }

/-- What a step of another unit orders before unit u. -/
def SyncMark.before (m : SyncMark) (u : CoreUnit) : Nat := if m.unit = u || m.unit = .seq then 0 else m.upto

/-- Unit u has seen a local counter reach a value: it comes after the posts up to the first that brought it there. -/
def Races.awaited (r : Races) (u : CoreUnit) (key value : Nat) : Races :=
  let l := r.marks.filter fun m => m.key == key
  let low := l.takeWhile fun m => Nat.blt m.value value
  r.learn u ((low ++ (l.drop low.length).take 1).foldl (fun a m => Nat.max a (m.before u)) 0)

/-- Unit u comes after step i of the period on a key. -/
def Races.afterStep (r : Races) (u : CoreUnit) (key i : Nat) : Races :=
  r.learn u (((r.marks.filter fun m => m.key == key)[i]?.map fun m => m.before u).getD 0)

/-- The steps of the period on a key. -/
def Races.steps (r : Races) (key : Nat) : Nat := (r.marks.filter fun m => m.key == key).length

/-- Change the record of a core's accesses. -/
def Core.modRaces (c : Core) (f : Races → Races) : Core := { c with disp := { c.disp with races := f c.disp.races } }

/-- The words of a list that unit u would read unordered with a write of the other engine: what it reads is unpredictable. -/
def Core.racedReads (c : Core) (u : CoreUnit) (words : List Nat) : List (Fin 524288) :=
  let l := c.disp.races.unordered u true
  if l.isEmpty then [] else ((words.map (· % spSize)).filter l.contains).map (Fin.ofNat 524288)

/-- Unit u of core k has run an instruction from s to t that read `words`: what it wrote unordered with an access of the
other engine is unpredictable, and its accesses are recorded. -/
def State.noteAccess (t : State) (k : Nat) (u : CoreUnit) (s : State) (words : List Nat) : State :=
  let a := (s.core k).sp.words
  let b := (t.core k).sp.words
  let written := SMap.changed (a.length + b.length) a b
  let free := written.filter ((s.core k).disp.races.unordered u false).contains
  (free.foldl (fun t w => t.freeNat.2.modCore k fun c => c.putWord w (BitVec.ofNat 32 t.freeNat.1)) t).modCore k fun c =>
    c.modRaces fun r => (r.touch u false (words.map (· % spSize))).touch u true written

/-- A free word in a scratchpad word of core k, which its reader takes for what stands there (R9). -/
def State.misread (s : State) (k : Nat) (words : List (Fin 524288)) : State :=
  words.foldl (fun s w => s.freeNat.2.modCore k fun c => c.putWord w.val (BitVec.ofNat 32 s.freeNat.1)) s

/-- The words that were only read wrong hold again what they held in s; `wrong` is the state in which they were read, t
the state after the instruction. -/
def State.reread (t : State) (k : Nat) (words : List (Fin 524288)) (s wrong : State) : State :=
  words.foldl (fun t w =>
    if (t.core k).rd w.val = (wrong.core k).rd w.val then t.modCore k fun c => c.putWord w.val ((s.core k).rd w.val)
    else t) t

/-- Change one plane of a core. -/
def Core.modPlane (c : Core) (b : Bool) (f : Plane → Plane) : Core :=
  { c with mxe := if b then { c.mxe with planeB := f c.mxe.planeB } else { c.mxe with planeA := f c.mxe.planeA } }

/-- A wrong value v in a place of core k or of stacked memory (R9). -/
def State.putWrong (s : State) (k : Nat) (p : WrongAt) (v : Nat) : State :=
  match p with
  | .word w => s.modCore k fun c => c.putWord w.val (BitVec.ofNat 32 v)
  | .acc row col => s.modCore k fun c => { c with mxe := { c.mxe with
      acc := SMap.set (fun _ => f32zero true) c.mxe.acc (64 * row.val + col.val) (BitVec.ofNat 32 v) } }
  | .elem b n i => s.modCore k fun c => c.modPlane b fun p =>
      { p with elems := SMap.set (fun _ => 0) p.elems (64 * n.val + i.val) (v % 2 ^ 32) }
  | .scale b n j => s.modCore k fun c => c.modPlane b fun p =>
      { p with scales := SMap.set (fun _ => 0) p.scales (2 * n.val + j.val) (v % 256) }
  | .lane r l => s.modCore k fun c => { c with regs := { c.regs with
      v := SMap.set (fun _ => (0#32 : Word32)) c.regs.v (64 * r.toNat + l.val) (BitVec.ofNat 32 v) } }
  | .sreg n => s.modCore k fun c => c.setS n (BitVec.ofNat 64 v)
  | .areg n => s.modCore k fun c => c.setA n (BitVec.ofNat 64 v)
  | .sync c w => s.setWord (wordKey c.val w.val) { s.word (wordKey c.val w.val) with value := v % 2 ^ 64 }
  | .byte a b => s.writePhys (paOf a.stack.val a.frame.val (64 * a.line.val + b.val)) [BitVec.ofNat 8 v]

/-- Free values in the places that a corruption of logic leaves wrong: no rule states them (R9; assumption 99). -/
def State.corrupt (s : State) (k : Nat) (l : List WrongAt) : State :=
  l.foldl (fun s p => s.freeNat.2.putWrong k p s.freeNat.1) s

/-- Whether the device runs on while its 12 V input is out of range (R403). -/
def State.sagging (s : State) : Bool := s.plat.stage == .ready && !s.plat.main

/-- What a moment of a sag does: results of any partition may be wrong, with no detector noticing (R403); where, and with
what values, is free (assumption 62). -/
def State.sag (s : State) : State :=
  (Config.sagWrong s.freeCtr).foldl (fun s p => s.corrupt (p.1 % 1536) [p.2]) { s with freeCtr := s.freeCtr + 1 }

/-- Run an engine instruction of context n on core k under its detectors: a parity or residue error (R83) and a
double-bit error (R155) fence the core before anything is written; a corrected word is recorded (R155); a poisoned
word read resets the context (R148). A corruption that no check covers goes unseen: the instruction works on, and leaves,
free values where it strikes (R9). So do accesses that nothing orders with those of the other compute engine (R156).
`words`: the scratchpad words read. -/
def State.guarded (s : State) (k n pc : Nat) (u : CoreUnit) (hw : HwFault) (words : List Nat) (f : State → HeadRes) :
    HeadRes :=
  match hw with
  | .parity => .gone (s.fenceParity k)
  | .eccDouble => .gone (s.fence k)
  | _ =>
    if (s.core k).anyPoison words then .gone (s.coreFault k n Code.poisonConsumed pc [])
    else
      let strikes : List (Fin 524288) × List WrongAt := match hw with
        | .silent rd lv => (rd, lv)
        | _ => ([], [])
      let s1 := if hw = .eccSingle then s.logCore Code.spCorrected n k [pc] else s
      let rd := strikes.1 ++ (s1.core k).racedReads u words
      let wrong := s1.misread k rd
      ((f wrong).map fun t => t.reread k rd s1 wrong).onward fun t => (t.noteAccess k u s1 words).corrupt k strikes.2

/-- An instruction that names a reserved or mismatched format (R43): the context is reset. -/
def State.mismatch (s : State) (k n pc : Nat) (codes : List Nat) : HeadRes :=
  .gone (s.coreFault k n Code.formatMismatch pc codes)

/-- The rounding of element i of an instruction (R55, R130). -/
def roundOf (r : RunTask) (rnd : Bool) (tensor i : Nat) : RoundMode :=
  if rnd then .sr (gauzeValue r.key r.step tensor i) else .rne

/-! ### Dispatch -/

/-- Advance to the next instruction, dispatch no longer waiting for the engines. -/
def Core.next (c : Core) : Core :=
  { c.setPc (c.regs.pc + 8) with disp := { c.disp with drain := false, count := c.disp.count + 1 } }

/-- An illegal word (R122): nothing of it executes, the record names the logical core, the PC and the word, and the
context is reset. -/
def State.illegal (s : State) (k n pc : Nat) (word : Word64) : State :=
  s.coreFault k n Code.illegalInstruction pc [word.toNat]

/-- The task of a core whose sequencer can dispatch: in service and held by nothing. -/
def Core.ready (c : Core) : Option RunTask :=
  match c.run with
  | some r => if c.role = .inService && c.disp.hold = .none then some r else none
  | none => none

/-- The die of the slot that holds core k (R232 counts accesses by die). -/
def State.coreDie (s : State) (k : Nat) : Nat := dieOf (s.slotOf k).1

/-- Whether the instruction cache holds the line of a PC (R114). -/
def Core.cached (c : Core) (pc : Nat) : Bool := c.icache.contains (pc / 256)

/-- Put a 256 B line into the instruction cache of 64 sets of 4 ways (Table 5.1); which line of a full set gives way is
stated nowhere and is free (assumption 106). -/
def State.fillCache (s : State) (k line : Nat) : State :=
  let ways := (s.core k).icache.filter fun l => l % 64 == line % 64
  if Nat.blt ways.length 4 then s.modCore k fun c => { c with icache := c.icache ++ [line] }
  else
    let r := s.freeNat
    let out := ways.getD (r.1 % 4) 0
    r.2.modCore k fun c => { c with icache := c.icache.filter (fun l => l != out) ++ [line] }

/-- Fetch the instruction at a PC of context n (R114): from the instruction cache, or by filling a line of it, which reads
256 B through the cluster memory port and counts as the die's accesses (R232). A PC that is not a multiple of 8 or lies in an
unmapped page, and a line that reads as poisoned, are faults with their code and address. -/
def State.fetch (s : State) (k n pc : Nat) : Except (Nat × Nat) State :=
  if pc % 8 ≠ 0 then .error (Code.unmapped, pc)
  else if (s.core k).cached pc then .ok s
  else
    match s.readVirt n (pc / 256 * 256) 256 with
    | .ok _ => .ok ((s.countLines n (pc / 256 * 256) 256 (s.coreDie k)).fillCache k (pc / 256))
    | .fail code va => .error (code, if code = Code.unmapped then pc else va)

/-- Present an instruction to core k's sequencer: nothing happens while it cannot dispatch (assumption 1); a fetch
that R114 forbids faults; a false guard retires it (R121); an interlock holds it back (R116). -/
def State.dispatch (s : State) (k : Nat) (guard : BitVec 4) (rd wr : List RegName) (f : RunTask → State → State) :
    State :=
  let c := s.core k
  match c.ready with
  | none => s
  | some r =>
    match s.fetch k r.ctx c.regs.pc with
    | .error e => s.coreFault k r.ctx e.1 c.regs.pc [e.2]
    | .ok s1 =>
      if !c.guard guard then s1.modCore k Core.next
      else if c.interlocked rd wr then s1
      else f r s1

/-- A word that no instruction is reaches dispatch (R122): it faults whatever its guard. -/
def State.illegalWord (s : State) (k : Nat) (word : Word64) : State :=
  s.dispatch k 0#4 [] [] fun r s => s.illegal k r.ctx (s.core k).regs.pc word

/-- An instruction that the sequencer executes at dispatch (R113): a change of the core, then the next instruction. -/
def State.scalar (s : State) (k : Nat) (guard : BitVec 4) (rd wr : List RegName) (f : Core → Core) : State :=
  s.dispatch k guard rd wr fun _ s => s.modCore k fun c => (f c).next

/-- Whether every engine has retired (R107, R124): queues, loads and gatherer empty. -/
def Core.retired (c : Core) : Bool :=
  c.disp.queued.isEmpty && c.disp.loads.isEmpty && c.mxe.gath.rows.isEmpty && c.mxe.gath.subs.isEmpty

/-- An instruction that waits at dispatch until every engine has retired (R62, R124). -/
def State.afterEngines (s : State) (k : Nat) (guard : BitVec 4) (wr : List RegName) (f : Core → Core) : State :=
  s.dispatch k guard [] wr fun _ s =>
    if (s.core k).retired then s.modCore k fun c => ((f c).modRaces fun _ => Races.none).next
    else s.modCore k fun c => { c with disp := { c.disp with drain := true } }

/-- The entry of an instruction that core c dispatches now. -/
def QEntry.new (c : Core) (op : EngOp) : QEntry :=
  { op := op, pc := c.regs.pc, seq := c.disp.count, waiting := false, prog := 0 }

/-- Place an entry at the tail of its queue and go on to the next instruction (R113). -/
def Core.enqueue (c : Core) (op : EngOp) : Core :=
  let u := op.unit
  Core.next { c with disp := { c.disp.setQueue u (c.disp.queue u ++ [QEntry.new c op]) with
    period := some (unitPeriod u) } }

/-- Whether the period admits an instruction of a unit (R135). -/
def Core.admits (c : Core) (u : CoreUnit) : Bool :=
  match c.disp.period with
  | none => true
  | some p => p == unitPeriod u

/-- Replace the head of a unit's queue. -/
def Core.setHead (c : Core) (u : CoreUnit) (e : QEntry) : Core :=
  { c with disp := c.disp.setQueue u (e :: (c.disp.queue u).drop 1) }

/-- Remove the head of a unit's queue. -/
def Core.pop (c : Core) (u : CoreUnit) : Core := { c with disp := c.disp.setQueue u ((c.disp.queue u).drop 1) }

end Sys2Proof.Machine
end

