-- ==== Sys2Proof/Machine/DotProduct.lean ====
section
/-!
DEFINITION. The exact dot product (03_exact_dot_product.md): decoding of operands (R68), exact products
(R69), the alignment frame (R70), the 34-bit sum (R71), its conversion (R72), special operands (R73), flags
(R74) and the reference definition (R75).
-/

namespace Sys2Proof.Machine

/-- Frame width F of an operand format (Table 3.2). -/
def Fmt.frame : Fmt → Nat
  | .b16 | .f16 | .fp32 => 28
  | .e4m3 | .e5m2 | .mxint8 => 24
  | .e3m2 | .e2m3 | .e2m1 => 20

/-- An operand element with the scale byte of its own block (R68, Table 3.1); a scale of 0xFF reads as NaN (R50). -/
def operand (f : Fmt) (bits scale : Nat) : Fp :=
  if f.isMx then
    if scale % 256 = 255 then .nan
    else match f.decode bits with
      | .fin s m e => .fin s m (e + (scale % 256 : Nat) - 127)
      | x => x
  else f.decode bits

/-- What the products of a K block add up to before rounding: the special operands met, whether every zero
product is -0, and the finite non-zero products (R69, R73). -/
structure DotAcc where
  inv     : Bool
  nan     : Bool
  pinf    : Bool
  ninf    : Bool
  allNeg0 : Bool
  prods   : List (Bool × Nat × Int)
  deriving DecidableEq, Repr

/-- Take the product of one pair into account (R75). -/
def dotStep (acc : DotAcc) (p : Fp × Fp) : DotAcc :=
  let s := p.1.sign != p.2.sign
  match p.1, p.2 with
  | .inf _, .fin _ 0 _ | .fin _ 0 _, .inf _ => { acc with inv := true }
  | .nan, _ | _, .nan => { acc with nan := true }
  | .inf _, _ | _, .inf _ => if s then { acc with ninf := true } else { acc with pinf := true }
  | .fin _ m e, .fin _ n g =>
    if m * n = 0 then { acc with allNeg0 := acc.allNeg0 && s }
    else { acc with allNeg0 := false, prods := (s, m * n, e + g) :: acc.prods }

/-- t_k of R70 and whether a dropped bit is 1, for a frame whose lowest weight is 2^lsb. -/
def frameMag (lsb : Int) (m : Nat) (q : Int) : Nat × Bool :=
  if lsb ≤ q then (m <<< (q - lsb).toNat, false)
  else
    let d := (lsb - q).toNat
    let t := if 32 ≤ d then 0 else m >>> d
    (t, decide (t <<< d ≠ m))

/-- block_sum of R75: the fp32 block sum and the flags it raises. -/
def blockSum (f : Fmt) (pairs : List (Fp × Fp)) : Word32 × FFlags :=
  let acc := pairs.foldl dotStep { inv := false, nan := false, pinf := false, ninf := false, allNeg0 := true, prods := [] }
  if acc.inv then (f32nan, FFlags.invalid)
  else if acc.nan then (f32nan, 0#4)
  else if acc.pinf && acc.ninf then (f32nan, FFlags.invalid)
  else if acc.pinf then (f32inf false, 0#4)
  else if acc.ninf then (f32inf true, 0#4)
  else match (acc.prods.map fun p => some (expOf p.2.1 p.2.2)).foldl maxExp none with
    | none => (f32zero acc.allNeg0, 0#4)
    | some e =>
      let lsb : Int := e + 2 - f.frame
      let ts := acc.prods.map fun p => (p.1, frameMag lsb p.2.1 p.2.2)
      let sum : Int := ts.foldl (fun a t => if t.1 then a - (t.2.1 : Int) else a + (t.2.1 : Int)) 0
      let dropped := FFlags.when (ts.any fun t => t.2.2) FFlags.inexact
      if sum = 0 then (0#32, dropped)
      else let r := roundF32 (decide (sum < 0)) sum.natAbs lsb; (r.1, r.2 ||| dropped)

/-- column_result of R75 for one more block sum: v := v + block_sum (R66). -/
def accumulate (v : Word32) (b : Word32 × FFlags) : Word32 × FFlags :=
  let r := f32add v b.1
  (r.1, r.2 ||| b.2)

end Sys2Proof.Machine
end

