-- ==== Sys2Proof/Machine/Matrix.lean ====
section
/-!
DEFINITION. What the matrix engine does with one instruction (04): planes and MLOAD (R87, R88), MSTREAM (R90, R91),
MDRAIN (R95, R96), and the row gatherer (R106 to R108).
-/

namespace Sys2Proof.Machine

open Sys2Proof

/-- An accumulator element; unwritten it reads -0 (R94). -/
def Core.accAt (c : Core) (row col : Nat) : Word32 := SMap.get (fun _ => f32zero true) c.mxe.acc (64 * row + col)

/-- Set an accumulator row. -/
def Core.setAccRow (c : Core) (row : Nat) (l : List Word32) : Core :=
  { c with mxe := { c.mxe with
      acc := SMap.setAll (fun _ => f32zero true) c.mxe.acc (l.zipIdx.map fun p => (64 * row + p.2, p.1)) } }

/-- The active plane (R87). -/
def Core.active (c : Core) : Plane := if c.mxe.activeB then c.mxe.planeB else c.mxe.planeA

/-- Element k of column n of a plane. -/
def Plane.elem (p : Plane) (n k : Nat) : Nat := SMap.get (fun _ => 0) p.elems (64 * n + k)

/-- The scale of block j of column n of a plane. -/
def Plane.scale (p : Plane) (n j : Nat) : Nat := SMap.get (fun _ => 0) p.scales (2 * n + j)

/-- A stride of a geometry register: 0 means the default (Table 4.3). -/
def strideOr (v dflt : Nat) : Nat := if v = 0 then dflt else v

/-- The dense stride of a format: the words of 64 packed elements (R85). -/
def Fmt.dense (f : Fmt) : Nat := f.wordsFor 64

/-- The scratchpad words that a packed row of 64 elements takes from word w. -/
def rowWords (f : Fmt) (w : Nat) : List Nat := wordRun w f.dense

/-- The words that hold the two scale bytes of a row from byte b; none without block scales. -/
def scaleWords (f : Fmt) (b : Nat) : List Nat := if f.isMx then [b / 4, (b + 1) / 4] else []

/-- The elements of a packed row from word w. -/
def Core.rowElems (c : Core) (f : Fmt) (w : Nat) : List Nat :=
  (List.range 64).map fun k => unpackElem f (fun i => c.rd (w + i)) k

/-- The two scale bytes of a row from byte b; 0 without block scales. -/
def Core.rowScales (c : Core) (f : Fmt) (b : Nat) : List Nat :=
  if f.isMx then [c.rdByte b, c.rdByte (b + 1)] else [0, 0]

/-- Where a matrix operand's rows stand: element base, row stride, scale base in bytes, scale stride. -/
structure RowGeom where
  base    : Nat
  stride  : Nat
  sbase   : Nat
  sstride : Nat
  deriving DecidableEq, Repr

/-- The geometry of aE, aS and sG for a format (R85, Table 4.3). -/
def Core.geom (c : Core) (f : Fmt) (aE aS : BitVec 4) (sG : BitVec 5) : RowGeom :=
  { base := c.wordAddr aE, stride := strideOr (bitsAt (c.sreg sG).toNat 0 16) f.dense,
    sbase := 4 * c.wordAddr aS, sstride := strideOr (bitsAt (c.sreg sG).toNat 16 16) 2 }

/-- The scratchpad words that rows [lo, lo + n) of an operand take. -/
def RowGeom.words (g : RowGeom) (f : Fmt) (lo n : Nat) : List Nat :=
  (List.range n).flatMap fun i =>
    rowWords f (g.base + (lo + i) * g.stride) ++ scaleWords f (g.sbase + (lo + i) * g.sstride)

/-! ### MLOAD -/

/-- Load the shadow plane (R88). -/
def Core.loadShadow (c : Core) (f : Fmt) (g : RowGeom) : Core :=
  let p : Plane :=
    { fmt := some f
      elems := SMap.ofRange (fun _ => 0) 0 4096 fun i => unpackElem f (fun w => c.rd (g.base + i / 64 * g.stride + w)) (i % 64)
      scales := if f.isMx then SMap.ofRange (fun _ => 0) 0 128 fun i => c.rdByte (g.sbase + i / 2 * g.sstride + i % 2) else [] }
  { c with mxe := if c.mxe.activeB then { c.mxe with planeA := p } else { c.mxe with planeB := p } }

/-! ### MSTREAM -/

/-- Block sums of a row in the 64 columns of a plane (R75). -/
def rowSums (f : Fmt) (p : Plane) (elems scales : List Nat) : List (Word32 × FFlags) :=
  let row := elems.zipIdx.map fun e => operand f e.1 (scales.getD (e.2 / 32) 0)
  (List.range 64).map fun n =>
    blockSum f (row.zipIdx.map fun e => (e.1, operand f (p.elem n e.2) (p.scale n (e.2 / 32))))

/-- Deliver the block sums of row r of a stream (R91): into the accumulator, from -0 where the stream is fresh and
this is the first of its rows to reach the row, or to the scratchpad. -/
def Core.deliver (c : Core) (dest acc : Bool) (accBase aO ostride r : Nat) (sums : List (Word32 × FFlags)) :
    Core × FFlags :=
  if dest then (c.wrWords (aO + r * ostride) (sums.map (·.1)), FFlags.all (sums.map (·.2)))
  else
    let row := (accBase + r) % 512
    let res := sums.zipIdx.map fun p =>
      accumulate (if !acc && Nat.blt r 512 then f32zero true else c.accAt row p.2) p.1
    (c.setAccRow row (res.map (·.1)), FFlags.all (res.map (·.2)))

/-- Stream rows 0 to m - 1 (R90, R91). Rows are read from `src`, the core before any result is written. -/
def Core.stream (src : Core) (f : Fmt) (g : RowGeom) (dest acc : Bool) (accBase aO ostride m : Nat) : Core × FFlags :=
  (List.range m).foldl (fun a r =>
    let d := a.1.deliver dest acc accBase aO ostride r
      (rowSums f src.active (src.rowElems f (g.base + r * g.stride)) (src.rowScales f (g.sbase + r * g.sstride)))
    (d.1, a.2 ||| d.2)) (src, 0#4)

/-! ### MDRAIN -/

/-- Convert 64 values to a format (R95): packed words, the scale bytes of an MX format, and flags. -/
def convertRow (f : Fmt) (v : List Word32) (mode : Nat → RoundMode) (sat : Bool) : List Word32 × List Nat × FFlags :=
  if f = .fp32 then (v, [], 0#4)
  else if f.isMx then
    let b0 := encodeMx f (v.take 32) mode
    let b1 := encodeMx f (v.drop 32) fun i => mode (i + 32)
    (packElems f (b0.2.1 ++ b1.2.1), [b0.1, b1.1], b0.2.2 ||| b1.2.2)
  else
    let e := v.zipIdx.map fun p => convertTo f p.1 (mode p.2) sat
    (packElems f (e.map (·.1)), [], FFlags.all (e.map (·.2)))

/-- Write a converted row: its words from w, its scale bytes from byte b. -/
def Core.writeRow (c : Core) (w b : Nat) (r : List Word32 × List Nat × FFlags) : Core :=
  r.2.1.zipIdx.foldl (fun c p => c.wrByte (b + p.2) p.1) (c.wrWords w r.1)

/-- Drain one accumulator row (R95): row r of the output, cleared to -0 where asked. -/
def Core.drainRow (c : Core) (f : Fmt) (row w b : Nat) (mode : Nat → RoundMode) (sat clr : Bool) : Core × FFlags :=
  let res := convertRow f ((List.range 64).map (c.accAt row)) mode sat
  let c1 := c.writeRow w b res
  (if clr then c1.setAccRow row (List.replicate 64 (f32zero true)) else c1, res.2.2)

/-- Drain rows 0 to m - 1 (R95, R96). -/
def Core.drainRows (c : Core) (r : RunTask) (f : Fmt) (g : RowGeom) (x : MDrainArgs) (pitch m : Nat) : Core × FFlags :=
  let sI := (c.sreg x.sI).toNat
  let sT := (c.sreg x.sT).toNat % 2 ^ 32
  (List.range m).foldl (fun a i =>
    let d := a.1.drainRow f ((x.accBase.toNat + i) % 512) (g.base + i * g.stride) (g.sbase + i * g.sstride)
      (fun n => roundOf r x.rnd sT (sI + i * pitch + n)) x.sat x.clr
    (d.1, a.2 ||| d.2)) (c, 0#4)

/-! ### The row gatherer -/

/-- Copy rows [lo, lo + n) of a submission into the gatherer (R106). -/
def Core.gather (c : Core) (f : Fmt) (g : RowGeom) (sub lo n : Nat) : Core :=
  { c with mxe := { c.mxe with gath := { c.mxe.gath with
      rows := c.mxe.gath.rows ++ (List.range n).map fun i =>
        { sub := sub, r := lo + i, elems := c.rowElems f (g.base + (lo + i) * g.stride),
          scales := c.rowScales f (g.sbase + (lo + i) * g.sstride) } } } }

/-- Add a submission to the pending ones. -/
def Core.addSub (c : Core) (u : GathSub) : Core :=
  { c with mxe := { c.mxe with gath := { c.mxe.gath with subs := c.mxe.gath.subs ++ [u] } } }

/-- Change the submission with number i. -/
def Core.modSub (c : Core) (i : Nat) (f : GathSub → GathSub) : Core :=
  { c with mxe := { c.mxe with gath := { c.mxe.gath with
      subs := c.mxe.gath.subs.zipIdx.map fun p => if p.2 + c.mxe.gath.first = i then f p.1 else p.1 } } }

/-- Stream one pending row to the destination of its own submission (R108). -/
def Core.fireRow (c : Core) (f : Fmt) (x : GathRow) : Core :=
  match c.mxe.gath.subs[x.sub - c.mxe.gath.first]? with
  | none => c
  | some u =>
    let d := c.deliver u.dest u.acc u.accBase u.aO u.ostride x.r (rowSums f c.active x.elems x.scales)
    d.1.modSub x.sub fun u => { u with written := u.written + 1, flags := u.flags ||| d.2 }

/-- Retire the submissions at the front whose rows have all been written: their flags are set (R108). -/
def Core.retireSubs (c : Core) : Nat → Core
  | 0 => c
  | n + 1 =>
    match c.mxe.gath.subs with
    | u :: l =>
      if u.written = u.rows then
        let g := { c.mxe.gath with subs := l, first := c.mxe.gath.first + 1 }
        Core.retireSubs (Core.raise { c with mxe := { c.mxe with gath := g } } .mxe u.flags) n
      else c
    | [] => c

/-- Fire: every pending row streams in the order copied (R107). -/
def Core.fireAll (c : Core) : Core :=
  match c.active.fmt with
  | none => c
  | some f =>
    let c1 := c.mxe.gath.rows.foldl (fun c x => c.fireRow f x) c
    Core.retireSubs { c1 with mxe := { c1.mxe with gath := { c1.mxe.gath with rows := [], timeout := false } } } 16

/-- Whether the gatherer fires (R107); `zero`: the context's gather timeout is 0. -/
def Core.fires (c : Core) (zero : Bool) : Bool :=
  let g := c.mxe.gath
  let head := c.disp.qM.head?
  let nextGathers := match head with
    | some e => e.op.gathers
    | none => false
  let other := match head with
    | some e => (match e.op with
      | .mswap | .mdrain _ _ | .mstream _ false _ => true
      | _ => false)
    | none => false
  let waits := c.disp.drain || (match c.disp.hold with
    | .commit | .commitEnd | .commitBar _ => true
    | _ => false)
  !g.rows.isEmpty && (g.rows.length == 64 || g.subs.length == 16 || g.timeout || other || waits || (zero && !nextGathers))

/-! ### Entries at the head of the matrix queue -/

/-- The format code that a plane records: 0xF where it is empty (R87). -/
def Plane.code (p : Plane) (active : BitVec 4) : List Nat :=
  [active.toNat, match p.fmt with
    | some .fp32 => 0
    | some .b16 => 1
    | some .f16 => 2
    | some .e4m3 => 3
    | some .e5m2 => 4
    | some .e3m2 => 5
    | some .e2m3 => 6
    | some .e2m1 => 7
    | some .mxint8 => 8
    | none => 15]

/-- Whether a gathered submission with DEST = 1 has writes still outstanding (R97). -/
def Core.destPending (c : Core) : Bool := c.mxe.gath.subs.any (·.dest)

/-- MLOAD at the head (R86, R88): it waits for the writes of earlier submissions with DEST = 1 (R97, R98). -/
def State.headMload (s : State) (k pc : Nat) (r : RunTask) (x : MLoadArgs) (hw : HwFault) (e : QEntry) : HeadRes :=
  let c := s.core k
  if c.destPending then .wait s e
  else match Fmt.ofCode x.fmt with
  | none | some .fp32 => s.mismatch k r.ctx pc [x.fmt.toNat]
  | some f =>
    let g := c.geom f x.aE x.aS x.sG
    s.guarded k r.ctx pc .mxe hw (g.words f 0 64) fun s => .done (s.modCore k fun c => c.loadShadow f g)

/-- MSWAP at the head (R89): it executes once every earlier stream, gathered rows included, has entered the array. -/
def State.headMswap (s : State) (k : Nat) (e : QEntry) : HeadRes :=
  if (s.core k).mxe.gath.rows.isEmpty then
    .done (s.modCore k fun c => { c with mxe := { c.mxe with activeB := !c.mxe.activeB } })
  else .wait s e

/-- The format of a stream that matches the active plane's code (R86). -/
def Core.streamFmt (c : Core) (fmt : BitVec 4) : Option Fmt :=
  match Fmt.ofCode fmt with
  | some f => if c.active.fmt = some f then some f else none
  | none => none

/-- MSTREAM with GATH = 0 at the head (R86, R90, R91, R107). -/
def State.headMstream (s : State) (k pc : Nat) (r : RunTask) (x : MStreamArgs) (hw : HwFault) (e : QEntry) : HeadRes :=
  let c := s.core k
  if !c.mxe.gath.rows.isEmpty then .wait s e
  else match c.streamFmt x.fmt with
    | none => s.mismatch k r.ctx pc (c.active.code x.fmt)
    | some f =>
      let g := c.geom f x.aE x.aS x.sG
      let m := (c.sreg x.sM).toNat % 2 ^ 32
      let ostride := strideOr (bitsAt (c.sreg x.sG).toNat 32 16) 64
      s.guarded k r.ctx pc .mxe hw (g.words f 0 m) fun s => .done (s.modCore k fun c =>
        let d := c.stream f g x.dest x.acc x.accBase.toNat (c.wordAddr x.aO) ostride m
        d.1.raise .mxe d.2)

/-- A gathered submission at the head (R86, R106): its rows are copied while the buffer of 64 has room, at most 16
submissions pend, and it leaves the head once all its rows are copied. Its copies start once the writes of every earlier
submission with DEST = 1 are complete (R97, R98). -/
def State.headGather (s : State) (k pc : Nat) (r : RunTask) (x : MStreamArgs) (hw : HwFault) (e : QEntry) : HeadRes :=
  let c := s.core k
  match c.streamFmt x.fmt with
  | none => s.mismatch k r.ctx pc (c.active.code x.fmt)
  | some f =>
    let g := c.geom f x.aE x.aS x.sG
    let m := (c.sreg x.sM).toNat % 2 ^ 32
    if m = 0 then .done s
    else if e.prog = 0 && (Nat.ble 16 c.mxe.gath.subs.length || c.destPending) then .wait s e
    else
      let n := Nat.min (64 - c.mxe.gath.rows.length) (m - e.prog)
      if n = 0 then .wait s e
      else s.guarded k r.ctx pc .mxe hw (g.words f e.prog n) fun s =>
        let ostride := strideOr (bitsAt (c.sreg x.sG).toNat 32 16) 64
        let u : GathSub := { dest := x.dest, acc := x.acc, accBase := x.accBase.toNat, aO := c.wordAddr x.aO,
                             ostride := ostride, rows := m, written := 0, flags := 0#4 }
        let s1 := if e.prog = 0 then s.modCore k (Core.addSub · u) else s
        let s2 := s1.modCore k fun c => c.gather f g (c.mxe.gath.first + c.mxe.gath.subs.length - 1) e.prog n
        if e.prog + n = m then .done s2 else .wait s2 { e with prog := e.prog + n }

/-- MDRAIN at the head (R86, R95, R96, R107). -/
def State.headMdrain (s : State) (k pc : Nat) (r : RunTask) (x : MDrainArgs) (hw : HwFault) (e : QEntry) : HeadRes :=
  let c := s.core k
  if !c.mxe.gath.rows.isEmpty then .wait s e
  else match Fmt.ofCode x.fmt with
    | none => s.mismatch k r.ctx pc [x.fmt.toNat]
    | some f =>
      let g := c.geom f x.aO x.aS x.sG
      let pitch := strideOr (bitsAt (c.sreg x.sG).toNat 32 32) 64
      let m := (c.sreg x.sM).toNat % 2 ^ 32
      s.guarded k r.ctx pc .mxe hw [] fun s => .done (s.modCore k fun c =>
        let d := c.drainRows r f g x pitch m
        d.1.raise .mxe d.2)

end Sys2Proof.Machine
end

