-- ==== Sys2Proof/Machine/Transcendental.lean ====
section
/-!
DEFINITION. The transcendental unit (R59, R60, Table 2.5), the reductions of R131 and the cosine table of
R265. A primitive is the correctly rounded value of the mathematical function: each is computed in fixed
point with fracBits fraction bits, far beyond the 24 bits kept, and a last sticky bit marks the exact value
as not on the grid (R59: no further bit could change the rounding; DEDUCED, assumption 11).
-/

namespace Sys2Proof.Machine

/-- Fraction bits of the fixed-point evaluations. -/
def fracBits : Nat := 224

/-- The integer square root, one result bit at a time: fuel bits below weight 2^fuel. -/
def isqrtLoop (n : Nat) : Nat → Nat → Nat
  | 0, r => r
  | k + 1, r => let t := r + 2 ^ k; isqrtLoop n k (if t * t ≤ n then t else r)

/-- floor(sqrt n). -/
def isqrt (n : Nat) : Nat := isqrtLoop n ((bitLength n + 1) / 2) 0

/-- Round num / den * 2^e, num and den positive, to fp32: a quotient of ample length with a sticky bit. -/
def roundQuot (s : Bool) (num den : Nat) (e : Int) : Word32 × FFlags :=
  let k := 64 + bitLength den
  let q := (num <<< k) / den
  let sticky := if (num <<< k) % den = 0 then 0 else 1
  roundF32 s (2 * q + sticky) (e - k - 1)

/-- rcp (R59). -/
def f32rcp (x : Word32) : Word32 × FFlags :=
  match f32val x with
  | .nan => (f32nan, 0#4)
  | .inf s => (f32zero s, 0#4)
  | .fin s m e => if m = 0 then (f32inf s, 0#4) else roundQuot s 1 m (-e)

/-- The square root of m * 2^e, m positive, with a sticky bit: significand and exponent. -/
def sqrtExact (m : Nat) (e : Int) : Nat × Int :=
  let (m, e) := if e % 2 = 0 then (m, e) else (2 * m, e - 1)
  let n := m <<< 128
  let r := isqrt n
  (2 * r + (if r * r = n then 0 else 1), e / 2 - 65)

/-- sqrt (R59). -/
def f32sqrt (x : Word32) : Word32 × FFlags :=
  match f32val x with
  | .nan => (f32nan, 0#4)
  | .inf s => if s then (f32nan, FFlags.invalid) else (f32inf false, 0#4)
  | .fin s m e =>
    if m = 0 then (f32zero s, 0#4)
    else if s then (f32nan, FFlags.invalid)
    else let r := sqrtExact m e; roundF32 false r.1 r.2

/-- rsqrt (R59): the square root of the reciprocal, floor(sqrt(2^256 / m)) with a sticky bit. -/
def f32rsqrt (x : Word32) : Word32 × FFlags :=
  match f32val x with
  | .nan => (f32nan, 0#4)
  | .inf s => if s then (f32nan, FFlags.invalid) else (0#32, 0#4)
  | .fin s m e =>
    if m = 0 then (f32inf s, 0#4)
    else if s then (f32nan, FFlags.invalid)
    else
      let (m, e) := if e % 2 = 0 then (m, e) else (2 * m, e - 1)
      let n := 2 ^ 256 / m
      let r := isqrt n
      roundF32 false (2 * r + (if r * r * m = 2 ^ 256 then 0 else 1)) (-(e / 2) - 129)

/-- ln 2 in fixed point: the sum of 1 / (k 2^k). -/
def ln2Fix : Nat := (List.range 240).foldl (fun acc k => acc + 2 ^ fracBits / ((k + 1) * 2 ^ (k + 1))) 0

/-- The sum of y^k / k! for a fixed-point y, by fuel terms: k, the present term, the sum. -/
def expSeries (y : Nat) : Nat → Nat → Nat → Nat → Nat
  | 0, _, _, acc => acc
  | n + 1, k, t, acc => let t' := (t * y) / 2 ^ fracBits / k; expSeries y n (k + 1) t' (acc + t')

/-- 2^f in fixed point for a fraction f of fracBits bits. -/
def exp2Fix (f : Nat) : Nat := expSeries (f * ln2Fix / 2 ^ fracBits) 60 1 (2 ^ fracBits) (2 ^ fracBits)

/-- exp2 (R59). Inputs so small that their fraction vanishes still differ from 0, which the sticky bit says. -/
def f32exp2 (x : Word32) : Word32 × FFlags :=
  match f32val x with
  | .nan => (f32nan, 0#4)
  | .inf s => ((if s then 0#32 else f32inf false), 0#4)
  | .fin s m e =>
    if m = 0 then (f32one, 0#4)
    else if 8 < expOf m e then
      -- |x| is at least 512: the result overflows or rounds to +0
      if s then roundF32 false 1 (-400) else roundF32 false 1 400
    else
      -- |x| * 2^fracBits, truncated, and whether bits were lost
      let mag := shiftInt m (e + fracBits)
      let lost := decide (e + fracBits < 0 ∧ mag <<< (-(e + fracBits)).toNat ≠ m)
      -- floor(x) and the fraction; for a negative x that lost bits the true value lies just below
      let total : Int := if s then -(mag : Int) - (if lost then 1 else 0) else mag
      let n := total / (2 ^ fracBits : Int)
      let f := (total % (2 ^ fracBits : Int)).toNat
      if f = 0 ∧ !lost then roundF32 false 1 n
      else roundF32 false (2 * exp2Fix f + 1) (n - fracBits - 1)

/-- atanh(r) / r style series: the sum of r^(2k+1) / (2k+1), with r2 = r^2, by fuel terms. -/
def atanhSeries (r2 : Nat) : Nat → Nat → Nat → Nat → Nat
  | 0, _, _, acc => acc
  | n + 1, k, t, acc => atanhSeries r2 n (k + 2) (t * r2 / 2 ^ fracBits) (acc + t / k)

/-- ln z in fixed point for z = num / den in [1, 2): 2 atanh((z - 1) / (z + 1)). -/
def lnFix (num den : Nat) : Nat :=
  let r := ((num - den) <<< fracBits) / (num + den)
  2 * atanhSeries (r * r / 2 ^ fracBits) 80 1 r 0

/-- log2 (R59). -/
def f32log2 (x : Word32) : Word32 × FFlags :=
  match f32val x with
  | .nan => (f32nan, 0#4)
  | .inf s => if s then (f32nan, FFlags.invalid) else (f32inf false, 0#4)
  | .fin s m e =>
    if m = 0 then (f32inf true, 0#4)
    else if s then (f32nan, FFlags.invalid)
    else
      let b := bitLength m - 1
      let k : Int := e + b
      if m = 2 ^ b then
        if k = 0 then (0#32, 0#4) else roundF32 (decide (k < 0)) k.natAbs 0
      else
        let l := lnFix m (2 ^ b) * 2 ^ fracBits / ln2Fix
        let total : Int := k * 2 ^ fracBits + l
        roundF32 (decide (total < 0)) (2 * total.natAbs + 1) (-(fracBits : Int) - 1)

/-- log2(e) rounded to fp32, L of R60. -/
def f32log2e : Word32 := 0x3FB8AA3B#32

/-- ln(2) rounded to fp32, N of R60. -/
def f32ln2 : Word32 := 0x3F317218#32

/-- fp32 2.0. -/
def f32two : Word32 := 0x40000000#32

/-- exp of R60. -/
def f32exp (x : Word32) : Word32 × FFlags :=
  let a := f32mul x f32log2e
  let r := f32exp2 a.1
  (r.1, a.2 ||| r.2)

/-- ln of R60. -/
def f32ln (x : Word32) : Word32 × FFlags :=
  let a := f32log2 x
  let r := f32mul a.1 f32ln2
  (r.1, a.2 ||| r.2)

/-- sigmoid of R60. -/
def f32sigmoid (x : Word32) : Word32 × FFlags :=
  let t := f32exp (f32neg x)
  let u := f32add f32one t.1
  let r := f32rcp u.1
  (r.1, t.2 ||| u.2 ||| r.2)

/-- tanh of R60: below 2^-12 in magnitude the input itself, with no flag. -/
def f32tanh (x : Word32) : Word32 × FFlags :=
  if (f32abs x).toNat < 0x39800000 then (x, 0#4)
  else
    let d := f32mul f32two x
    let g := f32sigmoid d.1
    let r := f32fma f32two g.1 (f32neg f32one)
    (r.1, d.2 ||| g.2 ||| r.2)

/-- silu of R60. -/
def f32silu (x : Word32) : Word32 × FFlags :=
  let g := f32sigmoid x
  let r := f32mul x g.1
  (r.1, g.2 ||| r.2)

/-- One level of a reduction tree: w[l] combined with w[l + half], for l below half (R131). -/
def redLevel (op : Word32 → Word32 → Word32 × FFlags) (l : List Word32) : List Word32 × FFlags :=
  let half := l.length / 2
  let r := (l.take half).zipWith op (l.drop half)
  (r.map (·.1), FFlags.all (r.map (·.2)))

/-- The fixed tree of R131 over 2^h lanes. -/
def redTree (op : Word32 → Word32 → Word32 × FFlags) : Nat → List Word32 → Word32 × FFlags
  | 0, l => (l.headD 0#32, 0#4)
  | h + 1, l =>
    let r := redLevel op l
    let t := redTree op h r.1
    (t.1, r.2 ||| t.2)

/-- π in fixed point, by Machin's formula 16 atan(1/5) - 4 atan(1/239). -/
def atanInvSeries (x : Nat) : Nat → Nat → Nat → Int → Int
  | 0, _, _, acc => acc
  | n + 1, k, t, acc =>
    atanInvSeries x n (k + 1) (t / (x * x)) (if k % 2 = 0 then acc + (t / (2 * k + 1) : Nat) else acc - (t / (2 * k + 1) : Nat))

/-- π in fixed point. -/
def piFix : Int :=
  16 * atanInvSeries 5 110 0 (2 ^ fracBits / 5) 0 - 4 * atanInvSeries 239 40 0 (2 ^ fracBits / 239) 0

/-- The cosine series of a fixed-point angle y below π: 1 - y^2/2 + ..., by fuel terms. -/
def cosSeries (y2 : Nat) : Nat → Nat → Nat → Int → Int
  | 0, _, _, acc => acc
  | n + 1, k, t, acc =>
    let t' := t * y2 / 2 ^ fracBits / ((2 * k + 1) * (2 * k + 2))
    cosSeries y2 n (k + 1) t' (if k % 2 = 0 then acc - (t' : Int) else acc + (t' : Int))

/-- ctab[j] = 0.5 (1 + cos(π j / 1024)), correctly rounded (R265); 0 from j = 1024 on (R264). -/
def cosTable (j : Nat) : Word32 :=
  if j = 0 then f32one
  else if j = 512 then 0x3F000000#32
  else if 1024 ≤ j then 0#32
  else
    let y := piFix.toNat * j / 1024
    let c := cosSeries (y * y / 2 ^ fracBits) 60 0 (2 ^ fracBits) (2 ^ fracBits)
    (roundF32 false (2 * ((2 ^ fracBits : Int) + c).toNat + 1) (-(fracBits : Int) - 2)).1

end Sys2Proof.Machine
end

