-- ==== Sys2Proof/Machine/Vector.lean ====
section
/-!
DEFINITION. What the vector engine does with one instruction: the operations of Table 5.8 on 64 lanes (R129 to R131)
and the memory operations of Table 5.9 (R132).
-/

namespace Sys2Proof.Machine

open Sys2Proof

/-- Lane-wise results with their flags gathered. -/
def lanesOf (l : List (Word32 × FFlags)) : List Word32 × FFlags := (l.map (·.1), FFlags.all (l.map (·.2)))

/-- A lane-wise operation on one register. -/
def Core.lanes1 (c : Core) (x : VArgs) (f : Word32 → Word32 × FFlags) : Core :=
  let r := lanesOf ((c.vreg x.va).map f)
  (c.setV x.vd r.1).raise .vxe r.2

/-- A lane-wise operation on two registers. -/
def Core.lanes2 (c : Core) (x : VArgs) (f : Word32 → Word32 → Word32 × FFlags) : Core :=
  let r := lanesOf (((c.vreg x.va).zip (c.vreg x.vb)).map fun p => f p.1 p.2)
  (c.setV x.vd r.1).raise .vxe r.2

/-- A lane-wise operation on bits, which raises no flag. -/
def Core.bits2 (c : Core) (x : VArgs) (f : Word32 → Word32 → Word32) : Core :=
  c.setV x.vd (((c.vreg x.va).zip (c.vreg x.vb)).map fun p => f p.1 p.2)

/-- A comparison: 1 where the relation holds, else 0; no flag (R46). -/
def Core.compare (c : Core) (x : VArgs) (r : FRel) : Core :=
  c.bits2 x fun a b => if f32rel r a b then 1#32 else 0#32

/-- The Gauze values of the 64 lanes (R130). -/
def Core.lanesU (c : Core) (r : RunTask) (sI sT : BitVec 5) : List Nat :=
  (List.range 64).map fun l =>
    gauzeValue r.key r.step ((c.sreg sT).toNat % 2 ^ 32) ((c.sreg sI).toNat + l)

/-- The rounding of each lane (R130). -/
def Core.laneMode (c : Core) (r : RunTask) (rnd : Bool) (sI sT : BitVec 5) (l : Nat) : RoundMode :=
  roundOf r rnd ((c.sreg sT).toNat % 2 ^ 32) ((c.sreg sI).toNat + l)

/-- Round one value to a format and hold it as fp32 (R129): for fp32 itself a NaN becomes canonical. -/
def cvtLane (f : Fmt) (mode : RoundMode) (sat : Bool) (v : Word32) : Word32 × FFlags :=
  if f = .fp32 then ((match f32val v with
    | .nan => f32nan
    | _ => v), 0#4)
  else
    let r := convertTo f v mode sat
    (widen f r.1, r.2)

/-- Round a block of 32 lanes by R57 and hold it as fp32. -/
def cvtBlock (f : Fmt) (v : List Word32) (mode : Nat → RoundMode) : List (Word32 × FFlags) :=
  let b := encodeMx f v mode
  b.2.1.map fun e =>
    let w := widenMx f e b.1
    (w.1, b.2.2 ||| w.2)

/-- VCVT of 64 lanes (R129). -/
def cvtLanes (f : Fmt) (v : List Word32) (mode : Nat → RoundMode) (sat : Bool) : List (Word32 × FFlags) :=
  if f.isMx then cvtBlock f (v.take 32) mode ++ cvtBlock f (v.drop 32) fun i => mode (i + 32)
  else v.zipIdx.map fun p => cvtLane f (mode p.2) sat p.1

/-- The vector operations; none where FMT names no format (R43, Table 5.8). `keep`: VDROP keeps every lane (R275). -/
def Core.vector (c : Core) (r : RunTask) (keep : Bool) (op : VOp) (x : VArgs) : Option Core :=
  match op with
  | .vadd => some (c.lanes2 x f32add)
  | .vsub => some (c.lanes2 x f32sub)
  | .vmul => some (c.lanes2 x f32mul)
  | .vfma =>
    let res := lanesOf ((((c.vreg x.va).zip (c.vreg x.vb)).zip (c.vreg x.vc)).map fun p => f32fma p.1.1 p.1.2 p.2)
    some ((c.setV x.vd res.1).raise .vxe res.2)
  | .vmin => some (c.bits2 x f32min)
  | .vmax => some (c.bits2 x f32max)
  | .vabs => some (c.setV x.vd ((c.vreg x.va).map f32abs))
  | .vneg => some (c.setV x.vd ((c.vreg x.va).map f32neg))
  | .vsel =>
    some (c.setV x.vd ((((c.vreg x.va).zip (c.vreg x.vb)).zip (c.vreg x.vc)).map fun p =>
      if p.2 = 0#32 then p.1.2 else p.1.1))
  | .vceq => some (c.compare x .eq)
  | .vcne => some (c.compare x .ne)
  | .vclt => some (c.compare x .lt)
  | .vcle => some (c.compare x .le)
  | .viadd => some (c.bits2 x (· + ·))
  | .vand => some (c.bits2 x (· &&& ·))
  | .vor => some (c.bits2 x (· ||| ·))
  | .vxor => some (c.bits2 x (· ^^^ ·))
  | .vshl => some (c.bits2 x fun a b => a <<< (b.toNat % 32))
  | .vshr => some (c.bits2 x fun a b => a >>> (b.toNat % 32))
  | .vbcast => some (c.setV x.vd (List.replicate 64 ((c.sreg x.sX).setWidth 32)))
  | .vlane => some (c.setS x.sX ((c.vlane x.va x.lane.toNat).setWidth 64))
  | .vredsum =>
    let res := redTree f32add 6 (c.vreg x.va)
    some ((c.setS x.sX (res.1.setWidth 64)).raise .vxe res.2)
  | .vredmax =>
    let res := redTree (fun a b => (f32max a b, 0#4)) 6 (c.vreg x.va)
    some (c.setS x.sX (res.1.setWidth 64))
  | .vrcp => some (c.lanes1 x f32rcp)
  | .vrsqrt => some (c.lanes1 x f32rsqrt)
  | .vsqrt => some (c.lanes1 x f32sqrt)
  | .vexp2 => some (c.lanes1 x f32exp2)
  | .vlog2 => some (c.lanes1 x f32log2)
  | .vexp => some (c.lanes1 x f32exp)
  | .vln => some (c.lanes1 x f32ln)
  | .vsigm => some (c.lanes1 x f32sigmoid)
  | .vtanh => some (c.lanes1 x f32tanh)
  | .vsilu => some (c.lanes1 x f32silu)
  | .vcvt =>
    match Fmt.ofCode x.fmt with
    | none => none
    | some f =>
      let res := lanesOf (cvtLanes f (c.vreg x.va) (c.laneMode r x.rnd x.sI x.sT) x.sat)
      some ((c.setV x.vd res.1).raise .vxe res.2)
  | .vcvtfi => some (c.lanes1 x fun v => f32ToI32 v x.trunc)
  | .vcvtif => some (c.lanes1 x i32ToF32)
  | .vrand => some (c.setV x.vd ((c.lanesU r x.sI x.sT).map (BitVec.ofNat 32)))
  | .vdrop =>
    let t := Nat.min ((c.sreg x.sX).toNat % 2 ^ 17) 65536
    some (c.setV x.vd (((c.vreg x.va).zip (c.lanesU r x.sI x.sT)).map fun p => if keep || Nat.blt p.2 t then p.1 else 0#32))

/-! ### Memory operations -/

/-- The element word address of layout M (R132). -/
def Core.elemAddr (c : Core) (x : EArgs) : Nat :=
  (((c.areg x.aE).toNat + x.imm.toInt : Int) % 524288).toNat

/-- VLD: 64 elements decoded exactly to fp32 (R132, R53). -/
def Core.vld (c : Core) (x : EArgs) (f : Fmt) : Core :=
  let w := c.elemAddr x
  let sc := c.rowScales f (4 * c.wordAddr x.aS)
  let vals := (c.rowElems f w).zipIdx.map fun p =>
    if f.isMx then widenMx f p.1 (sc.getD (p.2 / 32) 0)
    else if f = .fp32 then (BitVec.ofNat 32 p.1, 0#4)
    else (widen f p.1, 0#4)
  let r := lanesOf vals
  (c.setV x.d r.1).raise .vxe r.2

/-- VST: 64 lanes rounded or encoded and written (R132). -/
def Core.vst (c : Core) (r : RunTask) (x : EArgs) (f : Fmt) : Core :=
  let res := convertRow f (c.vreg x.d) (c.laneMode r x.rnd x.sI x.sT) x.sat
  (c.writeRow (c.elemAddr x) (4 * c.wordAddr x.aS) res).raise .vxe res.2.2

/-- An instruction of class 0x18 or 0x19 at the head. -/
def State.headVec (s : State) (k pc : Nat) (r : RunTask) (op : VOp) (x : VArgs) : HeadRes :=
  match (s.core k).vector r (s.ctxEval r.ctx) op x with
  | some c => .done (s.setCore k c)
  | none => s.mismatch k r.ctx pc [x.fmt.toNat]

/-- An instruction of class 0x1A at the head (R132): a reserved FMT, or a non-zero one on a scalar move, is a format
mismatch; an odd address on SLDD or SSTD is an illegal instruction. -/
def State.headVmem (s : State) (k pc : Nat) (r : RunTask) (op : MOp) (x : EArgs) (hw : HwFault) : HeadRes :=
  let c := s.core k
  let w := c.elemAddr x
  match Fmt.ofCode x.fmt, op with
  | none, _ => s.mismatch k r.ctx pc [x.fmt.toNat]
  | some f, .vld =>
    s.guarded k r.ctx pc .vxe hw (rowWords f w ++ scaleWords f (4 * c.wordAddr x.aS)) fun s =>
      .done (s.modCore k fun c => c.vld x f)
  | some f, .vst => s.guarded k r.ctx pc .vxe .none [] fun s => .done (s.modCore k fun c => c.vst r x f)
  | some .fp32, .sld =>
    s.guarded k r.ctx pc .vxe hw [w] fun s => .done (s.modCore k fun c => c.setS x.d ((c.rd w).setWidth 64))
  | some .fp32, .sldd =>
    if w % 2 = 1 then .gone (s.illegal k r.ctx pc (wordE 0x09#6 x))
    else s.guarded k r.ctx pc .vxe hw [w, w + 1] fun s => .done (s.modCore k fun c => c.setS x.d (c.rd (w + 1) ++ c.rd w))
  | some .fp32, .sst =>
    s.guarded k r.ctx pc .vxe .none [] fun s => .done (s.modCore k fun c => c.wr w ((c.sreg x.d).setWidth 32))
  | some .fp32, .sstd =>
    if w % 2 = 1 then .gone (s.illegal k r.ctx pc (wordE 0x0B#6 x))
    else s.guarded k r.ctx pc .vxe .none [] fun s => .done (s.modCore k fun c =>
      (c.wr w ((c.sreg x.d).extractLsb' 0 32)).wr (w + 1) ((c.sreg x.d).extractLsb' 32 32))
  | some _, _ => s.mismatch k r.ctx pc [x.fmt.toNat]

end Sys2Proof.Machine
end

