-- ==== Sys2Proof/Machine/Transfer.lean ====
section
/-!
DEFINITION. The transfer engine (06): grants (R136), TLOAD and TSTORE (R162 to R167), TSEND (R168, R171), windows
(R157 to R160) and the arrival of remote words (R158, R297).
-/

namespace Sys2Proof.Machine

open Sys2Proof

/-! ### Formats and shapes -/

/-- The formats of a transfer (R162, R163): a plain copy of one defined code, or a conversion between codes 0x0 to
0x4. -/
inductive TShape where
  | plain
  | conv (src dst : Fmt)
  deriving DecidableEq, Repr

/-- The shape of a transfer; none is a format mismatch. -/
def transferShape (sfmt dfmt : BitVec 4) : Option TShape :=
  match Fmt.ofCode sfmt, Fmt.ofCode dfmt with
  | some a, some b =>
    if sfmt = dfmt then some .plain else if a.isMx || b.isMx then none else some (.conv a b)
  | _, _ => none

/-- Bytes of a row of length n on the source side. -/
def TShape.srcBytes (t : TShape) (n : Nat) : Nat :=
  match t with
  | .plain => n
  | .conv a _ => n * a.width / 8

/-- Bytes of a row of length n on the destination side. -/
def TShape.dstBytes (t : TShape) (n : Nat) : Nat :=
  match t with
  | .plain => n
  | .conv _ b => n * b.width / 8

/-- Bytes as words, the first byte lowest. -/
def wordsOf (l : List Byte) : List Word32 := (List.range (l.length / 4)).map fun i => BitVec.ofNat 32 (fieldAt l (4 * i) 4)

/-- Words as bytes. -/
def bytesOf (l : List Word32) : List Byte := l.flatMap fun w => leBytes 4 w.toNat

/-- Convert a row: element e has rounding mode `mode e` (R162). -/
def TShape.convert (t : TShape) (sat : Bool) (mode : Nat → RoundMode) (n : Nat) (src : List Word32) :
    List Word32 × FFlags :=
  match t with
  | .plain => (src, 0#4)
  | .conv a b =>
    let e := (List.range n).map fun i => convertTo b (widen a (unpackElem a (fun w => src.getD w 0#32) i)) (mode i) sat
    (packElems b (e.map (·.1)), FFlags.all (e.map (·.2)))

/-! ### Grants (R136) -/

/-- Whether a core may move data now: it holds a grant, or the extra one of a replay (R357). -/
def Core.granted (c : Core) : Bool := c.disp.grant || c.disp.extra

/-- Ask the cluster of core k for a grant; requests queue in order of arrival. -/
def State.requestGrant (s : State) (k : Nat) : State :=
  let l := SMap.get (fun _ => []) s.grants (k / 24)
  if l.contains k then s else { s with grants := SMap.set (fun _ => []) s.grants (k / 24) (l ++ [k]) }

/-- Return the grant of core k unless its head moves data or a TLOAD of it is in flight. -/
def State.settleGrant (s : State) (k : Nat) : State :=
  let c := s.core k
  let head := match c.disp.qT with
    | e :: _ => e.op.moves
    | [] => false
  if c.disp.grant && !head && c.disp.loads.isEmpty then
    s.modCore k fun c => { c with disp := { c.disp with grant := false } }
  else s

/-! ### TLOAD and TSTORE -/

/-- A two-dimensional transfer as its registers give it (Table 6.5), with 0 replaced by its meaning. -/
structure MoveGeom where
  len    : Nat
  rows   : Nat
  va     : Nat
  mpitch : Nat
  sp     : Nat
  spitch : Nat
  deriving DecidableEq, Repr

/-- The geometry of a TLOAD or TSTORE whose memory rows take mb bytes and scratchpad rows sb bytes. -/
def Core.moveGeom (c : Core) (x : TMoveArgs) (mb sb : Nat) : MoveGeom :=
  { len := (c.sreg x.sN).toNat % 2 ^ 32, rows := strideOr (bitsAt (c.sreg x.sN).toNat 32 32) 1,
    va := (c.areg x.aV).toNat, mpitch := strideOr (bitsAt (c.sreg x.sG).toNat 0 32) mb, sp := c.wordAddr x.aL,
    spitch := strideOr (bitsAt (c.sreg x.sG).toNat 32 20) ((sb + 3) / 4) }

/-- Rounding of element e of row i (R163). -/
def Core.moveMode (c : Core) (r : RunTask) (x : TMoveArgs) (len i e : Nat) : RoundMode :=
  roundOf r x.rnd ((c.sreg x.sT).toNat % 2 ^ 32) ((c.sreg x.sI).toNat + i * len + e)

/-- A misaligned transfer (R164): the record has the register values. -/
def State.misaligned (s : State) (k n pc : Nat) (args : List Nat) : HeadRes :=
  .gone (s.coreFault k n Code.misalignedTransfer pc args)

/-- How the rows of a transfer end: the state, with the fault that stopped them. -/
structure RowsRes where
  s     : State
  flags : FFlags
  fail  : Option (Nat × Nat)

/-- Load rows i, i + 1, … (R162, R165). -/
def State.loadRows (s : State) (k : Nat) (r : RunTask) (x : TMoveArgs) (t : TShape) (g : MoveGeom) :
    Nat → Nat → FFlags → RowsRes
  | 0, _, fl => ⟨s, fl, none⟩
  | n + 1, i, fl =>
    let va := g.va + i * g.mpitch
    match s.readVirt r.ctx va (t.srcBytes g.len) with
    | .fail code a => ⟨s, fl, some (code, a)⟩
    | .ok b =>
      let c := s.core k
      let d := t.convert x.sat (c.moveMode r x g.len i) g.len (wordsOf b)
      let s1 := (s.countLines r.ctx va (t.srcBytes g.len) (s.coreDie k)).setCore k (c.wrWords (g.sp + i * g.spitch) d.1)
      State.loadRows s1 k r x t g n (i + 1) (fl ||| d.2)

/-- Whether another core of context n has a store to a line that is not acknowledged: no sync word can have ordered the two
(R30, R138, R189; assumption 33). -/
def State.lineRaced (s : State) (k n line : Nat) : Bool :=
  s.cores.any fun e => e.1 != k && (e.2.run.map fun r => r.ctx) == some n &&
    e.2.disp.stores.any fun f => Nat.blt f.lo (64 * line + 64) && Nat.blt (64 * line) f.hi

/-- The bytes that core k stores from va on: free ones in a line that another core's store reaches unordered (R30). -/
def State.bytesStored (s : State) (k n va : Nat) (l : List Byte) : List Byte × State :=
  if (List.range l.length).any fun i => s.lineRaced k n ((va + i) / 64) then
    (l.zipIdx.map fun p => if s.lineRaced k n ((va + p.2) / 64) then BitVec.ofNat 8 (s.freeNat.1 / 256 ^ p.2) else p.1,
     s.freeNat.2)
  else (l, s)

/-- Store rows i, i + 1, … (R162, R165). -/
def State.storeRows (s : State) (k : Nat) (r : RunTask) (x : TMoveArgs) (t : TShape) (g : MoveGeom) :
    Nat → Nat → FFlags → RowsRes
  | 0, _, fl => ⟨s, fl, none⟩
  | n + 1, i, fl =>
    let va := g.va + i * g.mpitch
    let c := s.core k
    let src := (List.range ((t.srcBytes g.len + 3) / 4)).map fun w => c.rd (g.sp + i * g.spitch + w)
    let d := t.convert x.sat (c.moveMode r x g.len i) g.len src
    let b := s.bytesStored k r.ctx va (bytesOf d.1)
    let w := b.2.writeVirt r.ctx va b.1
    match w.fail with
    | some f => ⟨w.s, fl, some f⟩
    | none =>
      State.storeRows (w.s.countLines r.ctx va (t.dstBytes g.len) (s.coreDie k)) k r x t g n (i + 1) (fl ||| d.2)

/-- Whether the alignment rules of R164 refuse a transfer. -/
def MoveGeom.bad (g : MoveGeom) (mb sb : Nat) : Bool :=
  g.va % 4 != 0 || g.mpitch % 4 != 0 || mb % 4 != 0 || sb % 4 != 0

/-- The scratchpad bits of a row fill whole words only where their count is a multiple of 32 (R164). -/
def fillsWords (t : TShape) (src : Bool) (n : Nat) : Bool :=
  match t with
  | .plain => n % 4 == 0
  | .conv a b => (n * (if src then a.width else b.width)) % 32 == 0

/-- A scratchpad range; one that wraps is taken as the whole scratchpad. -/
def spRange (lo hi : Nat) : Flight := if Nat.ble hi spSize then ⟨lo, hi, 0, 0#4⟩ else ⟨0, spSize, 0, 0#4⟩

/-- The memory range of a transfer whose memory rows take mb bytes. -/
def MoveGeom.memRange (g : MoveGeom) (mb : Nat) : Flight := ⟨g.va, g.va + (g.rows - 1) * g.mpitch + mb, 0, 0#4⟩

/-- Whether a range overlaps one of a list (R166). -/
def overlaps (f : Flight) (l : List Flight) : Bool := l.any fun x => Nat.blt f.lo x.hi && Nat.blt x.lo f.hi

/-- Whether 4 data-moving instructions are in flight (R166): TLOADs that have not retired; a TSTORE or TSEND has retired once
its source has been read (R167). -/
def Core.flightsFull (c : Core) : Bool := Nat.ble 4 c.disp.loads.length

/-- TLOAD at the head (R162 to R166): the data move when it issues; it stays in flight until TLOAD_COMPLETE, where it
retires and its flags are set (R163). -/
def State.headTload (s : State) (k pc : Nat) (r : RunTask) (x : TMoveArgs) (e : QEntry) : HeadRes :=
  let c := s.core k
  let len := (c.sreg x.sN).toNat % 2 ^ 32
  if len = 0 then .done s
  else if !c.granted then .wait (s.requestGrant k) e
  else if c.flightsFull then .wait s e
  else match transferShape x.sfmt x.dfmt with
    | none => s.mismatch k r.ctx pc [x.sfmt.toNat, x.dfmt.toNat]
    | some t =>
      let g := c.moveGeom x (t.srcBytes len) (t.dstBytes len)
      if g.bad (t.srcBytes len) 0 || !fillsWords t false len then
        s.misaligned k r.ctx pc [(c.areg x.aL).toNat, g.va, (c.sreg x.sN).toNat, (c.sreg x.sG).toNat]
      else if overlaps (g.memRange (t.srcBytes len)) c.disp.stores then .wait s e
      else
        let d := s.loadRows k r x t g g.rows 0 0#4
        match d.fail with
        | some f => .gone (d.s.coreFault k r.ctx f.1 pc [f.2])
        | none =>
          let fl := { spRange g.sp (g.sp + (g.rows - 1) * g.spitch + t.dstBytes len / 4) with pc := pc, flags := d.flags }
          .done (d.s.modCore k fun c => { c with disp := { c.disp with loads := c.disp.loads ++ [fl] } })

/-- The scratchpad words that a store reads. -/
def MoveGeom.srcWords (g : MoveGeom) (sb : Nat) : List Nat :=
  (List.range g.rows).flatMap fun i => wordRun (g.sp + i * g.spitch) ((sb + 3) / 4)

/-- TSTORE at the head (R162 to R165, R167): acknowledged by TSTORE_ACKNOWLEDGED. -/
def State.headTstore (s : State) (k pc : Nat) (r : RunTask) (x : TMoveArgs) (hw : HwFault) (e : QEntry) : HeadRes :=
  let c := s.core k
  let len := (c.sreg x.sN).toNat % 2 ^ 32
  if len = 0 then .done s
  else if !c.granted then .wait (s.requestGrant k) e
  else match transferShape x.sfmt x.dfmt with
    | none => s.mismatch k r.ctx pc [x.sfmt.toNat, x.dfmt.toNat]
    | some t =>
      let g := c.moveGeom x (t.dstBytes len) (t.srcBytes len)
      if g.bad (t.dstBytes len) 0 || !fillsWords t true len then
        s.misaligned k r.ctx pc [(c.areg x.aL).toNat, g.va, (c.sreg x.sN).toNat, (c.sreg x.sG).toNat]
      else if c.flightsFull || overlaps (g.memRange (t.dstBytes len)) c.disp.stores ||
          overlaps (spRange g.sp (g.sp + (g.rows - 1) * g.spitch + (t.srcBytes len + 3) / 4)) c.disp.loads then .wait s e
      else s.guarded k r.ctx pc .txe hw (g.srcWords (t.srcBytes len)) fun s =>
        let d := s.storeRows k r x t g g.rows 0 0#4
        match d.fail with
        | some f => .gone (d.s.coreFault k r.ctx f.1 pc [f.2])
        | none => .done (d.s.modCore k fun c =>
            Core.raise { c with disp := { c.disp with stores := c.disp.stores ++ [{ g.memRange (t.dstBytes len) with pc := pc }] } } .txe
              d.flags)

/-! ### Dropped words (R160) -/

/-- Count words dropped at a core in WIN_DROP_RX of a context; the first since a clear is recorded with its source (logical
core and package) and the destination of the first word dropped. Whether a record was written is answered. -/
def State.winDropRx (s : State) (n words : Nat) (args : List Nat) : Bool × State :=
  let s1 := s.bumpBy (Ent.winDropRx n) words
  if words = 0 || (s.ctx n).first.getLsbD 0 then (false, s1)
  else (true, (s1.modCtx n fun c => { c with first := c.first ||| 1#4 }).logCtx Code.windowDrop n args)

/-! ### TSEND -/

/-- The bytes of a message cut at 4,096 B boundaries of its destination (R317), as (offset, bytes). -/
def cutMessage (dst : Nat) (b : List Byte) : Nat → List (Nat × List Byte)
  | 0 => []
  | fuel + 1 =>
    if b.isEmpty then []
    else
      let n := 4096 - dst % 4096
      (dst, b.take n) :: cutMessage ((dst + n) % (4 * spSize)) (b.drop n) fuel

/-- Send words to a peer (R168, R171, R317): one VOILE of up to 256 B, or WRITE messages. -/
def State.sendWords (s : State) (k n tag j : Nat) (p : Peer) (dest : Nat) (voile : Bool) (b : List Byte) : State :=
  if voile && Nat.ble b.length 256 then s.sendPeer k n tag j Kind.voile p dest 0 true b
  else
    (cutMessage (4 * (dest % spSize)) b (b.length / 4096 + 2)).foldl (fun s m =>
      s.sendPeer k n tag j Kind.write p (dest / spSize * spSize + m.1 / 4) 0 true m.2) s

/-- A core as the source of remote words in a record (R160): its logical core, partition-relative cluster and package. -/
def State.sourceArgs (s : State) (k part : Nat) : List Nat :=
  [k % 24 + 32 * s.relCluster part (k / 24), s.ent Ent.pkgCoord]

/-- Words that name no cluster or no core (R36, R160, R315): all dropped, and the acknowledgement reports it. -/
def State.dropSend (s : State) (k n tag words dest : Nat) : State :=
  let d := s.winDropRx n words (s.sourceArgs k (s.ctxPart n) ++ [dest])
  d.2.modCore k fun c => { c with disp := { c.disp with
    sends := c.disp.sends + 1
    acks := c.disp.acks ++ [{ ctx := n, tag := tag, dropped := words, recorded := d.1, dst := dest }] } }

/-- Send converted words to the destination that sR names (Table 6.6). -/
def State.sendTo (s : State) (k n dest peer : Nat) (voile : Bool) (data : List Word32) : State :=
  let tag := s.tag n
  let part := s.ctxPart n
  if peer = 0 then
    let dst := if Nat.blt (bitsAt dest 19 5) 24 then
        (s.globalCluster part (bitsAt dest 24 6)).map fun g => 24 * g + bitsAt dest 19 5
      else none
    match dst with
    | none => s.dropSend k n tag data.length dest
    | some d =>
      let p : Packet := { ctx := n, tag := tag, score := k % 24, scluster := s.relCluster part (k / 24), own := true,
                          part := part, dst := some d, word := bitsAt dest 0 19, data := data, sender := some k,
                          reply := none, voile := voile && Nat.ble data.length 64, raced := [] }
      State.modCore { s with links := { s.links with packets := s.links.packets ++ [p] } } k fun c =>
        { c with disp := { c.disp with sends := c.disp.sends + 1 } }
  else match s.peerOf n peer with
    | some p => s.sendWords k n tag peer p (dest % 2 ^ 30) voile (bytesOf data)
    | none => s.dropSend k n tag data.length dest

/-- TSEND at the head (R164, R165, R168, R171). -/
def State.headTsend (s : State) (k pc : Nat) (r : RunTask) (x : TSendArgs) (voile : Bool) (hw : HwFault) (e : QEntry) :
    HeadRes :=
  let c := s.core k
  let len := (c.sreg x.sN).toNat % 2 ^ 32
  let sR := (c.sreg x.sR).toNat
  if len = 0 then .done s
  else if !c.granted then .wait (s.requestGrant k) e
  else match transferShape x.sfmt x.dfmt with
    | none => s.mismatch k r.ctx pc [x.sfmt.toNat, x.dfmt.toNat]
    | some t =>
      if !fillsWords t true len || !fillsWords t false len then
        s.misaligned k r.ctx pc [(c.areg x.aL).toNat, (c.sreg x.sN).toNat, sR]
      else
        let w := c.wordAddr x.aL
        let words := t.srcBytes len / 4
        if c.flightsFull || overlaps (spRange w (w + words)) c.disp.loads then .wait s e
        else s.guarded k r.ctx pc .txe hw (wordRun w words) fun s =>
          let sI := (c.sreg x.sI).toNat
          let sT := (c.sreg x.sT).toNat % 2 ^ 32
          let d := t.convert x.sat (fun e => roundOf r x.rnd sT (sI + e)) len ((wordRun w words).map c.rd)
          .done ((s.sendTo k r.ctx (bitsAt sR 0 30) (bitsAt sR 32 12) voile d.1).modCore k fun c => c.raise .txe d.2)

/-! ### Windows (R157 to R159) -/

/-- WOPEN's entry (R157, Table 6.3): a length of 0 closes the window. -/
def openWindow (base sN : Nat) : Window :=
  let len := bitsAt sN 0 20
  if len = 0 then Window.closed
  else
    let f := bitsAt sN 32 2
    { isOpen := true, base := base, bound := Nat.min (base + len) spSize - 1, filter := if f = 3 then 2 else f,
      fcore := bitsAt sN 34 5, fcluster := bitsAt sN 39 6 }

/-- Window w of a table. -/
def windowAt (t : SMap Window) (w : Nat) : Window := SMap.get (fun _ => Window.closed) t w

/-- Set window w of a core. -/
def Core.setWindow (c : Core) (w : Nat) (x : Window) : Core :=
  { c with sp := { c.sp with win := SMap.set (fun _ => Window.closed) c.sp.win w x } }

/-- WOPEN at the head. -/
def State.headWopen (s : State) (k : Nat) (x : WinArgs) : HeadRes :=
  .done (s.modCore k fun c => c.setWindow x.w.toNat (openWindow (c.wordAddr x.aB) (c.sreg x.sN).toNat))

/-- WCLOSE at the head. -/
def State.headWclose (s : State) (k : Nat) (x : WinArgs) : HeadRes :=
  .done (s.modCore k fun c => c.setWindow x.w.toNat Window.closed)

/-- Whether a window's filter admits the writer of a packet (Table 6.3): a named logical core is one of the own
package's partition (assumption 14). -/
def Window.admits (w : Window) (p : Packet) : Bool :=
  match w.filter with
  | 0 => true
  | 1 => p.own
  | _ => p.own && p.score == w.fcore && p.scluster == w.fcluster

/-- The filter of a window as one value. -/
def Window.filterKey (w : Window) : Nat × Nat × Nat := if w.filter = 2 then (2, w.fcore, w.fcluster) else (w.filter, 0, 0)

/-- Whether a word is written (R158): inside an open window that admits the writer. Windows that overlap with differing
filters leave it open (R159). -/
def windowAdmits (t : SMap Window) (p : Packet) (w : Nat) : Option Bool :=
  let l := ((List.range 8).map (windowAt t)).filter fun x => x.isOpen && Nat.ble x.base w && Nat.ble w x.bound
  match l with
  | [] => some false
  | x :: l => if l.all (fun y => y.filterKey == x.filterKey) then some (x.admits p) else none

/-! ### Arrival of remote words -/

/-- Whether a word passes, a free value where R159 leaves it open. -/
def State.wordPasses (s : State) (t : SMap Window) (p : Packet) (w : Nat) : Bool × State :=
  match windowAdmits t p w with
  | some b => (b, s)
  | none => s.freeBool

/-- The words of a packet's destination. -/
def Packet.words (p : Packet) : List Nat := (List.range p.data.length).map fun i => (p.word + i) % spSize

/-- Whether two packets come from one writer: the same logical core of the same package (R20). -/
def Packet.sameWriter (p q : Packet) : Bool :=
  p.own == q.own && p.score == q.score && p.scluster == q.scluster && p.part == q.part &&
    (p.reply.map fun h => (h.scoord, h.spart)) == (q.reply.map fun h => (h.scoord, h.spart))

/-- The value that a word of a packet stores: a free one where another writer's packet that is on its way at the same
time reaches the word too, since no sync word can have ordered the two (R30, R138, R189; assumption 33). -/
def State.wordStored (s : State) (raced : Bool) (v : Word32) : Word32 × State :=
  if raced then (BitVec.ofNat 32 s.freeNat.1, s.freeNat.2) else (v, s)

/-- Check and write the words of a packet one by one; answers the words that were dropped. -/
def State.arriveWords (s : State) (p : Packet) (t : SMap Window) (raced : List Nat)
    (write : State → Nat → Word32 → State) : List Word32 → Nat → List Nat → List Nat × State
  | [], _, d => (d, s)
  | v :: l, i, d =>
    let w := (p.word + i) % spSize
    let r := s.wordPasses t p w
    if r.1 then
      let x := r.2.wordStored (raced.contains w) v
      State.arriveWords (write x.2 w x.1) p t raced write l (i + 1) d
    else State.arriveWords r.2 p t raced write l (i + 1) (d ++ [w])

/-- The page that holds a lent core's scratchpad (R297). -/
def State.savePage (s : State) (n e k : Nat) : Nat :=
  s.entBits (Ent.evalSave e) 0 27 + 24 * s.relCluster (s.ctxPart n) (k / 24) + k % 24

/-- The acknowledgement of a packet whose words have all been checked (R160, R167). -/
def State.ackPacket (s : State) (p : Packet) (dst dropped : Nat) (recorded : Bool) : State :=
  match p.sender, p.reply with
  | some k, _ => s.modCore k fun c => { c with disp := { c.disp with
      acks := c.disp.acks ++ [{ ctx := p.ctx, tag := p.tag, dropped := dropped, recorded := recorded, dst := dst }] } }
  | none, some h => (if recorded then s.noteRecorded h else s).sendAck h (if dropped = 0 then Ack.ok else Ack.dropped) dropped
  | none, none => s

/-- Count and record the words of a packet that were dropped at core k, and acknowledge it (R160). -/
def State.settlePacket (s : State) (k : Nat) (p : Packet) (owner : Nat) (dropped : List Nat) : State :=
  let at_ := s.globalAddr p.part k (dropped.headD p.word)
  let r := s.winDropRx owner dropped.length [p.score + 32 * p.scluster, (p.reply.map fun h => h.scoord.toNat).getD
    (s.ent Ent.pkgCoord), at_]
  r.2.ackPacket p at_ dropped.length r.1

/-- The word that a remote write brings to a save page has no poison mark any more (R148, R297). -/
def Core.clearHeld (c : Core) (w : Nat) : Core :=
  { c with sp := { c.sp with heldPoison := SMap.set (fun _ => c.sp.heldAll) c.sp.heldPoison (w % spSize) false } }

/-- Write a word to a save page (R297): a page that is read-only ends in PROTECTION and a reset of the context (R229), an
unmapped one in UNMAPPED (R234), as the slot's own copies do. -/
def State.saveWord (s : State) (n va : Nat) (v : Word32) : State :=
  let w := s.writeVirt n va (leBytes 4 v.toNat)
  match w.fail with
  | some f => w.s.unitFault n f.1 f.2
  | none => w.s

/-- Words of a packet arrive at core k in the running task's context, or in a lent parent's (R158, R297). -/
def State.arrive (s : State) (k : Nat) (p : Packet) : State :=
  let c := s.core k
  let owner := (s.coreOwner k).getD p.ctx
  let other := fun (q : Packet) => q.dst == p.dst && q.ctx == p.ctx && s.tagOk q.ctx q.tag && !q.sameWriter p
  let raced := p.raced ++ ((s.links.packets.erase p).filter other).flatMap Packet.words
  let s0 := { s with links := { s.links with
    packets := (s.links.packets.erase p).map fun q =>
      if other q then { q with raced := q.raced ++ p.words.filter q.words.contains } else q } }
  if !s.tagOk p.ctx p.tag then
    let s1 := s0.staleDropBy p.ctx p.data.length [Stale.word, p.score + 32 * p.scluster]
    match p.reply with
    | some h => s1.sendAck h Ack.stale 0
    | none => s1
  else match (s.ctx p.ctx).eval, c.sp.held with
    | .running e _, some t =>
      let d := s0.arriveWords p t raced (fun s w v =>
        (s.modCore k (Core.clearHeld · w)).saveWord p.ctx (s.savePage p.ctx e k * 2 ^ 21 + 4 * w) v) p.data 0 []
      d.2.settlePacket k p p.ctx d.1
    | _, _ =>
      let ctxOk := match c.run with
        | some r => r.ctx == p.ctx
        | none => false
      let d := if ctxOk then s0.arriveWords p c.sp.win raced (fun s w v => s.modCore k fun c => c.wr w v) p.data 0 []
        else (p.words, s0)
      d.2.settlePacket k p owner d.1

/-- The oldest packet of every writer on each of its paths to a core, oldest first (R20, R173): nothing orders one against
another. -/
def State.packetHeads (s : State) (k : Nat) : List Packet :=
  (s.links.packets.filter fun p => p.dst == some k).foldl (fun l p =>
    if l.any fun q => q.sameWriter p && q.voile == p.voile then l else l ++ [p]) []

/-- Whether words on their way to a core are held in the crossings: during a substitution (Table 5.13) and while a slot
copies the scratchpads of the context's cores (R297). -/
def State.heldInCrossing (s : State) (k : Nat) (p : Packet) : Bool :=
  (match (s.core k).role with
    | .fenced | .copying => true
    | _ => false) ||
  (match (s.ctx p.ctx).eval with
    | .copied _ | .restoring _ => true
    | _ => false)

end Sys2Proof.Machine
end

