-- ==== Sys2Proof/Machine/SyncInstr.lean ====
section
/-!
DEFINITION. What a synchronisation instruction does when it acts (R126, Table 5.6): sync words, locks and handle
queues as a task reaches them, and the post buffer (R139, R141).
-/

namespace Sys2Proof.Machine

open Sys2Proof

/-! ### Operands -/

/-- b of layout Y: sb, or IMM16 zero-extended when I = 1 (Table 5.4). -/
def Core.opB (c : Core) (x : YArgs) : Nat := if x.i then x.imm.toNat else (c.sreg x.b).toNat

/-- The register that the A field names. -/
def Core.opA (c : Core) (x : YArgs) : Nat := (c.sreg x.a).toNat

/-- PEER of a sync operand register (Table 7.2). -/
def opPeer (a : Nat) : Nat := bitsAt a 32 12

/-- Where an operation on a sync word of the own partition goes: the word's key, or the fault that R37, R183 or R184
states with its arguments. -/
inductive Target where
  | word (key : Nat)
  | fault (code : Nat) (args : List Nat)
  deriving DecidableEq, Repr

/-- Resolve a word for an operation that the modes in `modes` allow (R37, R183). Where neither the owner nor the mode
admits it, the owner is recorded: R183 gives the two codes no order (DESIGN CHOICE, assumption 101). -/
def State.target (s : State) (n addr : Nat) (modes : List Nat) : Target :=
  match s.syncKey (s.ctxPart n) addr with
  | none => .fault Code.syncAddress [addr % 2 ^ 18]
  | some key =>
    if !(s.word key).admitsCtx n then .fault Code.syncOwner [addr % 2 ^ 18]
    else if !modes.contains (s.word key).mode then .fault Code.syncMode [addr % 2 ^ 18]
    else .word key

/-- Every mode admits SPOST and SWAIT (R183). -/
def anyMode : List Nat := [0, 1, 2, 3]

/-! ### The post buffer -/

/-- Uncommitted entries of a core. -/
def Core.uncommitted (c : Core) : Nat := (c.post.filter fun e => !e.committed).length

/-- Whether an uncommitted entry takes a new effect in (R141): SPOSTs to one word, whose entry carries the sum of their
increments, and advances of one queue. -/
def PostKind.combines : PostKind → PostKind → Option PostKind
  | .add c i v, .add c' i' v' => if c = c' && i = i' then some (.add c i (v + v')) else none
  | .peerAdd p a v, .peerAdd p' a' v' => if p = p' && a = a' then some (.peerAdd p a (v + v')) else none
  | .adv q _, .adv q' v' => if q = q' then some (.adv q v') else none
  | _, _ => none

/-- An uncommitted entry takes its place in program order, behind every committed one (R139). -/
def insertPost (new : PostEntry) : List PostEntry → List PostEntry
  | [] => [new]
  | e :: l => if !e.committed && Nat.blt new.seq e.seq then new :: e :: l else e :: insertPost new l

/-- The uncommitted entry that takes a new effect in (R141), as it becomes, at the place of the first of its instructions in
program order, and the rest of the buffer. -/
def combinePost (new : PostEntry) : List PostEntry → Option (PostEntry × List PostEntry)
  | [] => none
  | e :: l =>
    match (if e.committed then none else e.kind.combines new.kind) with
    | some k => some ({ (if Nat.blt new.seq e.seq then new else e) with kind := k }, l)
    | none => (combinePost new l).map fun r => (r.1, e :: r.2)

/-- The post buffer with an effect that combines or takes an entry of its own (R139, R141). -/
def enterPost (new : PostEntry) (l : List PostEntry) : List PostEntry :=
  match combinePost new l with
  | some r => insertPost r.1 r.2
  | none => insertPost new l

/-- How an effect enters the post buffer (R141): held, waiting for a committed entry to leave, or one too many. -/
inductive PostRes where
  | held (c : Core)
  | full
  | overflow

/-- Hold an effect of a task, in program order (R139). -/
def Core.hold (c : Core) (n tag pc seq : Nat) (kind : PostKind) : PostRes :=
  let new : PostEntry := { kind := kind, committed := false, ctx := n, tag := tag, pc := pc, seq := seq }
  if (combinePost new c.post).isSome || Nat.blt c.post.length 256 then .held { c with post := enterPost new c.post }
  else if Nat.blt c.uncommitted 256 then .full
  else .overflow

/-- Hold an effect at a queue head or at dispatch; `f` is what else the instruction does once it is held. -/
def State.holdPost (s : State) (k n : Nat) (e : QEntry) (kind : PostKind) (f : State → State) : HeadRes :=
  match (s.core k).hold n (s.tag n) e.pc e.seq kind with
  | .held c => .done (f (s.setCore k c))
  | .full => .wait s e
  | .overflow => .gone (s.coreFault k n Code.postOverflow e.pc [])

/-! ### Waits -/

/-- Wait at the head until an event. -/
def waiting (s : State) (e : QEntry) : HeadRes := .wait s { e with waiting := true }

/-- Remove the watch of a unit of a core. -/
def State.unwatch (s : State) (k : Nat) (u : CoreUnit) : State :=
  { s with sync := { s.sync with watches := s.sync.watches.filter fun w => !(w.core == k && w.unit == u) } }

/-- Register the watch of a unit of core k on a word (R186, R188, R195); one that stands already keeps its place. -/
def State.watch (s : State) (k : Nat) (u : CoreUnit) (key target : Nat) (isLock : Bool) : State :=
  let w : Watch := { core := k, unit := u, cluster := key / 4096, index := key % 4096, target := target, isLock := isLock }
  if s.sync.watches.contains w then s
  else { s with sync := { s.sync with watches := (s.unwatch k u).sync.watches ++ [w] } }

/-- End an operation in the fault that its target states. -/
def State.syncFault (s : State) (k n pc code : Nat) (args : List Nat) : HeadRes := .gone (s.coreFault k n code pc args)

/-! ### SPOST, SWAIT -/

/-- SPOST with L = 0 (R185, R190): held until SCOMMIT. -/
def State.actSpost (s : State) (k n : Nat) (e : QEntry) (x : YArgs) : HeadRes :=
  let c := s.core k
  let a := c.opA x
  if opPeer a ≠ 0 then
    match s.peerOf n (opPeer a) with
    | some _ => s.holdPost k n e (.peerAdd (opPeer a) (a % 2 ^ 18) (c.opB x)) id
    | none => s.syncFault k n e.pc Code.syncAddress [a % 2 ^ 18, opPeer a]
  else match s.target n a anyMode with
    | .word key => s.holdPost k n e (.add (key / 4096) (key % 4096) (c.opB x)) id
    | .fault code args => s.syncFault k n e.pc code args

/-- SPOST with L = 1 (R127): at once, saturating with a record. -/
def State.actSpostLocal (s : State) (k n : Nat) (e : QEntry) (x : YArgs) : HeadRes :=
  let c := s.core k
  let i := c.opA x % 16
  let v := c.lctr i + c.opB x
  let s1 := s.modCore k fun c => c.setLctr i (sat64 v)
  .done (if Nat.blt 18446744073709551615 v then s1.logCore Code.syncSaturated n k [e.pc] else s1)

/-- SWAIT with L = 0 (R186). -/
def State.actSwait (s : State) (k n : Nat) (u : CoreUnit) (e : QEntry) (x : YArgs) : HeadRes :=
  let c := s.core k
  let a := c.opA x
  if opPeer a ≠ 0 then .gone (s.illegal k n e.pc e.op.syncWord)
  else match s.target n a anyMode with
    | .word key =>
      if Nat.ble (c.opB x) (s.word key).value then .done s
      else waiting (s.watch k u key (c.opB x) false) e
    | .fault code args => s.syncFault k n e.pc code args

/-- SWAIT with L = 1 (R127). -/
def State.actSwaitLocal (s : State) (k : Nat) (e : QEntry) (x : YArgs) : HeadRes :=
  let c := s.core k
  if Nat.ble (c.opB x) (c.lctr (c.opA x % 16)) then .done s else waiting s e

/-! ### Locks -/

/-- Acquire a free lock (Table 7.3): the holder and its status are recorded. -/
def State.acquire (s : State) (key k n : Nat) (d : BitVec 5) : State :=
  let w := s.word key
  let st := b2n w.abandoned
  let h : Holder := { ctx := n, cluster := s.relCluster (s.ctxPart n) (k / 24), core := k % 24, tag := s.tag n,
                      status := st, committed := false }
  (s.setWord key { w with holder := some h }).modCore k fun c => c.setS d (BitVec.ofNat 64 st)

/-- Whether core k of context n holds a lock. -/
def State.holds (s : State) (h : Holder) (k n : Nat) : Bool :=
  h.ctx == n && h.core == k % 24 && h.cluster == s.relCluster (s.ctxPart n) (k / 24)

/-- Whether SLOCK requests are queued on a word. -/
def State.lockQueued (s : State) (key : Nat) : Bool :=
  s.sync.watches.any fun w => w.isLock && w.cluster == key / 4096 && w.index == key % 4096

/-- SLOCK (R195, Table 7.3). -/
def State.actSlock (s : State) (k n : Nat) (u : CoreUnit) (e : QEntry) (x : YArgs) : HeadRes :=
  let a := (s.core k).opA x
  if opPeer a ≠ 0 then .gone (s.illegal k n e.pc e.op.syncWord)
  else match s.target n a [2] with
    | .fault code args => s.syncFault k n e.pc code args
    | .word key =>
      match (s.word key).holder with
      | none => if s.lockQueued key then waiting (s.watch k u key 0 true) e else .done (s.acquire key k n x.d)
      | some h =>
        if s.holds h k n then
          .done (s.modCore k fun c => c.setS x.d (if h.committed then 2#64 else BitVec.ofNat 64 h.status))
        else waiting (s.watch k u key 0 true) e

/-- SUNLOCK (R196): held until SCOMMIT. -/
def State.actSunlock (s : State) (k n : Nat) (e : QEntry) (x : YArgs) : HeadRes :=
  let a := (s.core k).opA x
  if opPeer a ≠ 0 then .gone (s.illegal k n e.pc e.op.syncWord)
  else match s.target n a [2] with
    | .word key => s.holdPost k n e (.unlock (key / 4096) (key % 4096)) id
    | .fault code args => s.syncFault k n e.pc code args

/-! ### Handle queues -/

/-- The consumer and queue of a cross-core handle queue address (Table 6.9, R37); none names no cluster or no core. -/
def State.handle (s : State) (n a : Nat) : Option (Nat × Nat) :=
  if Nat.blt (bitsAt a 19 5) 24 then
    (s.globalCluster (s.ctxPart n) (bitsAt a 24 6)).map fun g => (24 * g + bitsAt a 19 5, bitsAt a 0 3)
  else none

/-- Committed producer count of a queue. -/
def Core.pcount (c : Core) (q : Nat) : Nat := SMap.get (fun _ => 0) c.hq.pc q

/-- Committed consumer count of a queue. -/
def Core.ccount (c : Core) (q : Nat) : Nat := SMap.get (fun _ => 0) c.hq.cc q

/-- The local view of a queue: it starts at the committed consumer count (R176). -/
def Core.view (c : Core) (q : Nat) : Nat := SMap.get c.ccount c.hq.view q

/-- Set the local view of a queue. -/
def Core.setView (c : Core) (q v : Nat) : Core :=
  { c with hq := { c.hq with view := SMap.set c.ccount c.hq.view q v } }

/-- Pushes of a core to a queue that have not been released (R176). -/
def Core.pushesTo (c : Core) (d q : Nat) : Nat :=
  (c.post.filter fun e => match e.kind with
    | .push d' q' _ _ => d' == d && q' == q
    | _ => false).length

/-- The cores that have pushed to a queue since it was last emptied (R175). -/
def Core.producers (c : Core) (q : Nat) : List Nat := SMap.get (fun _ => []) c.hq.prod q

/-- The cores that have popped from a queue since it was last emptied (R175). -/
def Core.consumers (c : Core) (q : Nat) : List Nat := SMap.get (fun _ => []) c.hq.cons q

/-- Core k pushes to a queue. -/
def Core.pushedBy (c : Core) (q k : Nat) : Core :=
  if (c.producers q).contains k then c
  else { c with hq := { c.hq with prod := SMap.set (fun _ => []) c.hq.prod q (c.producers q ++ [k]) } }

/-- Core k pops from a queue. -/
def Core.poppedBy (c : Core) (q k : Nat) : Core :=
  if (c.consumers q).contains k then c
  else { c with hq := { c.hq with cons := SMap.set (fun _ => []) c.hq.cons q (c.consumers q ++ [k]) } }

/-- Whether a queue has had more than one producer or more than one consumer: the descriptors it delivers are
unpredictable (R175). -/
def Core.shared (c : Core) (q : Nat) : Bool :=
  Nat.blt 1 (c.producers q).length || Nat.blt 1 (c.consumers q).length

/-- Place a descriptor in a slot of a queue. -/
def Core.setSlot (c : Core) (q slot : Nat) (v : Word64) : Core :=
  { c with hq := { c.hq with slot := SMap.set (fun _ => (0#64 : Word64)) c.hq.slot (16 * q + slot) v } }

/-- HPUSH with L = 0 (R176): it waits for room, places the descriptor and becomes a held push. -/
def State.actHpush (s : State) (k n : Nat) (e : QEntry) (x : YArgs) : HeadRes :=
  let c := s.core k
  let a := c.opA x
  match s.handle n a with
  | none => s.syncFault k n e.pc Code.syncAddress [a]
  | some (d, q) =>
    let at_ := (s.core d).pcount q + c.pushesTo d q
    if Nat.ble ((s.core d).ccount q + bitsAt a 32 4 + 1) at_ then waiting s e
    else
      let desc := BitVec.ofNat 64 (c.opB x)
      s.holdPost k n e (.push d q (at_ % 16) desc) fun s => s.modCore d fun c =>
        (c.setSlot q (at_ % 16) desc).pushedBy q k

/-- The local handle queue q. -/
def Core.local (c : Core) (q : Nat) : List Word64 := SMap.get (fun _ => []) c.hq.loc q

/-- Set a local handle queue. -/
def Core.setLocal (c : Core) (q : Nat) (l : List Word64) : Core :=
  { c with hq := { c.hq with loc := SMap.set (fun _ => []) c.hq.loc q l } }

/-- HPUSH with L = 1 (R174): at once, or it waits while 16 entries stand in the queue. A queue number above 7 is read
modulo 8 (DESIGN CHOICE, assumption 101: R174 numbers the queues 0 to 7). -/
def State.actHpushLocal (s : State) (k : Nat) (e : QEntry) (x : YArgs) : HeadRes :=
  let c := s.core k
  let q := c.opA x % 8
  if Nat.ble 16 (c.local q).length then waiting s e
  else .done (s.modCore k fun c => c.setLocal q (c.local q ++ [BitVec.ofNat 64 (c.opB x)]))

/-- HPOP with L = 0 (R176): it waits for an entry, returns it and holds the advance. More than one producer or consumer
leaves open what is delivered (R175): a free descriptor. -/
def State.actHpop (s : State) (k n : Nat) (e : QEntry) (x : YArgs) : HeadRes :=
  let c := s.core k
  match s.handle n (c.opA x) with
  | none => s.syncFault k n e.pc Code.syncAddress [c.opA x]
  | some (d, q) =>
    let v := (s.core d).view q
    if Nat.ble ((s.core d).pcount q) v then waiting s e
    else if d = k then
      let open_ := ((s.core k).poppedBy q k).shared q
      let s1 := if open_ then s.freeNat.2 else s
      s1.holdPost k n e (.adv q (v + 1)) fun s' => s'.modCore k fun c =>
        ((c.setView q (v + 1)).poppedBy q k).setS x.d
          (if open_ then BitVec.ofNat 64 s.freeNat.1 else SMap.get (fun _ => (0#64 : Word64)) c.hq.slot (16 * q + v % 16))
    else .done ((s.freeNat.2.modCore d fun c => c.poppedBy q k).modCore k fun c => c.setS x.d (BitVec.ofNat 64 s.freeNat.1))

/-- HPOP with L = 1 (R174). -/
def State.actHpopLocal (s : State) (k : Nat) (e : QEntry) (x : YArgs) : HeadRes :=
  let c := s.core k
  let q := c.opA x % 8
  match c.local q with
  | [] => waiting s e
  | v :: l => .done (s.modCore k fun c => (c.setLocal q l).setS x.d v)

/-! ### Release (R139, R185, R196) -/

/-- Release one committed entry of core k: to its word, lock, queue or peer. One to a private word or lock, or to a queue, of
a context whose tag has advanced is dropped and counted; one to a shared word or lock, or to a peer, records work that was
finished and is not checked against the tag (R143, R392, Table 7.9). An effect that the word no longer admits is dropped and
recorded without a reset (R183). A peer's increment beyond 64 bits is sent as 2^64 - 1 (DESIGN CHOICE, assumption 101). -/
def State.release (s : State) (k : Nat) (e : PostEntry) : State :=
  let part := s.ctxPart e.ctx
  match e.kind with
  | .add c i v =>
    let w := s.word (wordKey c i)
    if w.owner = some e.ctx && !s.tagOk e.ctx e.tag then s.staleDrop e.ctx [Stale.release, k]
    else if !w.admitsCtx e.ctx then s.logCore Code.syncOwner e.ctx k [e.pc, i + 4096 * s.relCluster part c]
    else s.addWordFor (wordKey c i) v (some (e.ctx, k))
  | .arrive c i =>
    let w := s.word (wordKey c i)
    if w.owner = some e.ctx && !s.tagOk e.ctx e.tag then s.staleDrop e.ctx [Stale.release, k]
    else if !w.admitsCtx e.ctx then s.logCore Code.syncOwner e.ctx k [e.pc, i + 4096 * s.relCluster part c]
    else if w.mode ≠ 1 then s.logCore Code.syncMode e.ctx k [e.pc, i + 4096 * s.relCluster part c]
    else s.addWordFor (wordKey c i) 1 (some (e.ctx, k))
  | .peerAdd j a v =>
    match s.peerOf e.ctx j with
    | some p => s.sendPeer k e.ctx e.tag j Kind.post p a (sat64 v) false []
    | none => s.logCore Code.syncAddress e.ctx k [e.pc, a, j]
  | .unlock c i =>
    let w := s.word (wordKey c i)
    if w.owner = some e.ctx && !s.tagOk e.ctx e.tag then s.staleDrop e.ctx [Stale.release, k]
    else if !w.admitsCtx e.ctx then s.logCore Code.syncOwner e.ctx k [e.pc, i + 4096 * s.relCluster part c]
    else if w.mode ≠ 2 then s.logCore Code.syncMode e.ctx k [e.pc, i + 4096 * s.relCluster part c]
    else match w.holder with
      | some h =>
        if s.holds h k e.ctx && h.tag == e.tag then s.freeLock (wordKey c i) false
        else s.logCore Code.lockNotOwner e.ctx k [e.pc, i + 4096 * s.relCluster part c]
      | none => s.logCore Code.lockNotOwner e.ctx k [e.pc, i + 4096 * s.relCluster part c]
  | .push d q _ _ =>
    if s.tagOk e.ctx e.tag then s.modCore d fun c => { c with hq := { c.hq with
        pc := SMap.set (fun _ => 0) c.hq.pc q (c.pcount q + 1) } }
    else s.staleDrop e.ctx [Stale.release, k]
  | .adv q v =>
    if s.tagOk e.ctx e.tag then s.modCore k fun c =>
      { c with hq := { c.hq with cc := SMap.set (fun _ => 0) c.hq.cc q v } }
    else s.staleDrop e.ctx [Stale.release, k]

end Sys2Proof.Machine
end

