-- ==== Sys2Proof/Machine/Engine.lean ====
section
/-!
DEFINITION. The engines at work: what stands at a queue head runs (R115, R126), the queues move on, an instruction of
an engine is dispatched (R113, R122, R135, R203), and a segment commits (R138, R143, R192).
-/

namespace Sys2Proof.Machine

open Sys2Proof

/-- Whether the earlier instructions of a unit's queue have all retired: a TLOAD in flight and gathered rows have not
(R107, R126, R167). -/
def Core.earlierRetired (c : Core) (u : CoreUnit) : Bool :=
  match u with
  | .mxe => c.mxe.gath.rows.isEmpty && c.mxe.gath.subs.isEmpty
  | .txe => c.disp.loads.isEmpty
  | _ => true

/-- Run an entry at the head of the queue of unit u, or an instruction with Q = 0 (u = seq). -/
def State.runHead (s : State) (k : Nat) (u : CoreUnit) (r : RunTask) (e : QEntry) : HeadRes :=
  match e.op with
  | .mload x hw => s.headMload k e.pc r x hw e
  | .mswap => s.headMswap k e
  | .mstream x false hw => s.headMstream k e.pc r x hw e
  | .mstream x true hw => s.headGather k e.pc r x hw e
  | .mdrain x hw => s.headMdrain k e.pc r x hw e
  | .vec op x => s.headVec k e.pc r op x
  | .vmem op x hw => s.headVmem k e.pc r op x hw
  | .tload x => s.headTload k e.pc r x e
  | .tstore x hw => s.headTstore k e.pc r x hw e
  | .tsend x v hw => s.headTsend k e.pc r x v hw e
  | .wopen x => s.headWopen k x
  | .wclose x => s.headWclose k x
  | .spost l x =>
    if !(s.core k).earlierRetired u then .wait s e
    else if l then (s.actSpostLocal k r.ctx e x).onDone fun t => t.modCore k fun c => c.modRaces fun z =>
      let i := (s.core k).opA x % 16
      z.mark u i (c.lctr i)
    else s.actSpost k r.ctx e x
  | .swait l x =>
    if !(s.core k).earlierRetired u then .wait s e
    else if l then (s.actSwaitLocal k e x).onDone fun t => t.modCore k fun c => c.modRaces fun z =>
      z.awaited u (c.opA x % 16) (c.opB x)
    else s.actSwait k r.ctx u e x
  | .slock x => if !(s.core k).earlierRetired u then .wait s e else s.actSlock k r.ctx u e x
  | .sunlock x => if !(s.core k).earlierRetired u then .wait s e else s.actSunlock k r.ctx e x
  | .hpush l x =>
    if !(s.core k).earlierRetired u then .wait s e
    else if l then (s.actHpushLocal k e x).onDone fun t => t.modCore k fun c => c.modRaces fun z =>
      let q := (s.core k).opA x % 8
      let made := z.steps (48 + q) + ((s.core k).local q).length
      (if Nat.ble 16 made then z.afterStep u (48 + q) (made - 16) else z).mark u (32 + q) 0
    else s.actHpush k r.ctx e x
  | .hpop l x =>
    if !(s.core k).earlierRetired u then .wait s e
    else if l then (s.actHpopLocal k e x).onDone fun t => t.modCore k fun c => c.modRaces fun z =>
      let q := (s.core k).opA x % 8
      let len := ((s.core k).local q).length
      (if Nat.ble len (z.steps (32 + q)) then z.afterStep u (32 + q) (z.steps (32 + q) - len) else z).mark u (48 + q) 0
    else s.actHpop k r.ctx e x

/-- Move a queue on: its heads run in order until one waits, the queue is empty, or it is gone (R115). -/
def State.pumpQueue (s : State) (k : Nat) (u : CoreUnit) : Nat → State
  | 0 => s
  | fuel + 1 =>
    match (s.core k).run, (s.core k).disp.queue u with
    | some r, e :: _ =>
      if e.waiting then s
      else match s.runHead k u r e with
        | .done s1 => State.pumpQueue (s1.modCore k (Core.pop · u)) k u fuel
        | .wait s1 e1 => s1.modCore k (Core.setHead · u e1)
        | .gone s1 => s1
    | _, _ => s

/-- Move a unit's queue on as far as it goes; the transfer engine then returns a grant that it no longer needs (R136).
A core out of service issues nothing (R358). -/
def State.pump (s : State) (k : Nat) (u : CoreUnit) : State :=
  if (s.core k).role ≠ .inService then s
  else
    let s1 := s.pumpQueue k u ((s.core k).disp.queue u).length
    if u = .txe then s1.settleGrant k else s1

/-- Run an instruction with Q = 0: dispatch goes on once it is done, and is held while it waits (R126). -/
def State.runAtDispatch (s : State) (k : Nat) (r : RunTask) (e : QEntry) : State :=
  match s.runHead k .seq r e with
  | .done s1 => s1.modCore k fun c => Core.next { c with disp := { c.disp with hold := .none } }
  | .wait s1 e1 => s1.modCore k fun c => { c with disp := { c.disp with hold := .op e1 } }
  | .gone s1 => s1

/-- Try an instruction held at dispatch again, unless it waits for an event. -/
def State.retryHold (s : State) (k : Nat) : State :=
  match (s.core k).run, (s.core k).disp.hold with
  | some r, .op e => if e.waiting then s else s.runAtDispatch k r e
  | _, _ => s

/-- Move every queue of a core on, and what holds its sequencer. -/
def State.pumpAll (s : State) (k : Nat) : State :=
  (((s.pump k .mxe).pump k .vxe).pump k .txe).retryHold k

/-- Whether a synchronisation instruction has L = 0. -/
def EngOp.crossCore : EngOp → Bool
  | .spost l _ | .swait l _ | .hpush l _ | .hpop l _ => !l
  | .slock _ | .sunlock _ => true
  | _ => false

/-- Dispatch an instruction of an engine, or a synchronisation instruction: an L = 0 one is illegal in restricted
signalling (R203); with Q = 0 it acts now; otherwise it waits for its period (R135) and for a free entry of its queue,
and enters it (R113). -/
def State.issue (s : State) (k : Nat) (guard : BitVec 4) (op : EngOp) : State :=
  s.dispatch k guard op.reads op.writes fun r s =>
    let c := s.core k
    if op.crossCore && s.restricted (s.ctxPart r.ctx) then s.illegal k r.ctx c.regs.pc op.syncWord
    else if op.unit = .seq then s.runAtDispatch k r (QEntry.new c op)
    else if !c.admits op.unit then
      s.modCore k fun c => { c with disp := { c.disp with awaited := some (unitPeriod op.unit) } }
    else if Nat.ble 64 (c.disp.queue op.unit).length then s
    else (s.modCore k (Core.enqueue · op)).pump k op.unit

/-- Begin the steps of SCOMMIT, END or SBAR (R138): dispatch stops. -/
def State.beginCommit (s : State) (k : Nat) (h : SeqHold) : State :=
  s.modCore k fun c => { c with disp := { c.disp with hold := h, drain := false } }

/-! ### The commit (R138) -/

/-- Whether the second and third steps of R138 are done: every queue empty, every engine retired, every store and send
acknowledged. -/
def Core.drained (c : Core) : Bool := c.retired && c.disp.stores.isEmpty && c.disp.sends == 0

/-- The consumer counts take the local views (R176): what the segment popped is consumed, and its advances leave the
post buffer. -/
def Core.commitViews (c : Core) : Core :=
  { c with
    hq := { c.hq with cc := SMap.setAll (fun _ => 0) c.hq.cc (c.post.filterMap fun e =>
      match e.kind with
      | .adv q v => if e.committed then none else some (q, v)
      | _ => none) }
    post := c.post.filter fun e => e.committed || !(match e.kind with
      | .adv _ _ => true
      | _ => false) }

/-- Steps 4 and 5 of R138 on the core: the commit record with the next PC, and the engine state cleared. -/
def Core.commitRegs (c : Core) (next : Nat) (bar : Option BarRef) : Core :=
  let pc := next % 2 ^ 48
  let rec_ : CommitRec := { pc := pc, s := c.regs.s, a := c.regs.a, p := c.regs.p, phase := c.regs.phase,
                            flags := c.coreFlags, bar := bar, dispatched := c.disp.count }
  { c with
    regs := { c.regs with pc := pc, lctr := [], v := [] }
    mxe := Mxe.clear
    hq := { c.hq with loc := [] }
    flags := { c.flags with seg := 0#4 }
    disp := { c.disp with period := none, awaited := none, extra := false, races := Races.none }
    post := c.post.map fun e => { e with committed := true }
    segLong := false
    replay := false
    crec := rec_ }

/-- The locks that core k of context n acquired in this segment are held by a committed segment from now on (R194). -/
def State.commitLocks (s : State) (k n : Nat) : State :=
  let f : SyncWord → SyncWord := fun w =>
    match w.holder with
    | some h => if s.holds h k n then { w with holder := some { h with committed := true } } else w
    | none => w
  { s with sync := { s.sync with words := SMap.mapVals (fun _ => SyncWord.zero) (fun _ w => f w) s.sync.words } }

/-- Steps 4 to 6 of R138 for the task of core k: the flags of the segment go to the context (R63, R64). A level-2 action
that replayed the segment has completed with it (R382, R384). -/
def State.commitSegment (s : State) (k : Nat) (r : RunTask) (next : Nat) (bar : Option BarRef) : State :=
  let f := (s.core k).flags.seg
  let s1 := s.setEnt (Ent.ctxFlags r.ctx) (Nat.lor (s.ent (Ent.ctxFlags r.ctx)) f.toNat)
  let s2 := (s1.modCore k fun c => Core.commitRegs c.commitViews next bar).commitLocks k r.ctx
  if (s.core k).replay then s2.coreReplaced k else s2

/-- The entry that waits for an event at a unit of a core. -/
def Core.waitingAt (c : Core) (u : CoreUnit) : Option QEntry :=
  match u with
  | .seq => (match c.disp.hold with
    | .op e => if e.waiting then some e else none
    | _ => none)
  | _ => (match c.disp.queue u with
    | e :: _ => if e.waiting then some e else none
    | [] => none)

/-- The event that the entry at a unit of core k waited for has come: it runs again. -/
def State.resume (s : State) (k : Nat) (u : CoreUnit) : State :=
  if u = .seq then
    match (s.core k).run, (s.core k).waitingAt .seq with
    | some r, some e => s.runAtDispatch k r { e with waiting := false }
    | _, _ => s
  else
    match (s.core k).disp.queue u with
    | e :: _ => (s.modCore k (Core.setHead · u { e with waiting := false })).pump k u
    | [] => s

end Sys2Proof.Machine
end

