-- ==== Sys2Proof/Machine/ExecScalar.lean ====
section
/-!
DEFINITION. The commands of the sequencer: classes 0x01 to 0x04 (Table 5.5), an illegal word (R122) and the period
change (R135).
-/

namespace Sys2Proof.Machine

open Sys2Proof

/-- What every command answers: the next state. -/
abbrev Res : Type := Host.Outcome State Fault Refusal

/-! ### Operands of layout S (Table 5.4) -/

/-- b: sb, or IMM32 sign-extended when I = 1. -/
def Core.opS (c : Core) (x : SArgs) : Word64 := if x.i then x.imm.signExtend 64 else c.sreg x.b

/-- The registers that sa and b read. -/
def readsAB (x : SArgs) : List RegName := .s x.a :: (if x.i then [] else [.s x.b])

/-- ad: bits [50:47]. -/
def fieldAd (x : SArgs) : BitVec 4 := x.d.setWidth 4

/-- aa: bits [45:42]. -/
def fieldAa (x : SArgs) : BitVec 4 := x.a.setWidth 4

/-- pd: bits [49:47]. -/
def fieldPd (x : SArgs) : BitVec 3 := x.d.setWidth 3

/-- pa: bits [44:42]. -/
def fieldPa (x : SArgs) : BitVec 3 := x.a.setWidth 3

/-- pb: bits [39:37]. -/
def fieldPb (x : SArgs) : BitVec 3 := x.b.setWidth 3

/-- sd := f sa b. -/
def State.alu (s : State) (c : CoreId) (x : SArgs) (f : Word64 → Word64 → Word64) : State :=
  s.scalar (coreKey c) x.guard (readsAB x) [.s x.d] fun c => c.setS x.d (f (c.sreg x.a) (c.opS x))

/-- pd := whether sa and b stand in a relation. -/
def State.compare (s : State) (c : CoreId) (x : SArgs) (f : Word64 → Word64 → Bool) : State :=
  s.scalar (coreKey c) x.guard (readsAB x) [] fun c => c.setP (fieldPd x) (f (c.sreg x.a) (c.opS x))

/-- pd := f pa pb. -/
def State.pred (s : State) (c : CoreId) (x : SArgs) (f : Bool → Bool → Bool) : State :=
  s.scalar (coreKey c) x.guard [] [] fun c => c.setP (fieldPd x) (f (c.preg (fieldPa x)) (c.preg (fieldPb x)))

/-- The PC that IMM32 names from the instruction at pc (R124). -/
def branchPc (pc : Nat) (imm : BitVec 32) : Nat := (((pc : Int) + 8 * imm.toInt) % 2 ^ 48).toNat

/-- Dispatch goes on at a target. -/
def Core.jump (c : Core) (pc : Nat) : Core :=
  { c.setPc pc with disp := { c.disp with drain := false, count := c.disp.count + 1 } }

/-! ### Class 0x01 -/

/-- ADD (R124). -/
def execAdd (c : CoreId) (x : SArgs) (s : State) : Res := .next (s.alu c x (· + ·))

/-- SUB (R124). -/
def execSub (c : CoreId) (x : SArgs) (s : State) : Res := .next (s.alu c x (· - ·))

/-- MUL (R124): the low 64 bits of the product. -/
def execMul (c : CoreId) (x : SArgs) (s : State) : Res := .next (s.alu c x (· * ·))

/-- AND (R124). -/
def execAnd (c : CoreId) (x : SArgs) (s : State) : Res := .next (s.alu c x (· &&& ·))

/-- OR (R124). -/
def execOr (c : CoreId) (x : SArgs) (s : State) : Res := .next (s.alu c x (· ||| ·))

/-- XOR (R124). -/
def execXor (c : CoreId) (x : SArgs) (s : State) : Res := .next (s.alu c x (· ^^^ ·))

/-- SHL (R124): by b[5:0]. -/
def execShl (c : CoreId) (x : SArgs) (s : State) : Res := .next (s.alu c x fun a b => a <<< (b.toNat % 64))

/-- SHR (R124): by b[5:0]. -/
def execShr (c : CoreId) (x : SArgs) (s : State) : Res := .next (s.alu c x fun a b => a >>> (b.toNat % 64))

/-- SRA (R124): by b[5:0]. -/
def execSra (c : CoreId) (x : SArgs) (s : State) : Res := .next (s.alu c x fun a b => a.sshiftRight (b.toNat % 64))

/-- MIN (R124): signed. -/
def execMin (c : CoreId) (x : SArgs) (s : State) : Res := .next (s.alu c x fun a b => if a.slt b then a else b)

/-- MAX (R124): signed. -/
def execMax (c : CoreId) (x : SArgs) (s : State) : Res := .next (s.alu c x fun a b => if a.slt b then b else a)

/-- MINU (R124): unsigned. -/
def execMinu (c : CoreId) (x : SArgs) (s : State) : Res := .next (s.alu c x fun a b => if a.ult b then a else b)

/-- MAXU (R124): unsigned. -/
def execMaxu (c : CoreId) (x : SArgs) (s : State) : Res := .next (s.alu c x fun a b => if a.ult b then b else a)

/-- CEQ (R124). -/
def execCeq (c : CoreId) (x : SArgs) (s : State) : Res := .next (s.compare c x (· == ·))

/-- CNE (R124). -/
def execCne (c : CoreId) (x : SArgs) (s : State) : Res := .next (s.compare c x (· != ·))

/-- CLT (R124): signed. -/
def execClt (c : CoreId) (x : SArgs) (s : State) : Res := .next (s.compare c x BitVec.slt)

/-- CLTU (R124): unsigned. -/
def execCltu (c : CoreId) (x : SArgs) (s : State) : Res := .next (s.compare c x BitVec.ult)

/-- CLE (R124): signed. -/
def execCle (c : CoreId) (x : SArgs) (s : State) : Res := .next (s.compare c x BitVec.sle)

/-- CLEU (R124): unsigned. -/
def execCleu (c : CoreId) (x : SArgs) (s : State) : Res := .next (s.compare c x BitVec.ule)

/-- LI (R124). -/
def execLi (c : CoreId) (x : SArgs) (s : State) : Res :=
  .next (s.scalar (coreKey c) x.guard [] [.s x.d] fun c => c.setS x.d (x.imm.signExtend 64))

/-- LIH (R124): sd[31:0] unchanged. -/
def execLih (c : CoreId) (x : SArgs) (s : State) : Res :=
  .next (s.scalar (coreKey c) x.guard [.s x.d] [.s x.d] fun c => c.setS x.d (x.imm ++ (c.sreg x.d).extractLsb' 0 32))

/-! ### Class 0x02 -/

/-- ADDA (R124). -/
def execAdda (c : CoreId) (x : SArgs) (s : State) : Res :=
  .next (s.scalar (coreKey c) x.guard (.a (fieldAa x) :: (if x.i then [] else [.s x.b])) [.a (fieldAd x)] fun c =>
    c.setA (fieldAd x) (c.areg (fieldAa x) + c.opS x))

/-- MOVAS (R124). -/
def execMovas (c : CoreId) (x : SArgs) (s : State) : Res :=
  .next (s.scalar (coreKey c) x.guard [.s x.a] [.a (fieldAd x)] fun c => c.setA (fieldAd x) (c.sreg x.a))

/-- MOVSA (R124). -/
def execMovsa (c : CoreId) (x : SArgs) (s : State) : Res :=
  .next (s.scalar (coreKey c) x.guard [.a (fieldAa x)] [.s x.d] fun c => c.setS x.d (c.areg (fieldAa x)))

/-- PAND (R124). -/
def execPand (c : CoreId) (x : SArgs) (s : State) : Res := .next (s.pred c x and)

/-- POR (R124). -/
def execPor (c : CoreId) (x : SArgs) (s : State) : Res := .next (s.pred c x or)

/-- PXOR (R124). -/
def execPxor (c : CoreId) (x : SArgs) (s : State) : Res := .next (s.pred c x (· != ·))

/-- PNOT (R124). -/
def execPnot (c : CoreId) (x : SArgs) (s : State) : Res := .next (s.pred c x fun a _ => !a)

/-- PSET (R124): IMM32[0]. -/
def execPset (c : CoreId) (x : SArgs) (s : State) : Res := .next (s.pred c x fun _ _ => x.imm.getLsbD 0)

/-! ### Class 0x03 -/

/-- BR (R124): taken when the guard is true; a false guard goes on to the next instruction. -/
def execBr (c : CoreId) (x : SArgs) (s : State) : Res :=
  .next (s.dispatch (coreKey c) x.guard [] [] fun _ s => s.modCore (coreKey c) fun c => c.jump (branchPc c.regs.pc x.imm))

/-- LOOP (R124). -/
def execLoop (c : CoreId) (x : SArgs) (s : State) : Res :=
  .next (s.dispatch (coreKey c) x.guard [.s x.d] [.s x.d] fun _ s => s.modCore (coreKey c) fun c =>
    let v := c.sreg x.d - 1#64
    if v = 0#64 then (c.setS x.d v).next else (c.setS x.d v).jump (branchPc c.regs.pc x.imm))

/-- END (R143): the steps of SCOMMIT begin, and SEGMENT_COMMIT ends the task. -/
def execEnd (c : CoreId) (x : SArgs) (s : State) : Res :=
  .next (s.dispatch (coreKey c) x.guard [] [] fun _ s => s.beginCommit (coreKey c) .commitEnd)

/-! ### Class 0x04 -/

/-- NOP (R124). -/
def execNop (c : CoreId) (x : SArgs) (s : State) : Res := .next (s.scalar (coreKey c) x.guard [] [] id)

/-- FLAGRD (R62, R124): waits for the engines; the core flags to sd[7:0]. -/
def execFlagrd (c : CoreId) (x : SArgs) (s : State) : Res :=
  .next (s.afterEngines (coreKey c) x.guard [.s x.d] fun c => c.setS x.d (c.coreFlags.setWidth 64))

/-- FLAGCLR (R62, R63): waits for the engines; what the core gathers for its context stays. -/
def execFlagclr (c : CoreId) (x : SArgs) (s : State) : Res :=
  .next (s.afterEngines (coreKey c) x.guard [] fun c =>
    { c with flags := { c.flags with m := 0#4, v := 0#4, t := 0#4 } })

/-- A core reports a change of its phase to the governor (R150, R408). -/
def State.notePhase (s t : State) (k : Nat) : State :=
  if (s.core k).regs.phase = (t.core k).regs.phase then t
  else match (t.core k).run with
    | some r => t.modPart (t.ctxPart r.ctx) fun p => { p with gov := { p.gov with
        seen := p.gov.seen ++ [(k, (t.core k).regs.phase)] } }
    | none => t

/-- PHASE (R150): the phase of the core. -/
def execPhase (c : CoreId) (x : SArgs) (s : State) : Res :=
  .next (s.notePhase
    (s.scalar (coreKey c) x.guard [] [] fun c => { c with regs := { c.regs with phase := x.imm.toNat % 16 } }) (coreKey c))

/-- A core status value (Table 5.2). -/
def State.csr (s : State) (k : Nat) (r : RunTask) (n : Nat) : Nat :=
  match n with
  | 0 => k % 24
  | 1 => s.relCluster (s.ctxPart r.ctx) (k / 24)
  | 2 => (s.partClusters (s.ctxPart r.ctx)).length
  | 3 => r.ctx
  | 4 => r.step
  | _ => r.taskid

/-- CSRRD (R119): a number that Table 5.2 does not list is an illegal instruction (R122). -/
def execCsrrd (c : CoreId) (x : SArgs) (s : State) : Res :=
  .next (if csrDefined x then
      s.dispatch (coreKey c) x.guard [] [.s x.d] fun r s => s.modCore (coreKey c) fun c' =>
        (c'.setS x.d (BitVec.ofNat 64 (s.csr (coreKey c) r (x.imm.toNat % 4096)))).next
    else s.illegalWord (coreKey c) (wordS 0x04#6 0x05#6 x))

/-- DRAIN (R124). -/
def execDrain (c : CoreId) (x : SArgs) (s : State) : Res := .next (s.afterEngines (coreKey c) x.guard [] id)

/-! ### Events of the sequencer -/

/-- ILLEGAL_INSTRUCTION (R122): a word that no instruction decodes reaches dispatch. -/
def execIllegalInstruction (c : CoreId) (w : Word64) (s : State) : Res :=
  .next (match decodePlovmi c w with
    | some _ => s
    | none => s.illegalWord (coreKey c) w)

/-- Whether every instruction of a kind has retired (R135). -/
def Core.kindRetired (c : Core) (p : Period) : Bool :=
  match p with
  | .transfer => c.disp.qT.isEmpty && c.disp.loads.isEmpty
  | .compute => c.disp.qM.isEmpty && c.disp.qV.isEmpty && c.mxe.gath.rows.isEmpty && c.mxe.gath.subs.isEmpty

/-- PERIOD_CHANGE (R135). -/
def execPeriodChange (c : CoreId) (s : State) : Res :=
  let k := coreKey c
  .next (match (s.core k).disp.awaited, (s.core k).disp.period with
    | some p, some q =>
      if (s.core k).kindRetired q then
        s.modCore k fun c => { c with disp := { c.disp with period := some p, awaited := none, races := Races.none } }
      else s
    | _, _ => s)

end Sys2Proof.Machine
end

