-- ==== Sys2Proof/Machine/Refill.lean ====
section
/-!
DEFINITION. Poisoned lines as their readers consume them (Table 8.5), and refills from peers (R224, R231): requests,
answers, refusals and failures.
-/

namespace Sys2Proof.Machine

open Sys2Proof

/-! ### Consuming poison (R220) -/

/-- The PC of the instruction for which a core reads memory: the fetch's own, else that of the oldest TLOAD in flight or of
the head of the transfer queue. -/
def Core.readPc (c : Core) (fetch : Bool) : Nat :=
  if fetch then c.regs.pc
  else match c.disp.loads, c.disp.qT with
    | f :: _, _ => f.pc
    | [], e :: _ => e.pc
    | [], [] => c.regs.pc

/-- A reader consumes a poisoned line (Table 8.5): a core and a unit of a context record the virtual address and reset the
context. Page-table lines are read from their mirror, on the stack of the same quadrant of die (d + 1) mod 4 (assumption
15), and rewritten from it; with both copies poisoned, which contexts have a translation there is free. -/
def State.consumePoison (s : State) (who : LineReader) (pa : Nat) : State :=
  match who with
  | .core c fetch =>
    match (s.core (coreKey c)).run with
    | some r => s.coreFault (coreKey c) r.ctx Code.poisonConsumed ((s.core (coreKey c)).readPc fetch)
        [(s.virtOf r.ctx pa).getD pa]
    | none => s
  | .context n => if s.ctxValid n then s.unitFault n Code.poisonConsumed ((s.virtOf n pa).getD pa) else s
  | .host _ => s.logAgent Code.poisonHostRead who [pa]
  | .manager =>
    let mirror := paOf ((paStack pa + 4) % 16) (paFrame pa) (pa % 2 ^ 21 / 64 * 64)
    if s.poisoned (lineNo mirror) then
      (List.range 64).foldl (fun s n =>
        if s.ctxValid n then
          (if s.freeBool.1 then (s.freeBool.2.logCtx Code.poisonConsumed n [pa]).ctxReset n Code.poisonConsumed
           else s.freeBool.2)
        else s) s
    else ((s.log Code.poisonConsumed [pa]).writePhys (64 * lineNo pa) (s.readPhys mirror 64)).clearPoison (lineNo pa)
  | .exporter | .peer | .copier => s

/-- Give the readers held for a line poison (R224). -/
def State.failHeld (s : State) (line : Nat) : State :=
  (s.mem.held.filter fun h => h.1 == line).foldl (fun s h => s.consumePoison h.2 (64 * line))
    (s.modMem fun m => { m with held := m.held.filter fun h => h.1 != line })

/-! ### Answers (R231 steps 3 to 5) -/

/-- A refill ends without the line (R231 step 5): the line is poisoned and REFILL_FAIL counted. -/
def State.refillFail (s : State) (line : Nat) : State :=
  let s1 := s.modMem fun m => { m with refills := m.refills.filter fun r => r.line != line }
  (((s1.bump Ent.refillFail).log Code.refillFail [64 * line]).poisonLine line).failHeld line

/-- The lines that a request asked for and that still wait for it. -/
def State.refillsOf (s : State) (req : Nat) : List Refill := s.mem.refills.filter fun r => !r.wait && r.req == req

/-- A line of a request is refused: it waits for the next step boundary, and fails after its third retry. -/
def State.refillNotNow (s : State) (r : Refill) : State :=
  if Nat.ble 3 r.tries then s.refillFail r.line
  else s.modMem fun m => { m with refills := m.refills.map fun x =>
    if x.line = r.line then { x with tries := x.tries + 1, wait := true } else x }

/-- A line arrives: written whole, its poison removed, and its held reads return it (R224); a line that the peer reads as
poisoned fails. -/
def State.takeRefillLine (s : State) (line : Nat) (d : Option (BitVec 512)) : State :=
  match d with
  | none => s.refillFail line
  | some v => (((s.writePhys (64 * line) (leBytes 64 v.toNat)).clearPoison line).noteRefilled line).bump Ent.refillOk

/-- What a request's answer brings: NOT_NOW, or its lines in the order of the request. -/
def State.takeRefillLines (s : State) (req : Nat) (lines : List (Option (BitVec 512))) (notNow : Bool) : State :=
  (s.refillsOf req).foldl (fun s r =>
    if notNow then s.refillNotNow r else s.takeRefillLine r.line (lines.getD r.idx none)) s

/-- A request comes to nothing (R231 step 5): with a lost link its lines stay poisoned; a refused one is repeated. -/
def State.refillRefused (s : State) (req status : Nat) : State :=
  (s.refillsOf req).foldl (fun s r => if status = Ack.linkDown then s.refillFail r.line else s.refillNotNow r) s

/-- REFILL_RESP (R231, R319, R392). One that is dropped for its tag, or that a compute reset refuses, leaves the lines of
its request poisoned (assumption 105). -/
def State.takeRefillResp (s : State) (h : MsgHeader) (lines : List (Option (BitVec 512))) (notNow : Bool) : State :=
  let s1 := s.admitMsg h Kind.refillResp fun s => s.takeRefillLines h.msgid.toNat lines notNow
  if s.accepts h && (s.rel.creset || !s.tagOk h.dctx.toNat h.tag.toNat) then s1.refillRefused h.msgid.toNat Ack.linkDown
  else s1

/-! ### Requests as the peer answers them (R231 step 2) -/

/-- Answer a refill request (R231): no payload is NOT_NOW; AUX bit i marks line i poisoned (assumption 16). -/
def State.sendRefillResp (s : State) (h : MsgHeader) (p : Peer) (aux : Nat) (payload : List Byte) : State :=
  let x : MsgHeader := { s.ctxHeader h.dctx.toNat p Kind.refillResp payload.length aux with msgid := h.msgid }
  let m : Msg := { kind := Kind.refillResp, h := x, payload := payload }
  if p.coord = s.ent Ent.pkgCoord then
    s.takeRefillResp x ((List.range (payload.length / 64)).map fun i =>
      if aux.testBit i then none else some (BitVec.ofNat 512 (fieldAt payload (64 * i) 64))) payload.isEmpty
  else s.sendMsg m

/-- The lines that a refill request asks for, read in order: the marks of poisoned or unmapped lines, and the bytes. -/
def State.refillLines (s : State) (n : Nat) (l : List Nat) : Nat × List Byte :=
  l.zipIdx.foldl (fun a p =>
    match s.readVirt n (p.1 / 64 * 64) 64 with
    | .ok b => (a.1, a.2 ++ b)
    | .fail _ _ => (a.1 + 2 ^ p.2, a.2 ++ List.replicate 64 0#8)) (0, [])

/-- REFILL_REQ (R231, R319): answered with lines when the step counters are equal and no sweep runs, otherwise with
NOT_NOW, as during a compute reset (R390). -/
def State.takeRefillReq (s : State) (h : MsgHeader) (lines : List Nat) (step : Nat) : State :=
  let n := h.dctx.toNat
  s.admitAny h Kind.refillReq fun s =>
    match s.sourcePeer h with
    | none => s
    | some p =>
      if s.ent (Ent.step n) != step || (s.ctx n).upd.stage == .sweep || !s.mem.served then s.sendRefillResp h p 0 []
      else
        let r := s.refillLines n (lines.take 64)
        s.sendRefillResp h p r.1 r.2

/-! ### Requests (R231 steps 1 and 3) -/

/-- Whether the next port toward a message's destination takes it. -/
def State.reachable (s : State) (m : Msg) : Bool :=
  match s.hop m with
  | some (p, _) => (s.port p).up || (s.port p).state == 2
  | none => false

/-- Ask the peer for lines of one frame, at most 64 (R231 step 1): AUX carries the step counter, MSGID the number of the
request, and the payload the lines' addresses in the peer's context (assumption 16). A peer out of reach, or not named,
leaves the lines poisoned. -/
def State.askRefill (s : State) (lines : List Nat) : State :=
  let fail := fun (s : State) => lines.foldl State.refillFail s
  match s.replica (lines.headD 0) with
  | none => fail s
  | some (p, j, q) =>
    match s.peerOf p.owner j with
    | none => fail s
    | some peer =>
      let id := s.mem.nextReq
      let addrs := lines.map fun l => 2 ^ 21 * q + 64 * (l % 32768)
      let h : MsgHeader := { s.ctxHeader p.owner peer Kind.refillReq (8 * lines.length) (s.ent (Ent.step p.owner)) with
        msgid := BitVec.ofNat 32 id }
      let m : Msg := { kind := Kind.refillReq, h := h, payload := addrs.flatMap fun a => leBytes 8 a }
      let s1 := s.modMem fun m => { m with
        nextReq := (id + 1) % 4294967296
        refills := m.refills.map fun r =>
          match lines.findIdx? fun l => l == r.line with
          | some i => { r with wait := false, req := id, idx := i }
          | none => r }
      if peer.coord = s.ent Ent.pkgCoord then
        (if s1.accepts h && s1.tagOk h.dctx.toNat h.tag.toNat then s1.takeRefillReq h addrs (s.ent (Ent.step p.owner))
         else (s1.takeRefillReq h addrs (s.ent (Ent.step p.owner))).refillRefused id Ack.rejected)
      else if s1.reachable m then s1.sendMsg m
      else fail s1

/-- Ask for lines in requests of at most 64 lines of one frame each. -/
def State.askRefills (s : State) : List Nat → Nat → State
  | _, 0 => s
  | [], _ => s
  | line :: l, fuel + 1 =>
    let mine := ((line :: l).filter fun x => x / 32768 == line / 32768).take 64
    State.askRefills (s.askRefill mine) (l.filter fun x => !mine.contains x) fuel

/-- Start the refill of uncorrectable lines of replicated frames. -/
def State.startRefills (s : State) (lines : List Nat) : State :=
  let new := (lines.filter fun l => !s.mem.refills.any fun r => r.line == l).eraseDups
  (s.modMem fun m => { m with
    refills := m.refills ++ new.map fun l => { line := l, tries := 0, wait := false, req := 0, idx := 0 } }).askRefills
    new new.length

/-- Start the refill of one line. -/
def State.startRefill (s : State) (line : Nat) : State := s.startRefills [line]

/-- At a step boundary of context n the refills of its frames that were refused are asked for again (R231 step 3). -/
def State.retryRefills (s : State) (n : Nat) : State :=
  let due := (s.mem.refills.filter fun r => r.wait && (match s.replica r.line with
    | some (p, _, _) => p.owner == n
    | none => false)).map (·.line)
  s.askRefills due due.length

end Sys2Proof.Machine
end

