-- ==== Sys2Proof/Machine/Live.lean ====
section
/-!
DEFINITION. Context states (Table 10.2), step boundaries and live values (R300, R301), the peer table as the device
loads it (R315), and what a value coming into force does beyond being stored (R240, R254).
-/

namespace Sys2Proof.Machine

open Sys2Proof

/-- Whether a context has a task queued: a descriptor written and not yet read, being read, or read and not yet
issued. -/
def State.ctxQueued (s : State) (n : Nat) : Bool :=
  Nat.blt (s.pg n 0x010) (s.pg n 0x040) || !(s.ctx n).cqRead.isEmpty || (s.ctx n).cqOut.any (· == s.tag n)

/-- Whether a context has a task in flight (R289). -/
def State.ctxInFlight (s : State) (n : Nat) : Bool := !(s.ctx n).tasks.isEmpty

/-- Whether a task of a context that some core has started is in flight. -/
def State.ctxRunning (s : State) (n : Nat) : Bool := (s.ctx n).tasks.any (·.started)

/-- Whether a task of a context that no core has started waits in a core queue. -/
def State.ctxWaiting (s : State) (n : Nat) : Bool := (s.ctx n).tasks.any fun t => !t.started

/-- Whether a sweep of the context is in progress or queued (R255). -/
def State.ctxSweeping (s : State) (n : Nat) : Bool :=
  (s.ctx n).upd.stage != .idle || Nat.blt 0 (s.ctx n).upd.queued

/-- CTX_STATE (Table 10.2): 0 FREE, 1 IDLE, 2 ACTIVE, 3 LENT, 4 RESETTING. -/
def State.ctxState (s : State) (n : Nat) : Nat :=
  if !s.ctxValid n then 0
  else if (s.ctx n).resetting.isSome then 4
  else if (s.ctx n).eval != .none then 3
  else if s.ctxInFlight n || s.ctxQueued n || s.ctxSweeping n then 2
  else 1

/-- PART_STATE (Table 10.1). -/
def State.partState (s : State) (k : Nat) : Nat :=
  if !s.partDefined k then 0 else if (s.part k).resetting then 2 else 1

/-- Whether evaluation context e is inside a slot of its parent. -/
def State.inSlot (s : State) (e : Nat) : Bool :=
  match (s.ctx (s.ctxHome e)).eval with
  | .none => false
  | .saving x => x == e
  | .copied x => x == e
  | .running x _ => x == e
  | .restoring x => x == e

/-- Whether a context stands at its step boundary outside a sweep, so that a live write takes effect at once
(R300). -/
def State.atBoundary (s : State) (n : Nat) : Bool :=
  if s.ctxEval n then !s.inSlot n
  else s.ent (Ent.updTable n) == 0 && !s.ctxInFlight n && !s.ctxQueued n

/-- Whether no context of partition k is ACTIVE or LENT (R300). -/
def State.partQuiet (s : State) (k : Nat) : Bool :=
  (s.ctxsOf k).all fun n => s.ctxState n != 2 && s.ctxState n != 3

/-- Whether a partition-scope live value takes effect at once (R300): no context of the partition is ACTIVE or LENT, or
one stands at its step boundary, as an evaluation context does at every moment outside a slot. -/
def State.partDue (s : State) (k : Nat) : Bool := s.partQuiet k || (s.ctxsOf k).any s.atBoundary

/-- A peer table entry from its 16 bytes (Table 11.7). -/
def decodePeer (b : List Byte) : Peer :=
  { coord := bitsAt (fieldAt b 0 2) 0 11, part := bitsAt (fieldAt b 2 1) 0 4, ctx := bitsAt (fieldAt b 3 1) 0 6,
    tag := fieldAt b 4 1, valid := (fieldAt b 5 1).testBit 0 }

/-- The entries of a peer table from its bytes, first entry number j. -/
def decodePeers (b : List Byte) : Nat → Nat → SMap (Option Peer)
  | _, 0 => []
  | j, n + 1 => (j, some (decodePeer (b.take 16))) :: decodePeers (b.drop 16) (j + 1) n

/-- Load the peer table of a context (R315); a page that is not mapped or a poisoned line resets the context (Table
8.5). -/
def State.loadPeers (s : State) (n : Nat) : State :=
  if s.ent (Ent.peerCount n) = 0 then s.modCtx n fun c => { c with peers := [] }
  else
    match s.readVirt n (s.ent (Ent.peerTable n)) (16 * s.ent (Ent.peerCount n)) with
    | .ok b => s.modCtx n fun c => { c with peers := decodePeers b 1 (s.ent (Ent.peerCount n)) }
    | .fail code va => s.unitFault n code va

/-- A live value comes into force: the entry takes it; a trigger setting sets the next target afresh (R254), a
reservation is summed (R240), and an export mode calls for KEY records (R277). -/
def State.applyLive1 (s : State) (k v : Nat) : State :=
  let s1 := s.setEnt k v
  let n := k % 256 - 1
  if k / 256 = 0x9001 then s1.retarget n
  else if k / 256 = 0x9000 then (if s.ent k = 0 && v != 0 then s1.retarget n else s1)
  else if k / 256 = 0x6010 then s1.reportResv
  else if k / 256 = 0x9020 && v != 0 then s1.modCtx n fun c => { c with exp := { c.exp with key := true } }
  else s1

/-- The pending values that come into force at a boundary of context n: its own, and those of its partition (R300). -/
def State.dueLive (s : State) (n : Nat) : List (Nat × Nat) :=
  s.live.filterMap fun e =>
    match e.2, Catalog.row e.1 with
    | some v, some r =>
      if (r.scope == .ctx && e.1 % 256 == n + 1) || (r.scope == .part && e.1 % 256 == s.ctxPart n + 1) then
        some (e.1, v)
      else none
    | _, _ => none

/-- Apply every pending value of a context together (R301); a new peer table is loaded (R315). -/
def State.applyLive (s : State) (n : Nat) : State :=
  let due := s.dueLive n
  let s1 := { s with live := s.live.filter fun e => !(due.any fun d => d.1 == e.1) }
  let s2 := due.foldl (fun s d => s.applyLive1 d.1 d.2) s1
  if due.any fun d => d.1 / 256 == 0x7010 || d.1 / 256 == 0x7011 then s2.loadPeers n else s2

/-- The boundary that falls whenever a context without a table stands idle (R300): its pending values come into force, and
refused refills are asked for again (R231). -/
def State.idleBoundary (s : State) (n : Nat) : State :=
  if s.ctxValid n && s.atBoundary n then (s.applyLive n).retryRefills n else s

/-- Make an accepted live write pending, or apply it at once where the boundary stands now (R300, R301): a context
entry at its context's boundary, a partition entry where `partDue` says so, a package entry always (assumption 12). A value
applied at once replaces one still pending. -/
def State.writeLive (s : State) (k v : Nat) : State :=
  let s1 := { s with live := SMap.set (fun _ => none) s.live k (some v) }
  let now := State.setEnt { s with live := SMap.set (fun _ => none) s.live k none } k v
  match Catalog.row k with
  | none => s
  | some r =>
    match r.scope with
    | .ctx => s1.idleBoundary (k % 256 - 1)
    | .part => if s.partDue (k % 256 - 1) then now else s1
    | _ => now

end Sys2Proof.Machine
end

