-- ==== Sys2Proof/Machine/Governor.lean ====
section
/-!
DEFINITION. The phase governor and the limiter (R404 to R409): shares of the cap, points held below the plan, and what a
governor step does at its boundary.
-/

namespace Sys2Proof.Machine

open Sys2Proof

/-- Change the governor of a partition. -/
def State.modGov (s : State) (k : Nat) (f : Gov → Gov) : State := s.modPart k fun p => { p with gov := f p.gov }

/-- The partitions that are defined, ascending. -/
def State.definedParts (s : State) : List Nat := (List.range 16).filter s.partDefined

/-- How many clusters a partition holds. -/
def State.partSize (s : State) (k : Nat) : Nat := (s.partClusters k).length

/-- The throttling stage of a die (R415). -/
def State.dieStage (s : State) (d : Nat) : Nat := s.entBits Ent.thermStage (2 * d) 2

/-- Whether a throttling stage holds on a die of partition k (R415). -/
def State.partThrottled (s : State) (k : Nat) : Bool := (s.partClusters k).any fun c => s.dieStage (dieOf c) != 0

/-- The step context of a partition (R408). -/
def State.stepCtx (s : State) (k : Nat) : Option Nat :=
  if s.ent (Ent.govStepCtx k) = 0xFF then (s.ctxsOf k).find? fun n => !s.ctxEval n && s.ent (Ent.updTable n) != 0
  else if s.ctxOf k (s.ent (Ent.govStepCtx k)) then some (s.ent (Ent.govStepCtx k)) else none

/-- GOV_STATUS of a partition (Table 15.6); one without a step context is not learned (R408). -/
def State.reportGov (s : State) (k : Nat) : State :=
  let g := (s.part k).gov
  let learned := (s.stepCtx k).isSome
  s.setEnt (Ent.govStatus k) (b2n (learned && Nat.blt g.stage 2) + 2 * b2n (learned && g.stage == 2 && !s.partThrottled k) +
    4 * Nat.min g.steps 15)

/-- Call for a relearn of a partition at its next step boundary (R409). -/
def State.relearn (s : State) (k : Nat) : State := s.modGov k fun g => { g with relearn := true }

/-- Call for a relearn of every partition: a cap write, or shares recomputed (R409, R417). What the share admits for the
cores of a partition that is not learned is chosen afresh (R408). -/
def State.relearnAll (s : State) : State :=
  s.definedParts.foldl (fun s k =>
    State.modGov { s with freeCtr := s.freeCtr + 1 } k fun g => { g with relearn := true, alike := s.freeCtr }) s

/-! ### Operating points (R400, R408 to R410, R415, R417) -/

/-- The core and the fabric point that partition k gives a phase: its plan's, point 4 before the first plan, and without a
step context the highest core point that its share admits, which is free (assumption 57), with fabrics at point 4. -/
def State.phasePoints (s : State) (k phase : Nat) : Nat × Nat :=
  if (s.stepCtx k).isNone then (Config.governorPoint (s.part k).gov.alike % 7, 4)
  else if (s.part k).gov.planned then (s.entBits (Ent.govPlan k) (16 * phase) 8, s.entBits (Ent.govPlan k) (16 * phase + 8) 8)
  else (4, 4)

/-- The phase of the core on a slot; phase 0 on a slot without identity. -/
def State.slotPhase (s : State) (c slot : Nat) : Nat := ((s.slotHolder c slot).map fun k => (s.core k).regs.phase).getD 0

/-- The visit of a slot under Calico test, whose condition sets its point (Table 13.5). -/
def State.testOf (s : State) (c slot : Nat) : Option Visit :=
  match s.visitOn (dieOf c) with
  | some v => if v.cluster = c && v.slot == slot then some v else none
  | none => none

/-- Whether a slot's core replays a segment at no less than point 4 (R357), which stage 3 alone takes away (R410). -/
def State.slotFloored (s : State) (c slot : Nat) : Bool :=
  s.dieStage (dieOf c) != 3 && (match s.slotHolder c slot with
    | some k => (s.core k).replay
    | none => false)

/-- The operating point of the core island of a slot: the plan's for its core's phase, less what the limiter holds it below,
at most what a throttling stage admits (Table 15.4); a replay keeps its floor, a test runs at its condition's point, and
every island stands at point 0 in stage 3 and in a compute reset (R410, R417). -/
def State.corePoint (s : State) (c slot : Nat) : Nat :=
  let t := s.dieStage (dieOf c)
  if s.rel.creset || t = 3 then 0
  else match s.testOf c slot with
    | some v => if Nat.blt v.cond 2 then 4 else 6
    | none =>
      let own := match s.clusterPart c with
        | some k => (s.phasePoints k (s.slotPhase c slot)).1 - (s.part k).gov.coreLow
        | none => 4 - s.power.coreLow
      let p := Nat.min own (if t = 0 then 6 else if t = 1 then 4 else 2)
      if s.slotFloored c slot then Nat.max 4 p else p

/-- The clock of a core island in MHz (Table 15.2); the C2 condition alone runs above 1.8 GHz, at CALICO_FMAX (R371,
R400). -/
def State.coreClock (s : State) (c slot : Nat) : Nat :=
  let p := s.corePoint c slot
  match s.testOf c slot with
  | some v => if v.cond = 2 && p != 0 then s.ent Ent.calicoFmax else [500, 800, 1000, 1200, 1500, 1650, 1800].getD p 1800
  | none => [500, 800, 1000, 1200, 1500, 1650, 1800].getD p 1800

/-- The operating point of a cluster's fabric island: the highest that the plan gives a phase of the cluster's cores
(assumption 57), less what the limiter holds it below; at most point 2 from stage 2 on, and 0 in a compute reset. -/
def State.fabricPoint (s : State) (c : Nat) : Nat :=
  if s.rel.creset then 0
  else
    let own := match s.clusterPart c with
      | some k => ((List.range 24).foldl (fun m j =>
          Nat.max m (s.phasePoints k (s.core (24 * c + j)).regs.phase).2) 0) - (s.part k).gov.fabLow
      | none => 4 - s.power.fabLow
    if Nat.ble 2 (s.dieStage (dieOf c)) then Nat.min 2 own else own

/-! ### The limiter (R405, R406) -/

/-- The draw of the islands that the governor does not set, averaged over the last 10 ms. -/
def State.otherDraw (s : State) : Nat :=
  let l := s.power.samples.map (·.2.2)
  (l.foldl (· + ·) 0) / Nat.max 1 l.length

/-- What the governor plans with (R407), in hundredths of a watt: 97 % of the cap less what it does not set. -/
def State.budget (s : State) : Nat := 97 * s.ent Ent.powerCap - 100 * s.otherDraw

/-- The headroom (R407), the share of clusters in no partition, in 1/6400 W. -/
def State.headroom (s : State) : Nat := s.budget * ((List.range 64).filter fun c => (s.clusterPart c).isNone).length

/-- What replays and tests take from the share of partition k, in 1/6400 W: what the headroom does not hold (R407). Those of
clusters in no partition draw on it first, then partitions in order (DESIGN CHOICE, assumption 58). -/
def State.extraCharge (s : State) (k : Nat) (extra : List Nat) : Nat :=
  let before := extra.getD 16 0 + (extra.take k).foldl (· + ·) 0
  6400 * extra.getD k 0 - (s.headroom - 6400 * before)

/-- Whether the draw of a sample exceeds the share of partition k (R407): its part of the budget in proportion to clusters,
raised by what idle partitions lent at its last plan. -/
def State.overShare (s : State) (k : Nat) (r : PowerReading) : Bool :=
  let g := (s.part k).gov
  Nat.blt (s.budget * s.partSize k * g.num) ((6400 * r.partitions.getD k 0 + s.extraCharge k r.extra) * g.den)

/-- Whether the share holds the power of a test in a cluster, by the last sample (R410). -/
def State.testHeld (s : State) (c : Nat) : Bool :=
  match s.power.last, s.clusterPart c with
  | some r, some k => !s.overShare k r
  | some r, none => Nat.ble (6400 * r.extra.getD 16 0) s.headroom
  | none, _ => true

/-- Whether no core island of these clusters can be lowered: each stands at point 0, at the floor of a replay, or at the
point of a test. -/
def State.coresDown (s : State) (l : List Nat) : Bool :=
  l.all fun c => (List.range 25).all fun j =>
    s.corePoint c j == 0 || (s.testOf c j).isSome || (s.slotFloored c j && s.corePoint c j == 4)

/-- Whether every fabric island of these clusters stands at point 0. -/
def State.fabricsDown (s : State) (l : List Nat) : Bool := l.all fun c => s.fabricPoint c == 0

/-- The clusters in no partition. -/
def State.freeClusters (s : State) : List Nat := (List.range 64).filter fun c => (s.clusterPart c).isNone

/-- Lower every core island of a partition by one point; with none of them left to lower, every fabric island (assumption
58). -/
def State.lowerPart (s : State) (k : Nat) : State :=
  if !s.coresDown (s.partClusters k) then s.modGov k fun g => { g with coreLow := g.coreLow + 1 }
  else if !s.fabricsDown (s.partClusters k) then s.modGov k fun g => { g with fabLow := g.fabLow + 1 }
  else s

/-- Lower the islands of the clusters that belong to no partition. -/
def State.lowerRest (s : State) : State :=
  if !s.coresDown s.freeClusters then { s with power := { s.power with coreLow := s.power.coreLow + 1 } }
  else if !s.fabricsDown s.freeClusters then { s with power := { s.power with fabLow := s.power.fabLow + 1 } }
  else s

/-- Whether every core and fabric island stands at point 0 (R406). -/
def State.allAtZero (s : State) : Bool :=
  (List.range 64).all fun c => s.fabricPoint c == 0 && (List.range 25).all fun j => s.corePoint c j == 0

/-- LIMITING (R405): whether the limiter holds any point below the plan. -/
def State.reportLimiting (s : State) : State :=
  s.setEntBit Ent.capStatus 0 ((!s.freeClusters.isEmpty && (s.power.coreLow != 0 || s.power.fabLow != 0)) ||
    s.definedParts.any fun k => (s.part k).gov.coreLow != 0 || (s.part k).gov.fabLow != 0)

/-- The fall that a lowering causes is paced by SLOPE: the points are in force after some samples, at most as many as the
whole draw takes to fall (R405, R411; assumption 58). -/
def State.settleFall (s : State) (draw : Nat) : State :=
  let r := s.freeNat
  { r.2 with power := { r.2.power with settle := r.1 % (draw / (10 * Nat.max 1 (s.ent Ent.slope)) + 1) } }

/-- A sample above the cap (R405, R406) once the points lowered before are in force: partitions above their shares are
lowered, or the whole package; with every island at point 0 the cap is unreachable. -/
def State.limit (s : State) (r : PowerReading) : State :=
  if s.power.settle != 0 then s
  else if s.allAtZero then
    (if s.entBit Ent.capStatus 1 then s
    else ((s.setEntBit Ent.capStatus 1 true).log Code.capUnmet []).alert 3)
  else
    let down := fun (k : Nat) => s.coresDown (s.partClusters k) && s.fabricsDown (s.partClusters k)
    let above := s.definedParts.filter fun k => s.overShare k r && !down k
    let s1 := if above.isEmpty then (s.definedParts.foldl State.lowerPart s).lowerRest else above.foldl State.lowerPart s
    (s1.settleFall r.package).reportLimiting

/-! ### Learning (R408, R409) -/

/-- A plan from the governor's free choices: core point 0 to 6 and fabric point 0 to 5 for each phase. -/
def planOf (base : Nat) : Nat :=
  (List.range 16).foldl (fun v n =>
    v + Config.governorPoint (base + n) % 7 * 256 ^ (2 * n) + Config.governorPoint (base + n) / 7 % 6 * 256 ^ (2 * n + 1)) 0

/-- A point moved by at most one, within [0, top]. -/
def movePoint (p top choice : Nat) : Nat :=
  match choice % 3 with
  | 0 => p
  | 1 => Nat.min top (p + 1)
  | _ => p - 1

/-- A plan in which every point has moved by at most one. -/
def planMoved (old base : Nat) : Nat :=
  (List.range 16).foldl (fun v n =>
    v + movePoint (bitsAt old (16 * n) 8) 6 (Config.governorPoint (base + n)) * 256 ^ (2 * n) +
      movePoint (bitsAt old (16 * n + 8) 8) 5 (Config.governorPoint (base + n) / 3) * 256 ^ (2 * n + 1)) 0

/-- Point 4 for every phase: the plan of the very first start. -/
def firstPlan : Nat := (List.range 16).foldl (fun v n => v + 4 * 256 ^ (2 * n) + 4 * 256 ^ (2 * n + 1)) 0

/-- Set a plan (R409): the limiter's hold ends, idle partitions lend their shares (R407), and whether it calls for a rise of
more than RAMP_FREE, which waits for the grid (R412), is free (assumption 2). -/
def State.setPlan (s : State) (k plan : Nat) : State :=
  let size := fun (l : List Nat) => l.foldl (fun a j => a + s.partSize j) 0
  let idle := size (s.definedParts.filter fun j => j != k && s.partQuiet j)
  let busy := size (s.definedParts.filter fun j => j == k || !s.partQuiet j)
  let s1 := (s.setEnt (Ent.govPlan k) plan).modGov k fun g =>
    { g with coreLow := 0, fabLow := 0, num := busy + idle, den := Nat.max 1 busy }
  let rise := s.power.rise || (s.ent Ent.rampPeriod != 0 && Config.freeBool (s.freeCtr + 16))
  let s2 := { s1 with
    freeCtr := s1.freeCtr + 17
    power := { s1.power with coreLow := 0, fabLow := 0, rise := rise } }
  s2.reportLimiting

/-- Whether the cores of a partition saw the same phases in two steps. -/
def samePhases (a b : List (Nat × Nat)) : Bool :=
  (a ++ b).all fun p => a.filter (fun q => q.1 == p.1) == b.filter (fun q => q.1 == p.1)

/-- The governor at a step boundary of context n (R409): a relearn begins, or the step counts towards the plan. Whether
a phase's duration has left the plan's prediction in two steps measured under a plan is free, as the prediction is (assumption
57). -/
def State.governAt (s : State) (n : Nat) : State :=
  let k := s.ctxPart n
  let g := (s.part k).gov
  let w := s.ent (Ent.govWindow k)
  if s.stepCtx k ≠ some n then s
  else
    let changed := match g.last with
      | some l => !samePhases l g.seen
      | none => false
    let measured := g.stage != 0 && Nat.ble (w + 1) g.steps
    let drift := measured && Config.freeBool s.freeCtr
    let s0 := if measured then { s with freeCtr := s.freeCtr + 1 } else s
    if g.relearn || changed || drift then
      let s1 := if g.planned then s0 else s0.setEnt (Ent.govPlan k) firstPlan
      (s1.modGov k fun g => { g with stage := 0, steps := 0, relearn := false, planned := true, seen := [], last := none }).reportGov k
    else
      let s1 := s0.modGov k fun g => { g with steps := g.steps + 1, seen := [], last := some g.seen }
      let t := g.steps + 1
      let s2 :=
        if g.stage = 0 && Nat.ble w t then (s1.setPlan k (planOf s1.freeCtr)).modGov k fun g => { g with stage := 1 }
        else if g.stage = 1 && Nat.ble (2 * w) t then s1.modGov k fun g => { g with stage := 2 }
        else if g.stage = 1 then s1.setPlan k (planMoved (s1.ent (Ent.govPlan k)) s1.freeCtr)
        else s1
      s2.reportGov k

/-- A task of context n has ended: a context without an update table that now stands idle is at its step boundary (R300),
and where it is a step context its governor step ends (R408). -/
def State.idleGoverned (s : State) (n : Nat) : State :=
  if s.ctxValid n && s.atBoundary n && !s.ctxEval n then s.governAt n else s

end Sys2Proof.Machine
end

