-- ==== Sys2Proof/Machine/Spare.lean ====
section
/-!
DEFINITION. Physical slots: width (R101, Table 4.7), the exchange of a narrowed slot (R105), the choice of a spare
(R359, R360) and the end of a task (R143, R288).
-/

namespace Sys2Proof.Machine

open Sys2Proof

/-! ### Width -/

/-- The capability word of a slot with a number of bad columns (Table 4.7). -/
def capWord (bad : Nat) : Nat :=
  let w := widthOf bad
  w + 128 * b2n (Nat.blt w 64) + 256 * ((64 + w - 1) / w) + 1024 * bad + 0x1FE * 65536 + 33554432

/-- The CORE_MAP entry of core k names slot (c, slot); the borrowed bit is set when the slot lies in another cluster
(Table 13.8, R360). -/
def State.setSlotOf (s : State) (k c slot : Nat) : State :=
  s.setEntBits (Ent.coreMap (k / 24)) (16 * (k % 24)) 16 (slot + 32 * c + (if c = k / 24 then 0 else 16384))

/-- Set the visit of a die. -/
def State.setVisit (s : State) (d : Nat) (v : Option Visit) : State :=
  { s with rel := { s.rel with visits := SMap.set (fun _ => none) s.rel.visits d v } }

/-- Whether a slot is under test. -/
def State.underTest (s : State) (c slot : Nat) : Bool :=
  match s.visitOn (dieOf c) with
  | some v => v.cluster == c && v.slot == slot
  | none => false

/-- At a SCOMMIT, a core on a slot with W < 64 exchanges it for its cluster's standby spare when that has W = 64 and is
free (R105). Where the cluster holds a slot in reserve, Table 17.10 makes that one the standby spare, and the narrowed slot,
which R105 makes the spare, goes to reserve behind it (DESIGN CHOICE, assumption 103). -/
def State.exchange (s : State) (k : Nat) : State :=
  let c := k / 24
  let old := s.slotOf k
  let sp := s.spareOf c
  if Nat.blt (s.slotWidth old.1 old.2) 64 && sp != 31 && s.slotWidth c sp == 64 && !s.underTest c sp then
    ((s.useSpare c).setSlotOf k c sp).addSpare old.1 old.2
  else s

/-! ### Choosing a spare (R359) -/

/-- Grid distance of two clusters of a die: |row - row'| + |col - col'|; 4 columns a row (R14). -/
def gridDist (a b : Nat) : Nat :=
  let d := fun (x y : Nat) => if Nat.ble x y then y - x else x - y
  d (a % 16 / 4) (b % 16 / 4) + d (a % 4) (b % 4)

/-- The slot of cluster c that a substitution can take: its standby spare, else a slot under test there (R359, R373). -/
def State.spareSlot (s : State) (c : Nat) : Option Nat := if s.spareOf c = 31 then s.testSlot c else some (s.spareOf c)

/-- The cluster whose spare takes the identity of core k: its own, else the nearest of the die, the lowest number
first. -/
def State.spareFor (s : State) (k : Nat) : Option Nat :=
  let c := k / 24
  if (s.spareSlot c).isSome then some c
  else
    ((dieClusters (dieOf c)).filter fun x => (s.spareSlot x).isSome).foldl (fun best x =>
      match best with
      | none => some x
      | some b => if Nat.blt (gridDist c x) (gridDist c b) then some x else best) none

/-! ### The end of a task -/

/-- A task of partition k's sequencer has ended; with the last of a pass, the pass is complete (R293): SEQ_PASS rises, and
RUN clears after PASSES passes. -/
def State.endSeqTask (s : State) (k : Nat) : State :=
  let s1 := s.modPart k fun p => { p with seq := { p.seq with left := p.seq.left - 1 } }
  let q := (s1.part k).seq
  if q.inPass && q.left == 0 && Nat.ble q.table.length q.next then
    let s2 := (s1.bump (Ent.seqPass k)).modPart k fun p => { p with seq := { p.seq with inPass := false, atBoundary := false } }
    if s2.ent (Ent.seqPass k) = s2.entBits (Ent.seqCtl k) 32 32 then s2.stopSeq k else s2
  else s1

/-- A task instance has ended on one more core: at the last one, CTX_TASKS rises and DONEWORD is posted (R288, R289). -/
def State.endInst (s : State) (n inst : Nat) : State :=
  match (s.ctx n).tasks.find? fun t => t.id == inst with
  | none => s
  | some t =>
    if Nat.ble t.left 1 then
      let s1 := (s.modCtx n fun c => { c with tasks := c.tasks.filter fun x => x.id != inst }).bump (Ent.ctxTasks n)
      let s2 := match t.done with
        | some a => s1.postTo (s1.ctxPart n) a 1
        | none => s1
      match t.seq with
      | some k => s2.endSeqTask k
      | none => s2
    else s.modCtx n fun c => { c with tasks := c.tasks.map fun x => if x.id = inst then { x with left := x.left - 1 } else x }

end Sys2Proof.Machine
end

