-- ==== Sys2Proof/Machine/ExecSync.lean ====
section
/-!
DEFINITION. The commands of class 0x08 (Table 5.6), the commit of a segment (R138, R143, R192), the release of the
post buffer (R139), and the events that end waits (R176, R186, R195).
-/

namespace Sys2Proof.Machine

open Sys2Proof

/-- SPOST with L = 0 (R185, R190). -/
def execSpost (c : CoreId) (x : YArgs) (s : State) : Res := .next (s.issue (coreKey c) x.guard (.spost false x))

/-- SPOST with L = 1 (R127). -/
def execSpostLocal (c : CoreId) (x : YArgs) (s : State) : Res := .next (s.issue (coreKey c) x.guard (.spost true x))

/-- SWAIT with L = 0 (R186). -/
def execSwait (c : CoreId) (x : YArgs) (s : State) : Res := .next (s.issue (coreKey c) x.guard (.swait false x))

/-- SWAIT with L = 1 (R127). -/
def execSwaitLocal (c : CoreId) (x : YArgs) (s : State) : Res := .next (s.issue (coreKey c) x.guard (.swait true x))

/-- SLOCK (R195). -/
def execSlock (c : CoreId) (x : YArgs) (s : State) : Res := .next (s.issue (coreKey c) x.guard (.slock x))

/-- SUNLOCK (R196). -/
def execSunlock (c : CoreId) (x : YArgs) (s : State) : Res := .next (s.issue (coreKey c) x.guard (.sunlock x))

/-- HPUSH with L = 0 (R176). -/
def execHpush (c : CoreId) (x : YArgs) (s : State) : Res := .next (s.issue (coreKey c) x.guard (.hpush false x))

/-- HPUSH with L = 1 (R174). -/
def execHpushLocal (c : CoreId) (x : YArgs) (s : State) : Res := .next (s.issue (coreKey c) x.guard (.hpush true x))

/-- HPOP with L = 0 (R176). -/
def execHpop (c : CoreId) (x : YArgs) (s : State) : Res := .next (s.issue (coreKey c) x.guard (.hpop false x))

/-- HPOP with L = 1 (R174). -/
def execHpopLocal (c : CoreId) (x : YArgs) (s : State) : Res := .next (s.issue (coreKey c) x.guard (.hpop true x))

/-- The registers of layout Y that an SBAR reads. -/
def readsY (x : YArgs) : List RegName := .s x.a :: (if x.i then [] else [.s x.b])

/-- SBAR (R122, R184, R192, R203): it ends the segment as SCOMMIT does; Q or PEER other than 0 is illegal. -/
def execSbar (c : CoreId) (x : YArgs) (s : State) : Res :=
  .next (if x.q ≠ 0#2 then s.illegalWord (coreKey c) (wordY 0x03#6 false x)
  else s.dispatch (coreKey c) x.guard (readsY x) [] fun r s =>
    let k := coreKey c
    let co := s.core k
    let a := co.opA x
    if s.restricted (s.ctxPart r.ctx) || opPeer a ≠ 0 then s.illegal k r.ctx co.regs.pc (wordY 0x03#6 false x)
    else match s.target r.ctx a [1] with
      | .fault code args => s.coreFault k r.ctx code co.regs.pc args
      | .word key =>
        s.beginCommit k (.commitBar { cluster := key / 4096, index := key % 4096, tsel := x.tsel.toNat,
                                      target := sat64 (co.opB x * bitsAt (s.word key).config 16 16) }))

/-- SCOMMIT (R138): dispatch stops; with Q other than 0 it is illegal (R122), as any L = 0 instruction in restricted
signalling (R203). -/
def execScommit (c : CoreId) (x : YArgs) (s : State) : Res :=
  .next (if x.q ≠ 0#2 then s.illegalWord (coreKey c) (wordY 0x08#6 false x)
  else s.dispatch (coreKey c) x.guard [] [] fun r s =>
    let k := coreKey c
    if s.restricted (s.ctxPart r.ctx) then s.illegal k r.ctx (s.core k).regs.pc (wordY 0x08#6 false x)
    else s.beginCommit k .commit)

/-! ### The commit -/

/-- Begin the wait of an SBAR in its new segment, or go on where the generation is complete already (R192). -/
def State.barrierWait (s : State) (k : Nat) (b : BarRef) : State :=
  if Nat.ble b.target (s.word (wordKey b.cluster b.index)).value then
    s.modCore k fun c => Core.next { c with disp := { c.disp with hold := .none } }
  else (s.modCore k fun c => { c with disp := { c.disp with hold := .barWait b } }).watch k .seq
    (wordKey b.cluster b.index) b.target false

/-- The task of a core ends after its last commit (R143); its context may then stand idle (R300, R408). -/
def State.endTask (s : State) (k : Nat) (r : RunTask) : State :=
  (((s.modCore k fun c => { c with run := none, disp := { c.disp with hold := .none } }).endInst r.ctx r.inst).idleBoundary
    r.ctx).idleGoverned r.ctx

/-- SEGMENT_COMMIT: once the second and third steps of R138 are done, steps 4 to 7 follow; a narrowed slot is
exchanged (R105). SBAR's arrival enters the buffer last (R192), and END ends the task (R143). -/
def execSegmentCommit (c : CoreId) (s : State) : Res :=
  let k := coreKey c
  let co := s.core k
  .next (match co.run with
    | none => s
    | some r =>
      if co.role ≠ .inService || !co.drained then s
      else match co.disp.hold with
        | .commit =>
          ((s.commitSegment k r (co.regs.pc + 8) none).modCore k fun c =>
            { c with disp := { c.disp with hold := .none } }).exchange k
        | .commitEnd => ((s.commitSegment k r (co.regs.pc + 8) none).exchange k).endTask k r
        | .commitBar b =>
          (match co.hold r.ctx (s.tag r.ctx) co.regs.pc co.disp.count (.arrive b.cluster b.index) with
            | .held c1 => (((s.setCore k c1).commitSegment k r co.regs.pc (some b)).exchange k).barrierWait k b
            | .full => s
            | .overflow => s.coreFault k r.ctx Code.postOverflow co.regs.pc [])
        | _ => s)

/-- POST_BUFFER_RELEASE (R139): the oldest committed entry leaves the buffer; an instruction that waited for a free
entry goes on (R141). -/
def execPostBufferRelease (c : CoreId) (s : State) : Res :=
  let k := coreKey c
  .next (match (s.core k).post with
    | e :: l => if e.committed then ((s.modCore k fun c => { c with post := l }).release k e).pumpAll k else s
    | [] => s)

/-! ### Ends of waits -/

/-- Whether the wait of an SWAIT has been met: a watch whose target the word has reached (R186), or a local counter at
its target (R127). -/
def State.waitMet (s : State) (k : Nat) (u : CoreUnit) : Bool :=
  (s.sync.watches.any fun w => w.core == k && w.unit == u && !w.isLock &&
    Nat.ble w.target (s.word (wordKey w.cluster w.index)).value) ||
  (match (s.core k).waitingAt u with
    | some e => (match e.op with
      | .swait true x => Nat.ble ((s.core k).opB x) ((s.core k).lctr ((s.core k).opA x % 16))
      | _ => false)
    | none => false)

/-- What waits at a unit of core k for an event is over: its queue moves on, or dispatch does. -/
def State.endWait (s : State) (k : Nat) (u : CoreUnit) : State :=
  if u = .seq then s.modCore k fun c => Core.next { c with disp := { c.disp with hold := .none } }
  else (s.modCore k (Core.pop · u)).pump k u

/-- A unit that waited for a local counter comes after what brought it to its value (R156). -/
def Core.sawCounter (c : Core) (u : CoreUnit) : Core :=
  match c.waitingAt u with
  | some e =>
    (match e.op with
      | .swait true x => c.modRaces fun z => z.awaited u (c.opA x % 16) (c.opB x)
      | _ => c)
  | none => c

/-- SYNC_WAIT_SATISFIED (R127, R186, R192): the wait is over; its word is not judged again under R183, also where a
configuration write has changed it since (R182). -/
def execSyncWaitSatisfied (c : CoreId) (u : CoreUnit) (s : State) : Res :=
  let k := coreKey c
  .next (if s.waitMet k u && (s.core k).role == .inService then
      ((s.unwatch k u).modCore k (Core.sawCounter · u)).endWait k u
    else s)

/-- SLOCK_GRANT (R195): a free lock goes to the first request queued on it, which receives its status. -/
def execSlockGrant (cluster : Fin 64) (index : Fin 4096) (s : State) : Res :=
  let key := wordKey cluster.val index.val
  .next (if (s.word key).mode ≠ 2 || (s.word key).holder.isSome then s
    else match s.sync.watches.find? fun w => w.isLock && w.cluster == cluster.val && w.index == index.val with
      | none => s
      | some w =>
        match (s.core w.core).run, (s.core w.core).waitingAt w.unit with
        | some r, some e =>
          (match e.op with
            | .slock x =>
              ((s.unwatch w.core w.unit).acquire key w.core r.ctx x.d).endWait w.core w.unit
            | _ => s)
        | _, _ => s)

/-- HANDLE_WAIT_SATISFIED (R174, R176): the waiting HPUSH or HPOP acts again; it waits on while nothing has changed. -/
def execHandleWaitSatisfied (c : CoreId) (u : CoreUnit) (s : State) : Res :=
  let k := coreKey c
  .next (match (s.core k).waitingAt u with
    | some e =>
      (match e.op with
        | .hpush _ _ | .hpop _ _ => if (s.core k).role = .inService then s.resume k u else s
        | _ => s)
    | none => s)

end Sys2Proof.Machine
end

