-- ==== Sys2Proof/Machine/ExecWatchdog.lean ====
section
/-!
DEFINITION. The watchdogs of a core and of a context, stuck resets and the escalation policy (R145, R379 to R385).
-/

namespace Sys2Proof.Machine

open Sys2Proof

/-! ### The escalation policy (R382) -/

/-- Whether a context lies in a scope that is being reset: a trip there is discarded (R379, R395). -/
def State.scopeResetting (s : State) (n : Nat) : Bool :=
  (s.ctx n).resetting.isSome || (s.part (s.ctxPart n)).resetting || s.rel.creset

/-- The level at which a source acts in a scope: FIRST, or one above its last action there while that ended less than
WINDOW seconds ago, up to CEIL; level 2 is level 3 for a source that names no unit. -/
def State.escLevel (s : State) (source scope : Nat) : Nat :=
  let p := s.ent (Ent.escPolicy (source - 1))
  let first := bitsAt p 0 3
  let l := match s.rel.esc.find? fun e => e.source == source && e.scope == scope with
    | some e =>
      (match e.ended with
        | some t => if Nat.ble s.now (t + bitsAt p 8 8 * 1000000000) then Nat.min (e.level + 1) (bitsAt p 3 3) else first
        | none => first)
    | none => first
  if l = 2 && source != 1 then 3 else l

/-- Act on a trip of a source for context n: the action is remembered and counted (ESC_COUNT), and taken; level 2 is
the fence of the core that tripped (R384), and it has completed when the substitution and the replay have. -/
def State.escalate (s : State) (source scope n cause : Nat) (core : Option Nat) : State :=
  let l := s.escLevel source scope
  let e : EscRec := { source := source, scope := scope, level := l, core := if l = 2 then core else none,
                      ended := if l = 0 then some s.now else none }
  let s1 := { s with rel := { s.rel with
    esc := e :: s.rel.esc.filter fun x => !(x.source == source && x.scope == scope) } }
  let s2 := if l = 0 then s1 else s1.bump (Ent.escCount (l - 1))
  match l, core with
  | 2, some k => (s2.fence k).resetLevel 2
  | _, _ => s2.takeReset l n cause

/-! ### Cores -/

/-- SEQ_STALL (R379): dispatch of a core that waits for nothing has stood still; the core is fenced (R358). -/
def execSeqStall (c : CoreId) (s : State) : Res :=
  let k := coreKey c
  .next (match (s.core k).ready with
    | some r => if s.scopeResetting r.ctx then s else (s.logCore Code.seqStall r.ctx k [(s.core k).regs.pc]).fence k
    | none => s)

/-- The instruction at the head of a unit's queue that the queue-head watchdog counts (R379): the oldest that has not
retired, so a TLOAD in flight before what is queued behind it (R167); not a synchronisation instruction that waits on its
condition. -/
def Core.stalledPc (c : Core) (u : CoreUnit) : Option Nat :=
  match u, c.disp.loads, c.disp.queue u with
  | .txe, f :: _, _ => some f.pc
  | _, _, e :: _ => if e.waiting then none else some e.pc
  | _, _, [] => none

/-- QHEAD_STALL (R379): the head of an engine queue has not retired within QHEAD_LIMIT. Source 1. -/
def execQheadStall (c : CoreId) (u : CoreUnit) (s : State) : Res :=
  let k := coreKey c
  .next (match (s.core k).run, (s.core k).stalledPc u with
    | some r, some pc =>
      if s.scopeResetting r.ctx || (s.core k).role ≠ .inService then s
      else (s.logCore Code.qheadStall r.ctx k [pc]).escalate 1 r.ctx r.ctx Code.qheadStall (some k)
    | _, _ => s)

/-- TSEL of what waits at a unit of a core: SWAIT, SLOCK, HPUSH, HPOP or SBAR. -/
def Core.waitSel (c : Core) (u : CoreUnit) : Option Nat :=
  match u, c.disp.hold with
  | .seq, .barWait b => some b.tsel
  | _, _ =>
    match c.waitingAt u with
    | some e => (match e.op with
      | .swait _ x | .hpush _ x | .hpop _ x | .slock x => some x.tsel.toNat
      | _ => none)
    | none => none

/-- WAIT_TIMEOUT (R380): the timeout that TSEL selects runs out, unless it is infinite. Source 2. -/
def execWaitTimeout (c : CoreId) (u : CoreUnit) (s : State) : Res :=
  let k := coreKey c
  .next (match (s.core k).run, (s.core k).waitSel u with
    | some r, some t =>
      if s.scopeResetting r.ctx || s.entBits (Ent.waitTimeouts r.ctx) (32 * t) 32 == 0xFFFFFFFF then s
      else
        let pc := ((s.core k).waitingAt u).elim (s.core k).regs.pc (·.pc)
        (s.logCore Code.waitTimeout r.ctx k [pc]).escalate 2 r.ctx r.ctx Code.waitTimeout none
    | _, _ => s)

/-- SEGMENT_LONG (R145): recorded once for a segment; it runs on. -/
def execSegmentLong (c : CoreId) (s : State) : Res :=
  let k := coreKey c
  .next (match (s.core k).run with
    | some r =>
      if (s.core k).segLong then s
      else (s.modCore k fun c => { c with segLong := true }).logCore Code.segmentLong r.ctx k [(s.core k).regs.pc]
    | none => s)

/-! ### Contexts and resets -/

/-- HEARTBEAT (R379): an ACTIVE or LENT context has made no progress; 0 disables it. Source 3. -/
def execHeartbeat (n : Fin 64) (s : State) : Res :=
  .next (if (s.ctxState n == 2 || s.ctxState n == 3) && s.ent (Ent.heartbeat n) != 0 && !s.scopeResetting n then
      (s.logCtx Code.heartbeat n []).escalate 3 n n Code.heartbeat none
    else s)

/-- Whether a tag advance of a context of partition k is still delayed (R393). -/
def State.tagsDelayed (s : State) (k : Nat) : Bool := (s.ctxsOf k).any fun n => (s.ctx n).tagDelay

/-- RESET_STUCK (R385): the next level supersedes a reset that has not completed; waiting for a delayed tag is not
counted. -/
def execResetStuck (scope : ResetScope) (s : State) : Res :=
  .next (match scope with
    | .context n =>
      if (s.ctx n).resetting.isSome && !(s.ctx n).tagDelay && !(s.part (s.ctxPart n)).resetting && !s.rel.creset then
        ((s.logCtx Code.resetStuck n [1]).bump (Ent.escCount 2)).partReset (s.ctxPart n)
      else s
    | .partition k =>
      if (s.part k).resetting && !s.rel.creset && !s.tagsDelayed k then ((s.logPart Code.resetStuck k [3]).bump (Ent.escCount 3)).compReset
      else s
    | .compute =>
      if s.rel.creset && !s.plat.pwrCycle && !((List.range 16).any s.tagsDelayed) then ((s.log Code.resetStuck [4]).bump (Ent.escCount 4)).powerCycleReq
      else s)

end Sys2Proof.Machine
end

