-- ==== Sys2Proof/Machine/ExecSpare.lean ====
section
/-!
DEFINITION. Spare substitution and replay (R147, R148, R357 to R363), Calico and diagnosis visits (R370 to R373, R454),
and the die-to-die edges (R19 to R24).
-/

namespace Sys2Proof.Machine

open Sys2Proof

/-! ### Substitution -/

/-- The number of a slot in the rotation of its die: ascending cluster, then slot (R370). -/
def slotOrd (c slot : Nat) : Nat := 25 * (c % 16) + slot

/-- The next slot of a die's rotation. -/
def State.nextOrd (s : State) (d : Nat) : Nat := SMap.get (fun _ => 0) s.rel.next d

/-- Set the next slot of a die's rotation; CALICO_PROGRESS follows, in units of 1/10,000 of the 1,600 slots. -/
def State.setNextOrd (s : State) (d o : Nat) : State :=
  let s1 := { s with rel := { s.rel with next := SMap.set (fun _ => 0) s.rel.next d (o % 400) } }
  s1.setEnt Ent.calicoProgress (((List.range 4).foldl (fun a i => a + s1.nextOrd i) 0) * 10000 / 1600)

/-- SELFTEST_STATUS of a single-slot test: its state and its failures. -/
def State.slotTestStatus (s : State) (state fails : Nat) : State :=
  s.setEnt Ent.selftestStatus (state + 3 * 256 + Nat.min fails 65535 * 65536)

/-- A visit stops because its slot is needed; it is repeated later (R373). -/
def State.stopVisit (s : State) (d : Nat) : State :=
  match s.visitOn d with
  | none => s
  | some v =>
    let s1 := s.setVisit d none
    match v.kind with
    | .selftest => State.slotTestStatus { s1 with rel := { s1.rel with
        queued := { v with cond := 0, deferred := false } :: s1.rel.queued } } 1 0
    | _ => s1.setNextOrd d (slotOrd v.cluster v.slot)

/-- The scratchpad of a spare after the copy (R148): words that failed their check are poisoned, all of them where the
failed slot delivers none. -/
def Scratch.copied (p : Scratch) (deliverable : Bool) (bad : List Nat) : Scratch :=
  if deliverable then { p with poison := SMap.setAll (fun _ => p.poisonAll) p.poison (bad.map fun w => (w, true)) }
  else { p with poisonAll := true, poison := [] }

/-- Whether another core of the die goes first: fenced at the same moment, with a lower global cluster, or in the same
cluster with a lower logical number (R33, R359). -/
def State.goesAfter (s : State) (k : Nat) : Bool :=
  s.cores.any fun e => Nat.blt e.1 k && dieOf (e.1 / 24) == dieOf (k / 24) && e.2.role == .fenced &&
    e.2.fencedAt == (s.core k).fencedAt

/-- SPARE_SUBSTITUTION: a spare takes the identity of a fenced core (R359, R360) and copies its scratchpad; with none
left the identity is lost (R363). Of cores fenced together the lowest goes first (R33). -/
def execSpareSubstitution (c : CoreId) (deliverable : Bool) (badWords : List (Fin 524288)) (s : State) : Res :=
  let k := coreKey c
  .next (if (s.core k).role ≠ .fenced || s.goesAfter k then s
    else match s.spareFor k with
      | none => s.loseCore k
      | some x =>
        let slot := (s.spareSlot x).getD 31
        let s1 := if s.underTest x slot then s.stopVisit (dieOf x) else s
        let s2 := (if s1.spareOf x = slot then s1.useSpare x else s1).setSlotOf k x slot
        let s3 := s2.modCore k fun c => { c with
          role := .copying
          sp := c.sp.copied deliverable (badWords.map (·.val)) }
        s3.judgeDie (dieOf x))

/-- The state of Table 5.13: registers and flags of the commit record; local counters, vectors and the engine cleared;
the local view of each queue at its committed consumer count. The commit record holds the core's flags, the OR of its
engines' flags (Table 5.13): which engine holds them on the spare is stated nowhere, and the matrix engine takes them, which
no instruction can tell apart since FLAGRD and FLAGCLR act on the OR (DESIGN CHOICE, assumption 100). The replay acts on the
scratchpad and memory as they stand, also where the segment broke R144 and R146 leaves its results open (DESIGN CHOICE,
assumption 100). A segment that has been recorded as long is not recorded again (R145). A core that had dispatched nothing
since its commit record replays nothing (R361). -/
def Core.replayed (c : Core) : Core :=
  let again := c.disp.count != c.crec.dispatched
  { c with
    regs := { pc := c.crec.pc, s := c.crec.s, a := c.crec.a, p := c.crec.p, lctr := [], v := [], phase := c.crec.phase }
    icache := []
    mxe := Mxe.clear
    hq := { c.hq with loc := [], view := [] }
    disp := { Disp.idle with acks := c.disp.acks, count := c.disp.count, extra := again }
    flags := { Flags4.zero with m := c.crec.flags }
    crec := { c.crec with dispatched := c.disp.count }
    replay := again
    role := .inService }

/-- REPLAY_THROTTLED (R415): a replay on a die in stage 3 is recorded. -/
def State.noteThrottled (s : State) (k : Nat) : State :=
  if (s.core k).replay && s.entBits Ent.thermStage (2 * dieOf (s.slotOf k).1) 2 = 3 then
    s.logCore Code.replayThrottled ((s.coreOwner k).getD 0xFF) k []
  else s

/-- REPLAY_START (R147, R357, R361, R415): the copy is complete; a task replays its segment from the commit record, and a
segment that SBAR's commit began goes on with that wait (R193). Where nothing is replayed the substitution is over. -/
def execReplayStart (c : CoreId) (s : State) : Res :=
  let k := coreKey c
  .next (if (s.core k).role ≠ .copying then s
    else match (s.core k).run with
      | none => (s.modCore k fun c => { c with role := .inService }).coreReplaced k
      | some _ =>
        let s0 := (s.notePhase (s.modCore k Core.replayed) k).noteThrottled k
        let s1 := if (s0.core k).replay then s0 else s0.coreReplaced k
        match (s.core k).crec.bar with
        | some b => s1.barrierWait k b
        | none => s1)

/-! ### Calico (R370 to R373) -/

/-- Whether a test may run on a die (R370): READY, no compute reset, no package-wide self-test, not DEGRADED, and no
other slot of the die under test or returning. -/
def State.testsMayRun (s : State) (d : Nat) : Bool :=
  s.plat.stage == .ready && !s.rel.creset && s.rel.selftest.isNone && !s.entBit Ent.degradedDies d &&
    (s.visitOn d).isNone && !(s.rel.rets.any fun r => r.1 == 1 && bitsAt r.2 5 6 / 16 == d)

/-- Whether a logical core stands at a SCOMMIT: it runs no task, or has done nothing since its commit record. -/
def Core.atCommit (c : Core) : Bool :=
  c.role == .inService &&
    (c.run.isNone || (c.disp.count == c.crec.dispatched && c.disp.qM.isEmpty && c.disp.qV.isEmpty && c.disp.qT.isEmpty &&
      (match c.disp.hold with
        | .none => true
        | .barWait _ => true
        | _ => false)))

/-- Whether a slot can be visited now: not fenced; one that holds an identity needs a standby spare in its cluster. -/
def State.visitable (s : State) (c slot : Nat) : Bool :=
  !s.slotFenced c slot && (s.spareOf c == slot || s.spareOf c != 31)

/-- The slot that the rotation of a die visits next: the first at or after the mark that can be visited, then from the
start. -/
def State.nextSlot (s : State) (d : Nat) : Option (Nat × Nat) :=
  let l := (dieClusters d).flatMap fun c => (List.range 25).map fun j => (c, j)
  let n := s.nextOrd d
  ((l.drop n) ++ (l.take n)).find? fun p => s.visitable p.1 p.2

/-- Whether the visit of a slot is due: a queued single-slot test, or the rotation's next slot while nothing is queued
on the die. -/
def State.visitDue (s : State) (c slot : Nat) : Option VisitKind :=
  let d := dieOf c
  if s.rel.queued.any fun v => v.kind == .selftest && v.cluster == c && v.slot == slot then some .selftest
  else if s.rel.queued.any fun v => dieOf v.cluster == d then none
  else if s.ent Ent.calicoPeriod != 0 && s.entBit Ent.calicoDies d && s.nextSlot d == some (c, slot) then some .rotation
  else none

/-- Begin a visit of a slot without identity. -/
def State.beginVisit (s : State) (c slot : Nat) (kind : VisitKind) : State :=
  let s1 := s.setVisit (dieOf c) (some { cluster := c, slot := slot, kind := kind, cond := 0, deferred := false })
  match kind with
  | .selftest => State.slotTestStatus { s1 with rel := { s1.rel with queued := s1.rel.queued.filter fun v =>
      !(v.kind == .selftest && v.cluster == c && v.slot == slot) } } 2 0
  | _ => s1

/-- CALICO_VISIT_START (R370): at the core's SCOMMIT the standby spare takes the identity, and the slot starts its
kernels; a standby spare is tested in place. -/
def execCalicoVisitStart (cluster : Fin 64) (slot : Fin 25) (s : State) : Res :=
  let c := cluster.val
  .next (if !s.testsMayRun (dieOf c) || !s.visitable c slot.val then s
    else match s.visitDue c slot.val with
      | none => s
      | some kind =>
        match s.slotHolder c slot.val with
        | none => s.beginVisit c slot.val kind
        | some k =>
          if (s.core k).atCommit then
            ((s.useSpare c).setSlotOf k c (s.spareOf c)).beginVisit c slot.val kind
          else s)

/-- CALICO_LAST (Table 13.8): time, slot, condition, result and kernel of the condition that ended last. -/
def State.calicoLast (s : State) (c slot cond result kernel : Nat) : State :=
  s.setEnt Ent.calicoLast (s.gtime.count + 2 ^ 64 * (slot + 32 * c) + 2 ^ 80 * cond + 2 ^ 88 * result + 2 ^ 96 * kernel)

/-- Record a failure (R372): CALICO_FAIL with the slot, the condition and the kernel, and CALICO_FAILS. -/
def State.calicoFail (s : State) (c slot cond kernel : Nat) : State :=
  (s.logTested Code.calicoFail c slot [cond, kernel]).bump Ent.calicoFails

/-- A slot leaves the standby role: the next slot in reserve takes its place. -/
def State.dropSpare (s : State) (c slot : Nat) : State :=
  if s.spareOf c = slot then s.useSpare c
  else { s with rel := { s.rel with reserve := s.rel.reserve.filter fun p => p != (c, slot) } }

/-- Fence a slot that holds no identity (Table 13.2). -/
def State.fenceSpare (s : State) (c slot : Nat) : State :=
  ((s.dropSpare c slot).markFenced c slot).judgeDie (dieOf c)

/-- Fence a slot that a test has found wanting: it belongs to no partition (R371). -/
def State.fenceTested (s : State) (c slot : Nat) : State :=
  (((s.dropSpare c slot).setEntBit (Ent.fenced c) slot true).logTested Code.fence c slot []).judgeDie (dieOf c)

/-- The bad columns of a slot with those found in the field (R101): they are recorded whatever W they leave. -/
def State.addBadCols (s : State) (c slot : Nat) (bad : List (Fin 66)) : State :=
  s.setEntBits (Ent.badcolMap c) (72 * slot) 66
    (bad.foldl (fun m b => putBits m b.val 1 1) (s.entBits (Ent.badcolMap c) (72 * slot) 66))

/-- A working slot that holds no identity stands by: as the standby spare it is, in reserve, or newly (R370). -/
def State.standBy (s : State) (c slot : Nat) : State :=
  if s.spareOf c = slot || s.rel.reserve.contains (c, slot) then s else s.addSpare c slot

/-- A visit ends; the rotation moves past its slot, and a single-slot test reports. -/
def State.endVisit (s : State) (v : Visit) (fails : Nat) : State :=
  let d := dieOf v.cluster
  let s1 := s.setVisit d none
  match v.kind with
  | .selftest =>
    let s2 := s1.slotTestStatus (if fails = 0 then 3 else 4) fails
    if fails = 0 then s2 else s2.logTested Code.selftest v.cluster v.slot []
  | _ => s1.setNextOrd d (slotOrd v.cluster v.slot + 1)

/-- The visit goes on to its next condition, or its slot stands by after the last; a rotation that CALICO_PERIOD = 0
stops ends after the current condition (R373). -/
def State.nextCond (s : State) (v : Visit) : State :=
  if v.cond = 3 || (v.kind == .rotation && s.ent Ent.calicoPeriod == 0) then
    (s.endVisit v 0).standBy v.cluster v.slot
  else s.setVisit (dieOf v.cluster) (some { v with cond := v.cond + 1 })

/-- A failure of the slot at its condition other than columns alone at C0 (R372): it is fenced; one that passed C0 sets
CORE_STRESS and requests a drain. -/
def State.visitFails (s : State) (v : Visit) : State :=
  let s1 := (s.endVisit v 1).fenceTested v.cluster v.slot
  if v.cond = 0 then s1 else s1.setReplace 0

/-- A hardware fault of a slot during its test (R373): a failure at the condition in force. No kernel found it, and the
records name kernel 0 (DESIGN CHOICE, assumption 103). -/
def State.testedFaults (s : State) (v : Visit) : State :=
  ((s.calicoLast v.cluster v.slot v.cond 1 0).calicoFail v.cluster v.slot v.cond 0).visitFails v

/-- RETURN_STATUS (Table 17.12). -/
def State.returnStatus (s : State) (state kind unit : Nat) : State :=
  s.setEnt Ent.returnStatus (state + 256 * unit + 16777216 * kind)

/-- A return ends: RETURN_STATUS and a record with its kind, unit and outcome. -/
def State.returnEnds (s : State) (kind unit : Nat) (back : Bool) : State :=
  let s1 : State := { s with rel := { s.rel with rets := s.rel.rets.filter fun r => r != (kind, unit) } }
  (s1.returnStatus (if back then 2 else 3) kind unit).log Code.unitReturned [kind, unit, if back then 2 else 3]

/-- What a test shows at the end of its condition: nothing, where a throttling stage keeps C2 or C3 from its die (Table
15.5), or where the share cannot hold the test's power (R410): the condition is then deferred. -/
def State.testShows (s : State) (v : Visit) (r : KernelResult) : KernelResult :=
  if (Nat.ble 2 v.cond && s.dieStage (dieOf v.cluster) != 0) || !s.testHeld v.cluster then .deferred else r

/-- CALICO_CONDITION_END (R371, R372, R410); the sweeps pause in a compute reset (R390). -/
def execCalicoConditionEnd (die : Fin 4) (r0 : KernelResult) (kernel : BitVec 32) (s : State) : Res :=
  .next (match (if s.rel.creset then none else s.visitOn die.val) with
    | none => s
    | some v =>
      let r := s.testShows v r0
      let result := match r with
        | .columns _ => 1
        | .other => 1
        | _ => 0
      let s1 := s.calicoLast v.cluster v.slot v.cond result kernel.toNat
      match r with
      | .pass => s1.nextCond v
      | .deferred => (s.logTested Code.calicoDeferred v.cluster v.slot [v.cond]).nextCond { v with deferred := true }
      | .columns bad =>
        let s2 := (s1.calicoFail v.cluster v.slot v.cond kernel.toNat).addBadCols v.cluster v.slot bad
        if v.cond = 0 && s2.slotWorks v.cluster v.slot then (s2.endVisit v 1).standBy v.cluster v.slot
        else s2.visitFails v
      | .other => (s1.calicoFail v.cluster v.slot v.cond kernel.toNat).visitFails v)

/-- DIAGNOSIS_VISIT (R454): failures in columns only with W at least 32 return the slot as a standby spare with its new
W; otherwise it stays fenced. The slot has passed its identity by then (R103). -/
def execDiagnosisVisit (cluster : Fin 64) (slot : Fin 25) (r : KernelResult) (s : State) : Res :=
  let c := cluster.val
  let mine := fun (v : Visit) => v.kind == .diagnosis && v.cluster == c && v.slot == slot.val
  let done := { s with rel := { s.rel with queued := s.rel.queued.filter fun v => !mine v } }
  .next (if !s.testsMayRun (dieOf c) || !(s.rel.queued.any mine) || (s.slotHolder c slot.val).isSome then s
    else match r with
      | .deferred => s.logTested Code.calicoDeferred c slot.val [0]
      | .pass => done
      | .other => done.calicoFail c slot.val 0 0
      | .columns bad =>
        let s1 := (done.calicoFail c slot.val 0 0).addBadCols c slot.val bad
        if s1.slotWorks c slot.val then
          (s1.addSpare c slot.val).logTested Code.unitReturned c slot.val [1, slot.val + 32 * c, 2]
        else s1)

/-! ### Die-to-die edges: 0 to 3 the spokes, 4 + d the ring edge between dies d and d + 1 (R19, R23) -/

/-- The state of a module: 0 x16, 1 x8, 2 down; 4 more while it retrains. -/
def State.edgeModule (s : State) (e m : Nat) : Nat := SMap.get (fun _ => 0) s.rel.edges (32 * e + m)

/-- Set the state of a module. -/
def State.setEdgeModule (s : State) (e m v : Nat) : State :=
  { s with rel := { s.rel with edges := SMap.set (fun _ => 0) s.rel.edges (32 * e + m) v } }

/-- The capacity of an edge in GB/s per direction: 64 a module, 32 at x8 (R19, R22). -/
def State.edgeCapacity (s : State) (e : Nat) : Nat :=
  (List.range 32).foldl (fun a m =>
    a + (match s.edgeModule e m % 4 with
      | 0 => 64
      | 1 => 32
      | _ => 0)) 0

/-- Whether an edge is out. -/
def State.edgeIsOut (s : State) (e : Nat) : Bool := s.rel.edgeOut.getLsbD e

/-- Whether a die reaches neither the I/O die nor a neighbour (R24): its spoke and both its ring edges are out. -/
def State.dieCut (s : State) (d : Nat) : Bool := s.edgeIsOut d && s.edgeIsOut (4 + d) && s.edgeIsOut (4 + (d + 3) % 4)

/-- A die becomes unreachable (R24): DIE_LOST, the replace flag, and a reset of every partition with a cluster there. -/
def State.dieGone (s : State) (d : Nat) : State :=
  if s.rel.dieLost.getLsbD d then s
  else
    let s1 := (({ s with rel := { s.rel with dieLost := s.rel.dieLost ||| BitVec.ofNat 4 (2 ^ d) } } : State).log Code.dieLost
      [d]).setReplace 4
    (List.range 16).foldl (fun s k =>
      if (s.partClusters k).any fun c => dieOf c == d then s.partReset k else s) s1

/-- A die that is cut off is lost. -/
def State.loseDie (s : State) (d : Nat) : State := if s.dieCut d then s.dieGone d else s

/-- Judge an edge (R23): below 1,536 GB/s it is out, which sets the replace flag and may cut dies off. -/
def State.judgeEdge (s : State) (e : Nat) : State :=
  if s.edgeIsOut e || Nat.ble 1536 (s.edgeCapacity e) then s
  else
    let s1 := (({ s with rel := { s.rel with edgeOut := s.rel.edgeOut ||| BitVec.ofNat 8 (2 ^ e) } } : State).log Code.edgeOut
      [e]).setReplace 3
    (List.range 4).foldl State.loseDie s1

/-- Whether the compute dies run: from S on (R460). -/
def State.powered (s : State) : Bool :=
  match s.plat.stage with
  | .off | .booted | .recovery => false
  | _ => true

/-- EDGE_MODULE_LANE_LOSS (R22): the module retrains at x8, or is down. -/
def execEdgeModuleLaneLoss (edge : Fin 8) (module : Fin 32) (trainsX8 : Bool) (s : State) : Res :=
  .next (if !s.powered || s.edgeModule edge module % 4 == 2 then s
    else ((s.setEdgeModule edge module (if trainsX8 then 5 else 2)).log Code.edgeRetrain
      [edge, module, if trainsX8 then 8 else 0]).judgeEdge edge)

/-- EDGE_RETRAIN_COMPLETE (R22): the module carries traffic again; what was held is retried, and nothing is lost. -/
def execEdgeRetrainComplete (edge : Fin 8) (module : Fin 32) (s : State) : Res :=
  .next (s.setEdgeModule edge module (s.edgeModule edge module % 4))

end Sys2Proof.Machine
end

