-- ==== Sys2Proof/Machine/SymbolCode.lean ====
section
/-!
DEFINITION. The symbol code of a line: RS(72,64) over GF(2^8) (R215), its wires (Table 8.4) and the decoder of
R217. The code is linear, so the decoder works on what differs between the codeword sent and the one that arrives.
-/

namespace Sys2Proof.Machine

/-- Multiply by alpha = 0x02 modulo x^8 + x^4 + x^3 + x^2 + 1 (R215). -/
def gfDouble (a : Nat) : Nat := if Nat.ble 128 a then Nat.xor (2 * a) 0x11D else 2 * a

/-- The product of two field elements, over the bits of the second. -/
def gfMulBits (a : Nat) : Nat → Nat → Nat
  | 0, _ => 0
  | k + 1, b => Nat.xor (if b % 2 = 1 then a else 0) (gfMulBits (gfDouble a) k (b / 2))

/-- The product of two elements of GF(2^8). -/
def gfMul (a b : Nat) : Nat := gfMulBits a 8 b

/-- The power of an element. -/
def gfPow (a : Nat) : Nat → Nat
  | 0 => 1
  | n + 1 => gfMul a (gfPow a n)

/-- alpha^i. -/
def gfAlpha : Nat → Nat
  | 0 => 1
  | n + 1 => gfDouble (gfAlpha n)

/-- The inverse, a^254. -/
def gfInv (a : Nat) : Nat := gfPow a 254

/-- The power of x whose coefficient a wire carries (Table 8.4): c_(8+w), or c_(w-64) for a check wire. -/
def symbolOf (wire : Nat) : Nat := if Nat.blt wire 64 then wire + 8 else wire - 64

/-- The wire that carries coefficient j. -/
def wireOf (j : Nat) : Nat := if Nat.blt j 8 then j + 64 else j - 8

/-- Syndrome i of a pattern of (coefficient, difference) pairs (R217). -/
def syndrome (e : List (Nat × Nat)) (i : Nat) : Nat :=
  e.foldl (fun a p => Nat.xor a (gfMul p.2 (gfPow (gfAlpha p.1) i))) 0

/-- Coefficient k of a polynomial, lowest power first. -/
def polyAt (p : List Nat) (k : Nat) : Nat := p.getD k 0

/-- Sum of two polynomials to degree 8. -/
def polyAdd (p q : List Nat) : List Nat := (List.range 9).map fun k => Nat.xor (polyAt p k) (polyAt q k)

/-- A polynomial times a field element. -/
def polyScale (c : Nat) (p : List Nat) : List Nat := p.map (gfMul c)

/-- The value of a polynomial at x. -/
def polyEval (x : Nat) : List Nat → Nat
  | [] => 0
  | c :: p => Nat.xor c (gfMul x (polyEval x p))

/-- The erasure locator: the product of 1 + X x over the erased coefficients. -/
def erasurePoly : List Nat → List Nat
  | [] => [1, 0, 0, 0, 0, 0, 0, 0, 0]
  | j :: l => polyAdd (erasurePoly l) (0 :: polyScale (gfAlpha j) (erasurePoly l))

/-- The step of the locator search with r syndromes used: (locator, correction polynomial, length). -/
def locatorStep (syn : Nat → Nat) (rho r : Nat) (st : List Nat × List Nat × Nat) : List Nat × List Nat × Nat :=
  let delta := (List.range (r + 1)).foldl (fun a j => Nat.xor a (gfMul (polyAt st.1 j) (syn (r - j)))) 0
  let xb := 0 :: st.2.1.take 8
  if delta = 0 then (st.1, xb, st.2.2)
  else if Nat.ble (2 * st.2.2) (r + rho) then
    (polyAdd st.1 (polyScale delta xb), polyScale (gfInv delta) st.1, r + 1 - st.2.2 + rho)
  else (polyAdd st.1 (polyScale delta xb), xb, st.2.2)

/-- What the decoder finds for an arriving word that differs by e, with the given coefficients erased (R217): the
differences it corrects, or none where no codeword lies within 2t + e at most 8. -/
def symbolDecode (e : List (Nat × Nat)) (erased : List Nat) : Option (List (Nat × Nat)) :=
  let syn := syndrome e
  if (List.range 8).all fun i => syn i == 0 then some []
  else
    let rho := erased.length
    let g := erasurePoly erased
    let st := ((List.range 8).drop rho).foldl (fun st r => locatorStep syn rho r st) (g, g, rho)
    let loc := st.1
    let roots := (List.range 72).filter fun j => polyEval (gfInv (gfAlpha j)) loc == 0
    let omega := (List.range 8).map fun k =>
      (List.range (k + 1)).foldl (fun a j => Nat.xor a (gfMul (polyAt loc j) (syn (k - j)))) 0
    let deriv := (List.range 8).map fun k => if k % 2 = 0 then polyAt loc (k + 1) else 0
    let found := roots.map fun j =>
      (j, gfMul (gfAlpha j) (gfMul (polyEval (gfInv (gfAlpha j)) omega)
        (gfInv (polyEval (gfInv (gfAlpha j)) deriv))))
    if roots.length = st.2.2 && Nat.ble (2 * st.2.2) (8 + rho) && (List.range 8).all (fun i => syndrome found i == syn i) then
      some (found.filter fun p => p.2 != 0)
    else none

/-- The check symbols c_0 to c_7 of a line's data bytes (R215): the remainder of division by g(x), which is what
cancels every syndrome. -/
def symbolEncode (data : List Nat) : List Nat :=
  let gen := (List.range 8).foldl (fun p i => polyAdd (0 :: p) (polyScale (gfAlpha i) p)) [1]
  (data.reverse).foldl (fun rem d =>
    let q := Nat.xor d (polyAt rem 7)
    (List.range 8).map fun k => Nat.xor (if k = 0 then 0 else polyAt rem (k - 1)) (gfMul q (polyAt gen k)))
    [0, 0, 0, 0, 0, 0, 0, 0]

end Sys2Proof.Machine
end

