-- ==== Sys2Proof/Machine/MemOps.lean ====
section
/-!
DEFINITION. What the stack controllers and the memory manager do beside plain accesses: corrected and uncorrectable
lines (R217 to R225), placement and moves of pages (R227, R233), retirement (R235 to R237, R243), and
memory commands (R226).
-/

namespace Sys2Proof

/-! ### Fields of a memory command (Table 8.6) -/

/-- Fields of a memory command. -/
def MemCmd.op (c : MemCmd) : Nat := Machine.bitsAt c.w0.toNat 0 8
def MemCmd.ctx (c : MemCmd) : Nat := Machine.bitsAt c.w0.toNat 8 6
def MemCmd.home (c : MemCmd) : Nat := Machine.bitsAt c.w0.toNat 16 3
def MemCmd.pin (c : MemCmd) : Bool := c.w0.toNat.testBit 19
def MemCmd.tag (c : MemCmd) : Nat := Machine.bitsAt c.w0.toNat 32 32
def MemCmd.vpage (c : MemCmd) : Nat := Machine.bitsAt c.w1.toNat 0 27
def MemCmd.count (c : MemCmd) : Nat := Machine.bitsAt c.w2.toNat 0 32
def MemCmd.aux (c : MemCmd) : Nat := Machine.bitsAt c.w3.toNat 0 27
def MemCmd.dctx (c : MemCmd) : Nat := Machine.bitsAt c.w3.toNat 32 6
def MemCmd.peer (c : MemCmd) : Nat := Machine.bitsAt c.w3.toNat 32 12
def MemCmd.tdie (c : MemCmd) : Nat := Machine.bitsAt c.w3.toNat 44 3

/-- Whether a command sets reserved bits, an opcode or HOME that is reserved, or a TDIE beyond die 3. -/
def MemCmd.invalid (c : MemCmd) : Bool :=
  c.op == 0 || Nat.blt 6 c.op || Nat.blt 4 c.home || Machine.bitsAt c.w0.toNat 14 2 != 0 || Machine.bitsAt c.w0.toNat 20 12 != 0 ||
    Machine.bitsAt c.w1.toNat 27 37 != 0 || Machine.bitsAt c.w2.toNat 32 32 != 0 || Machine.bitsAt c.w3.toNat 27 5 != 0 ||
    Machine.bitsAt c.w3.toNat 47 17 != 0 || (c.op == 6 && Nat.blt 3 c.tdie)

end Sys2Proof

namespace Sys2Proof.Machine

open Sys2Proof

/-! ### Placement (R227) -/

/-- Whether a group takes pages: in service and not being retired (R237). -/
def State.groupTakes (s : State) (stack g : Nat) : Bool :=
  s.groupIn stack g && !s.mem.retiring.contains (16 * stack + g)

/-- The free frames of a group between two frame numbers within the group. -/
def State.freeIn (s : State) (stack g lo hi : Nat) : List Nat :=
  if s.groupTakes stack g then
    let used := s.usedFrames
    (((List.range hi).drop lo).map fun n => 16 * n + g).filter fun f => !used.contains (stack, f)
  else []

/-- Take one of the free frames (assumption 10). -/
def State.pickFrame (s : State) (l : List Nat) : Option (Nat × State) :=
  if l.isEmpty then none
  else (l[Config.framePick s.freeCtr % l.length]?).map fun f => (f, { s with freeCtr := s.freeCtr + 1 })

/-- The group used by the previous page placed on a stack; 15 after start-up. -/
def State.groupMark (s : State) (stack : Nat) : Nat := SMap.get (fun _ => 15) s.mem.lastGroup stack

/-- Place a page on a stack: the first group with a free usable frame after the group used last, wrapping. -/
def State.placeStack (s : State) (stack : Nat) : Option (Nat × Nat × State) :=
  let groups := (List.range 16).map fun i => (s.groupMark stack + 1 + i) % 16
  match groups.find? fun g => !(s.freeIn stack g 0 3008).isEmpty with
  | none => none
  | some g => (s.pickFrame (s.freeIn stack g 0 3008)).map fun r =>
      (stack, r.1, r.2.modMem fun m => { m with lastGroup := SMap.set (fun _ => 15) m.lastGroup stack g })

/-- Place a page on the first of some stacks that has a frame. -/
def State.placeOn (s : State) : List Nat → Option (Nat × Nat × State)
  | [] => none
  | st :: l => match s.placeStack st with
    | some r => some r
    | none => s.placeOn l

/-- The stacks of a die in the order tried for a page at position i. -/
def dieStacks (d i : Nat) : List Nat := (List.range 4).map fun k => 4 * d + (i + k) % 4

/-- The dies in the order tried from a home die. -/
def dieOrder (h : Nat) : List Nat := [h % 4, (h + 1) % 4, (h + 3) % 4, (h + 2) % 4]

/-- Place the page at position i of a command from home die h. -/
def State.placePage (s : State) (h i : Nat) : Option (Nat × Nat × State) :=
  s.placeOn ((dieOrder h).flatMap fun d => dieStacks d i)

/-- Place a page in a spare frame of a die (Table 8.8, R237). -/
def State.placeSpare (s : State) (d : Nat) : Option (Nat × Nat × State) :=
  let l := (dieStacks d 0).flatMap fun st => (List.range 16).flatMap fun g => (s.freeIn st g 3012 3072).map fun f => (st, f)
  if l.isEmpty then none
  else (l[Config.framePick s.freeCtr % l.length]?).map fun p => (p.1, p.2, { s with freeCtr := s.freeCtr + 1 })

/-! ### Moving a page (R233) -/

/-- Move the contents of a frame: bytes, poison, and refills. Of its poison entries at most `room` find a place in the table
of the new stack; where more come, the whole frame is poisoned (R219). -/
def Mem.moveFrame (m : Mem) (from_ to_ room : Nat) : Mem :=
  let base := fun (f : Nat) => f / 65536 * 2 ^ 37 + f % 65536 * 2 ^ 21
  let inF := fun (f a : Nat) => Nat.ble (base f) a && Nat.blt a (base f + 2 ^ 21)
  let moved := (m.cells.filter fun e => inF from_ e.1).map fun e => (e.1 - base from_ + base to_, e.2)
  let marks := (m.poison.filter fun e => e.1 / 32768 == from_).map fun e => (e.1 % 32768 + 32768 * to_, e.2)
  let line := fun (l : Nat) => if l / 32768 = from_ then l % 32768 + 32768 * to_ else l
  { m with
    cells := SMap.setAll (fun _ => (0#8 : Byte)) (SMap.dropKeys (fun a => inF from_ a || inF to_ a) m.cells) moved
    poison := SMap.setAll (fun _ => false) (SMap.dropKeys (fun l => l / 32768 == from_ || l / 32768 == to_) m.poison)
      (marks.take room)
    poisonFrames := ((m.poisonFrames.filter (· != to_)).map fun f => if f = from_ then to_ else f) ++
      (if Nat.blt room marks.length && !m.poisonFrames.contains from_ then [to_] else [])
    refilled := SMap.setAll (fun _ => false) (SMap.dropKeys (fun l => l / 32768 == from_ || l / 32768 == to_) m.refilled)
      ((m.refilled.filter fun e => e.1 / 32768 == from_).map fun e => (e.1 % 32768 + 32768 * to_, e.2))
    refills := m.refills.map fun r => { r with line := line r.line }
    held := m.held.map fun h => (line h.1, h.2) }

/-- Point every mapping of a frame at another frame. -/
def Mem.repoint (m : Mem) (stack frame stack' frame' : Nat) : Mem :=
  { m with pages := SMap.mapVals (fun _ => none) (fun _ p =>
      match p with
      | some g => if g.stack = stack && g.frame = frame then some { g with stack := stack', frame := frame' } else p
      | none => none) m.pages }

/-! ### Retirement of groups (R236, R237, R243) -/

/-- Shrink the reservations on a die whose groups fell from `old` to `new` (R243): the values in force. That an admitted
write still pending is neither shrunk nor checked again is the model's choice (DESIGN CHOICE, assumption 105). -/
def State.shrinkResv (s : State) (d old new : Nat) : State :=
  let s1 := (List.range 64).foldl (fun s n =>
    s.setEntBits (Ent.resv n) (16 * d) 16 (s.entBits (Ent.resv n) (16 * d) 16 * new / old)) s
  ((s1.log Code.resvShrunk [d]).bump Ent.resvShrinkCount).reportResv

/-- Whether a frame of a group still holds a page. -/
def State.groupHolds (s : State) (stack g : Nat) : Bool :=
  s.mem.pages.any fun e => match e.2 with
    | some p => p.stack == stack && frameGroup p.frame == g
    | none => false

/-- A group that holds no page any more leaves service (R237). -/
def State.leaveGroup (s : State) (stack g : Nat) : State :=
  if !s.mem.retiring.contains (16 * stack + g) || s.groupHolds stack g then s
  else
    let d := stack / 4
    let old := s.dieGroups d
    let s1 := (s.modMem fun m => { m with retiring := m.retiring.filter (· != 16 * stack + g) }).setEntBit
      (Ent.groupsInService stack) g false
    let s2 := (s1.log Code.groupRetired [stack, g]).setReplace 6
    (s2.shrinkResv d old (old - 1)).reportFrames

/-- Move the page of an owner to a frame (R233); a poison table that its marks overfill is reported (R219), and the last
page of a group under retirement lets it leave. -/
def State.movePage (s : State) (n v stack frame : Nat) : State :=
  match s.page n v with
  | none => s
  | some p =>
    let from_ := 65536 * p.stack + p.frame
    let to_ := 65536 * stack + frame
    let marks := (s.mem.poison.filter fun e => e.1 / 32768 == from_).length
    let room := 65536 - (s.poisonCount stack - if p.stack = stack then marks else 0)
    let s1 := s.modMem fun m => (Mem.moveFrame { m with migr := m.migr.filter fun g => !(g.ctx == n && g.vpage == v) }
      from_ to_ room).repoint p.stack p.frame stack frame
    let s2 := if Nat.blt room marks && !s.mem.poisonFrames.contains from_ then (s1.log Code.poisonFull [to_]).setReplace 8
      else s1
    (s2.reportFrames).reportPoison.leaveGroup p.stack (frameGroup p.frame)

/-- Choose where a page of a group under retirement goes: the same stack, the same die, another die, or a spare frame of
the die (R237). -/
def State.planMove (s : State) (p : Page) : State :=
  let d := p.stack / 4
  let go := fun (r : Nat × Nat × State) =>
    r.2.2.modMem fun m => { m with migr := (m.migr.filter fun g => !(g.ctx == p.owner && g.vpage == p.opage)) ++
      [{ ctx := p.owner, vpage := p.opage, stack := r.1, frame := r.2.1 }] }
  match s.placeOn (p.stack :: (dieOrder d).flatMap fun x => dieStacks x 0) with
  | some r => go r
  | none =>
    match s.placeSpare d with
    | some r => ((go r).log Code.capacityShort [p.owner, p.opage]).setReplace 7
    | none => s

/-- Retire a channel group (R236, R237): no page is placed on it, its pages move away, and then it leaves. A page of
another group under retirement that was on its way into this one is planned anew. -/
def State.retireGroup (s : State) (stack g : Nat) : State :=
  if !s.groupTakes stack g then s
  else
    let s1 := s.modMem fun m => { m with
      retiring := m.retiring ++ [16 * stack + g]
      migr := m.migr.filter fun x => !(x.stack == stack && frameGroup x.frame == g) }
    let pages := (s1.mem.pages.filter ownMapping).filterMap fun e => e.2
    let astray := fun (p : Page) => s1.mem.retiring.contains (16 * p.stack + frameGroup p.frame) &&
      s.mem.migr.any fun x => x.ctx == p.owner && x.vpage == p.opage && x.stack == stack && frameGroup x.frame == g
    let s2 := (pages.filter fun p => (p.stack == stack && frameGroup p.frame == g) || astray p).foldl State.planMove s1
    s2.leaveGroup stack g

/-! ### Errors of lines (R217, R225, R235) -/

/-- The interval in which events count together (R221), in nanoseconds. -/
def State.scrubNs (s : State) : Nat :=
  (if s.ent Ent.scrubPeriod = 0 then 24 else s.ent Ent.scrubPeriod) * 3600000000000

/-- Whether an event at global time t still counts (R221). -/
def State.counts (s : State) (t : Nat) : Bool := Nat.ble s.gtime.count (t + s.scrubNs)

/-- The key of wire w of a channel. -/
def wireKey (stack ch w : Nat) : Nat := 72 * (128 * stack + ch) + w

/-- The record of a wire. -/
def State.wire (s : State) (k : Nat) : WireRec := SMap.get (fun _ => WireRec.init) s.mem.wires k

/-- The erased wires of a channel. -/
def State.erasedWires (s : State) (stack ch : Nat) : List Nat :=
  (List.range 72).filter fun w => (s.wire (wireKey stack ch w)).erased

/-- Retire a row (R235): it is copied into a spare row of its bank; a 17th spare row retires the group (R236). -/
def State.retireRow (s : State) (row : Nat) : State :=
  if s.mem.copying.contains row then s
  else
    let bank := row / 12288
    let stack := bank / 4096
    let ch := bank / 32 % 128
    let used := SMap.get (fun _ => 0) s.mem.spare bank
    if Nat.ble 16 used then s.retireGroup stack (ch / 8)
    else
      ((s.modMem fun m => { m with
        spare := SMap.set (fun _ => 0) m.spare bank (used + 1)
        copying := m.copying ++ [row]
        rowErr := SMap.set (fun _ => []) m.rowErr row [] }).bump (Ent.spareRowsUsed stack)).log Code.rowRetired
        [stack, ch, bank % 32, row % 12288]

/-- The lines of a row whose corrected errors no wire explains (R235): an error is explained by an erased wire, or by a
wire found in error in another row of the channel. Entries are (128 line + wire, time). -/
def State.badLines (s : State) (stack ch row : Nat) : List Nat :=
  let l := (SMap.get (fun _ => []) s.mem.rowErr row).filter fun e => s.counts e.2
  let bad := l.filter fun e =>
    let w := s.wire (wireKey stack ch (e.1 % 128))
    !w.erased && !(w.hits.any fun h => h.1 != row && s.counts h.2)
  (bad.map fun e => e.1 / 128).eraseDups

/-- Mark a wire erased (R225); a third one retires the channel's group. -/
def State.eraseWire (s : State) (stack ch w : Nat) : State :=
  if Nat.ble 2 (s.erasedWires stack ch).length then s.retireGroup stack (ch / 8)
  else
    let r := { s.wire (wireKey stack ch w) with erased := true }
    let s1 := s.modMem fun m => { m with wires := SMap.set (fun _ => WireRec.init) m.wires (wireKey stack ch w) r }
    (s1.bump (Ent.erasedWires stack)).log Code.wireErased [stack, ch, w]

/-- Corrected symbols in the last second (Table 8.10). -/
def State.correctedRate (s : State) : Nat := (s.mem.corrected.filter fun t => Nat.blt s.now (t + 1000000000)).length

/-- Count a corrected read (R217, R225, R235): the wires found in error, the row's errors, and watermark 0x6030, whose level
has fallen since the last read as errors grew older than a second (R244). -/
def State.countCorrected (s : State) (stack frame x : Nat) (found : List Nat) : State :=
  let ch := lineChannel frame x
  let row := rowKey stack frame x
  let step := fun (m : SMap WireRec) (w : Nat) =>
    let r := SMap.get (fun _ => WireRec.init) m (wireKey stack ch w)
    let r1 : WireRec := if found.contains w then
        { r with run := r.run + 1, hits := (r.hits.filter fun h => s.counts h.2) ++ [(row, s.gtime.count)] }
      else { r with run := 0 }
    SMap.set (fun _ => WireRec.init) m (wireKey stack ch w) r1
  let errs := (SMap.get (fun _ => []) s.mem.rowErr row).filter fun e => s.counts e.2
  let s1 := s.modMem fun m => { m with
    wires := (List.range 72).foldl step m.wires
    rowErr := SMap.set (fun _ => []) m.rowErr row (errs ++ found.map fun w => (128 * x + w, s.gtime.count))
    corrected := (m.corrected.filter fun t => Nat.blt s.now (t + 1000000000)) ++ found.map fun _ => s.now }
  let s2 := (s1.wmLevel 0x6030 s.correctedRate).wmLevel 0x6030 s1.correctedRate
  let s3 := found.foldl (fun s w =>
    let r := s.wire (wireKey stack ch w)
    if !r.erased && (Nat.ble 16 r.run || Nat.ble 256 (r.hits.filter fun h => s.counts h.2).length) then
      s.eraseWire stack ch w
    else s) s2
  if Nat.ble 4 (s3.badLines stack ch row).length then s3.retireRow row else s3

/-- Count an uncorrectable line of a channel: 8 distinct rows within one period retire its group (R236). -/
def State.countUncorrectable (s : State) (stack frame x : Nat) : State :=
  let ch := lineChannel frame x
  let l := ((SMap.get (fun _ => []) s.mem.ues (128 * stack + ch)).filter fun e => s.counts e.2) ++
    [(rowKey stack frame x, s.gtime.count)]
  let s1 := s.modMem fun m => { m with ues := SMap.set (fun _ => []) m.ues (128 * stack + ch) l }
  if Nat.ble 8 ((l.map (·.1)).eraseDups).length then s1.retireGroup stack (ch / 8) else s1

/-- What differs between the codeword stored and the one that arrives, by coefficient. -/
def symbolDiffs (errs : List SymErr) : List (Nat × Nat) :=
  errs.filterMap fun e => if e.diff = 0#8 then none else some (symbolOf e.wire.val, e.diff.toNat)

/-- What the decoder finds of a line's errors (R217): coefficients and differences, none where it is uncorrectable. -/
def State.decodeSymbols (s : State) (stack frame x : Nat) (errs : List SymErr) : Option (List (Nat × Nat)) :=
  symbolDecode (symbolDiffs errs) ((s.erasedWires stack (lineChannel frame x)).map symbolOf)

/-- How the controller decodes a line (R217): the wires corrected, none where it is uncorrectable. -/
def State.decodeLine (s : State) (stack frame x : Nat) (errs : List SymErr) : Option (List Nat) :=
  (s.decodeSymbols stack frame x errs).map fun l => l.map fun p => wireOf p.1

/-- The bytes of a line as they are delivered (R215, R217): what is stored, with the errors and their correction; a pattern
that the decoder takes for another leaves a wrong line. -/
def State.lineRead (s : State) (stack frame x : Nat) (errs : List SymErr) : List Byte :=
  let l := symbolDiffs errs ++ (s.decodeSymbols stack frame x errs).getD []
  (s.readPhys (paOf stack frame (64 * x)) 64).zipIdx.map fun b =>
    b.1 ^^^ BitVec.ofNat 8 ((l.filter fun p => p.1 == b.2 + 8).foldl (fun a p => Nat.xor a p.2) 0)

/-! ### Memory commands (R226, Tables 8.6, 8.7) -/

/-- Statuses of Table 8.7. -/
def MemSt.ok : Nat := 0
def MemSt.noMemory : Nat := 1
def MemSt.range : Nat := 2
def MemSt.mapped : Nat := 3
def MemSt.notMapped : Nat := 4
def MemSt.badContext : Nat := 5
def MemSt.badPeer : Nat := 6
def MemSt.invalid : Nat := 7
def MemSt.quota : Nat := 8

/-- Whether `count` pages from `first` are virtual pages. -/
def pagesInRange (first count : Nat) : Bool := count != 0 && first != 0 && Nat.ble (first + count) 134217728

/-- The checks that every command shares, in the order of R226: INVALID, BAD_CONTEXT, RANGE. -/
def State.cmdCheck (s : State) (f : Nat) (c : MemCmd) : Option Nat :=
  let aux := c.op == 3 || c.op == 4
  if c.invalid then some MemSt.invalid
  else if !s.ctxValid c.ctx || (f != 0 && s.ctxPart c.ctx != f - 1) ||
      (c.op == 3 && !(s.ctxValid c.dctx && s.ctxPart c.dctx == s.ctxPart c.ctx)) then some MemSt.badContext
  else if !pagesInRange c.vpage c.count || (aux && !pagesInRange c.aux c.count) then some MemSt.range
  else none

/-- The queue of a function. -/
def State.memq (s : State) (f : Nat) : MemQ := SMap.get (fun _ => MemQ.init) s.host.mq f

/-- Set the queue of a function. -/
def State.setMemq (s : State) (f : Nat) (q : MemQ) : State :=
  { s with host := { s.host with mq := SMap.set (fun _ => MemQ.init) s.host.mq f q } }

/-- Write a completion to the ring (R428): MQ_DONE rises and MEMQ is set. -/
def State.writeCompletion (s : State) (f : Nat) (data : List Byte) : State :=
  let done := s.fn f 0x068
  let s1 := s.emit (.write f (s.fn f 0x058 + 16 * (done % s.fn f 0x050)) data)
  (s1.setFn f 0x068 (done + 1)).cause f 1

/-- Complete a command: the completion is written, or held while Bus Master Enable is 0 (R433), or discarded where the
command was read before a function-level reset (Table 16.8). -/
def State.completeCmd (s : State) (f : Nat) (c : MemCmd) (status pages dies : Nat) : State :=
  let data := leBytes 8 (c.tag + status * 2 ^ 32) ++ leBytes 8 (pages + dies * 2 ^ 32)
  if Nat.blt 0 (s.memq f).stale then s.setMemq f { (s.memq f) with stale := (s.memq f).stale - 1 }
  else if s.bme f && (s.memq f).held.isEmpty then s.writeCompletion f data
  else s.setMemq f { (s.memq f) with held := (s.memq f).held ++ [data] }

/-- Complete the commands at the front that the memory manager refuses as reserved opcodes. -/
def State.refuseReserved (s : State) (f : Nat) : Nat → State
  | 0 => s
  | fuel + 1 =>
    match (s.memq f).cmds with
    | c :: l =>
      if c.op = 0 || Nat.blt 6 c.op then
        State.refuseReserved ((s.setMemq f { (s.memq f) with cmds := l }).completeCmd f c MemSt.invalid 0 0) f fuel
      else s
    | [] => s

/-- How a command ends: its status, its state, and DIES. -/
structure CmdRes where
  status : Nat
  s      : State
  dies   : Nat

/-- Perform the command at the front of a function's queue with an opcode: the shared checks, then its own effect. -/
def State.performCmd (s : State) (f op : Nat) (c : MemCmd) (act : State → CmdRes) : State :=
  match (s.memq f).cmds with
  | d :: l =>
    if d != c || c.op != op || s.rel.creset then s
    else
      let s1 := s.setMemq f { (s.memq f) with cmds := l }
      let r : CmdRes := match s1.cmdCheck f c with
        | some st => { status := st, s := s1, dies := 0 }
        | none => act s1
      let s2 := r.s.completeCmd f c r.status (if r.status = 0 then c.count else 0) r.dies
      s2.refuseReserved f l.length
  | [] => s

/-- Whether every page of a command is mapped in CTX and owned by it. -/
def State.allOwned (s : State) (c : MemCmd) : Bool :=
  Nat.ble c.count s.mem.pages.length && (List.range c.count).all fun i =>
    match s.page c.ctx (c.vpage + i) with
    | some p => p.owner == c.ctx && p.opage == c.vpage + i
    | none => false

/-- Whether any page of a range is mapped in a context. -/
def State.anyMapped (s : State) (n first count : Nat) : Bool :=
  s.mem.pages.any fun e =>
    e.2.isSome && Nat.ble (134217728 * n + first) e.1 && Nat.blt e.1 (134217728 * n + first + count)

/-- The frames that the contexts of a partition hold. -/
def State.partFrames (s : State) (k : Nat) : Nat :=
  ((s.mem.pages.filter ownMapping).filter fun e => s.ctxOf k (e.1 / 134217728)).length

/-- The die that holds most clusters of a partition, the lowest on a tie (Table 8.6). -/
def State.homeDie (s : State) (k : Nat) : Nat :=
  let n := fun (d : Nat) => ((s.partClusters k).filter fun c => dieOf c == d).length
  (List.range 4).foldl (fun b d => if Nat.blt (n b) (n d) then d else b) 0

/-- Map and zero a page. -/
def State.mapPage (s : State) (n v stack frame : Nat) (pin : Bool) : State :=
  ((s.zeroFrame stack frame).clearFramePoison stack frame).setPage n v
    (some { stack := stack, frame := frame, owner := n, opage := v, ro := false, pin := pin, repl := none })

/-- Place and map the pages of an ALLOC in ascending order; none where the package cannot hold them all. -/
def State.allocPages (s : State) (c : MemCmd) (h : Nat) : List Nat → Nat → Option (State × Nat)
  | [], dies => some (s, dies)
  | i :: l, dies =>
    match s.placePage h i with
    | none => none
    | some (st, fr, s1) =>
      State.allocPages (s1.mapPage c.ctx (c.vpage + i) st fr c.pin) c h l (putBits dies (st / 4) 1 1)

/-- Remove a page of an owner with every mapping of it, its registration and the poison of its frame (R228). -/
def State.freePage (s : State) (n v : Nat) : State :=
  match s.page n v with
  | none => s
  | some p =>
    let s1 := s.modMem fun m => { m with
      pages := SMap.mapVals (fun _ => none) (fun _ g =>
        match g with
        | some x => if x.owner = n && x.opage = v then none else g
        | none => none) m.pages
      accesses := SMap.dropKeys (fun k => k / 4 == 134217728 * n + v) m.accesses
      prevWin := SMap.dropKeys (fun k => k == 134217728 * n + v) m.prevWin
      migr := m.migr.filter fun g => !(g.ctx == n && g.vpage == v) }
    (s1.clearFramePoison p.stack p.frame).leaveGroup p.stack (frameGroup p.frame)

/-- Place the pages of a MIGRATE that are not on the target die yet, and move them; none where it lacks frames. -/
def State.migratePages (s : State) (c : MemCmd) : List Nat → Option State
  | [] => some s
  | i :: l =>
    match s.page c.ctx (c.vpage + i) with
    | none => State.migratePages s c l
    | some p =>
      if p.stack / 4 = c.tdie then State.migratePages s c l
      else match s.placeOn (dieStacks c.tdie i) with
        | none => none
        | some (st, fr, s1) => State.migratePages (s1.movePage c.ctx (c.vpage + i) st fr) c l

end Sys2Proof.Machine
end

