-- ==== Sys2Proof/Machine/ExecMemory.lean ====
section
/-!
DEFINITION. The commands of the stacks and the memory manager: lines, scrubbing, refills, migration, and the six memory
commands with their queue (08; R226, R428).
-/

namespace Sys2Proof.Machine

open Sys2Proof

/-- Whether the stacks serve a line: memory initialised and no compute reset (R239), a frame that exists, a group in
service, and no row copy that holds its requests (R235). -/
def State.lineServed (s : State) (stack frame x : Nat) : Bool :=
  s.mem.served && Nat.blt frame 49152 && s.groupIn stack (frameGroup frame) &&
    !s.mem.copying.contains (rowKey stack frame x)

/-- MEMORY_LINE_READ (R217, R218, R220, R224, R225, R235): the line is delivered, corrected and counted, or it is
uncorrectable: a replicated frame's line is refilled while the read is held, and any other is poisoned and consumed. -/
def execMemoryLineRead (at_ : LineAddr) (errs : List SymErr) (who : LineReader) (s : State) : Res :=
  let stack := at_.stack.val
  let frame := at_.frame.val
  let x := at_.line.val
  let pa := paOf stack frame (64 * x)
  .next (if !s.lineServed stack frame x then s
    else if s.poisoned (lineNo pa) then s.consumePoison who pa
    else match s.decodeLine stack frame x errs with
      | some [] => s
      | some found => s.countCorrected stack frame x found
      | none =>
        let s1 := s.countUncorrectable stack frame x
        match s1.replica (lineNo pa) with
        | some _ => (s1.modMem fun m => { m with held := m.held ++ [(lineNo pa, who)] }).startRefill (lineNo pa)
        | none => (s1.poisonLine (lineNo pa)).consumePoison who pa)

/-- The bytes of a line after a masked write. -/
def mergeLine (old : List Byte) (mask : Word64) (data : BitVec 512) : List Byte :=
  (List.range 64).map fun i => if mask.getLsbD i then data.extractLsb' (8 * i) 8 else old.getD i 0#8

/-- MEMORY_LINE_WRITE (R207, R218, R220): a whole line replaces the old one and clears poison; a partial write merges, and
its bytes are discarded where the line is poisoned or its merge read is uncorrectable, which starts the refill of a line of a
replicated frame. -/
def execMemoryLineWrite (at_ : LineAddr) (mask : Word64) (data : BitVec 512) (errs : List SymErr) (who : LineReader)
    (s : State) : Res :=
  let stack := at_.stack.val
  let frame := at_.frame.val
  let x := at_.line.val
  let pa := paOf stack frame (64 * x)
  .next (if !s.lineServed stack frame x then s
    else if mask = BitVec.allOnes 64 then (s.writePhys pa (mergeLine [] mask data)).clearPoison (lineNo pa)
    else if s.poisoned (lineNo pa) then s.logAgent Code.poisonPartialWrite who [pa]
    else match s.decodeLine stack frame x errs with
      | some found =>
        (if found.isEmpty then s else s.countCorrected stack frame x found).writePhys pa
          (mergeLine (s.lineRead stack frame x errs) mask data)
      | none =>
        let s1 := s.countUncorrectable stack frame x
        let s2 := if (s1.replica (lineNo pa)).isSome then s1.startRefill (lineNo pa) else s1.poisonLine (lineNo pa)
        s2.logAgent Code.poisonPartialWrite who [pa])

/-- The scrub position of a stack: frame x 32,768 + line. -/
def State.scrubPos (s : State) (stack : Nat) : Nat := SMap.get (fun _ => 0) s.mem.scrubAt stack

/-- The first line at or after a position whose frame's group is in service, wrapping once; at most 16 frames in a row
are out of service unless all are. -/
def State.scrubFrom (s : State) (stack pos : Nat) : Nat → Option Nat
  | 0 => none
  | fuel + 1 =>
    let p := pos % 1610612736
    if s.groupIn stack (frameGroup (p / 32768)) then some p
    else s.scrubFrom stack ((p / 32768 + 1) * 32768) fuel

/-- SCRUB_PROGRESS: how far the pass has come over all stacks, in units of 1/10,000. -/
def State.reportScrub (s : State) : State :=
  s.setEnt Ent.scrubProgress (((List.range 16).foldl (fun a i => a + s.scrubPos i) 0) * 10000 / (16 * 1610612736))

/-- The line that the scrubber of a stack reads next: the rest of a replicated frame in which it has found an uncorrectable
line (R223), else the pass; and the state with its place moved on. -/
def State.scrubNext (s : State) (stack : Nat) : Option (Nat × State) :=
  match s.mem.rescan.find? fun r => r.stack == stack with
  | some r =>
    let rest := s.mem.rescan.filter fun x => x != r
    let l := if Nat.ble r.left 1 then rest else rest ++ [{ r with next := (r.next + 1) % 32768, left := r.left - 1 }]
    some (32768 * r.frame + r.next, s.modMem fun m => { m with rescan := l })
  | none => (s.scrubFrom stack (s.scrubPos stack) 17).map fun p =>
      (p, (s.modMem fun m => { m with scrubAt := SMap.set (fun _ => 0) m.scrubAt stack ((p + 1) % 1610612736) }).reportScrub)

/-- Read the rest of a replicated frame at once (R223): the lines after x and then those before it; the pass goes on at the
next frame. -/
def State.rescanFrame (s : State) (stack frame x : Nat) : State :=
  if s.mem.rescan.any fun r => r.stack == stack then s
  else (s.modMem fun m => { m with
    rescan := m.rescan ++ [{ stack := stack, frame := frame, next := (x + 1) % 32768, left := 32767 }]
    scrubAt := SMap.set (fun _ => 0) m.scrubAt stack ((frame + 1) * 32768 % 1610612736) }).reportScrub

/-- What the scrubber does with an uncorrectable line (R223): it is refilled, and the rest of its frame read at once, where
the frame is replicated; otherwise it is poisoned, counted and recorded. -/
def State.scrubLost (s : State) (stack frame x : Nat) : State :=
  let line := stack * 2147483648 + (32768 * frame + x)
  if (s.replica line).isSome then (s.startRefill line).rescanFrame stack frame x
  else ((s.poisonLine line).bump Ent.scrubUe).log Code.scrubUe [64 * line]

/-- SCRUB_READ (R221 to R223): the next line of a stack is read; a corrected line is written back (R222), and for an
uncorrectable one its row is retired (R235) as well. A line that stands in the poison table is uncorrectable, and its row is
retired where this read finds it so. -/
def execScrubRead (stack : Fin 16) (errs : List SymErr) (s : State) : Res :=
  .next (if !s.mem.served || s.ent Ent.scrubPeriod == 0 || s.rel.selftest == some 1 || s.rel.selftest == some 2 then s
    else match s.scrubNext stack with
      | none => s
      | some (p, s1) =>
        let frame := p / 32768
        let x := p % 32768
        let line := stack * 2147483648 + p
        if s.mem.copying.contains (rowKey stack frame x) then s
        else match s1.decodeLine stack frame x errs with
          | none => ((s1.countUncorrectable stack frame x).retireRow (rowKey stack frame x)).scrubLost stack frame x
          | some f =>
            if s1.poisoned line then s1.scrubLost stack frame x
            else if f.isEmpty then s1
            else (s1.countCorrected stack frame x f).writePhys (64 * line) (s1.lineRead stack frame x errs))

/-- REFILL_HOLD_TIMEOUT (R224): the reads held for a line return poison; the refill goes on. -/
def execRefillHoldTimeout (at_ : LineAddr) (s : State) : Res :=
  let line := lineNo (paOf at_.stack at_.frame (64 * at_.line))
  .next (if s.mem.held.any fun h => h.1 == line then (s.poisonLine line).failHeld line else s)

/-! ### Migration (R232, R233) -/

/-- The die that made at least 75 % of a page's accesses in the window that ends, 4 for none. -/
def State.mainDie (s : State) (key : Nat) : Nat :=
  let n := fun (d : Nat) => SMap.get (fun _ => 0) s.mem.accesses (4 * key + d)
  let all := n 0 + n 1 + n 2 + n 3
  if all = 0 then 4 else ((List.range 4).find? fun d => Nat.ble (3 * all) (4 * n d)).getD 4

/-- Whether a page is the source of a SHARE_RO mapping. -/
def State.shared (s : State) (p : Page) : Bool :=
  s.mem.pages.any fun e => match e.2 with
    | some g => g.ro && g.owner == p.owner && g.opage == p.opage
    | none => false

/-- Begin the move of a page to die d where it meets the rule of R232. -/
def State.localPage (s : State) (key : Nat) (p : Page) : State :=
  let d := s.mainDie key
  if d = 4 || SMap.get (fun _ => 4) s.mem.prevWin key != d || p.stack / 4 = d || p.pin || s.shared p ||
      (s.mem.migr.any fun g => g.ctx == p.owner && g.vpage == p.opage) then s
  else match s.placeOn (dieStacks d 0) with
    | some (st, fr, s1) => (s1.modMem fun m => { m with
        migr := m.migr ++ [{ ctx := p.owner, vpage := p.opage, stack := st, frame := fr }] }).reportFrames
    | none => s

/-- MIGRATION_WINDOW_END (R232): pages with 75 % of their accesses from one other die in two consecutive windows start to
move while MIGRATE_EN is 1; the counts start afresh. -/
def execMigrationWindowEnd (s : State) : Res :=
  let own := (s.mem.pages.filter ownMapping).filterMap fun e => e.2.map fun p => (e.1, p)
  let s1 := if s.ent Ent.migrateEn = 0 then s else own.foldl (fun s e => s.localPage e.1 e.2) s
  let prev := (own.map fun e => (e.1, s.mainDie e.1)).filter fun e => e.2 != 4
  .next (s1.modMem fun m => { m with accesses := [], prevWin := prev })

/-- PAGE_MIGRATION_COMPLETE (R233, R237): the page and its poison stand in the new frame, and the page table points at
it. -/
def execPageMigrationComplete (n : Fin 64) (vpage : Nat) (s : State) : Res :=
  .next (match s.mem.migr.find? fun g => g.ctx == n.val && g.vpage == vpage with
    | some g => if s.mem.served then s.movePage n vpage g.stack g.frame else s
    | none => s)

/-- SPARE_ROW_COPY_COMPLETE (R235): the row keeps its address, and the requests held proceed; during a compute reset the
stacks serve nothing and the copy waits (R239, R395). -/
def execSpareRowCopyComplete (stack : Fin 16) (channel : Fin 128) (bank : Fin 32) (row : Fin 12288) (s : State) : Res :=
  let key := 12288 * (32 * (128 * stack.val + channel.val) + bank.val) + row.val
  .next (if s.mem.served then s.modMem fun m => { m with copying := m.copying.filter (· != key) } else s)

/-! ### Memory commands (R226, R428) -/

/-- MQ_FETCH (R428): the next command is read from the ring; a read that fails stops fetching. -/
def execMqFetch (f : Fin 17) (st : ReadStatus) (cmd : MemCmd) (s : State) : Res :=
  let q := s.memq f
  let k := s.fn f 0x060
  .next (if q.error || !s.bme f || Nat.ble (s.fn f 0x080) k || Nat.ble (s.fn f 0x088 + s.fn f 0x050) k then s
    else
      let s1 := s.emit (.read f (s.fn f 0x048 + 32 * (k % s.fn f 0x050)) 32)
      match st with
      | .ok =>
        let s2 := (s1.setMemq f { q with cmds := q.cmds ++ [cmd] }).setFn f 0x060 (k + 1)
        if q.cmds.isEmpty then s2.refuseReserved f 1 else s2
      | _ => (s1.setMemq f { q with error := true }).cause f 1)

/-- ALLOC (R227). -/
def execAlloc (f : Fin 17) (cmd : MemCmd) (s : State) : Res :=
  .next (s.performCmd f 1 cmd fun s =>
    let k := s.ctxPart cmd.ctx
    let quota := s.ent (Ent.memQuota k)
    if s.anyMapped cmd.ctx cmd.vpage cmd.count then { status := MemSt.mapped, s := s, dies := 0 }
    else if quota != 0 && Nat.blt quota (s.partFrames k + cmd.count) then { status := MemSt.quota, s := s, dies := 0 }
    else if Nat.blt (s.ent Ent.freeFrames) cmd.count then { status := MemSt.noMemory, s := s, dies := 0 }
    else match s.allocPages cmd (if cmd.home = 4 then s.homeDie k else cmd.home) (List.range cmd.count) 0 with
      | some (s1, dies) => { status := MemSt.ok, s := s1.reportFrames, dies := dies }
      | none => { status := MemSt.noMemory, s := s, dies := 0 })

/-- FREE (R228). -/
def execFree (f : Fin 17) (cmd : MemCmd) (s : State) : Res :=
  .next (s.performCmd f 2 cmd fun s =>
    if !s.allOwned cmd then { status := MemSt.notMapped, s := s, dies := 0 }
    else
      let s1 := (List.range cmd.count).foldl (fun s i => s.freePage cmd.ctx (cmd.vpage + i)) s
      { status := MemSt.ok, s := s1.reportFrames, dies := 0 })

/-- SHARE_RO (R229). -/
def execShareRo (f : Fin 17) (cmd : MemCmd) (s : State) : Res :=
  .next (s.performCmd f 3 cmd fun s =>
    if !s.allOwned cmd then { status := MemSt.notMapped, s := s, dies := 0 }
    else if s.anyMapped cmd.dctx cmd.aux cmd.count then { status := MemSt.mapped, s := s, dies := 0 }
    else
      let s1 := (List.range cmd.count).foldl (fun s i =>
        s.setPage cmd.dctx (cmd.aux + i)
          ((s.page cmd.ctx (cmd.vpage + i)).map fun p => { p with ro := true, pin := false, repl := none })) s
      { status := MemSt.ok, s := s1, dies := 0 })

/-- REPL_REG (R230): the peer is one that R315 lets a message name. -/
def execReplReg (f : Fin 17) (cmd : MemCmd) (s : State) : Res :=
  .next (s.performCmd f 4 cmd fun s =>
    match s.peerOf cmd.ctx cmd.peer with
    | some _ =>
      if !s.allOwned cmd then { status := MemSt.notMapped, s := s, dies := 0 }
      else
        let s1 := (List.range cmd.count).foldl (fun s i =>
          s.setPage cmd.ctx (cmd.vpage + i) ((s.page cmd.ctx (cmd.vpage + i)).map fun p =>
            { p with repl := some (cmd.peer, cmd.aux + i) })) s
        { status := MemSt.ok, s := s1, dies := 0 }
    | none => { status := MemSt.badPeer, s := s, dies := 0 })

/-- REPL_UNREG (R230): the registrations of its pages are removed; a page that is not mapped, or not owned by CTX, holds none
of its own, and no status names it (R226). -/
def execReplUnreg (f : Fin 17) (cmd : MemCmd) (s : State) : Res :=
  .next (s.performCmd f 5 cmd fun s =>
    let lo := 134217728 * cmd.ctx + cmd.vpage
    let drop := fun (k : Nat) (p : Option Page) =>
      if Nat.ble lo k && Nat.blt k (lo + cmd.count) && ownMapping (k, p) then p.map fun g => { g with repl := none } else p
    { status := MemSt.ok, s := s.modMem fun m => { m with pages := SMap.mapVals (fun _ => none) drop m.pages }, dies := 0 })

/-- MIGRATE (R232): the pages move at once, all or none. -/
def execMigrate (f : Fin 17) (cmd : MemCmd) (s : State) : Res :=
  .next (s.performCmd f 6 cmd fun s =>
    if !s.allOwned cmd then { status := MemSt.notMapped, s := s, dies := 0 }
    else match s.migratePages cmd (List.range cmd.count) with
      | some s1 => { status := MemSt.ok, s := s1, dies := 0 }
      | none => { status := MemSt.noMemory, s := s, dies := 0 })

end Sys2Proof.Machine
end

