-- ==== Sys2Proof/Machine/Update.lean ====
section
/-!
DEFINITION. The update engines' work (09): the update table and its checks (R250, R253), logical indices (R251), the norm
and the skip rule (R258 to R263), schedules (R264), the optimisers (R266), working copies (R267) and the Damask digest
(R270, R271).
-/

namespace Sys2Proof.Machine

open Sys2Proof

/-! ### The table (Tables 9.2 to 9.4) -/

/-- A little-endian 32-bit field as a word. -/
def f32At (b : List Byte) (i : Nat) : Word32 := BitVec.ofNat 32 (fieldAt b i 4)

/-- A group record. -/
def parseGroup (b : List Byte) : UpdGroup :=
  let f := fieldAt b 1 1
  { kind := fieldAt b 0 1, nest := f.testBit 0, clip := f.testBit 1, sched := bitsAt f 2 3, lrMax := f32At b 4,
    lrMin := f32At b 8, warmup := fieldAt b 12 4, total := fieldAt b 16 4, beta1 := f32At b 24, beta2 := f32At b 28,
    eps := f32At b 32, lambda := f32At b 36, k := fieldAt b 40 8, b1p := f32At b 48, b2p := f32At b 52 }

/-- A tensor record. -/
def parseRec (b : List Byte) : TensorRec :=
  let f := fieldAt b 60 4
  { master := fieldAt b 0 8, mom1 := fieldAt b 8 8, mom2 := fieldAt b 16 8, grad := fieldAt b 24 8, work := fieldAt b 32 8,
    wscale := fieldAt b 40 8, count := fieldAt b 48 8, tensor := fieldAt b 56 4, group := bitsAt f 0 4,
    wfmt := bitsAt f 4 4, wrnd := f.testBit 8, wsat := f.testBit 9, dig := bitsAt f 10 2, exp := bitsAt f 12 4,
    lcols := fieldAt b 64 4, fullCols := fieldAt b 72 8, row0 := fieldAt b 80 8, col0 := fieldAt b 88 8,
    coord := (b.drop 64).take 64 }

/-- Whether a group record has a reserved field or code (R253). -/
def groupReserved (b : List Byte) : Bool :=
  Nat.blt 2 (fieldAt b 0 1) || bitsAt (fieldAt b 1 1) 5 3 != 0 || Nat.blt 3 (bitsAt (fieldAt b 1 1) 2 3) ||
    fieldAt b 2 2 != 0 || fieldAt b 20 4 != 0 || fieldAt b 56 8 != 0

/-- The working format of a record. -/
def TensorRec.fmt (t : TensorRec) : Option Fmt := if t.wfmt = 0 then none else Fmt.ofCode (BitVec.ofNat 4 t.wfmt)

/-- Whether a record's working format is an MX format. -/
def TensorRec.mx (t : TensorRec) : Bool :=
  match t.fmt with
  | some f => f.isMx
  | none => false

/-- Whether a tensor record is invalid (R253). -/
def recInvalid (b : List Byte) (groups : List UpdGroup) : Bool :=
  let t := parseRec b
  let g := groups[t.group]?
  let kind := (g.map (·.kind)).getD 0
  let noBeta := match g with
    | some x => match f32val x.beta1 with
      | .fin _ m _ => m == 0
      | _ => false
    | none => true
  bitsAt (fieldAt b 60 4) 16 16 != 0 || t.dig == 3 || Nat.blt 8 t.wfmt || fieldAt b 68 4 != 0 || fieldAt b 107 1 != 0 ||
    fieldAt b 112 16 != 0 ||
    (kind == 2 && (t.mom1 == 0 || t.mom2 == 0)) || (kind == 1 && !noBeta && t.mom1 == 0) ||
    [t.master, t.mom1, t.mom2, t.grad, t.work, t.wscale].any (fun a => a % 64 != 0) ||
    t.lcols == 0 || t.count % t.lcols != 0 || (t.mx && t.lcols % 32 != 0) || t.count == 0 || Nat.blt (2 ^ 40) t.count ||
    (t.wfmt != 0 && t.work == 0) || (t.mx && t.wscale == 0) || (t.dig != 0 && t.wfmt == 0)

/-- The value of an fp32 threshold: whether it is NaN. -/
def isNan32 (x : Word32) : Bool :=
  match f32val x with
  | .nan => true
  | _ => false

/-- Whether the header is invalid (R253). NPEERS beyond its range of Table 9.2 is taken as a code that is not valid, which
R253's list does not name (DEDUCED, assumption 107). -/
def headerInvalid (b : List Byte) : Bool :=
  let tau := f32At b 8
  let omega := f32At b 12
  fieldAt b 0 4 != 1 || fieldAt b 4 4 == 0 || Nat.blt 1048576 (fieldAt b 4 4) || isNan32 tau || isNan32 omega ||
    f32rel .le tau 0#32 || f32rel .lt omega tau || fieldAt b 26 38 != 0 || Nat.blt 2047 (fieldAt b 24 2)

/-- How reading a table ends: the table, an invalid record (none: header or group), or a line that faults. -/
inductive TableRes where
  | ok (t : UpdTable)
  | invalid (rec_ : Option Nat)
  | fail (code va : Nat)

/-- Split bytes into records of a size. -/
def chunksOf (size : Nat) : Nat → List Byte → List (List Byte)
  | 0, _ => []
  | n + 1, b => b.take size :: chunksOf size n (b.drop size)

/-- Read and check the update table of a context (R250, R253). -/
def State.readUpdTable (s : State) (n : Nat) : TableRes :=
  let base := s.ent (Ent.updTable n)
  match s.readVirt n base 64 with
  | .fail c a => .fail c a
  | .ok h =>
    if headerInvalid h then .invalid none
    else match s.readVirt n (base + 64) 1024 with
      | .fail c a => .fail c a
      | .ok gb =>
        let gl := chunksOf 64 16 gb
        if gl.any groupReserved then .invalid none
        else
          let groups := gl.map parseGroup
          match s.readVirt n (base + 1088) (128 * fieldAt h 4 4) with
          | .fail c a => .fail c a
          | .ok rb =>
            let rl := chunksOf 128 (fieldAt h 4 4) rb
            match rl.findIdx? fun b => recInvalid b groups with
            | some i => .invalid (some i)
            | none =>
              match s.readVirt n (fieldAt h 16 8) (2 * fieldAt h 24 2) with
              | .fail c a => .fail c a
              | .ok pb => .ok { clipNorm := f32At h 8, ceiling := f32At h 12,
                                peers := (chunksOf 2 (fieldAt h 24 2) pb).map fun p => leNat p,
                                groups := groups, recs := rl.map parseRec }

/-- The group of a record. -/
def UpdTable.groupOf (t : UpdTable) (r : TensorRec) : UpdGroup := t.groups.getD r.group (parseGroup [])

/-- The logical index of local element e (R251). -/
def TensorRec.index (t : TensorRec) (e : Nat) : Nat := (t.row0 + e / t.lcols) * t.fullCols + t.col0 + e % t.lcols

/-! ### The norm (R258 to R263) -/

/-- The largest sum (R258). -/
def normSat : Nat := 2 ^ 96 - 1

/-- sq_fixed of R258 for |g| = m * 2^q. -/
def sqFixed (m : Nat) (q : Int) : Nat :=
  let p := m * m
  let sh := 2 * q + 64
  if 0 ≤ sh then (if 96 < (bitLength p : Int) + sh then normSat else p <<< sh.toNat)
  else if 48 ≤ -sh then 0
  else p >>> (-sh).toNat

/-- Add the gradients of a record to a sum. -/
def normAdd (clip : Bool) (acc : Nat × Bool) (g : Word32) : Nat × Bool :=
  match f32val g with
  | .fin _ m e => if clip then (Nat.min (acc.1 + sqFixed m e) normSat, acc.2) else acc
  | _ => (acc.1, true)

/-- The pre-pass over the records from a position: the package's partial, or the line that faults. -/
def State.prePass (s : State) (n : Nat) (t : UpdTable) : List TensorRec → Nat × Bool → Except (Nat × Nat) (Nat × Bool)
  | [], acc => .ok acc
  | r :: l, acc =>
    let g := t.groupOf r
    if g.kind = 0 then State.prePass s n t l acc
    else match s.readVirt n r.grad (4 * r.count) with
      | .fail c a => .error (c, a)
      | .ok b => State.prePass s n t l ((wordsOf b).foldl (normAdd g.clip) acc)

/-- The norm of a sum: sqrt(round_to(fp32, 0, S, -64, rne)) (R260). -/
def normOf (sum : Nat) : Word32 := if sum = 0 then 0#32 else (f32sqrt (roundF32 false sum (-64)).1).1

/-- The clip scale (R263). -/
def clipScale (tau n : Word32) : Word32 := if f32rel .lt tau n then (f32mul tau (f32rcp n).1).1 else f32one

/-! ### Schedules and scalars (R264, R266) -/

/-- An fp32 value with the flags raised on the way to it. -/
abbrev FW := Word32 × FFlags

/-- Add flags. -/
def fwAlso (a : FW) (f : FFlags) : FW := (a.1, a.2 ||| f)

/-- An operation on two flagged values. -/
def fw2 (op : Word32 → Word32 → FW) (a b : FW) : FW := fwAlso (op a.1 b.1) (a.2 ||| b.2)

/-- A flagged product. -/
def fwMul (a b : FW) : FW := fw2 f32mul a b

/-- A flagged fused multiply-add. -/
def fwFma (a b c : FW) : FW := fwAlso (f32fma a.1 b.1 c.1) (a.2 ||| b.2 ||| c.2)

/-- A value without flags. -/
def fw (x : Word32) : FW := (x, 0#4)

/-- rcp of a flagged value. -/
def fwRcp (a : FW) : FW := fwAlso (f32rcp a.1) a.2

/-- lr_at of R264. -/
def lrAt (g : UpdGroup) (t : Nat) : FW :=
  let hi := fw g.lrMax
  let lo := fw g.lrMin
  let nw := g.warmup
  let n := g.total
  if t < nw then fwMul hi (fwMul (natToF32 (t + 1)) (fwRcp (natToF32 nw)))
  else if g.sched = 0 then hi
  else if g.sched = 3 then
    let q := fwMul (natToF32 (t + 1)) (fwRcp (natToF32 (Nat.max nw 1)))
    let r := fwAlso (f32rsqrt q.1) q.2
    let y := fwMul hi r
    (f32max g.lrMin y.1, y.2)
  else if n ≤ nw || n ≤ t then lo
  else
    let p := fwMul (natToF32 (t - nw)) (fwRcp (natToF32 (n - nw)))
    let span := fw2 f32sub hi lo
    if g.sched = 1 then fwFma span (fw2 f32sub (fw f32one) p) lo
    else
      let x := fwMul p (fw 0x44800000#32)
      let j := Nat.min (f32ToI32 x.1 true).1.toNat 1023
      let fr := fw2 f32sub x (natToF32 j)
      let cn := if j = 1023 then 0#32 else cosTable (j + 1)
      let c := fwFma fr (fw2 f32sub (fw cn) (fw (cosTable j))) (fw (cosTable j))
      fwFma span c lo

/-- The scalars of a group in one step. -/
structure Scalars where
  lr    : Word32
  wd    : Word32
  b1p   : Word32
  b2p   : Word32
  r1    : Word32
  r2    : Word32
  c1    : Word32
  c2    : Word32
  flags : FFlags

/-- The per-group part of R266. -/
def scalarsOf (g : UpdGroup) (t : Nat) : Scalars :=
  let lr := lrAt g t
  let wd := fwMul lr (fw g.lambda)
  if g.kind = 2 then
    let b1p := f32mul g.b1p g.beta1
    let b2p := f32mul g.b2p g.beta2
    let r1 := fwRcp (fw2 f32sub (fw f32one) b1p)
    let r2 := fwRcp (fw2 f32sub (fw f32one) b2p)
    let c1 := f32sub f32one g.beta1
    let c2 := f32sub f32one g.beta2
    { lr := lr.1, wd := wd.1, b1p := b1p.1, b2p := b2p.1, r1 := r1.1, r2 := r2.1, c1 := c1.1, c2 := c2.1,
      flags := wd.2 ||| r1.2 ||| r2.2 ||| c1.2 ||| c2.2 }
  else
    { lr := lr.1, wd := wd.1, b1p := g.b1p, b2p := g.b2p, r1 := 0#32, r2 := 0#32, c1 := 0#32, c2 := 0#32, flags := wd.2 }

/-- One element: weight, moments and gradient. -/
structure Elem where
  w : Word32
  m : Word32
  v : Word32
  g : Word32

/-- The per-element part of R266; `hasM` says whether the record has a first moment. -/
def updateElem (gr : UpdGroup) (sc : Scalars) (cs : Word32) (hasM : Bool) (x : Elem) : Elem × FFlags :=
  let g : FW := if gr.clip && cs != f32one then f32mul x.g cs else fw x.g
  let w1 := f32fma (f32neg sc.wd) x.w x.w
  if gr.kind = 1 then
    if hasM then
      let m := fwFma (fw gr.beta1) (fw x.m) g
      let d := if gr.nest then fwFma (fw gr.beta1) m g else m
      let w := fwFma (fw (f32neg sc.lr)) d w1
      ({ x with w := w.1, m := m.1 }, w.2)
    else
      let w := fwFma (fw (f32neg sc.lr)) g w1
      ({ x with w := w.1 }, w.2)
  else
    let m := fwFma (fw gr.beta1) (fw x.m) (fwMul (fw sc.c1) g)
    let v := fwFma (fw gr.beta2) (fw x.v) (fwMul (fw sc.c2) (fwMul g g))
    let q := fwMul v (fw sc.r2)
    let den := fw2 f32add (fwAlso (f32sqrt q.1) q.2) (fw gr.eps)
    let u := fwMul (fwMul m (fw sc.r1)) (fwRcp den)
    let w := fwFma (fw (f32neg sc.lr)) u w1
    ({ x with w := w.1, m := m.1, v := v.1 }, w.2)

/-! ### Working copies (R267) -/

/-- Rounding of local element e of a record (R55, R267). -/
def TensorRec.mode (t : TensorRec) (key : Word64) (step e : Nat) : RoundMode :=
  if t.wrnd then .sr (gauzeValue key step t.tensor (t.index e)) else .rne

/-- MX blocks of 32 elements from local element e: scales, elements and flags. -/
def mxBlocks (t : TensorRec) (f : Fmt) (key : Word64) (step : Nat) : Nat → Nat → List Word32 →
    List Nat × List Nat × FFlags
  | 0, _, _ => ([], [], 0#4)
  | n + 1, e, l =>
    let b := encodeMx f (l.take 32) fun i => t.mode key step (e + i)
    let r := mxBlocks t f key step n (e + 32) (l.drop 32)
    (b.1 :: r.1, b.2.1 ++ r.2.1, b.2.2 ||| r.2.2)

/-- The working copy of some weights from local element e: the bytes of the elements, of the scales, and the flags. -/
def TensorRec.working (t : TensorRec) (f : Fmt) (key : Word64) (step e : Nat) (w : List Word32) :
    List Byte × List Byte × FFlags :=
  let bytes := (w.length * f.width + 7) / 8
  if f.isMx then
    let r := mxBlocks t f key step (w.length / 32) e w
    ((bytesOf (packElems f r.2.1)).take bytes, r.1.map fun x => BitVec.ofNat 8 x, r.2.2)
  else
    let l := w.zipIdx.map fun p => convertTo f p.1 (t.mode key step (e + p.2)) t.wsat
    ((bytesOf (packElems f (l.map (·.1)))).take bytes, [], FFlags.all (l.map (·.2)))

/-- Bytes of the working elements of a record. -/
def TensorRec.workBytes (t : TensorRec) : Nat :=
  match t.fmt with
  | some f => (t.count * f.width + 7) / 8
  | none => 0

/-! ### The digest (R270, R271) -/

/-- Sum the chunk digests of an array of bytes: chunk c begins with the element or byte `start c`. -/
def digestArray (key : Word64) (tensor : Nat) (start : Nat → Nat) : Nat → Nat → List Byte → Nat
  | 0, _, _ => 0
  | n + 1, c, b =>
    let ch := b.take 64 ++ List.replicate (64 - (b.take 64).length) 0#8
    chunkDigest key tensor (start c) (fun k => BitVec.ofNat 32 (fieldAt ch (4 * k) 4)) +
      digestArray key tensor start n (c + 1) (b.drop 64)

/-- The bytes of a working copy that a digest takes (R271): as the sweep wrote them where DIG = 1 and the step was not
skipped, else as memory holds them. -/
def State.digestBytes (s : State) (n dig va len : Nat) : VRead :=
  let u := (s.ctx n).upd
  if dig = 1 && !u.skipped then .ok ((List.range len).map fun i => SMap.get (fun _ => (0#8 : Byte)) u.wrote (va + i))
  else s.readVirt n va len

/-- The digest of the records of a table with DIG = 1 or 2, modulo 2^128, or the line that faults. -/
def State.digestRecs (s : State) (n : Nat) (key : Word64) : List TensorRec → Nat → Except (Nat × Nat) Nat
  | [], acc => .ok (acc % 2 ^ 128)
  | t :: l, acc =>
    match t.fmt with
    | none => State.digestRecs s n key l acc
    | some f =>
      if t.dig = 0 then State.digestRecs s n key l acc
      else match s.digestBytes n t.dig t.work t.workBytes with
        | .fail c a => .error (c, a)
        | .ok b =>
          let a1 := acc + digestArray key t.tensor (fun c => t.index (512 * c / f.width)) ((b.length + 63) / 64) 0 b
          if f.isMx then
            match s.digestBytes n t.dig t.wscale (t.count / 32) with
            | .fail c a => .error (c, a)
            | .ok sb =>
              State.digestRecs s n key l (a1 + digestArray key (Nat.xor t.tensor 0x80000000) (fun c => 64 * c)
                ((sb.length + 63) / 64) 0 sb)
          else State.digestRecs s n key l a1

/-! ### The engines (R247, R269) -/

/-- The update engine of a stack, or the one that serves for it (R269): another of its die, then of the dies around. -/
def State.upeOf (s : State) (stack : Nat) : Nat :=
  let d := stack / 4
  let l := stack :: ((dieOrder d).flatMap fun x => (List.range 4).map fun i => 4 * x + i)
  (l.find? fun u => !s.rel.upeOut.getLsbD u).getD stack

/-- The engine that serves the line of a context virtual address (R248). -/
def State.upeAt (s : State) (n va : Nat) : Nat := ((s.translate n va).map fun pa => s.upeOf (paStack pa)).getD 0

/-- Count the accesses that the engines make to ranges of context memory, each line for the die of the engine `f` names
(R232). -/
def State.countUpe (s : State) (n : Nat) (f : Nat → Nat) (l : List (Nat × Nat)) : State :=
  (l.flatMap fun r => lineParts r.1 r.2).foldl (fun s p => s.countLines n p.1 p.2 (f p.1 / 4)) s

end Sys2Proof.Machine
end

