-- ==== Sys2Proof/Machine/Export.lean ====
section
/-!
DEFINITION. Export (R276 to R280): records and their codes, the ring, the spill and its gap, the records of a sweep and of
a shard export.
-/

namespace Sys2Proof.Machine

open Sys2Proof

/-! ### The zero-run code (R278, Table 9.9) -/

/-- A piece of a payload: a run of zeros, or bytes copied. -/
inductive Piece where
  | zeros (n : Nat)
  | bytes (l : List Byte)

/-- Maximal runs of zeros and of other bytes. -/
def zeroRuns (l : List Byte) : List Piece :=
  l.foldr (fun b acc =>
    if b = 0#8 then
      match acc with
      | .zeros n :: r => .zeros (n + 1) :: r
      | _ => .zeros 1 :: acc
    else
      match acc with
      | .bytes x :: r => .bytes (b :: x) :: r
      | _ => .bytes [b] :: acc) []

/-- A lone zero byte joins the literals around it. -/
def joinLiterals (l : List Piece) : List Piece :=
  l.foldr (fun p acc =>
    let q : Piece := match p with
      | .zeros 1 => .bytes [0#8]
      | x => x
    match q, acc with
    | .bytes x, .bytes y :: r => .bytes (x ++ y) :: r
    | _, _ => q :: acc) []

/-- Cut a literal into pieces of at most 128 bytes. -/
def literalCode : Nat → List Byte → List Byte
  | 0, _ => []
  | fuel + 1, l =>
    if l.isEmpty then [] else BitVec.ofNat 8 ((l.take 128).length - 1) :: l.take 128 ++ literalCode fuel (l.drop 128)

/-- The code of one piece. -/
def pieceCode : Piece → List Byte
  | .zeros n => if n ≤ 127 then [BitVec.ofNat 8 (n + 0x7F)] else 0xFF#8 :: leBytes 4 n
  | .bytes l => literalCode l.length l

/-- The code of a payload. -/
def zeroRunCode (l : List Byte) : List Byte := (joinLiterals (zeroRuns l)).flatMap pieceCode

/-! ### Records (Table 9.8) -/

def Rec.diff : Nat := 0x0001
def Rec.key : Nat := 0x0002
def Rec.shard : Nat := 0x0003
def Rec.stepEnd : Nat := 0x0010
def Rec.gap : Nat := 0x0011
def Rec.shardEnd : Nat := 0x0012
def Rec.pad : Nat := 0x0013

/-- A record: header, payload and padding to a multiple of 32 bytes. -/
def exportRecord (type flags tensor step offset rawlen : Nat) (payload : List Byte) : List Byte :=
  let b := leBytes 2 type ++ leBytes 1 flags ++ [0#8] ++ leBytes 4 tensor ++ leBytes 8 step ++ leBytes 8 offset ++
    leBytes 4 rawlen ++ leBytes 4 payload.length ++ payload
  b ++ List.replicate ((32 - b.length % 32) % 32) 0#8

/-! ### The ring and the spill (R276, R279) -/

/-- Put a record in the ring, after a PAD record where it would cross the end; none where it has no space or may not be
written (R433). -/
def State.ringPut (s : State) (n : Nat) (r : List Byte) : Option State :=
  let size := s.ent (Ent.exportSize n)
  let base := s.ent (Ent.exportRing n)
  let f := s.ctxPart n + 1
  if size = 0 || !s.bme f then none
  else
    let tail := s.ent (Ent.exportTail n)
    let pos := tail % size
    let pad := if Nat.blt size (pos + r.length) then size - pos else 0
    if Nat.blt (s.ent (Ent.exportHead n) + size) (tail + pad + r.length) then none
    else
      let s1 := if pad = 0 then s
        else s.emit (.write f (base + pos) (exportRecord Rec.pad 0 0 (s.ent (Ent.step n)) 0 0 (List.replicate (pad - 32) 0#8)))
      some ((s1.emit (.write f (base + (tail + pad) % size) r)).setEnt (Ent.exportTail n) (tail + pad + r.length))

/-- Change the export state of a context. -/
def State.modExp (s : State) (n : Nat) (f : Export → Export) : State := s.modCtx n fun c => { c with exp := f c.exp }

/-- Bytes that the spill pages of a context hold (EXPORT_SPILL). -/
def State.spillSize (s : State) (n : Nat) : Nat := s.entBits (Ent.exportSpill n) 32 16 * 2 ^ 21

/-- The virtual address of a spill offset. -/
def State.spillAt (s : State) (n off : Nat) : Nat := s.entBits (Ent.exportSpill n) 0 27 * 2 ^ 21 + off

/-- Write bytes to the spill area from an offset, wrapping at its end. -/
def State.spillWrite (s : State) (n off : Nat) (b : List Byte) : VWrite :=
  let room := s.spillSize n - off
  let w := s.writeVirt n (s.spillAt n off) (b.take room)
  match w.fail with
  | some _ => w
  | none => if b.length ≤ room then w else w.s.writeVirt n (s.spillAt n 0) (b.drop room)

/-- Read a record back from the spill area. -/
def State.spillRead (s : State) (n off len : Nat) : VRead :=
  let room := s.spillSize n - off
  match s.readVirt n (s.spillAt n off) (Nat.min len room) with
  | .fail c a => .fail c a
  | .ok b =>
    if len ≤ room then .ok b
    else match s.readVirt n (s.spillAt n 0) (len - room) with
      | .ok d => .ok (b ++ d)
      | .fail c a => .fail c a

/-- Write the GAP record that is due, once nothing waits before it and the ring has space. -/
def State.flushGap (s : State) (n : Nat) : State :=
  let e := (s.ctx n).exp
  if e.gap && e.spill.isEmpty then
    match s.ringPut n (exportRecord Rec.gap 0 0 (s.ent (Ent.step n)) 0 0 []) with
    | some s1 => (s1.modExp n fun e => { e with gap := false, key := true }).bump (Ent.exportGaps n)
    | none => s
  else s

/-- Put a record in the ring, or behind what waits in the spill; where neither has space it is not put. A spill page that
is not mapped resets the context (R234). -/
def State.exportPut (s : State) (n : Nat) (r : List Byte) : Option State :=
  let s1 := s.flushGap n
  let e := (s1.ctx n).exp
  if e.gap then none
  else
    let spilled := fun (_ : Unit) =>
      let used := e.spill.foldl (fun a p => a + p.2) 0
      let off := match e.spill with
        | p :: _ => (p.1 + used) % s1.spillSize n
        | [] => 0
      if s1.spillSize n < used + r.length then none
      else
        let w := s1.spillWrite n off r
        match w.fail with
        | some (code, a) => some ((s1.logCtx code n [a]).ctxReset n code)
        | none => some (w.s.modExp n fun e => { e with spill := e.spill ++ [(off, r.length)] })
    if e.spill.isEmpty then
      match s1.ringPut n r with
      | some s2 => some s2
      | none => spilled ()
    else spilled ()

/-- Export a record of a step (R279): one that finds no space is dropped with the rest of the step, and a GAP is due. -/
def State.exportStep (s : State) (n : Nat) (r : List Byte) : State :=
  if (s.ctx n).exp.dropped then s
  else
    let s0 := s.flushGap n
    match s0.exportPut n r with
    | some s1 => s1
    | none => s0.modExp n fun e => { e with dropped := true, gap := true, key := true }

/-- Move the records of the spill to the ring in order as far as it has space; a poisoned line drops its record and a GAP
follows (Table 8.5). -/
def State.drainSpill (s : State) (n : Nat) : Nat → State
  | 0 => s.flushGap n
  | fuel + 1 =>
    match (s.ctx n).exp.spill with
    | [] => s.flushGap n
    | (off, len) :: l =>
      let s1 := s.modExp n fun e => { e with spill := l }
      match s.spillRead n off len with
      | .ok r =>
        (match s1.ringPut n r with
          | some s2 => State.drainSpill s2 n fuel
          | none => s)
      | .fail code a =>
        if code = Code.poisonConsumed then State.drainSpill (s1.modExp n fun e => { e with gap := true, key := true }) n fuel
        else (s.logCtx code n [a]).ctxReset n code

/-! ### The arrays of a record -/

/-- A selected array: COPY code, virtual address, bytes (EXPORT of Table 9.4). -/
def TensorRec.arrays (t : TensorRec) : List (Nat × Nat × Nat) :=
  (if t.exp.testBit 0 then [(0, t.master, 4 * t.count)] else []) ++
  (if t.exp.testBit 1 && t.mom1 != 0 then [(1, t.mom1, 4 * t.count)] else []) ++
  (if t.exp.testBit 2 && t.mom2 != 0 then [(2, t.mom2, 4 * t.count)] else []) ++
  (if t.exp.testBit 3 && t.wfmt != 0 then
    (3, t.work, t.workBytes) :: (if t.mx then [(4, t.wscale, t.count / 32)] else []) else [])

/-- The ranges of 64 KiB of an array: offset and length. -/
def rangesOf (bytes : Nat) : List (Nat × Nat) :=
  (List.range ((bytes + 65535) / 65536)).map fun i => (65536 * i, Nat.min 65536 (bytes - 65536 * i))

/-- Read a range line by line: poisoned lines read as zeros and are marked; an unmapped page faults. -/
def State.exportRead (s : State) (n : Nat) : List (Nat × Nat) → Except (Nat × Nat) (List Byte × Bool)
  | [] => .ok ([], false)
  | (va, len) :: l =>
    match s.exportRead n l with
    | .error e => .error e
    | .ok r =>
      match s.readVirt n va len with
      | .ok b => .ok (b ++ r.1, r.2)
      | .fail code a =>
        if code = Code.poisonConsumed then .ok (List.replicate len 0#8 ++ r.1, true) else .error (code, a)

/-- The lines of a range whose XOR is not known: their bytes could not be read before the sweep overwrote them, or read as
poisoned now (R276). -/
def State.lostLines (s : State) (n : Nat) (u : Upd) (va len : Nat) : List Nat :=
  ((lineParts va len).filter fun p => u.lost.contains (p.1 / 64) || (match s.translate n p.1 with
    | some pa => s.poisoned (lineNo pa)
    | none => false)).map fun p => p.1 / 64

/-- The XOR that the sweep made in a range, 0 in the lines where it is not known. -/
def Upd.xorAt (u : Upd) (lost : List Nat) (va len : Nat) : List Byte :=
  (List.range len).map fun i =>
    if lost.contains ((va + i) / 64) then 0#8 else SMap.get (fun _ => (0#8 : Byte)) u.diff (va + i)

/-- The DIFF or KEY record of a range, if there is one (R276, R277): the bytes of a poisoned line are coded as 0 and POISON
is set. -/
def State.sweepRecord (s : State) (n : Nat) (u : Upd) (num copy va off len : Nat) :
    Except (Nat × Nat) (Option (List Byte)) :=
  match s.exportRead n (lineParts (va + off) len) with
  | .error e => .error e
  | .ok (b, poison) =>
    let lost := s.lostLines n u (va + off) len
    let raw := if u.keyed then b else u.xorAt lost (va + off) len
    let mark := poison || (!u.keyed && !lost.isEmpty)
    if !u.keyed && !mark && raw.all (· == 0#8) then .ok none
    else .ok (some (exportRecord (if u.keyed then Rec.key else Rec.diff) (b2n mark + 16 * copy) num u.step off len
      (zeroRunCode raw)))

/-- Every record of a sweep in order of record, array and range. -/
def State.sweepRecords (s : State) (n : Nat) (u : Upd) : List (Nat × Nat × Nat × Nat × Nat) →
    Except (Nat × Nat) (List (List Byte))
  | [] => .ok []
  | (num, copy, va, off, len) :: l =>
    match s.sweepRecord n u num copy va off len, s.sweepRecords n u l with
    | .error e, _ => .error e
    | _, .error e => .error e
    | .ok none, .ok r => .ok r
    | .ok (some x), .ok r => .ok (x :: r)

/-- The ranges that a table selects. -/
def UpdTable.ranges (t : UpdTable) : List (Nat × Nat × Nat × Nat × Nat) :=
  t.recs.zipIdx.flatMap fun p => p.1.arrays.flatMap fun a => (rangesOf a.2.2).map fun r => (p.2, a.1, a.2.1, r.1, r.2)

/-- Export a step at its boundary (R277): the data records, unless it was skipped, and STEP_END with their number and the
digest. -/
def State.exportSweep (s : State) (n : Nat) (digest : Option Nat) : State :=
  let u := (s.ctx n).upd
  if s.ent (Ent.exportMode n) = 0 then s
  else
    let s0 := s.modExp n fun e => { e with dropped := false }
    let stepEnd := fun (k : Nat) => exportRecord Rec.stepEnd (if u.skipped then 2 else 0) 0 u.step 0 k
      (leBytes 16 (digest.getD 0))
    if u.skipped then s0.exportStep n (stepEnd 0)
    else match s.sweepRecords n u u.table.ranges with
      | .error (code, a) => (s.logCtx code n [a]).ctxReset n code
      | .ok l =>
        let s1 := if u.keyed then s0.modExp n fun e => { e with key := false } else s0
        (l.foldl (fun s r => s.exportStep n r) s1).exportStep n (stepEnd l.length)

/-! ### Shard export (R280) -/

/-- The SHARD record of a range: the coordinates, then the raw bytes. -/
def State.shardRecord (s : State) (n : Nat) (coord : List Byte) (num copy va off len : Nat) :
    Except (Nat × Nat) (List Byte) :=
  match s.exportRead n (lineParts (va + off) len) with
  | .error e => .error e
  | .ok (b, poison) =>
    .ok (exportRecord Rec.shard (b2n poison + 16 * copy) num (s.ent (Ent.step n)) off len (coord ++ b))

/-- Every record of a shard export. -/
def State.shardRecords (s : State) (n : Nat) (t : UpdTable) : List (Nat × Nat × Nat × Nat × Nat) →
    Except (Nat × Nat) (List (List Byte))
  | [] => .ok []
  | (num, copy, va, off, len) :: l =>
    match s.shardRecord n ((t.recs[num]?.map (·.coord)).getD []) num copy va off len, s.shardRecords n t l with
    | .ok x, .ok r => .ok (x :: r)
    | .error e, _ => .error e
    | _, .error e => .error e

/-- Put the records of a shard export as far as ring and spill have space; SHARDREQ reads 0 after the last. -/
def State.flushShard (s : State) (n : Nat) : Nat → State
  | 0 => s
  | fuel + 1 =>
    match (s.ctx n).exp.shardQ with
    | [] => s
    | r :: l =>
      match s.exportPut n r with
      | none => s
      | some s1 =>
        let s2 := s1.modExp n fun e => { e with shardQ := l }
        if l.isEmpty then s2.setEntBit (Ent.exportCtl n) 1 false else State.flushShard s2 n fuel

/-- The arrays that a shard export reads stand in its records, SHARD_END last. -/
def State.shardOf (s : State) (n : Nat) (t : UpdTable) : State :=
  match s.shardRecords n t t.ranges with
  | .error (code, a) => s.unitFault n code a
  | .ok l =>
    let last := exportRecord Rec.shardEnd 0 0 (s.ent (Ent.step n)) 0 l.length []
    s.modExp n fun e => { e with shard := false, shardQ := l ++ [last] }

/-- The shard export reads its arrays: its records are formed. A table line that is not mapped or poisoned resets the
context (Table 8.5, R234); UPD_TABLE = 0 and an invalid table select no array (assumption 107). -/
def State.formShard (s : State) (n : Nat) : State :=
  if s.ent (Ent.updTable n) = 0 then s.shardOf n UpdTable.empty
  else match s.readUpdTable n with
    | .ok t => s.shardOf n t
    | .invalid _ => s.shardOf n UpdTable.empty
    | .fail code a => s.unitFault n code a

end Sys2Proof.Machine
end

