-- ==== Sys2Proof/Machine/ExecUpdate.lean ====
section
/-!
DEFINITION. The step of a context (R254 to R263, R266 to R271): trigger, pre-pass, norm, sweep, step boundary, voting
(R365 to R368), and the export that goes with it.
-/

namespace Sys2Proof.Machine

open Sys2Proof

/-- Change the update state of a context. -/
def State.modUpd (s : State) (n : Nat) (f : Upd → Upd) : State := s.modCtx n fun c => { c with upd := f c.upd }

/-- Change the voting state of a context. -/
def State.modVote (s : State) (n : Nat) (f : Vote → Vote) : State := s.modCtx n fun c => { c with vote := f c.vote }

/-! ### Trigger and pre-pass -/

/-- Whether a step of the context has not reached the end of its boundary (R255, R368). -/
def State.stepOpen (s : State) (n : Nat) : Bool :=
  (s.ctx n).upd.stage != .idle || (s.ctx n).vote.own.isSome || (s.ctx n).vote.withheld

/-- Start the step of a trigger: the table is read and checked (R252, R253). A trigger that was queued when the table
address became 0 has no effect. -/
def State.startStep (s : State) (n : Nat) : State :=
  if s.ent (Ent.updTable n) = 0 then s
  else match s.readUpdTable n with
    | .fail code a => s.unitFault n code a
    | .invalid r => (s.logCtx Code.updTableInvalid n [r.getD 0xFFFFFFFF]).ctxReset n Code.updTableInvalid
    | .ok t => (s.modUpd n fun u => { u with
        stage := .prePass
        step := s.ent (Ent.step n)
        table := t
        sum := 0
        nonfin := false
        skipped := false
        groups := []
        ends := []
        diff := []
        lost := []
        wrote := []
        keyed := false }).setEntBit (Ent.updStatus n) 0 true

/-- Start the next queued trigger once the step before it is over. -/
def State.nextStep (s : State) (n : Nat) : Nat → State
  | 0 => s
  | fuel + 1 =>
    if s.stepOpen n || (s.ctx n).upd.queued == 0 then s
    else State.nextStep ((s.modUpd n fun u => { u with queued := u.queued - 1 }).startStep n) n fuel

/-- UPDATE_TRIGGER (R254, R255): the trigger word has reached the next target, which rises; the step starts or queues. -/
def execUpdateTrigger (n : Fin 64) (s : State) : Res :=
  let inc := s.entBits (Ent.updTrigger n) 32 32
  .next (match s.syncKey (s.ctxPart n) (s.entBits (Ent.updTrigger n) 0 18) with
    | none => s
    | some key =>
      if !s.ctxValid n || s.ent (Ent.updTable n) == 0 || inc == 0 || !s.mem.served ||
          Nat.blt (s.word key).value (s.ctx n).upd.target then s
      else
        let s1 := s.modUpd n fun u => { u with target := u.target + inc, queued := u.queued + 1 }
        s1.nextStep n (s1.ctx n).upd.queued)

/-- The partial of a peer for a step, if it has come. -/
def Upd.partialOf (u : Upd) (peer : Nat) : Option (Nat × Bool) :=
  (u.partials.find? fun p => p.1 == peer && p.2.1 == u.step).map fun p => (p.2.2.1, p.2.2.2)

/-- Apply the skip rule to the summed value (R260, R261, R263, Table 9.6). -/
def State.decideStep (s : State) (n sum : Nat) (nonfin : Bool) : State :=
  let u := (s.ctx n).upd
  let nv := normOf sum
  let cause := if nonfin then 1 else if sum = normSat then 2 else if f32rel .lt u.table.ceiling nv then 3 else 0
  let last := match cause with
    | 1 => f32nan
    | 2 => f32inf false
    | _ => nv
  let s1 := ((s.setEntBits (Ent.updStatus n) 2 3 cause).setEnt (Ent.lastNorm n) last.toNat).setEntBit (Ent.updStatus n) 1
    (cause != 0)
  let s2 := s1.modUpd n fun u => { u with partials := u.partials.filter fun p => Nat.blt u.step p.2.1 }
  if cause = 0 then
    let keyed := s2.ent (Ent.exportMode n) != 0 && ((s2.ctx n).exp.key || s2.entBit (Ent.exportCtl n) 0)
    (s2.modUpd n fun u => { u with stage := .sweep, scale := clipScale u.table.clipNorm nv, keyed := keyed }).setEntBit
      (Ent.exportCtl n) 0 (s2.entBit (Ent.exportCtl n) 0 && !keyed)
  else
    ((s2.modUpd n fun u => { u with stage := .boundary, skipped := true }).bump (Ent.skipCount n)).logCtx Code.stepSkipped n
      [cause, last.toNat]

/-- Decide a step whose partials have all come (R259). -/
def State.tryDecide (s : State) (n : Nat) : State :=
  let u := (s.ctx n).upd
  let l := u.table.peers.map u.partialOf
  if u.stage = .norm && l.all Option.isSome then
    let f := fun (a : Nat × Bool) (p : Option (Nat × Bool)) =>
      match p with
      | some x => (Nat.min (a.1 + x.1) normSat, a.2 || x.2)
      | none => a
    let r := l.foldl f (u.sum, u.nonfin)
    s.decideStep n r.1 r.2
  else s

/-- Keep the partial of a peer for a step: one for the step of STEP, and one for a later step (R259, R262). -/
def Upd.keep (u : Upd) (cur peer step sum : Nat) (nonfin : Bool) : Upd :=
  { u with partials := (u.partials.filter fun p =>
      p.1 != peer || (p.2.1 != step && (p.2.1 == cur || step == cur))) ++ [(peer, step, Nat.min sum normSat, nonfin)] }

/-- A norm partial that passes R319 (R259): kept, one per peer, until the local step matches; one for an earlier step is
dropped. -/
def State.takeNorm (s : State) (h : MsgHeader) (step sum : Nat) (nonfin : Bool) : State :=
  let n := h.dctx.toNat
  s.admitMsg h Kind.norm fun s =>
    match s.peerNo n h.scoord.toNat h.spart.toNat h.sctx.toNat with
    | none => s
    | some peer =>
      if Nat.blt step (s.ent (Ent.step n)) then s
      else (s.modUpd n fun u => u.keep (s.ent (Ent.step n)) peer step sum nonfin).tryDecide n

/-- Send the package's partial to the peers of the norm group (R259): the payload is STEP and the sum, AUX bit 62 the
non-finite bit (assumption 16). A peer context in this package takes it at once. -/
def State.sendNorm (s : State) (n : Nat) : State :=
  let u := (s.ctx n).upd
  u.table.peers.foldl (fun s j =>
    match s.peerOf n j with
    | some p =>
      let m : Msg := { kind := Kind.norm, h := s.ctxHeader n p Kind.norm 20 (b2n u.nonfin * 2 ^ 62),
                       payload := leBytes 8 u.step ++ leBytes 12 u.sum }
      if p.coord = s.ent Ent.pkgCoord then s.takeNorm m.h u.step u.sum u.nonfin else s.sendMsg m
    | none => s) s

/-- PRE_PASS_END (R255, R258, R259): the partial is formed and exchanged. -/
def execPrePassEnd (n : Fin 64) (s : State) : Res :=
  let u := (s.ctx n).upd
  .next (if u.stage ≠ .prePass || !s.mem.served then s
    else match s.prePass n u.table u.table.recs (0, false) with
      | .error (code, a) => s.unitFault n code a
      | .ok (sum, nonfin) =>
        let reads := (u.table.recs.filter fun r => (u.table.groupOf r).kind != 0).map fun r => (r.grad, 4 * r.count)
        let s1 := s.countUpe n (s.upeAt n) reads
        ((s1.modUpd n fun u => { u with stage := .norm, sum := sum, nonfin := nonfin }).sendNorm n).tryDecide n)

/-- NORM_RECEIVE (R259, R319): whichever port the message came on. -/
def execNormReceive (_port : Fin 6) (h0 : MsgHeader) (step : Nat) (sum : Nat) (nonfinite : Bool) (s : State) : Res :=
  let h := h0.clean
  .next (if h.dcoord.toNat = s.ent Ent.pkgCoord then s.takeNorm h step sum nonfinite
    else s.forward { kind := Kind.norm, h := { h with length := 20, aux := BitVec.ofNat 64 (b2n nonfinite * 2 ^ 62) }
                     payload := leBytes 8 step ++ leBytes 12 sum })

/-- NORM_TIMEOUT (R259, R262): the step is abandoned; nothing is written and the partials are kept. -/
def execNormTimeout (n : Fin 64) (s : State) : Res :=
  let u := (s.ctx n).upd
  .next (if u.stage ≠ .norm then s
    else
      let missing := u.table.peers.filter fun p => (u.partialOf p).isNone
      let s1 := (s.setEntBits (Ent.updStatus n) 2 3 4).setEntBit (Ent.updStatus n) 0 false
      let s2 := (s1.logCtx Code.normTimeout n missing).modUpd n fun u => { u with stage := .idle }
      s2.nextStep n u.queued)

/-! ### The sweep -/

/-- Whether the sweep has anything to do for a record (R266, R267): a group of KIND 0 writes only a working copy that is
digested as written or exported. -/
def UpdTable.sweeps (t : UpdTable) (r : TensorRec) : Bool :=
  (t.groupOf r).kind != 0 || (r.wfmt != 0 && (r.dig == 1 || r.exp.testBit 3))

/-- Groups of 16 lines of a record: 256 elements (R247). -/
def TensorRec.groups (t : TensorRec) : Nat := (t.count + 255) / 256

/-- The groups that a sweep of a table has. -/
def UpdTable.work (t : UpdTable) : Nat := (t.recs.filter t.sweeps).foldl (fun a r => a + r.groups) 0

/-- An array write of a sweep: its address and bytes, whether it is exported as a difference, and whether it is digested as
written. -/
structure SweepWrite where
  va     : Nat
  bytes  : List Byte
  track  : Bool
  digest : Bool

/-- What a write changes line by line, before it is made (R277): the XOR of each line, by address, and the lines whose old
bytes read as poisoned. -/
def State.sweepDiff (s : State) (n : Nat) : List (Nat × Nat) → List Byte → List (Nat × Byte) × List Nat
  | [], _ => ([], [])
  | (va, k) :: l, b =>
    let r := s.sweepDiff n l (b.drop k)
    match s.readVirt n va k with
    | .ok old => (((b.take k).zip old).zipIdx.map (fun p => (va + p.2, p.1.1 ^^^ p.1.2)) ++ r.1, r.2)
    | .fail _ _ => (r.1, va / 64 :: r.2)

/-- Write bytes of a sweep, remembering their XOR with what stood there where they are exported (R277), and the bytes
themselves where they are digested as written (R271). -/
def State.sweepWrite (s : State) (n : Nat) (x : SweepWrite) : VWrite :=
  let d := if x.track then s.sweepDiff n (lineParts x.va x.bytes.length) x.bytes else ([], [])
  let own := if x.digest then x.bytes.zipIdx.map fun p => (x.va + p.2, p.1) else []
  let w := s.writeVirt n x.va x.bytes
  { w with s := w.s.modUpd n fun u => { u with
      diff := SMap.setAll (fun _ => (0#8 : Byte)) u.diff d.1
      lost := u.lost ++ d.2
      wrote := SMap.setAll (fun _ => (0#8 : Byte)) u.wrote own } }

/-- Write several arrays in order. -/
def State.sweepWrites (s : State) (n : Nat) : List SweepWrite → VWrite
  | [] => ⟨s, none⟩
  | x :: l =>
    let w := s.sweepWrite n x
    match w.fail with
    | some _ => w
    | none => State.sweepWrites w.s n l

/-- Read several fp32 arrays; one that is not read stands as zeros. -/
def State.sweepReads (s : State) (n len : Nat) : List (Option Nat) → Except (Nat × Nat) (List (List Word32))
  | [] => .ok []
  | a :: l =>
    match s.sweepReads n len l with
    | .error e => .error e
    | .ok r =>
      match a with
      | none => .ok (List.replicate len 0#32 :: r)
      | some va =>
        match s.readVirt n va (4 * len) with
        | .ok b => .ok (wordsOf b :: r)
        | .fail c a => .error (c, a)

/-- What a group reads: the master weights; of a group that is updated the moments that the record has (0 means none, Table
9.4) and the gradients. -/
def UpdTable.reads (t : UpdTable) (r : TensorRec) (g : Nat) : List (Option Nat) :=
  let kind := (t.groupOf r).kind
  let at_ := fun (va : Nat) (use : Bool) => if use then some (va + 1024 * g) else none
  [at_ r.master true, at_ r.mom1 (kind != 0 && r.mom1 != 0), at_ r.mom2 (kind == 2), at_ r.grad (kind != 0)]

/-- What a group writes, and the flags. -/
def sweepGroup (t : UpdTable) (r : TensorRec) (step g len : Nat) (key : Word64) (cs : Word32) (diff : Bool)
    (a : List (List Word32)) : List SweepWrite × FFlags :=
  let gr := t.groupOf r
  let sc := scalarsOf gr step
  let at_ := fun (l : List Word32) (i : Nat) => l.getD i 0#32
  let l := (List.range len).map fun i =>
    let x : Elem := { w := at_ (a.getD 0 []) i, m := at_ (a.getD 1 []) i, v := at_ (a.getD 2 []) i, g := at_ (a.getD 3 []) i }
    if gr.kind = 0 then (x, (0#4 : FFlags)) else updateElem gr sc cs (r.mom1 != 0) x
  let off := 1024 * g
  let arr := fun (va bit : Nat) (f : Elem → Word32) =>
    ({ va := va + off, bytes := bytesOf (l.map fun e => f e.1), track := diff && r.exp.testBit bit, digest := false } : SweepWrite)
  let fp := if gr.kind = 0 then []
    else arr r.master 0 Elem.w :: ((if r.mom1 = 0 then [] else [arr r.mom1 1 Elem.m]) ++
      (if gr.kind = 2 then [arr r.mom2 2 Elem.v] else []))
  let work := fun (va : Nat) (b : List Byte) =>
    ({ va := va, bytes := b, track := diff && r.exp.testBit 3, digest := r.dig == 1 } : SweepWrite)
  let wk := match r.fmt with
    | some f =>
      let c := r.working f key step (256 * g) (l.map fun (e : Elem × FFlags) => e.1.w)
      (work (r.work + 256 * g * f.width / 8) c.1 :: (if f.isMx then [work (r.wscale + 8 * g) c.2.1] else []), c.2.2)
    | none => ([], 0#4)
  (fp ++ wk.1, FFlags.all (l.map (·.2)) ||| (if gr.kind = 0 then 0#4 else sc.flags) ||| wk.2)

/-- An update engine leaves service (R269). -/
def State.failUpe (s : State) (u : Nat) : State :=
  let s1 : State := { s with rel := { s.rel with upeOut := s.rel.upeOut ||| BitVec.ofNat 16 (2 ^ u) } }
  ((List.range 64).foldl (fun s n => s.setEntBit (Ent.updStatus n) 5 true) (s1.log Code.upeFailed [u])).setReplace 5

/-- A group is complete: it counts as swept, and its last element is the engine's last. -/
def Upd.swept (u : Upd) (upe record group last : Nat) : Upd :=
  { u with
    groups := u.groups ++ [(record, group)]
    ends := (u.ends.filter fun e => e.1 != upe) ++ [(upe, record, last)] }

/-- UPE_GROUP (R247, R266 to R269): one group of 16 lines is read, computed and written; three failures of its residue
check take the engine out of service, and another computes the same values. The table is the one read at the trigger, and
gradients and state arrays are read as they stand now: what a change between trigger and DONE gives, which R252 and Table 9.7
call unpredictable, is the model's choice (DESIGN CHOICE, assumption 2). -/
def execUpeGroup (n : Fin 64) (record : Nat) (group : Nat) (residueFails : Nat) (s : State) : Res :=
  let u := (s.ctx n).upd
  .next (match u.table.recs[record]? with
    | none => s
    | some r =>
      if u.stage ≠ .sweep || !s.mem.served || (s.ctx n).exp.shard || !u.table.sweeps r || Nat.ble r.groups group ||
          u.groups.contains (record, group) then s
      else
        let len := Nat.min 256 (r.count - 256 * group)
        let master := r.master + 1024 * group
        let s1 := if Nat.ble 3 residueFails && (s.translate n master).isSome then s.failUpe (s.upeAt n master) else s
        let upe := s1.upeAt n master
        let reads := u.table.reads r group
        match s1.sweepReads n len reads with
        | .error (code, a) => s1.unitFault n code a
        | .ok a =>
          let diff := s1.ent (Ent.exportMode n) != 0 && !u.keyed
          let w := sweepGroup u.table r u.step group len (BitVec.ofNat 64 (s1.ent (Ent.gauzeKey n))) u.scale diff a
          let s2 := s1.countUpe n (fun _ => upe) (reads.filterMap (fun va => va.map fun x => (x, 4 * len)) ++
            w.1.map fun x => (x.va, x.bytes.length))
          let res := s2.sweepWrites n w.1
          match res.fail with
          | some (code, va) => res.s.unitFault n code va
          | none =>
            (res.s.modUpd n fun u => u.swept upe record group (256 * group + len - 1)).setEnt (Ent.updFlags n)
              (Nat.lor (s.ent (Ent.updFlags n)) w.2.toNat))

/-! ### The step boundary (R256) -/

/-- Write the group state: K of every group of KIND 1 or 2, B1P and B2P of KIND 2 (R252, R266). -/
def State.writeGroups (s : State) (n base step : Nat) : List (UpdGroup × Nat) → VWrite
  | [] => ⟨s, none⟩
  | (g, i) :: l =>
    let sc := scalarsOf g step
    let b := leBytes 8 (g.k + 1) ++ (if g.kind = 2 then leBytes 4 sc.b1p.toNat ++ leBytes 4 sc.b2p.toNat else [])
    if g.kind = 0 then State.writeGroups s n base step l
    else
      let w := s.writeVirt n (base + 64 + 64 * i + 40) b
      match w.fail with
      | some _ => w
      | none => State.writeGroups w.s n base step l

/-- The evaluation contexts of a parent whose slot is due at the end of step t (R295), ascending: a task that the budget of
the slot before left unstarted is queued as well (R296 step 5). -/
def State.slotsDue (s : State) (n t : Nat) : List Nat :=
  (s.evalsOf n).filter fun e =>
    let i := s.entBits (Ent.evalCfg e) 0 16
    i != 0 && (t + 1) % i == 0 && (s.ctxQueued e || s.ctxWaiting e)

/-- Begin the next slot that is due (R296 step 1). -/
def State.nextSlotDue (s : State) (n : Nat) : State :=
  match (s.ctx n).evalDue with
  | e :: l => s.modCtx n fun c => { c with eval := .saving e, evalDue := l }
  | [] => s

/-- The sequencer that names context n and is between passes may start its next pass (R290, R293). -/
def State.markBoundary (s : State) (n : Nat) : State :=
  let k := s.ctxPart n
  let q := (s.part k).seq
  if s.entBit (Ent.seqCtl k) 6 && s.entBits (Ent.seqCtl k) 0 6 == n && !q.inPass then
    s.modPart k fun p => { p with seq := { p.seq with atBoundary := true } }
  else s

/-- Step 4 of R256 and what follows it: DONE, evaluation slots, the sequencer, the next trigger. -/
def State.finishStep (s : State) (n t : Nat) : State :=
  let s1 := s.postTo (s.ctxPart n) (s.entBits (Ent.updDone n) 0 18) 1
  let s2 := (s1.modCtx n fun c => { c with evalDue := s1.slotsDue n t }).nextSlotDue n
  (s2.markBoundary n).nextStep n (s2.ctx n).upd.queued

/-- The peers of a vote (VOTE_PEERS: count, then up to 7 entries). -/
def State.votePeers (s : State) (n : Nat) : List Nat :=
  (List.range (Nat.min 7 (s.entBits (Ent.votePeers n) 0 16))).map fun i => s.entBits (Ent.votePeers n) (16 * (i + 1)) 16

/-- The digest of a peer for step t, if it has come. -/
def Vote.digestOf (v : Vote) (peer t : Nat) : Option Nat := (v.kept.find? fun p => p.1 == peer && p.2.1 == t).map (·.2.2)

/-- How a vote ends (Table 13.4): 0 while it is open. -/
def voteOutcome (own : Nat) (l : List (Option Nat)) (timeout : Bool) : Nat :=
  let got := l.filterMap id
  let full := got.length == l.length
  let holders := fun (v : Nat) => ((own :: got).filter (· == v)).length
  let major := (own :: got).find? fun v => Nat.blt (l.length + 1) (2 * holders v)
  if !full && !timeout then 0
  else if got.all (· == own) then (if full then 1 else 2)
  else if full && Nat.ble 2 l.length && major.isSome then (if major == some own then 3 else 4)
  else 5

/-- End an open vote if it is decided (R367, R368). -/
def State.tryVote (s : State) (n : Nat) (timeout : Bool) : State :=
  let v := (s.ctx n).vote
  match v.own with
  | none => s
  | some (t, own) =>
    let peers := s.votePeers n
    let l := peers.map fun p => v.digestOf p t
    let out := voteOutcome own l timeout
    if out = 0 then s
    else
      let differs := fun (x : Option Nat) => match x with
        | some d => d != own
        | none => false
      let mask := (l.zipIdx.filter fun p => differs p.1).foldl (fun a p => a + 2 ^ p.2) 0
      let odd := ((peers.zip l).filter fun p => differs p.2).map (·.1)
      let missing := ((peers.zip l).filter fun p => p.2.isNone).map (·.1)
      let s1 := (s.setEnt (Ent.voteStatus n) (out + 8 * mask)).modVote n fun v => { v with
        own := none
        withheld := out == 4 || out == 5
        kept := v.kept.filter fun p => Nat.blt t p.2.1 }
      let ok := fun (s : State) => s.setEnt (Ent.lastVerified n) t
      match out with
      | 1 => (ok s1).finishStep n t
      | 2 => (s1.logCtx Code.voteMissing n missing).finishStep n t
      | 3 => (odd.foldl (fun s p => s.logCtx Code.damaskPeerOdd n [p]) (ok s1)).finishStep n t
      | 4 => ((s1.logCtx Code.damaskOdd n []).setReplace 1).alertFor 5 (some (s1.ctxPart n))
      | _ => ((s1.logCtx Code.damaskRollback n []).setEnt (Ent.rollbackReq n) 1).alertFor 5 (some (s1.ctxPart n))

/-- Keep the digest of a peer for a step: one for the step at hand, and one for a later step (R366). -/
def Vote.keep (v : Vote) (cur peer step digest : Nat) : Vote :=
  { v with kept := (v.kept.filter fun p =>
      p.1 != peer || (p.2.1 != step && (p.2.1 == cur || step == cur))) ++ [(peer, step, digest % 2 ^ 128)] }

/-- The step that a vote of a context is about: that of its open vote, else STEP. -/
def State.voteStep (s : State) (n : Nat) : Nat := ((s.ctx n).vote.own.map (·.1)).getD (s.ent (Ent.step n))

/-- A digest that passes R319 (R366): kept, one per peer for later steps; one for a step already decided is dropped and
counted. -/
def State.takeDigest (s : State) (h : MsgHeader) (step digest : Nat) : State :=
  let n := h.dctx.toNat
  s.admitMsg h Kind.norm fun s =>
    match s.peerNo n h.scoord.toNat h.spart.toNat h.sctx.toNat with
    | none => s
    | some peer =>
      if Nat.blt step (s.voteStep n) then s.bump (Ent.voteLate n)
      else (s.modVote n fun v => v.keep (s.voteStep n) peer step digest).tryVote n false

/-- Open a vote (R366): the digest goes to every voting peer, STEP and digest in the payload and AUX[63] set. A peer context
in this package takes it at once. -/
def State.openVote (s : State) (n t digest : Nat) : State :=
  let s1 := (s.votePeers n).foldl (fun s j =>
    match s.peerOf n j with
    | some p =>
      let m : Msg := { kind := Kind.norm, h := s.ctxHeader n p Kind.norm 24 (2 ^ 63),
                       payload := leBytes 8 t ++ leBytes 16 digest }
      if p.coord = s.ent Ent.pkgCoord then s.takeDigest m.h t digest else s.sendMsg m
    | none => s) s
  (s1.modVote n fun v => { v with own := some (t, digest) }).tryVote n false

/-- A shard export requested during the step starts (R280). -/
def State.startShard (s : State) (n : Nat) : State :=
  s.modExp n fun e => { e with shard := e.shard || e.held, held := false }

/-- Steps 1 to 3 of R256 once digest and export are done, then the vote or the DONE post. -/
def State.closeStep (s : State) (n : Nat) (digest : Option Nat) : State :=
  let u := (s.ctx n).upd
  let w := if u.skipped then VWrite.mk s none
    else s.writeGroups n (s.ent (Ent.updTable n)) u.step u.table.groups.zipIdx
  match w.fail with
  | some (code, a) => w.s.unitFault n code a
  | none =>
    let written := SMap.get (fun _ => none) w.s.live (Ent.step n)
    let s1 := (w.s.modUpd n fun u => { Upd.init with target := u.target, queued := u.queued, partials := u.partials
      }).setEntBit (Ent.updStatus n) 0 false
    let s2 := s1.applyLive n
    let s3 := (match written with
      | some _ => s2
      | none => s2.setEnt (Ent.step n) (u.step + 1))
    let s4 := (s3.startShard n).retryRefills n
    match digest with
    | some d => if (s4.votePeers n).isEmpty then s4.finishStep n u.step else s4.openVote n u.step d
    | none => s4.finishStep n u.step

/-- STEP_BOUNDARY (R256, R261, R270, R271, R277): every group has been written, or the step is skipped; the digest of a
due step is formed from the working copies as they stand; the governor's step ends with it (R408). -/
def execStepBoundary (n : Fin 64) (s : State) : Res :=
  let u := (s.ctx n).upd
  let ready := u.stage = .boundary || (u.stage = .sweep && Nat.ble u.table.work u.groups.length)
  .next (if !ready || !s.mem.served then s
    else
      let due := (u.step + 1) % Nat.max 1 (s.ent (Ent.damaskInterval n)) == 0
      let d := if due then s.digestRecs n (BitVec.ofNat 64 (s.ent (Ent.digestKey n))) u.table.recs 0 else .ok 0
      match d with
      | .error (code, a) => s.unitFault n code a
      | .ok x =>
        let digest := if due then some x else none
        let s1 := if due then s.setEnt (Ent.lastDigest n) (u.step + 2 ^ 64 * x) else s
        let s2 := s1.exportSweep n digest
        if (s2.ctx n).upd.stage = .idle then s2 else (s2.closeStep n digest).governAt n)

/-! ### Voting and export -/

/-- DIGEST_RECEIVE (R366, R319): whichever port the message came on. -/
def execDigestReceive (_port : Fin 6) (h0 : MsgHeader) (step : Nat) (digest : Nat) (s : State) : Res :=
  let h := h0.clean
  .next (if h.dcoord.toNat = s.ent Ent.pkgCoord then s.takeDigest h step digest
    else s.forward { kind := Kind.norm, h := { h with length := 24, aux := 0x8000000000000000#64 }
                     payload := leBytes 8 step ++ leBytes 16 digest })

/-- VOTE_TIMEOUT (R367). -/
def execVoteTimeout (n : Fin 64) (s : State) : Res := .next (s.tryVote n true)

/-- EXPORT_SPILL_DRAIN (R279): spilled records move to the ring in order as space frees; then a GAP that is due, and the
records of a shard export that wait. -/
def execExportSpillDrain (n : Fin 64) (s : State) : Res :=
  .next (if !s.mem.served then s
    else
      let s1 := s.drainSpill n ((s.ctx n).exp.spill.length + 1)
      s1.flushShard n (s1.ctx n).exp.shardQ.length)

/-- SHARD_EXPORT_COMPLETE (R280): the engines have read the arrays; the records go out, SHARD_END last. -/
def execShardExportComplete (n : Fin 64) (s : State) : Res :=
  .next (if !s.mem.served then s
    else
      let s1 := if (s.ctx n).exp.shard then s.formShard n else s
      s1.flushShard n (s1.ctx n).exp.shardQ.length)

end Sys2Proof.Machine
end

