-- ==== Sys2Proof/Machine/Contexts.lean ====
section
/-!
DEFINITION. Tasks from their descriptors to the core queues (R288, R289, R426), the schedule table (R291), evaluation
slots (R295 to R299), and the making and removal of partitions and contexts (R282 to R287).
-/

namespace Sys2Proof.Machine

open Sys2Proof

/-! ### Issuing tasks (R288, R289) -/

/-- A task to be issued: its context and what Table 10.3 says of it. -/
structure TaskReq where
  ctx    : Nat
  pc     : Nat
  s0     : Word64
  s1     : Word64
  s2     : Word64
  s3     : Word64
  taskid : Nat
  clus0  : Nat
  ncl    : Nat
  cores  : Nat
  done   : Nat

/-- A task descriptor (Table 10.3). -/
def decodeTask (n : Nat) (d : BitVec 512) : TaskReq :=
  { ctx := n, pc := bitsAt d.toNat 0 64, s0 := d.extractLsb' 64 64, s1 := d.extractLsb' 128 64, s2 := d.extractLsb' 192 64,
    s3 := d.extractLsb' 256 64, taskid := bitsAt d.toNat 320 32, clus0 := bitsAt d.toNat 352 8, ncl := bitsAt d.toNat 360 8,
    cores := bitsAt d.toNat 384 32, done := bitsAt d.toNat 416 32 }

/-- The keys of the logical cores of a group; none where R288 rejects it: a cluster outside the partition or not bound,
a core above 23, no core at all, or a lost core (R363). -/
def State.taskGroup (s : State) (t : TaskReq) : Option (List Nat) :=
  let k := s.ctxPart t.ctx
  let rel := (List.range t.ncl).map (t.clus0 + ·)
  let bound := s.ent (Ent.ctxClusters (s.ctxHome t.ctx))
  let keys := rel.flatMap fun r => match s.globalCluster k r with
    | some g => (setBits t.cores 24).map fun j => 24 * g + j
    | none => []
  if t.ncl = 0 || Nat.blt 64 t.ncl || t.cores = 0 || Nat.ble (2 ^ 24) t.cores || rel.any (fun r => !bound.testBit r) ||
      rel.any (fun r => (s.globalCluster k r).isNone) || keys.any s.coreLost then none
  else some keys

/-- Whether every core of a group has a free slot in its task queue of 8. -/
def State.slotsFree (s : State) (keys : List Nat) : Bool := keys.all fun k => Nat.blt (s.core k).tasks.length 8

/-- Enter a task in the queue of every core of its group (R289). -/
def State.enterTask (s : State) (t : TaskReq) (keys : List Nat) (seq : Option Nat) : State :=
  let d : TaskDesc :=
    { inst := s.nextId, ctx := t.ctx, pc := t.pc, s0 := t.s0, s1 := t.s1, s2 := t.s2, s3 := t.s3, taskid := t.taskid }
  let i : TaskInst :=
    { id := s.nextId, started := false, left := keys.length, done := if t.done.testBit 31 then some (bitsAt t.done 0 18) else none, seq := seq }
  ({ (s.modCores keys fun c => { c with tasks := c.tasks ++ [d] }) with nextId := s.nextId + 1 }).modCtx t.ctx fun c =>
    { c with tasks := c.tasks ++ [i] }

/-- Whether the tasks of a context may leave their source: outside its resets, a training context outside a slot (R295,
R296 step 1), an evaluation context in its slot within BUDGET (R296 steps 4 and 5; assumption 17). -/
def State.mayIssue (s : State) (n : Nat) : Bool :=
  s.ctxValid n && (s.ctx n).resetting.isNone && !(s.part (s.ctxPart n)).resetting && !s.rel.creset &&
    (if s.ctxEval n then (s.ctx (s.ctxHome n)).eval == .running n false else (s.ctx n).eval == .none)

/-- Whether a task of a context may start on a core (R296): a parent's not from step 1 of a slot to its end, an evaluation
context's only in its slot and within BUDGET; a task that another core of its group has started is not new. -/
def State.mayStart (s : State) (t : TaskDesc) : Bool :=
  (s.ctx t.ctx).resetting.isNone &&
    ((s.ctx t.ctx).tasks.any (fun i => i.id == t.inst && i.started) ||
      (if s.ctxEval t.ctx then (s.ctx (s.ctxHome t.ctx)).eval == .running t.ctx false else (s.ctx t.ctx).eval == .none))

/-- The task that a core starts next: the first of its queue, in queue order for each context (R289). The tasks of a context
that a slot holds back wait in the queue, and those of the other context pass them (DEDUCED, assumption 17). -/
def State.nextTask (s : State) (c : Core) : Option TaskDesc :=
  c.tasks.find? fun t => (c.tasks.find? fun x => x.ctx == t.ctx) == some t && s.mayStart t

/-- A core has started a task of a context. -/
def State.markStarted (s : State) (t : TaskDesc) : State :=
  s.modCtx t.ctx fun c => { c with tasks := c.tasks.map fun i => if i.id = t.inst then { i with started := true } else i }

/-- A group that R288 rejects: TASK_GROUP and a context reset. -/
def State.badGroup (s : State) (n taskid : Nat) : State := (s.logCtx Code.taskGroup n [taskid]).ctxReset n Code.taskGroup

/-- Issue the descriptors of a context that have been read, in order, as far as slots allow (R426). -/
def State.issueRead (s : State) (n : Nat) : Nat → State
  | 0 => s
  | fuel + 1 =>
    match (s.ctx n).cqRead with
    | [] => s
    | d :: l =>
      if !s.mayIssue n then s
      else
        let t := decodeTask n d
        match s.taskGroup t with
        | none => s.badGroup n t.taskid
        | some keys =>
          if s.slotsFree keys then
            State.issueRead ((s.modCtx n fun c => { c with cqRead := l }).enterTask t keys none) n fuel
          else s

/-- Issue what a context's queue holds. -/
def State.issueTasks (s : State) (n : Nat) : State := s.issueRead n (s.ctx n).cqRead.length

/-- Issue what the queues of every context that can use a cluster hold, in ascending order of id. -/
def State.issueFor (s : State) (cluster : Nat) : State :=
  (List.range 64).foldl (fun s n =>
    if s.ctxValid n && (s.boundClusters n).contains cluster then s.issueTasks n else s) s

/-! ### The schedule table (R291, Tables 10.4, 10.5) -/

/-- How a schedule table reads: entries and STEP_INC, an invalid table with the entry at fault, or a failed read. -/
inductive SeqTable where
  | ok (inc : Nat) (l : List SeqEntry)
  | invalid (entry : Nat)
  | fail (code va : Nat)

/-- One entry with its group and template; none where a reserved field is not 0 or a number lies beyond a count. -/
def seqEntry (groups templs : List (List Byte)) (mb vst : Nat) (e : List Byte) : Option SeqEntry :=
  let w := fieldAt e 0 4
  let gate := fieldAt e 4 4
  match groups[bitsAt w 16 4]?, templs[bitsAt w 20 6]? with
  | some g, some t =>
    if bitsAt w 0 2 = 3 || bitsAt w 5 3 != 0 || bitsAt w 26 5 != 0 || Nat.ble vst (bitsAt w 2 3) ||
        Nat.ble mb (bitsAt w 8 8) || bitsAt gate 18 14 != 0 then none
    else some
      { kind := bitsAt w 0 2, vstage := bitsAt w 2 3, mb := bitsAt w 8 8, gateEn := w.testBit 31, gate := bitsAt gate 0 18,
        target := fieldAt e 8 8, pc := fieldAt t 0 8, s0 := BitVec.ofNat 64 (fieldAt t 8 8), done := fieldAt t 16 4,
        clus0 := fieldAt g 0 1, ncl := fieldAt g 1 1, cores := fieldAt g 4 4 }
  | _, _ => none

/-- The entries in order, or the number of the first that is invalid. -/
def seqEntries (groups templs : List (List Byte)) (mb vst : Nat) : List (List Byte) → Nat → Except Nat (List SeqEntry)
  | [], _ => .ok []
  | e :: l, i =>
    match seqEntry groups templs mb vst e with
    | none => .error i
    | some x =>
      match seqEntries groups templs mb vst l (i + 1) with
      | .ok r => .ok (x :: r)
      | .error j => .error j

/-- Read records of one size from context memory. -/
def State.readRecs (s : State) (n va size count : Nat) : Except (Nat × Nat) (List (List Byte)) :=
  match s.readVirt n va (size * count) with
  | .ok b => .ok ((List.range count).map fun i => (b.drop (size * i)).take size)
  | .fail c a => .error (c, a)

/-- Read and check the schedule table of partition k (R291); the header, a group and a template are reported as entry 0
(assumption 18). -/
def State.readSeqTable (s : State) (k : Nat) : SeqTable :=
  let n := s.entBits (Ent.seqCtl k) 0 6
  let base := s.ent (Ent.seqTable k)
  match s.readVirt n base 64 with
  | .fail c a => .fail c a
  | .ok h =>
    let ne := fieldAt h 4 2
    let ng := fieldAt h 6 1
    let nt := fieldAt h 7 1
    let mb := fieldAt h 8 2
    let vs := fieldAt h 10 1
    if fieldAt h 0 4 != 1 || ne = 0 || Nat.blt 4096 ne || ng = 0 || Nat.blt 16 ng || nt = 0 || Nat.blt 64 nt || mb = 0 ||
        Nat.blt 256 mb || vs = 0 || Nat.blt 8 vs || fieldAt h 11 1 != 0 || fieldAt h 16 48 != 0 then .invalid 0
    else match s.readRecs n (base + 64) 16 ng, s.readRecs n (base + 320) 32 nt, s.readRecs n (base + 2368) 16 ne with
      | .ok gs, .ok ts, .ok es =>
        let bad := gs.any (fun g => fieldAt g 2 2 != 0 || fieldAt g 8 8 != 0 || bitsAt (fieldAt g 4 4) 24 8 != 0) ||
          ts.any (fun t => fieldAt t 20 12 != 0 || bitsAt (fieldAt t 16 4) 18 13 != 0)
        if bad then .invalid 0
        else match seqEntries gs ts mb vs es 0 with
          | .ok l => .ok (fieldAt h 12 4) l
          | .error i => .invalid i
      | .error (c, a), _, _ => .fail c a
      | _, .error (c, a), _ => .fail c a
      | _, _, .error (c, a) => .fail c a

/-! ### Issue by the sequencer (R292) -/

/-- Whether an entry's gate is met in pass p (R292). -/
def State.gateMet (s : State) (k inc p : Nat) (e : SeqEntry) : Bool :=
  !e.gateEn || (match s.syncKey k e.gate with
    | some key => Nat.ble (sat64 (e.target + p * inc)) (s.word key).value
    | none => false)

/-- The task of entry number i in pass p (R292). -/
def SeqEntry.task (e : SeqEntry) (n i p : Nat) : TaskReq :=
  { ctx := n, pc := e.pc, s0 := e.s0, s1 := BitVec.ofNat 64 e.mb, s2 := BitVec.ofNat 64 (e.vstage + 256 * e.kind),
    s3 := BitVec.ofNat 64 p, taskid := p % 2 ^ 20 * 4096 + i, clus0 := e.clus0, ncl := e.ncl, cores := e.cores,
    done := e.done }

/-- The sequencer of partition k issues its next entry in table order, once its gate is met and its slots are free
(R292). -/
def State.seqIssue (s : State) (k : Nat) : State :=
  let n := s.entBits (Ent.seqCtl k) 0 6
  let q := (s.part k).seq
  let p := s.ent (Ent.seqPass k)
  match q.table[q.next]? with
  | none => s
  | some e =>
    if !s.entBit (Ent.seqCtl k) 6 || !q.inPass || !s.mayIssue n || !s.gateMet k q.inc p e then s
    else
      let t := e.task n q.next p
      match s.taskGroup t with
      | none => s.badGroup n t.taskid
      | some keys =>
        if s.slotsFree keys then
          (s.enterTask t keys (some k)).modPart k fun x =>
            { x with seq := { x.seq with next := q.next + 1, left := x.seq.left + 1 } }
        else s

/-- A slot of a core queue of a cluster is free again (R289): where both sources have a task that waits for it, the
sequencer's enters first. -/
def State.slotFreed (s : State) (cluster : Nat) : State :=
  State.issueFor (match s.clusterPart cluster with
    | some k => s.seqIssue k
    | none => s) cluster

/-! ### Evaluation slots (R296 to R299) -/

/-- Copy or restore the scratchpads of a parent's bound cores. -/
def State.eachBound (s : State) (n : Nat) (f : State → Nat → State) : State := (s.boundCores n).foldl f s

/-- Write a scratchpad to its save page (R297): byte 4w holds word w. -/
def State.saveCore (s : State) (n e k : Nat) : State :=
  match s.page n (s.savePage n e k) with
  | none => s
  | some p =>
    let base := paOf p.stack p.frame 0
    let s1 := (s.zeroFrame p.stack p.frame).clearFramePoison p.stack p.frame
    let cells := (s.core k).sp.words.foldl (fun m w =>
      memWrite m (base + 4 * (w.1 % spSize)) (leBytes 4 ((s.core k).rd w.1).toNat)) s1.mem.cells
    s1.modMem fun m => { m with cells := cells }

/-- The words that a save page holds: the bytes listed in memory, word by word. -/
def savedWords (cells : List Host.Cell) (base : Nat) : SMap Word32 :=
  ((cells.filter fun e => Nat.ble base e.1 && Nat.blt e.1 (base + 2 ^ 21)).map fun e => (e.1 - base) / 4).eraseDups.foldl
    (fun m w => SMap.set (fun _ => (0#32 : Word32)) m w (BitVec.ofNat 32
      (leNat ((List.range 4).map fun i => SMap.get (fun _ => (0#8 : Byte)) cells (base + 4 * w + i))))) []

/-- The scratchpad of a core zeroed, its window table held aside and all windows closed (R296 step 2). The marks of its
poisoned words are held aside with the table, so that the core resumes exactly as it was (R297, assumption 17). -/
def Core.lend (c : Core) : Core :=
  { c with sp := { Scratch.zero with held := some c.sp.win, heldAll := c.sp.poisonAll, heldPoison := c.sp.poison } }

/-- The scratchpad of a core as its save page gives it back, with its own windows and marks (R296 step 7); a line of the
page that was poisoned meanwhile leaves its 16 words poisoned. -/
def State.restoreCore (s : State) (n e k : Nat) : State :=
  let win := ((s.core k).sp.held).getD []
  match s.page n (s.savePage n e k) with
  | none => s.modCore k fun c => { c with sp := { Scratch.zero with win := win, poisonAll := true } }
  | some p =>
    let base := paOf p.stack p.frame 0
    let marks := ((List.range 32768).filter fun i => s.poisoned (lineNo base + i)).flatMap fun i =>
      (List.range 16).map fun w => (16 * i + w, true)
    s.modCore k fun c => { c with sp := { Scratch.zero with
      words := savedWords s.mem.cells base
      poisonAll := c.sp.heldAll
      poison := SMap.setAll (fun _ => c.sp.heldAll) c.sp.heldPoison marks
      win := win } }

/-! ### Partitions and contexts (R282 to R287) -/

/-- Result codes of a dictionary access (Table 17.4). -/
def Dr.ok : Nat := 0
def Dr.noEntry : Nat := 1
def Dr.owner : Nat := 2
def Dr.mode : Nat := 3
def Dr.length : Nat := 4
def Dr.range : Nat := 5
def Dr.busy : Nat := 6
def Dr.capacity : Nat := 7
def Dr.invalid : Nat := 8
def Dr.notReady : Nat := 9

/-- Whether partition k has a context. -/
def State.partHasCtx (s : State) (k : Nat) : Bool := !(s.ctxsOf k).isEmpty

/-- PART_CLUSTERS (R283, R462): how a write of partition k's clusters is refused. -/
def State.partClustersCheck (s : State) (k mask : Nat) : Nat :=
  if (setBits mask 64).any (fun c => s.rel.dieLost.getLsbD (dieOf c)) then Dr.range
  else if (List.range 16).any fun j => j != k && (s.ent (Ent.partClusters j) &&& mask) != 0 then Dr.range
  else if s.partHasCtx k then Dr.busy
  else Dr.ok

/-- Set the clusters of partition k (R283): the sync words of a partition newly defined read 0 with CONFIG = 0 (R181).
A removed partition keeps no sequencer, governor or reset; shares are recomputed, and every partition relearns (R417). -/
def State.setPartClusters (s : State) (k mask : Nat) : State :=
  let s1 := s.setEnt (Ent.partClusters k) mask
  if s.ent (Ent.partClusters k) = 0 && mask != 0 then
    ((s1.clearWords (setBits mask 64) true).modPart k fun _ => Part.init).relearnAll.reportLimiting
  else if mask = 0 then (s1.modPart k fun _ => Part.init).relearnAll.reportLimiting
  else s1.relearnAll.reportLimiting

/-- Zero the scratchpads of cores and close their windows (R287). -/
def State.freshCores (s : State) (keys : List Nat) : State := s.modCores keys fun c => { c with sp := Scratch.zero }

/-- CTX_DEF with VALID = 1 (R284, R286): how a creation is refused. -/
def State.ctxCreateCheck (s : State) (n value : Nat) : Nat :=
  let k := bitsAt value 2 4
  let p := bitsAt value 6 6
  if !s.partDefined k then Dr.range
  else if s.ctxValid n then Dr.busy
  else if Nat.ble 4 (s.ctxsOf k).length then Dr.busy
  else if value.testBit 1 && !(s.ctxOf k p && !s.ctxEval p) then Dr.range
  else Dr.ok

/-- The dictionary entries at a context's subindex return to their defaults, but for its Selvedge tag (R285, R393), and
those of another context's keep. -/
def State.ctxDefaults (s : State) (n : Nat) : State :=
  let mine := fun (k : Nat) => match Catalog.row k with
    | some r => r.scope == .ctx && k % 256 == n + 1 && k != Ent.selvedgeTag n
    | none => false
  { s with dict := SMap.dropKeys mine s.dict, live := SMap.dropKeys mine s.live }

/-- The context page returns to its defaults (R424). -/
def State.pageDefaults (s : State) (n : Nat) : State :=
  { s with host := { s.host with pages := SMap.dropKeys (fun k => k / 4096 == n) s.host.pages } }

/-- Create a context (R284, R287, R393): its tag advances, its page, entries and tables start at their defaults. -/
def State.ctxCreate (s : State) (n value : Nat) : State :=
  let s1 := ((s.ctxDefaults n).pageDefaults n).modCtx n fun c =>
    { Ctx.init with tagLeft := c.tagLeft, cqOut := c.cqOut, tagDelay := c.tagDelay }
  (s1.setEnt (Ent.ctxDef n) value).advanceTag n

/-- CTX_DEF with VALID = 0 (R284, R285): how a destruction is refused. -/
def State.ctxDestroyCheck (s : State) (n : Nat) : Nat :=
  let shared := s.mem.pages.any fun e => match e.2 with
    | some p => p.owner == n && e.1 / 134217728 != n && s.ctxInFlight (e.1 / 134217728)
    | none => false
  if !s.ctxValid n then Dr.range
  else if s.ctxState n != 1 || shared || !(s.evalsOf n).isEmpty then Dr.busy
  else Dr.ok

/-- Free the pages that a context owns, then the mappings it holds of others' pages (R285 step 2). -/
def State.freeAll (s : State) (n : Nat) : State :=
  let own := (s.mem.pages.filter ownMapping).filterMap fun e => if e.1 / 134217728 = n then some (e.1 % 134217728) else none
  let s1 := own.foldl (fun s v => s.freePage n v) s
  (s1.modMem fun m => { m with pages := SMap.dropKeys (fun k => k / 134217728 == n) m.pages }).reportFrames

/-- The state a command ends in. -/
def Res.stateOr (r : Res) (s : State) : State :=
  match r with
  | .next t => t
  | .fault _ => s
  | .refused _ => s

/-- Perform the commands of a function's queue up to the last that names context n (R285 step 1). -/
def State.finishCmds (s : State) (n : Nat) (f : Fin 17) : Nat → State
  | 0 => s
  | fuel + 1 =>
    let l := (s.memq f).cmds
    match l with
    | [] => s
    | c :: _ =>
      if l.any fun x => x.ctx == n || (x.op == 3 && x.dctx == n) then
        let r := match c.op with
          | 1 => execAlloc f c s
          | 2 => execFree f c s
          | 3 => execShareRo f c s
          | 4 => execReplReg f c s
          | 5 => execReplUnreg f c s
          | _ => execMigrate f c s
        State.finishCmds (r.stateOr s) n f fuel
      else s

/-- Destroy a context (R285, R424): commands, pages, reservation, entries, locks, private words and collectives. Its
collectives are discarded as a reset discards them (R349; DEDUCED, assumption 77). -/
def State.ctxDestroy (s : State) (n : Nat) : State :=
  let s0 := (List.finRange 17).foldl (fun s f => s.finishCmds n f (s.memq f).cmds.length) s
  let s1 := (((s0.freeAll n).abandonLocks n).sharePrivate n).dropColls n
  let s2 := ((s1.ctxDefaults n).pageDefaults n).modCtx n fun c =>
    { Ctx.init with tagLeft := c.tagLeft, cqOut := c.cqOut, tagDelay := c.tagDelay }
  s2.reportResv

/-- CTX_CLUSTERS (R286): how a write is refused. -/
def State.ctxClustersCheck (s : State) (n mask : Nat) : Nat :=
  let k := s.ctxPart n
  let others := (s.ctxsOf k).filter fun m => m != n && !s.ctxEval m
  if !s.ctxValid n || s.ctxEval n then Dr.range
  else if (setBits mask 64).any (fun r => (s.globalCluster k r).isNone) then Dr.range
  else if others.any fun m => (s.ent (Ent.ctxClusters m) &&& mask) != 0 then Dr.range
  else if s.ctxInFlight n then Dr.busy
  else Dr.ok

/-- Bind clusters (R286, R287): the cores of those added are zeroed and their windows closed. -/
def State.setCtxClusters (s : State) (n mask : Nat) : State :=
  let old := s.ent (Ent.ctxClusters n)
  let added := ((setBits mask 64).filter fun r => !old.testBit r).filterMap (s.globalCluster (s.ctxPart n))
  (s.setEnt (Ent.ctxClusters n) mask).freshCores (added.flatMap fun c => (List.range 24).map fun j => 24 * c + j)

/-- SEQ_CTL (Table 10.6): a write of RUN = 1 that names a context outside the partition, or an evaluation context, is
refused. -/
def State.seqCtlCheck (s : State) (k value : Nat) : Nat :=
  let n := bitsAt value 0 6
  if value.testBit 6 && (!s.ctxOf k n || s.ctxEval n) then Dr.range else Dr.ok

/-- Write SEQ_CTL (R290): RUN = 1 starts pass 0, with the next step of the context that the write names, also while a
sequencer runs; RUN = 0 stops the sequencer before its next issue. -/
def State.setSeqCtl (s : State) (k value : Nat) : State :=
  if value.testBit 6 then ((s.setEnt (Ent.seqCtl k) value).setEnt (Ent.seqPass k) 0).modPart k fun p =>
    { p with seq := { Seq.stopped with left := p.seq.left } }
  else (s.setEnt (Ent.seqCtl k) value).stopSeq k

end Sys2Proof.Machine
end

