-- ==== Sys2Proof/Machine/ExecContext.lean ====
section
/-!
DEFINITION. Descriptor reads (R426, R435), task starts (R289), the stage sequencer (R290 to R293) and evaluation slots
(R295 to R299).
-/

namespace Sys2Proof.Machine

open Sys2Proof

/-! ### Context queues -/

/-- DESCRIPTOR_FETCH (R426, R433): the read of the next descriptor is issued and CQ_HEAD rises. -/
def execDescriptorFetch (n : Fin 64) (s : State) : Res :=
  let f := s.ctxPart n + 1
  let i := s.pg n 0x010
  let c := s.ctx n
  .next (if !s.ctxValid n || c.resetting.isSome || !s.bme f || Nat.ble (s.pg n 0x040) i ||
      Nat.ble 8 (c.cqRead.length + (c.cqOut.filter (· == s.tag n)).length) then s
    else
      let s1 := s.emit (.read f (s.pg n 0x000 + 64 * (i % s.pg n 0x008)) 64)
      (s1.setPg n 0x010 (i + 1)).modCtx n fun c => { c with cqOut := c.cqOut ++ [s.tag n] })

/-- DESCRIPTOR_READ_COMPLETION (R426, R435): the oldest read completes; a stale one is dropped and counted, a failed one
resets the context, and a descriptor is issued as soon as it may be. -/
def execDescriptorReadCompletion (n : Fin 64) (st : ReadStatus) (d : BitVec 512) (s : State) : Res :=
  .next (match (s.ctx n).cqOut with
    | [] => s
    | t :: l =>
      let s1 := s.modCtx n fun c => { c with cqOut := l }
      if !s.ctxValid n || !s.tagOk n t then s1.staleDrop n [Stale.completion, s.ctxPart n + 1]
      else match st with
        | .ok => (s1.modCtx n fun c => { c with cqRead := c.cqRead ++ [d] }).issueTasks n
        | _ => ((s1.logCtx Code.hostReadError n []).cqEvent n 2).ctxReset n Code.hostReadError)

/-- TASK_START (R118, R289, R114, R234, R296): the core starts its next task, which leaves the queue, in phase 0, which it
reports (R150); a first instruction that cannot be fetched faults. What waits for the freed slot is issued. -/
def execTaskStart (c : CoreId) (s : State) : Res :=
  let k := coreKey c
  let co := s.core k
  .next (match co.run, s.nextTask co with
    | none, some t =>
      if co.role ≠ .inService then s
      else
        let r : RunTask := { inst := t.inst, ctx := t.ctx, taskid := t.taskid, step := s.ent (Ent.step t.ctx),
                             key := BitVec.ofNat 64 (s.ent (Ent.gauzeKey t.ctx)) }
        let s0 := s.setCore k (({ co with tasks := co.tasks.erase t }).startTask t r)
        let s1 := (s.notePhase s0 k).markStarted t
        let pc := t.pc % 2 ^ 48
        let s2 := match s1.fetch k t.ctx pc with
          | .error e => s1.coreFault k t.ctx e.1 pc [e.2]
          | .ok _ => s1
        s2.slotFreed c.cluster.val
    | _, _ => s)

/-! ### The stage sequencer -/

/-- Whether the next pass of partition k's sequencer may start (R290, R293): at the step boundary after the pass before
it, or, for pass 0, with the next step; no slot is due any more. -/
def State.passMayStart (s : State) (k : Nat) : Bool :=
  let n := s.entBits (Ent.seqCtl k) 0 6
  let q := (s.part k).seq
  s.entBit (Ent.seqCtl k) 6 && !q.inPass && s.ctxOf k n && s.mayIssue n && s.mem.served &&
    (q.atBoundary || (s.ent (Ent.updTable n) == 0 && !s.ctxInFlight n && !s.ctxQueued n) ||
      (s.ent (Ent.seqPass k) == 0 && !s.ctxInFlight n && !s.stepOpen n))

/-- SEQ_PASS_START (R291, R293): the table is read and checked; an invalid one clears RUN. -/
def execSeqPassStart (k : Fin 16) (s : State) : Res :=
  let n := s.entBits (Ent.seqCtl k) 0 6
  .next (if !s.passMayStart k then s
    else match s.readSeqTable k with
      | .ok inc l => s.modPart k fun p => { p with seq :=
          { table := l, inc := inc, next := 0, inPass := true, atBoundary := false, left := p.seq.left } }
      | .invalid e => (s.logPart Code.seqTableInvalid k [e]).stopSeq k
      | .fail code a => s.unitFault n code a)

/-- SEQ_ENTRY_ISSUE (R291, R292): the next entry in table order, once its gate is met and its slots are free. -/
def execSeqEntryIssue (k : Fin 16) (s : State) : Res := .next (s.seqIssue k)

/-! ### Evaluation slots; n is the parent -/

/-- A slot of a parent is over, or not taken: the next one that is due begins, or the parent goes on. -/
def State.slotOver (s : State) (n : Nat) : State :=
  let s1 := (s.modCtx n fun c => { c with eval := .none }).nextSlotDue n
  s1.issueTasks n

/-- EVAL_SLOT_SAVE (R296 steps 1 and 2, R297): once no parent task that a core has started is in flight, every bound
scratchpad is copied to its save page and zeroed, and the windows are held aside; an unmapped save page stops the slot
before any copy. -/
def execEvalSlotSave (n : Fin 64) (s : State) : Res :=
  .next (match (s.ctx n).eval with
    | .saving e =>
      if s.ctxRunning n || !s.mem.served then s
      else
        let cores := s.boundCores n
        match cores.find? fun k => (s.page n (s.savePage n e k)).isNone with
        | some k => (s.logCtx Code.evalSaveUnmapped n [s.savePage n e k]).slotOver n
        | none =>
          match cores.find? fun k => (s.page n (s.savePage n e k)).any (·.ro) with
          | some k => s.unitFault n Code.protection (s.savePage n e k * 2 ^ 21)
          | none =>
            let s1 := s.eachBound n fun s k => (s.saveCore n e k).modCore k Core.lend
            s1.modCtx n fun c => { c with eval := .copied e }
    | _ => s)

/-- EVAL_SLOT_RUN (R296 steps 3 and 4): the evaluation context's STEP becomes the parent's, and its tasks start from its
queue. -/
def execEvalSlotRun (n : Fin 64) (s : State) : Res :=
  .next (match (s.ctx n).eval with
    | .copied e =>
      (((s.setEnt (Ent.step e) (s.ent (Ent.step n))).modCtx n fun c => { c with eval := .running e false })).issueTasks e
    | _ => s)

/-- EVAL_BUDGET_EXPIRY (R296 step 5): no further task starts; queued tasks wait for the next slot. -/
def execEvalBudgetExpiry (n : Fin 64) (s : State) : Res :=
  .next (match (s.ctx n).eval with
    | .running e false => s.modCtx n fun c => { c with eval := .running e true }
    | _ => s)

/-- EVAL_SLOT_END (R296 step 6): with no evaluation task in flight but those that BUDGET keeps from starting, EVAL_DONE is
posted; the restore begins. -/
def execEvalSlotEnd (n : Fin 64) (s : State) : Res :=
  .next (match (s.ctx n).eval with
    | .running e expired =>
      if s.ctxRunning e || (!expired && (s.ctxQueued e || s.ctxWaiting e)) then s
      else (s.postTo (s.ctxPart n) (s.entBits (Ent.evalDone e) 0 18) 1).modCtx n fun c => { c with eval := .restoring e }
    | _ => s)

/-- EVAL_RESTORE_COMPLETE (R296 steps 7 and 8, R300): scratchpads and window tables are restored, the slot counts, the
evaluation context stands at its boundary, and the parent leaves LENT. -/
def execEvalRestoreComplete (n : Fin 64) (s : State) : Res :=
  .next (match (s.ctx n).eval with
    | .restoring e =>
      if !s.mem.served then s
      else
        let s1 := s.eachBound n fun s k => s.restoreCore n e k
        ((s1.bump (Ent.evalSlots e)).slotOver n).idleBoundary e
    | _ => s)

end Sys2Proof.Machine
end

