-- ==== Sys2Proof/Machine/Collective.lean ====
section
/-!
DEFINITION. Collectives (R329 to R346): descriptors and their checks, signatures, exact sums and their wire format, opening
tokens, and how a collective ends.
-/

namespace Sys2Proof.Machine

open Sys2Proof

/-! ### Descriptors (Table 12.1, R335) -/

/-- A descriptor from its 128 bytes; `resv` is set where a reserved field is not 0. -/
def decodeColl (b : List Byte) : CollDesc :=
  { kind := fieldAt b 0 1, op := fieldAt b 1 1, type := fieldAt b 2 1, rings := bitsAt (fieldAt b 3 1) 0 3,
    root := fieldAt b 4 4, count := fieldAt b 8 8, nslot := fieldAt b 16 2, stotal := fieldAt b 18 2,
    seglen := fieldAt b 20 2, stride := fieldAt b 24 8, src := (List.range 4).map fun d => fieldAt b (32 + 8 * d) 8,
    dst := (List.range 4).map fun d => fieldAt b (64 + 8 * d) 8, done := fieldAt b 96 4, group := fieldAt b 100 4,
    resv := bitsAt (fieldAt b 3 1) 3 5 != 0 || fieldAt b 22 2 != 0 || bitsAt (fieldAt b 96 4) 18 13 != 0 ||
      fieldAt b 104 8 != 0 || fieldAt b 114 6 != 0 }

/-- N: the members (R329, R330). -/
def State.collMembers (s : State) (k : Nat) (d : CollDesc) : Nat := s.collPkgs k d * (s.memberDies k).length

/-- The rank of the member die at index i of this package (R329, R330). -/
def State.collRank (s : State) (k : Nat) (d : CollDesc) (i : Nat) : Nat :=
  s.groupPos k d.ring0 d.seglen * (s.memberDies k).length + i

/-- The member dies of this package with their ranks. -/
def State.collLocal (s : State) (k : Nat) (d : CollDesc) : List (Nat × Nat) :=
  (s.memberDies k).zipIdx.map fun p => (p.1, s.collRank k d p.2)

/-- The combinations of KIND, OP and TYPE (R333, Table 12.1). -/
def CollDesc.combines (d : CollDesc) : Bool :=
  ((d.kind == 1 || d.kind == 2) && (d.op == 1 || d.op == 2 || d.op == 3) && d.type == 0) ||
    ((d.kind == 3 || d.kind == 4) && d.op == 0 && (d.type == 0 || d.type == 1))

/-- Whether a descriptor is valid (R335). -/
def State.collValid (s : State) (k : Nat) (d : CollDesc) : Bool :=
  let sum := d.op == 1
  let members := s.memberDies k
  let slots := fun (v : Nat) => if sum then v != 0 && Nat.ble v 8192 else v == 1
  let addr := fun (die v : Nat) => (v != 0) == members.contains die && v % 64 == 0
  !d.resv && d.combines && d.rings != 0 && d.ringList.all (s.ringValid k) && d.count != 0 && Nat.blt d.count (2 ^ 32) &&
    slots d.nslot && slots d.stotal && Nat.ble d.nslot d.stotal &&
    (d.seglen == 0 || d.ringList.all fun r => s.ringLen k r % d.seglen == 0) && Nat.blt d.root (s.collMembers k d) &&
    d.stride % 64 == 0 && (List.range 4).all fun i => addr i (d.src.getD i 0) && addr i (d.dst.getD i 0)

/-- ceil(log2 S) (R341). -/
def ceilLog2 (n : Nat) : Nat := if Nat.ble n 1 then 0 else Nat.log2 (n - 1) + 1

/-- The signature (Table 12.2). -/
def CollDesc.signature (d : CollDesc) (gen : Nat) : Nat :=
  d.kind + 8 * d.op + 32 * d.type + 64 * ceilLog2 d.stotal + 1024 * d.rings + 65536 * (d.count % 2 ^ 32) +
    2 ^ 48 * (gen % 65536)

/-! ### Exact sums and their wire format (R340 to R344, Table 12.4) -/

/-- The class code of a contribution (R340). -/
def classCode (x : Word32) : Nat :=
  match f32val x with
  | .nan | .inf _ => 255
  | .fin _ m e => if m = 0 then 0 else (Max.max (expOf m e) (-126) + 127).toNat

/-- A partial sum (Table 12.4): the element's code, the sign and MAG. -/
structure PartSum where
  code : Nat
  neg  : Bool
  mag  : Nat
  deriving DecidableEq, Repr

/-- The 40 bits of a partial sum on the wire. -/
def PartSum.bits (p : PartSum) : Nat := p.mag % 2 ^ 31 + 2 ^ 31 * (p.code % 256) + 2 ^ 39 * b2n p.neg

/-- A partial sum from its 40 bits. -/
def wirePart (v : Nat) : PartSum := { code := bitsAt v 31 8, neg := v.testBit 39, mag := bitsAt v 0 31 }

/-- No contribution yet. -/
def PartSum.none (code : Nat) : PartSum := { code := code, neg := false, mag := 0 }

/-- The signed integer A of a partial sum. -/
def PartSum.value (p : PartSum) : Int := if p.neg then -(p.mag : Int) else (p.mag : Int)

/-- The partial sum whose integer is a. -/
def partOf (code : Nat) (a : Int) : PartSum := { code := code, neg := decide (a < 0), mag := a.natAbs }

/-- L, the lowest weight of the frame of code c for S slots (R341). -/
def frameWeight (c slots : Nat) : Int := (c : Int) - 127 + (ceilLog2 slots : Nat) - 30

/-- The signed magnitude of one contribution in the frame of weight L, and whether it drops bits (R341). -/
def sumTerm (l : Int) (x : Word32) : Int × Bool :=
  match f32val x with
  | .fin sg m e =>
    let t := shiftInt m (e - l)
    (if sg then -(t : Int) else (t : Int), shiftInt t (l - e) != m && e < l)
  | _ => (0, false)

/-- Add a contribution to a partial sum (R341, R342): with code 0 or 255 MAG gathers indicator bits. The Bool says whether
any contribution has dropped bits. -/
def PartSum.add (slots : Nat) (p : PartSum × Bool) (x : Word32) : PartSum × Bool :=
  if p.1.code = 0 then ({ p.1 with mag := Nat.lor p.1.mag (b2n (x == 0#32)) }, p.2)
  else if p.1.code = 255 then
    let seen := match f32val x with
      | .nan => 4
      | .inf sg => if sg then 2 else 1
      | .fin _ _ _ => 0
    ({ p.1 with mag := Nat.lor p.1.mag seen }, p.2)
  else
    let t := sumTerm (frameWeight p.1.code slots) x
    (partOf p.1.code (p.1.value + t.1), p.2 || t.2)

/-- Two partial sums of one element taken together (R343). -/
def PartSum.merge (p q : PartSum) : PartSum :=
  if p.code = 0 || p.code = 255 then { p with mag := Nat.lor p.mag q.mag } else partOf p.code (p.value + q.value)

/-- The element that a complete sum gives, rounded once (R341, R342). -/
def PartSum.finish (slots : Nat) (p : PartSum) : Word32 × FFlags :=
  if p.code = 0 then (f32zero (!p.mag.testBit 0), 0#4)
  else if p.code = 255 then
    if p.mag.testBit 2 then (f32nan, 0#4)
    else if p.mag.testBit 0 && p.mag.testBit 1 then (f32nan, FFlags.invalid)
    else (f32inf (p.mag.testBit 1), 0#4)
  else if p.mag = 0 then (0#32, 0#4)
  else roundF32 p.neg p.mag (frameWeight p.code slots)

/-- coll_sum: the exact sum of every slot contribution, rounded once (R341, R342, R344). -/
def collSum (xs : List Word32) (slots : Nat) : Word32 × FFlags :=
  let p := xs.foldl (PartSum.add slots) (PartSum.none ((xs.map classCode).foldl Nat.max 0), false)
  let r := p.1.finish slots
  (r.1, r.2 ||| FFlags.when p.2 FFlags.inexact)

/-- What the contributions xs of a member make of an element on its way to its owner, which brought w (R340, R343, R346):
with nothing brought, the first contribution is compared with itself, so that a NaN becomes the canonical one. The Bool says
whether any dropped bits. -/
def CollDesc.fold (d : CollDesc) (ph : CollPhase) (w : Option Nat) (xs : List Word32) : Nat × Bool :=
  if ph = .code then ((xs.map classCode).foldl Nat.max (w.getD 0), false)
  else if d.op = 1 then
    let p := xs.foldl (PartSum.add d.stotal) (wirePart (w.getD 0), false)
    (p.1.bits, p.2)
  else
    let f := if d.op = 2 then f32max else f32min
    match w, xs with
    | some v, l => ((l.foldl f (BitVec.ofNat 32 v)).toNat, false)
    | none, x :: l => ((l.foldl f (f x x)).toNat, false)
    | none, [] => (0, false)

/-- Two ways' worth of one element taken together at its owner (R347). -/
def CollDesc.merge (d : CollDesc) (ph : CollPhase) (a b : Nat) : Nat :=
  if ph = .code then Nat.max a b
  else if d.op = 1 then ((wirePart a).merge (wirePart b)).bits
  else if d.op = 2 then (f32max (BitVec.ofNat 32 a) (BitVec.ofNat 32 b)).toNat
  else (f32min (BitVec.ofNat 32 a) (BitVec.ofNat 32 b)).toNat

/-- The result of a complete element. -/
def CollDesc.finish (d : CollDesc) (w : Nat) : Word32 × FFlags :=
  if d.op = 1 then (wirePart w).finish d.stotal else (BitVec.ofNat 32 w, 0#4)

/-- All contributions of one element taken together (R341, R346). -/
def CollDesc.combine (d : CollDesc) (xs : List Word32) : Word32 × FFlags :=
  if d.op = 0 then (xs.headD 0#32, 0#4)
  else if d.op = 1 then collSum xs d.stotal
  else (BitVec.ofNat 32 (d.fold .partial_ none xs).1, 0#4)

/-! ### How a collective ends (R334, R338, R349) -/

/-- Change one collective of a context. -/
def State.modColl (s : State) (n gen : Nat) (f : Coll → Coll) : State :=
  s.modCtx n fun c => { c with colls := c.colls.map fun x => if x.gen = gen then f x else x }

/-- The collective of a context with a generation. -/
def State.coll (s : State) (n gen : Nat) : Option Coll := (s.ctx n).colls.find? fun x => x.gen == gen

/-- Give back the buffers that a collective holds (R348). -/
def State.freeBuffers (s : State) (c : Coll) : State :=
  s.setEnt Ent.rsramFree (Nat.min 32 (s.ent Ent.rsramFree + c.buffers))

/-- End a collective with a status: its buffers return, what is held for it is discarded and it leaves the order of
confirmation; COLL_COMPLETE writes the status in issue order (R334, R338). -/
def State.endColl (s : State) (n gen status : Nat) : State :=
  match s.coll n gen with
  | none => s
  | some c =>
    let s1 := (s.freeBuffers c).modColl n gen fun x => { x with stage := .ended status, inbox := [], halves := [] }
    let s2 := s1.modCtx n fun x => { x with tokens := x.tokens.filter fun t => t.2.gen != gen }
    { s2 with links := { s2.links with order := s2.links.order.filter fun p => p != (n, gen) } }

/-- This package ends a collective with a status other than OK and tells the other members by ABORT tokens (R338, R339,
R349). -/
def State.abortColl (s : State) (n gen status : Nat) : State :=
  match s.coll n gen with
  | some c => if c.ended then s else (s.endColl n gen status).abortLanes n gen c.desc (status == 1)
  | none => s

/-- A collective has confirmed: it joins the order of confirmation (R348). -/
def State.confirmColl (s : State) (n gen : Nat) : State :=
  let s1 := s.modColl n gen fun x => { x with stage := .confirmed }
  { s1 with links := { s1.links with order := s1.links.order ++ [(n, gen)] } }

/-- Whether a collective uses a port: one toward a neighbour on the path of one of its rings (R330, R331). -/
def State.collUsesPort (s : State) (k : Nat) (d : CollDesc) (port : Nat) : Bool :=
  d.ringList.any fun r => s.stepPort k r d.seglen true == some port || s.stepPort k r d.seglen false == some port

/-- A ring port has gone DOWN: the collectives beside the break complete with COLL_ABORTED and send ABORT tokens on their
remaining lanes (R349). -/
def State.abortOnPort (s : State) (port : Nat) : State :=
  (List.range 64).foldl (fun s n =>
    (s.ctx n).colls.foldl (fun s c =>
      if s.collUsesPort (s.ctxPart n) c.desc port then s.abortColl n c.gen 2 else s) s) s

/-! ### Opening tokens (R337 to R339) -/

/-- An opening token on a link: DADDR names the kind and the lane, AUX is the signature, the payload holds the rest
(assumption 16). -/
def openBytes (t : OpenToken) : List Byte :=
  leBytes 8 t.gen ++ leBytes 4 t.root.toNat ++ leBytes 2 t.seglen.toNat ++ leBytes 4 t.group.toNat ++ leBytes 4 t.slotSum ++
    leBytes 2 t.position.toNat ++ leBytes 2 t.origin.toNat ++ leBytes 2 t.rank.toNat ++ leBytes 1 t.leg.val

/-- An opening token from its bytes. -/
def decodeOpen (lane : Nat) (signature : Word64) (b : List Byte) : OpenToken :=
  { gen := fieldAt b 0 8, lane := Fin.ofNat 6 lane, signature := signature, root := BitVec.ofNat 32 (fieldAt b 8 4),
    seglen := BitVec.ofNat 16 (fieldAt b 12 2), group := BitVec.ofNat 32 (fieldAt b 14 4), slotSum := fieldAt b 18 4,
    position := BitVec.ofNat 11 (fieldAt b 22 2), origin := BitVec.ofNat 11 (fieldAt b 24 2),
    rank := BitVec.ofNat 11 (fieldAt b 26 2), leg := Fin.ofNat 4 (fieldAt b 28 1) }

/-- What this package's members add to a token's slot sum. -/
def State.ownSlots (s : State) (n : Nat) (d : CollDesc) : Nat := (s.memberDies (s.ctxPart n)).length * d.nslot

/-- Whether a token moves toward OUT_PORT: as its lane does, but for the way back along a segment. -/
def tokenUp (lane leg : Nat) : Bool := laneUp lane != (leg == 1 || leg == 2)

/-- Send an opening token on, with this package's position; at the end of a segment's path it turns (R337). -/
def State.sendToken (s : State) (n : Nat) (d : CollDesc) (t : OpenToken) : State :=
  let k := s.ctxPart n
  let r := laneRing d.rings t.lane.val
  let go := fun (t : OpenToken) (p : Nat) =>
    let t1 := { t with position := BitVec.ofNat 11 (s.ringPos k r) }
    s.sendHop n p Kind.token (Token.opening + 256 * t.lane.val) t.signature.toNat (openBytes t1)
  match s.stepPort k r d.seglen (tokenUp t.lane.val t.leg.val) with
  | some p => go t p
  | none =>
    let leg : Fin 4 := if t.leg.val ≠ 0 then 3 else if t.origin.toNat = s.ringPos k r then 2 else 1
    match s.stepPort k r d.seglen (tokenUp t.lane.val leg.val) with
    | some p => go { t with leg := leg } p
    | none => s

/-- The opening token that this package sends on a lane. -/
def State.ownToken (s : State) (n gen : Nat) (d : CollDesc) (lane : Nat) : OpenToken :=
  let k := s.ctxPart n
  { gen := gen, lane := Fin.ofNat 6 lane, signature := BitVec.ofNat 64 (d.signature gen), root := BitVec.ofNat 32 d.root,
    seglen := BitVec.ofNat 16 d.seglen, group := BitVec.ofNat 32 d.group, slotSum := s.ownSlots n d,
    position := BitVec.ofNat 11 (s.ringPos k (laneRing d.rings lane)),
    origin := BitVec.ofNat 11 (s.ringPos k (laneRing d.rings lane)), rank := BitVec.ofNat 11 (s.ringPos k d.ring0), leg := 0 }

/-- Whether a token arrives where the ring's configuration says (R339): on a lane of the collective, on the port from its
predecessor, whose position it carries. -/
def State.tokenPlaced (s : State) (k : Nat) (d : CollDesc) (port : Nat) (t : OpenToken) : Bool :=
  let r := laneRing d.rings t.lane.val
  let up := tokenUp t.lane.val t.leg.val
  Nat.blt t.lane.val (2 * d.ringList.length) && s.stepPort k r d.seglen (!up) == some port &&
    t.position.toNat == s.nextPos k r (!up)

/-- Whether a token that meets the package which sent it first has been everywhere: always on a ring, at the end of its way
on a segment. -/
def State.tokenHome (s : State) (k : Nat) (d : CollDesc) (t : OpenToken) : Bool :=
  d.seglen == 0 || t.leg.val == 3 ||
    (s.stepPort k (laneRing d.rings t.lane.val) d.seglen (tokenUp t.lane.val t.leg.val)).isNone

/-- A token meets the collective of its generation (R337 to R339): it is compared, then has come home, or is forwarded, with
this package's slots added once. The slot sum is judged for SUM alone (assumption 19). -/
def State.meetToken (s : State) (n port : Nat) (t : OpenToken) : State :=
  match s.coll n t.gen with
  | none => s
  | some c =>
    let d := c.desc
    let k := s.ctxPart n
    let same := t.signature.toNat == d.signature c.gen && t.root.toNat == d.root && t.seglen.toNat == d.seglen &&
      t.group.toNat == d.group
    let own := t.origin.toNat == s.ringPos k (laneRing d.rings t.lane.val)
    if c.ended then s
    else if !s.tokenPlaced k d port t then s.abortColl n t.gen 4
    else if !same then s.abortColl n t.gen 1
    else if !own then
      let s1 := if t.position = t.origin then s.modColl n t.gen fun x => { x with
          before := SMap.set (fun _ => 0) x.before t.lane.val t.rank.toNat } else s
      s1.sendToken n d
        (if t.leg.val = 0 || t.leg.val = 2 then { t with slotSum := t.slotSum + s.ownSlots n d } else t)
    else if !s.tokenHome k d t then s.sendToken n d { t with leg := if t.leg.val = 1 then 2 else t.leg }
    else if d.op == 1 && t.slotSum != d.stotal then s.abortColl n t.gen 1
    else
      let back := if c.lanes.contains t.lane.val then c.lanes else c.lanes ++ [t.lane.val]
      let s1 := s.modColl n t.gen fun x => { x with lanes := back }
      if c.stage = .opening && back.length = 2 * d.ringList.length then s1.confirmColl n t.gen else s1

/-- Tokens that were held for a generation meet it in order of arrival. -/
def State.meetHeld (s : State) (n gen : Nat) : State :=
  let held := (s.ctx n).tokens.filter fun p => p.2.gen == gen
  held.foldl (fun s p => s.meetToken n p.1.val p.2)
    (s.modCtx n fun c => { c with tokens := c.tokens.filter fun p => p.2.gen != gen })

/-- A message or token of a collective that reaches this package: a context's own checks, then what it does (R319). -/
def State.admitColl (s : State) (h0 : MsgHeader) (kind : Nat) (f : Nat → State → State) : State :=
  s.admitMsg h0.clean kind fun s => f h0.clean.dctx.toNat s

/-- An opening token arrives (R337): it meets its collective, or is held until the descriptor of its generation is issued,
up to 4 on a lane. -/
def State.takeOpen (s : State) (port : Fin 6) (h : MsgHeader) (t : OpenToken) : State :=
  s.admitColl h Kind.token fun n s =>
    if (s.coll n t.gen).isSome then s.meetToken n port t
    else if Nat.blt t.gen (s.ent (Ent.collIssued n)) ||
        Nat.ble 4 ((s.ctx n).tokens.filter fun p => p.2.lane == t.lane).length then s
    else s.modCtx n fun c => { c with tokens := c.tokens ++ [(port, t)] }

/-- An ABORT token arrives (R338, R349): it goes on, what is held for its collective is discarded, and the collective
completes; a generation not yet issued completes when it is (assumption 108). -/
def State.takeAbort (s : State) (h : MsgHeader) (t : AbortToken) : State :=
  s.admitColl h Kind.token fun n s =>
    let s1 := (s.sendAbort n t).modCtx n fun c => { c with tokens := c.tokens.filter fun p => p.2.gen != t.gen }
    match s1.coll n t.gen with
    | some c => if c.ended then s1 else s1.endColl n t.gen (if t.mismatch then 1 else 2)
    | none =>
      if Nat.blt t.gen (s1.ent (Ent.collIssued n)) || (s1.ctx n).aborted.any (fun p => p.1 == t.gen) then s1
      else s1.modCtx n fun c => { c with aborted := c.aborted ++ [(t.gen, t.mismatch)] }

end Sys2Proof.Machine
end

