-- ==== Sys2Proof/Machine/CollData.lean ====
section
/-!
DEFINITION. The data phase of a collective (R333, R343, R346 to R348): lanes, chunks and blocks, the steps of a block along a
ring or a segment, and the elements that this package's members contribute and receive.
-/

namespace Sys2Proof.Machine

open Sys2Proof

/-! ### Lanes, chunks and blocks (R347) -/

/-- Part i of `total` elements cut into equal contiguous parts, the lower ones taking the remainder: its first element and
its length. -/
def splitPart (total parts i : Nat) : Nat × Nat :=
  (i * (total / parts) + Nat.min i (total % parts), total / parts + b2n (Nat.blt i (total % parts)))

/-- A block of a chunk: the rank that owns it, its first element and its length. -/
structure Block where
  rank  : Nat
  first : Nat
  len   : Nat
  deriving DecidableEq, Repr

/-- The most elements that a block holds. -/
def CollDesc.blockLimit (d : CollDesc) : Nat := if d.op = 1 then 327680 else 524288

/-- Whether each rank has COUNT elements of its own, which the lanes divide (R333). -/
def CollDesc.perRank (d : CollDesc) : Bool := d.kind == 2 || d.kind == 3

/-- The lanes of a collective (R331). -/
def CollDesc.laneCount (d : CollDesc) : Nat := 2 * d.ringList.length

/-- The elements of a lane's chunk when none is the last. -/
def CollDesc.chunkLen (d : CollDesc) (members : Nat) : Nat :=
  if d.perRank then d.blockLimit else members * d.blockLimit

/-- The chunks of a lane's part. -/
def CollDesc.chunks (d : CollDesc) (members lane : Nat) : Nat :=
  let len := (splitPart d.count d.laneCount lane).2
  (len + d.chunkLen members - 1) / d.chunkLen members

/-- The blocks of chunk t of a lane. -/
def CollDesc.blocks (d : CollDesc) (members lane t : Nat) : List Block :=
  let part := splitPart d.count d.laneCount lane
  let size := d.chunkLen members
  let first := part.1 + t * size
  let len := Nat.min size (part.2 - t * size)
  ((List.range members).map fun b =>
    let cut := splitPart len members b
    if d.perRank then { rank := b, first := b * d.count + first, len := len }
    else { rank := if d.kind = 4 then d.root else b, first := first + cut.1, len := cut.2 }).filter fun b => b.len != 0

/-! ### A block as this package sees it -/

/-- Where this package stands in the steps of a block: whether the block's owner is here, in the package before it on the
lane, in the one after it; the member dies that come after the owner on the lane (a full ring alone has such an order);
whether the way is a full ring, toward OUT_PORT; and whether this package is the first or the last of a segment's path. -/
structure Seat where
  own   : Bool
  prev  : Bool
  next  : Bool
  after : List Nat
  ring  : Bool
  up    : Bool
  low   : Bool
  high  : Bool
  deriving DecidableEq, Repr

/-- The member dies in the order in which a lane visits them (R324, R331). -/
def State.laneDies (s : State) (k : Nat) (d : CollDesc) (lane : Nat) : List Nat :=
  let o := ((List.range 4).map fun i => (laneRing d.rings lane + i) % 4).filter fun x => (s.memberDies k).contains x
  if laneUp lane then o else o.reverse

/-- This package's seat for a block. -/
def State.seat (s : State) (n : Nat) (c : Coll) (lane : Nat) (b : Block) : Seat :=
  let k := s.ctxPart n
  let dies := s.memberDies k
  let r := laneRing c.desc.rings lane
  let place := b.rank / Nat.max 1 dies.length
  let before := fun (l : Nat) => SMap.get (fun _ => 0) c.before l
  let ring := c.desc.seglen == 0
  { own := place == s.groupPos k c.desc.ring0 c.desc.seglen
    prev := ring && place == before lane
    next := ring && place == before (Nat.xor lane 1)
    after := if ring then
        ((s.laneDies k c.desc lane).dropWhile fun x => x != dies.getD (b.rank % Nat.max 1 dies.length) 4).drop 1
      else []
    ring := ring
    up := laneUp lane
    low := (s.stepPort k r c.desc.seglen false).isNone
    high := (s.stepPort k r c.desc.seglen true).isNone }

/-- The ways on which this package sends a block's codes or partials first: after the owner on a ring, from both ends of a
segment. -/
def Seat.begins (x : Seat) : List Bool :=
  if x.ring then (if (x.own && !x.after.isEmpty) || (x.prev && x.after.isEmpty) then [x.up] else [])
  else if x.own then [] else (if x.low then [true] else []) ++ (if x.high then [false] else [])

/-- The ways on which the owner of a block sends what is spread. -/
def Seat.spreads (x : Seat) : List Bool :=
  if x.ring then [x.up] else (if x.high then [] else [true]) ++ (if x.low then [] else [false])

/-- How many times codes or partials of a block arrive here. -/
def Seat.inward (x : Seat) : Nat :=
  if x.ring then (if x.prev && x.after.isEmpty && !x.own then 0 else 1)
  else if x.own then 2 - b2n x.low - b2n x.high else 1 - b2n (x.low || x.high)

/-- How many times what is spread arrives here. -/
def Seat.outward (x : Seat) : Nat := b2n (!x.own)

/-- Whether what is spread goes on from here. -/
def Seat.passes (x : Seat) (up : Bool) : Bool := if x.ring then !x.next else if up then !x.high else !x.low

/-- Whether a message travels toward its block's owner. -/
def phaseInward : CollPhase → Bool
  | .code | .partial_ => true
  | .spread | .result => false

/-- Whether a collective has a phase (R340, R343, R346). -/
def CollDesc.has (d : CollDesc) : CollPhase → Bool
  | .code | .spread => d.op == 1
  | .partial_ => d.op != 0
  | .result => d.kind != 2

/-- How many elements of a block this package must receive. -/
def CollDesc.awaited (d : CollDesc) (x : Seat) : Nat :=
  x.inward * (b2n (d.has .code) + b2n (d.has .partial_)) + x.outward * (b2n (d.has .spread) + b2n (d.has .result))

/-! ### Messages (R343, Table 12.4) -/

/-- The bytes of an element on the wire. -/
def CollDesc.width (d : CollDesc) : CollPhase → Nat
  | .code | .spread => 1
  | .partial_ => if d.op = 1 then 5 else 4
  | .result => 4

/-- The number of a phase on the wire. -/
def phaseNum : CollPhase → Nat
  | .code => 0
  | .spread => 1
  | .partial_ => 2
  | .result => 3

/-- The phase with a number. -/
def collPhase (v : Nat) : CollPhase :=
  match v with
  | 0 => .code
  | 1 => .spread
  | 2 => .partial_
  | _ => .result

/-- A message of the data phase on a link: DADDR is the low half of the generation, AUX holds the first element, lane, phase
and flags, the payload the elements (assumption 16). -/
def decodeCollMsg (daddr aux : Nat) (payload : List Byte) : CollMsg :=
  { gen := daddr, lane := Fin.ofNat 6 (bitsAt aux 48 3), phase := collPhase (bitsAt aux 51 2), first := bitsAt aux 0 48,
    flags := BitVec.ofNat 4 (bitsAt aux 53 4), data := payload }

/-- The elements of a message. -/
def CollDesc.elems (d : CollDesc) (m : CollMsg) : List Nat :=
  let w := d.width m.phase
  (List.range (m.data.length / w)).map fun i => fieldAt m.data (w * i) w

/-- Send elements of a block one package on, in messages of at most 4,096 B (R317). -/
def State.collSend (s : State) (n : Nat) (c : Coll) (lane : Nat) (up : Bool) (ph : CollPhase) (first : Nat) (fl : FFlags)
    (v : List Nat) : State :=
  let w := c.desc.width ph
  let per := 4096 / w
  match s.coll n c.gen, s.stepPort (s.ctxPart n) (laneRing c.desc.rings lane) c.desc.seglen up with
  | some _, some p =>
    (List.range ((v.length + per - 1) / per)).foldl (fun s i =>
      let aux := (first + i * per) % 2 ^ 48 + 2 ^ 48 * lane + 2 ^ 51 * phaseNum ph + 2 ^ 53 * fl.toNat
      s.sendHop n p Kind.coll (c.gen % 2 ^ 32) aux (((v.drop (i * per)).take per).flatMap (leBytes w))) s
  | _, _ => s

/-! ### Elements of this package's members (R333) -/

/-- Read words of context memory one by one. -/
def State.readWords (s : State) (n : Nat) : List Nat → Except (Nat × Nat) (List Word32)
  | [] => .ok []
  | va :: l =>
    match s.readVirt n va 4 with
    | .fail c a => .error (c, a)
    | .ok b => match s.readWords n l with
      | .ok r => .ok (BitVec.ofNat 32 (leNat b) :: r)
      | .error e => .error e

/-- Read several lists of words of context memory. -/
def State.readLists (s : State) (n : Nat) : List (List Nat) → Except (Nat × Nat) (List (List Word32))
  | [] => .ok []
  | x :: l =>
    match s.readWords n x with
    | .error e => .error e
    | .ok v => match s.readLists n l with
      | .ok r => .ok (v :: r)
      | .error e => .error e

/-- Where member dies hold what they contribute to element e of the combined vector: every slot of each; for ALL_GATHER and
BROADCAST the one die of the owner, whose own elements begin at `base`. -/
def CollDesc.sources (d : CollDesc) (dies : List Nat) (base e : Nat) : List Nat :=
  dies.flatMap fun die =>
    let src := d.src.getD die 0
    if d.op = 0 then [src + 4 * (e - base)]
    else (List.range (if d.op = 1 then d.nslot else 1)).map fun j => src + j * d.stride + 4 * e

/-- Do something with what dies contribute to elements [first, first + len); a line that does not read resets the context
(R349). -/
def State.withContribs (s : State) (n : Nat) (c : Coll) (dies : List Nat) (base first len : Nat)
    (f : List (List Word32) → State) : State :=
  match s.coll n c.gen with
  | none => s
  | some _ =>
    match s.readLists n ((List.range len).map fun i => c.desc.sources dies base (first + i)) with
    | .error (code, va) => s.unitFault n code va
    | .ok xs => f xs

/-- Write the part of a block that each of these member dies receives (R333). -/
def State.collWrites (s : State) (n : Nat) (d : CollDesc) (first : Nat) (v : List Word32) : List (Nat × Nat) → VWrite
  | [] => ⟨s, none⟩
  | (die, rank) :: l =>
    let lo := if d.kind = 2 then rank * d.count else 0
    let w := s.writeVirt n (d.dst.getD die 0 + 4 * (first - lo)) (v.flatMap fun x => leBytes 4 x.toNat)
    match w.fail with
    | some _ => w
    | none => State.collWrites w.s n d first v l

/-- Elements of a block with their flags have reached this package's members: each member that receives them has them
written (R333, R344). -/
def State.collDeliver (s : State) (n : Nat) (c : Coll) (b : Block) (first : Nat) (fl : FFlags) (v : List Word32) : State :=
  match s.coll n c.gen with
  | none => s
  | some _ =>
    let dies := (s.collLocal (s.ctxPart n) c.desc).filter fun p => c.desc.kind != 2 || p.2 == b.rank
    let w := s.collWrites n c.desc first v dies
    match w.fail with
    | some (code, va) => w.s.unitFault n code va
    | none => w.s.modColl n c.gen fun x => { x with flags := x.flags ||| fl }

/-! ### The steps of a block (R347) -/

/-- The member dies of this package that take part in a step: those after the owner where the owner's package begins, the
others where the block ends there, else all. -/
def State.stepDies (s : State) (n : Nat) (x : Seat) (start : Bool) : List Nat :=
  (s.memberDies (s.ctxPart n)).filter fun d => !x.own || x.after.contains d == start

/-- Take this package's contributions into elements that came, or begin with them, and send them on toward the owner. -/
def State.collOnward (s : State) (n : Nat) (c : Coll) (lane : Nat) (up : Bool) (ph : CollPhase) (first : Nat) (fl : FFlags)
    (dies : List Nat) (v : List (Option Nat)) : State :=
  s.withContribs n c dies 0 first v.length fun xs =>
    let r := (v.zip xs).map fun p => c.desc.fold ph p.1 p.2
    s.collSend n c lane up ph first (fl ||| FFlags.when (r.any (·.2)) FFlags.inexact) (r.map (·.1))

/-- Begin the sum phase of elements whose codes this package holds (R341). -/
def State.collSums (s : State) (n : Nat) (c : Coll) (lane : Nat) (x : Seat) (first : Nat) (codes : List Nat) : State :=
  x.begins.foldl (fun s up =>
    s.collOnward n c lane up .partial_ first 0#4 (s.stepDies n x true) (codes.map fun v => some (PartSum.none v).bits)) s

/-- Send elements away from their owner. -/
def State.collSpread (s : State) (n : Nat) (c : Coll) (lane : Nat) (x : Seat) (ph : CollPhase) (first : Nat) (fl : FFlags)
    (v : List Nat) : State :=
  x.spreads.foldl (fun s up => s.collSend n c lane up ph first fl v) s

/-- The owner's package has the results of elements: they are written, and sent on where every member receives them. -/
def State.collResult (s : State) (n : Nat) (c : Coll) (lane : Nat) (b : Block) (x : Seat) (first : Nat) (fl : FFlags)
    (v : List Word32) : State :=
  let s1 := s.collDeliver n c b first fl v
  if c.desc.has .result then s1.collSpread n c lane x .result first fl (v.map BitVec.toNat) else s1

/-- Codes or partials have all reached the owner's package: it takes its other members' contributions, and spreads the
codes, or rounds the sums (R340, R341). -/
def State.collArrived (s : State) (n : Nat) (c : Coll) (lane : Nat) (b : Block) (x : Seat) (ph : CollPhase) (first : Nat)
    (fl : FFlags) (v : List Nat) : State :=
  s.withContribs n c (s.stepDies n x false) 0 first v.length fun xs =>
    let r := (v.zip xs).map fun p => c.desc.fold ph (some p.1) p.2
    if ph = .code then
      (s.collSpread n c lane x .spread first 0#4 (r.map (·.1))).collSums n c lane x first (r.map (·.1))
    else
      let z := r.map fun p => c.desc.finish p.1
      s.collResult n c lane b x first (fl ||| FFlags.when (r.any (·.2)) FFlags.inexact ||| FFlags.all (z.map (·.2)))
        (z.map (·.1))

/-- What a message of a block does here (R343, R346, R347). -/
def State.collTake (s : State) (n : Nat) (c : Coll) (b : Block) (up : Bool) (m : CollMsg) : State :=
  let lane := m.lane.val
  let x := s.seat n c lane b
  let v := c.desc.elems m
  match m.phase with
  | .spread =>
    (if x.passes up then s.collSend n c lane up .spread m.first m.flags v else s).collSums n c lane x m.first v
  | .result =>
    let s1 := s.collDeliver n c b m.first m.flags (v.map (BitVec.ofNat 32))
    if x.passes up then s1.collSend n c lane up .result m.first m.flags v else s1
  | ph =>
    if !x.own then s.collOnward n c lane up ph m.first m.flags (s.stepDies n x false) (v.map some)
    else if x.inward = 1 then s.collArrived n c lane b x ph m.first m.flags v
    else match c.halves.find? fun h => h.phase == ph && h.first == m.first with
      | none => s.modColl n c.gen fun y => { y with halves := y.halves ++ [m] }
      | some h =>
        (s.modColl n c.gen fun y => { y with halves := y.halves.filter fun z => z != h }).collArrived n c lane b x ph
          m.first (m.flags ||| h.flags) ((v.zip (c.desc.elems h)).map fun p => c.desc.merge ph p.1 p.2)

/-- Begin a block: its codes or partials leave the packages that come first; what its owner alone supplies leaves there
(R347). -/
def State.collBegin (s : State) (n : Nat) (c : Coll) (lane : Nat) (b : Block) : State :=
  let x := s.seat n c lane b
  if c.desc.op = 0 then
    let dies := s.memberDies (s.ctxPart n)
    let base := if c.desc.kind = 3 then b.rank * c.desc.count else 0
    if x.own then
      s.withContribs n c [dies.getD (b.rank % Nat.max 1 dies.length) 4] base b.first b.len fun xs =>
        s.collResult n c lane b x b.first 0#4 (xs.map fun l => l.headD 0#32)
    else s
  else
    let ph : CollPhase := if c.desc.op = 1 then .code else .partial_
    x.begins.foldl (fun s up =>
      s.collOnward n c lane up ph b.first 0#4 (s.stepDies n x true) (List.replicate b.len none)) s

/-! ### The chunks of a lane (R347, R348) -/

/-- The blocks of the chunk in progress on a lane; none where the lane has moved its last. -/
def State.laneBlocks (s : State) (n : Nat) (c : Coll) (lane : Nat) : List Block :=
  let members := s.collMembers (s.ctxPart n) c.desc
  let t := SMap.get (fun _ => 0) c.chunk lane
  if Nat.blt t (c.desc.chunks members lane) then c.desc.blocks members lane t else []

/-- The block of a list that holds an element. -/
def blockAt (l : List Block) (e : Nat) : Option Block := l.find? fun b => Nat.ble b.first e && Nat.blt e (b.first + b.len)

/-- A message that this package awaits takes effect once: one whose elements lie in a block of the chunk in progress, on the
way of its lane, and have not come on it before. -/
def State.collStep (s : State) (n gen : Nat) (up : Bool) (m : CollMsg) : State :=
  match s.coll n gen with
  | none => s
  | some c =>
    match blockAt (s.laneBlocks n c m.lane.val) m.first with
    | none => s
    | some b =>
      let x := s.seat n c m.lane.val b
      let len := (c.desc.elems m).length
      let came := c.recv.any fun p =>
        p.phase == m.phase && p.up == up && Nat.blt p.first (m.first + len) && Nat.blt m.first (p.first + p.len)
      if !c.desc.has m.phase || (x.ring && up != x.up) || (if phaseInward m.phase then x.inward = 0 else x.outward = 0) ||
          len = 0 || Nat.blt (b.first + b.len) (m.first + len) || came then s
      else
        let p : CollPiece := { phase := m.phase, up := up, first := m.first, len := len }
        (s.modColl n gen fun y => { y with recv := y.recv ++ [p] }).collTake n c b up m

/-- Begin the chunk in progress on a lane: its blocks begin, and messages that came before it take effect. -/
def State.openChunk (s : State) (n gen lane : Nat) : State :=
  match s.coll n gen with
  | none => s
  | some c =>
    let l := s.laneBlocks n c lane
    let mine := fun (p : Bool × CollMsg) => p.2.lane.val == lane && (blockAt l p.2.first).isSome
    let s1 := s.modColl n gen fun y => { y with inbox := y.inbox.filter fun p => !mine p }
    let s2 := l.foldl (fun s b => s.collBegin n c lane b) s1
    (c.inbox.filter mine).foldl (fun s p => s.collStep n gen p.1 p.2) s2

/-- Whether every element of the chunk in progress has come that this package awaits. -/
def State.chunkDone (s : State) (n : Nat) (c : Coll) (lane : Nat) : Bool :=
  let l := s.laneBlocks n c lane
  let want := l.foldl (fun a b => a + b.len * c.desc.awaited (s.seat n c lane b)) 0
  want == (c.recv.filter fun p => (blockAt l p.first).isSome).foldl (fun a p => a + p.len) 0

/-- Go on to the next chunk of a lane while the one in progress is done. -/
def State.nextChunks (s : State) (n gen lane : Nat) : Nat → State
  | 0 => s
  | fuel + 1 =>
    match s.coll n gen with
    | none => s
    | some c =>
      let l := s.laneBlocks n c lane
      if l.isEmpty || !s.chunkDone n c lane then s
      else
        let s1 := s.modColl n gen fun y => { y with
          chunk := SMap.set (fun _ => 0) y.chunk lane (SMap.get (fun _ => 0) y.chunk lane + 1)
          recv := y.recv.filter fun p => (blockAt l p.first).isNone }
        State.nextChunks (s1.openChunk n gen lane) n gen lane fuel

/-- The collective's last step is past when every lane has moved its last chunk: it gives its buffers back (R348). -/
def State.lastStep (s : State) (n gen : Nat) : State :=
  match s.coll n gen with
  | none => s
  | some c =>
    if c.stage = .data && (List.range c.desc.laneCount).all fun l => (s.laneBlocks n c l).isEmpty then
      (s.freeBuffers c).modColl n gen fun y => { y with stage := .moved }
    else s

/-- Advance the lanes of a collective as far as what has come allows. -/
def State.collAdvance (s : State) (n gen : Nat) (lanes : List Nat) : State :=
  (lanes.foldl (fun s l =>
    match s.coll n gen with
    | some c => s.nextChunks n gen l (c.desc.chunks (s.collMembers (s.ctxPart n) c.desc) l)
    | none => s) s).lastStep n gen

/-- A collective of a ring of one package is performed by the engine itself (R331). -/
def State.collAlone (s : State) (n gen : Nat) : State :=
  match s.coll n gen with
  | none => s
  | some c =>
    let d := c.desc
    let dies := s.memberDies (s.ctxPart n)
    let owned := fun (rank : Nat) => [dies.getD (rank % Nat.max 1 dies.length) 4]
    let whole : List Block := if d.perRank then (List.range dies.length).map fun r =>
        { rank := r, first := r * d.count, len := d.count }
      else [{ rank := d.root, first := 0, len := d.count }]
    let s1 := whole.foldl (fun s b =>
      s.withContribs n c (if d.op = 0 then owned b.rank else dies) (if d.kind = 3 then b.first else 0) b.first b.len
        fun xs =>
          let r := xs.map d.combine
          s.collDeliver n c b b.first (FFlags.all (r.map (·.2))) (r.map (·.1))) s
    match s1.coll n gen with
    | some _ => (s1.freeBuffers c).modColl n gen fun y => { y with stage := .moved }
    | none => s1

/-- The data phase begins (R348). -/
def State.collStart (s : State) (n gen : Nat) : State :=
  match s.coll n gen with
  | none => s
  | some c =>
    if s.collPkgs (s.ctxPart n) c.desc = 1 then s.collAlone n gen
    else
      let lanes := List.range c.desc.laneCount
      (lanes.foldl (fun s l => s.openChunk n gen l) s).collAdvance n gen lanes

/-- A message of the data phase arrives (R347): it takes effect in the chunk in progress on its lane, or waits for its chunk.
The way it moves is known by the port it came on; one on another port, or for a lane that the collective has not, is
lost. -/
def State.takeColl (s : State) (port : Fin 6) (h : MsgHeader) (m : CollMsg) : State :=
  s.admitColl h Kind.coll fun n s =>
    let k := s.ctxPart n
    match (s.ctx n).colls.find? fun c => c.gen % 2 ^ 32 == m.gen % 2 ^ 32 && !c.ended with
    | none => s
    | some c =>
      let r := laneRing c.desc.rings m.lane.val
      let ways := [true, false].filter fun up =>
        Nat.blt m.lane.val c.desc.laneCount && s.stepPort k r c.desc.seglen (!up) == some port.val
      match if c.desc.seglen = 0 then ways.filter (· == laneUp m.lane.val) else ways with
      | [] => s
      | up :: _ =>
        if c.stage = .data && (blockAt (s.laneBlocks n c m.lane.val) m.first).isSome then
          (s.collStep n c.gen up m).collAdvance n c.gen [m.lane.val]
        else s.modColl n c.gen fun y => { y with inbox := y.inbox ++ [(up, m)] }

end Sys2Proof.Machine
end

