-- ==== Sys2Proof/Machine/ExecCollective.lean ====
section
/-!
DEFINITION. The commands of the reduction engine (R332 to R349) and the collective watchdog (R379).
-/

namespace Sys2Proof.Machine

open Sys2Proof

/-- Whether the reduction engine may read the next descriptor of a context (R332, R348). -/
def State.collMayIssue (s : State) (n : Nat) : Bool :=
  s.ctxValid n && (s.ctx n).resetting.isNone && !(s.part (s.ctxPart n)).resetting && !s.rel.creset && s.mem.served &&
    s.entBit (Ent.collDoorbell n) 31 && s.ent (Ent.collQueue n) != 0 && Nat.blt (s.ctx n).colls.length 4 &&
    (match s.syncKey (s.ctxPart n) (s.entBits (Ent.collDoorbell n) 0 18) with
      | some key => Nat.blt (s.ent (Ent.collDbBase n) + s.ent (Ent.collIssued n)) (s.word key).value
      | none => false)

/-- A collective of context n that has just been issued. -/
def Coll.issued (gen addr : Nat) (d : CollDesc) : Coll :=
  { gen := gen, addr := addr, desc := d, stage := .opening, lanes := [], before := [], inbox := [], recv := [], halves := [],
    chunk := [], flags := 0#4 }

/-- The opening lap of a collective (R335, R337): an invalid descriptor completes locally and tells the others; one that
another member has aborted before it was issued completes so; a ring of one package confirms by itself (R331). -/
def State.openColl (s : State) (n gen : Nat) (d : CollDesc) : State :=
  let k := s.ctxPart n
  let gone := (s.ctx n).aborted.find? fun p => p.1 == gen
  let s1 := s.modCtx n fun x => { x with aborted := x.aborted.filter fun p => p.1 != gen }
  if !s1.collValid k d then s1.abortColl n gen 5
  else match gone with
    | some p => s1.endColl n gen (if p.2 then 1 else 2)
    | none =>
      if s1.collPkgs k d = 1 then
        if d.op == 1 && s1.ownSlots n d != d.stotal then s1.abortColl n gen 1 else s1.confirmColl n gen
      else
        ((List.range d.laneCount).foldl (fun s l => s.sendToken n d (s.ownToken n gen d l)) s1).meetHeld n gen

/-- COLLECTIVE_ISSUE (R332, R335 to R337): the next descriptor is read and checked, and its opening tokens leave. -/
def execCollectiveIssue (n : Fin 64) (s : State) : Res :=
  let gen := s.ent (Ent.collIssued n)
  let addr := s.ent (Ent.collQueue n) + 128 * (gen % s.ent (Ent.collQsize n))
  .next (if !s.collMayIssue n then s
    else match s.readVirt n addr 128 with
      | .fail code va => s.unitFault n code va
      | .ok b =>
        let d := decodeColl b
        ((s.modCtx n fun x => { x with colls := x.colls ++ [Coll.issued gen addr d] }).bump (Ent.collIssued n)).openColl n
          gen d)

/-- OPENING_TOKEN (R337 to R339). -/
def execOpeningToken (port : Fin 6) (h : MsgHeader) (t : OpenToken) (s : State) : Res := .next (s.takeOpen port h t)

/-- ABORT_TOKEN (R338, R349). -/
def execAbortToken (_port : Fin 6) (h : MsgHeader) (t : AbortToken) (s : State) : Res := .next (s.takeAbort h t)

/-- COLL_DATA_PHASE_START (R348): the first collective in the order of confirmation takes 2 buffers for each lane and its
first chunks begin. -/
def execCollDataPhaseStart (n : Fin 64) (gen : Nat) (s : State) : Res :=
  .next (match s.coll n gen, s.links.order with
    | some c, o :: l =>
      let need := 2 * c.desc.laneCount
      if o != (n.val, gen) || c.stage ≠ .confirmed || Nat.blt (s.ent Ent.rsramFree) need || !s.mem.served then s
      else
        let s1 : State := { s with links := { s.links with order := l } }
        ((s1.setEnt Ent.rsramFree (s.ent Ent.rsramFree - need)).modColl n gen fun x =>
          { x with stage := .data }).collStart n gen
    | _, _ => s)

/-- COLL_MESSAGE (R333, R340 to R347). -/
def execCollMessage (port : Fin 6) (h : MsgHeader) (m : CollMsg) (s : State) : Res := .next (s.takeColl port h m)

/-- COLL_COMPLETE (R334, R344): the oldest collective, ended or past its last step, writes STATUS, FLAGS and GEN and posts
DONEWORD. -/
def execCollComplete (n : Fin 64) (s : State) : Res :=
  .next (match (s.ctx n).colls with
    | [] => s
    | c :: l =>
      let status : Option Nat := match c.stage with
        | .ended st => some st
        | .moved => some 0
        | _ => none
      match status with
      | none => s
      | some st =>
        if !s.mem.served then s
        else
          let w := (s.modCtx n fun x => { x with colls := l }).writeVirt n (c.addr + 112)
            ([BitVec.ofNat 8 st, c.flags.setWidth 8] ++ List.replicate 6 0#8 ++ leBytes 8 c.gen)
          match w.fail with
          | some (code, va) => w.s.unitFault n code va
          | none =>
            let s3 := w.s.setEnt (Ent.collFlags n) (Nat.lor (w.s.ent (Ent.collFlags n)) c.flags.toNat)
            let s4 := if st = 0 then s3 else s3.bump (Ent.collFails n)
            if c.desc.done.testBit 31 then s4.postTo (s4.ctxPart n) (bitsAt c.desc.done 0 18) 1 else s4)

/-- COLL_STALL (R379, R382): the collective ends with COLL_TIMEOUT and ABORT tokens, and the policy acts. Source 4, whose
scope is the partition. -/
def execCollStall (n : Fin 64) (gen : Nat) (s : State) : Res :=
  .next (match s.coll n gen with
    | some c =>
      if c.ended || s.scopeResetting n then s
      else ((s.abortColl n gen 3).logCtx Code.collStall n [gen]).escalate 4 (s.ctxPart n) n Code.collStall none
    | none => s)

end Sys2Proof.Machine
end

