-- ==== Sys2Proof/Machine/Links.lean ====
section
/-!
DEFINITION. Ports as their events change them (R307 to R314), messages as they reach this package (R319, R323), ring checks
(R325), and global time (R326, R327).
-/

namespace Sys2Proof.Machine

open Sys2Proof

/-! ### Ports -/

/-- The state of a port that has a link: UP with every lane, DEGRADED with fewer. -/
def Port.linked (x : Port) : Port := { x with state := if x.txDrop = 0#16 && x.rxDrop = 0#16 then 3 else 4 }

/-- A message held here comes to nothing with its port (R313, R231). -/
def State.loseMsg (s : State) (m : Msg) : State :=
  let s1 := s.failMsg m
  if m.kind = Kind.refillReq && m.h.scoord.toNat == s.ent Ent.pkgCoord then s1.refillRefused m.h.msgid.toNat Ack.linkDown
  else s1

/-- Complete with LINK_DOWN every message in a port's replay buffer and every one not yet sent (R313). -/
def State.failPort (s : State) (p : Nat) : State :=
  let x := s.port p
  x.held.foldl State.loseMsg (s.setPort p { x with replay := [], queue := [], rx := [], owed := [], discard := false,
                                                   retrain := false, check := [], askRun := 0, reqRun := 0 })

/-- A port goes DOWN (R312, R313, R349): PORT_ENABLE clears, its messages complete with LINK_DOWN, the change is
recorded with its cause (1: AUTH) and alerted, and collectives on it abort. -/
def State.downPort (s : State) (p cause : Nat) : State :=
  let s1 := (s.modPort p fun x => { x with state := 6 }).setEnt (Ent.portEnable p) 0
  (((s1.failPort p).log Code.portState [p, 6, cause]).alert 1).abortOnPort p

/-- A port is found MISCABLED (R312, R313). -/
def State.miscablePort (s : State) (p : Nat) : State :=
  (((s.modPort p fun x => { x with state := 5 }).failPort p).log Code.portState [p, 5, 0]).alert 1

/-- Whether the SerDes of the package run: from S on, while the links are not held in electrical idle (R396). -/
def State.linksRun (s : State) : Bool :=
  !s.plat.idle && (match s.plat.stage with
    | .off | .booted | .recovery => false
    | _ => true)

/-- Write PORT_ENABLE (R312): 1 lets a DISABLED, DOWN or MISCABLED port train anew; 0 disables a port. -/
def State.setPortEnable (s : State) (p v : Nat) : State :=
  let st := (s.port p).state
  let s1 := s.setEnt (Ent.portEnable p) v
  if v = 0 then
    if st = 0 then s1 else ((s1.modPort p fun x => { x with state := 0 }).failPort p).abortOnPort p
  else if s.linksRun && (st == 0 || st == 5 || st == 6) then s1.modPort p fun x => { x with state := 1 }
  else s1

/-- A port has trained (R312): the two ends exchange control flits with their PKG_COORD, the first flit of each direction
(assumption 16). -/
def State.reportCoord (s : State) (p : Nat) : State :=
  let f : TxFlit := { seq := 0, kind := 3, vc := 0, id := (s.port p).nextId, msg := none,
                      payload := leBytes 2 (s.ent Ent.pkgCoord) ++ List.replicate 238 0#8 }
  (s.sendSequenced p f).modPort p fun x => { x with rxSeq := 1, nextId := x.nextId + 1 }

/-- A replay request (R308): counted and resent; the eighth in succession for one SEQ retrains the port. -/
def State.replayFrom (s : State) (p seq : Nat) : State :=
  let x := s.port p
  let run := if x.reqRun != 0 && x.reqSeq == seq then x.reqRun + 1 else 1
  let s1 := (s.setPort p { x with reqSeq := seq, reqRun := run }).bump (Ent.linkReplays p)
  if Nat.ble 8 run then s1.modPort p fun x => { x with retrain := true } else s1.resend p seq

/-! ### Ring checks (R325) -/

/-- Set the two status bits of a ring: 1 checking, 2 OK, 3 BAD. -/
def State.setRingStatus (s : State) (k r v : Nat) : State := s.setEntBits (Ent.ringStatus k) (2 * r) 2 v

/-- Whether a check of a ring runs. -/
def State.ringChecking (s : State) (k r : Nat) : Bool := s.links.checks.contains (k, r)

/-- End a check. -/
def State.endCheck (s : State) (k r v : Nat) : State :=
  State.setRingStatus { s with links := { s.links with checks := s.links.checks.filter fun c => c != (k, r) } } k r v

/-- Send a ring token on OUT_PORT to the neighbour there: DADDR names the kind and the ring, AUX this package's POSITION
(assumption 16). -/
def State.sendRingToken (s : State) (k r : Nat) : State :=
  let p := s.ringOut k r
  let h : MsgHeader :=
    { status := 0, length := 0, dcoord := BitVec.ofNat 16 (s.neighbour p), dpart := BitVec.ofNat 8 k, dctx := 0, tag := 0,
      sctx := 0, scoord := BitVec.ofNat 16 (s.ent Ent.pkgCoord), spart := BitVec.ofNat 8 k, score := 0, msgid := 0,
      daddr := BitVec.ofNat 32 (Token.check + 256 * r), aux := BitVec.ofNat 64 (s.ringPos k r) }
  (s.transmit p (s.linkVc k p Kind.token) { kind := Kind.token, h := h, payload := [] }).2

/-- Start the check of a ring at the package of position 0; a ring of one package uses no port and is as configured. -/
def State.startCheck (s : State) (k r : Nat) : State :=
  if !s.ringValid k r || s.ringPos k r != 0 then s
  else if s.ringLen k r = 1 then s.endCheck k r 2
  else
    let s1 := s.endCheck k r 1
    State.sendRingToken { s1 with links := { s1.links with checks := s1.links.checks ++ [(k, r)] } } k r

/-- A ring token arrives (R325): the arrival port and the predecessor's position are compared with RING_CFG; a mismatch is
recorded and goes no further; the token that returns to position 0 ends the check. -/
def State.takeRingToken (s : State) (k r inPort position : Nat) : State :=
  let own := s.ringPos k r
  if !s.partDefined k then s
  else if !s.ringValid k r || inPort ≠ s.ringIn k r || (position + 1) % Nat.max 1 (s.ringLen k r) ≠ own then
    s.logPart Code.ringMismatch k [r, inPort, position]
  else if own = 0 then (if s.ringChecking k r then s.endCheck k r 2 else s)
  else s.sendRingToken k r

/-! ### Global time (R326, R327) -/

/-- The upstream port of a package that is not the master; none for the master. -/
def State.upstream (s : State) : Option Nat :=
  if s.entBit Ent.gtCtl 0 then none else some (s.entBits Ent.gtCtl 1 3)

/-- Whether the upstream port carries TIME messages. -/
def State.upstreamUp (s : State) : Bool :=
  match s.upstream with
  | some p => Nat.blt p 6 && (s.port p).up
  | none => false

/-- Send a TIME message to the neighbour of a port: AUX is the count of the question, and an answer's payload its other two
counts (assumption 16). -/
def State.sendTime (s : State) (p : Nat) (t : TimeMsg) : State :=
  let r : Nat × List Byte := match t with
    | .ask t1 => (t1, [])
    | .reply t1 t2 t3 => (t1, leBytes 8 t2 ++ leBytes 8 t3)
  let h : MsgHeader :=
    { status := 0, length := BitVec.ofNat 16 r.2.length, dcoord := BitVec.ofNat 16 (s.neighbour p), dpart := 0, dctx := 0,
      tag := 0, sctx := 0, scoord := BitVec.ofNat 16 (s.ent Ent.pkgCoord), spart := 0, score := 0, msgid := 0, daddr := 0,
      aux := BitVec.ofNat 64 r.1 }
  (s.transmit p 0 { kind := Kind.time, h := h, payload := r.2 }).2

/-- A TIME message from its AUX and payload. -/
def decodeTime (aux : Nat) (b : List Byte) : TimeMsg :=
  if b.isEmpty then .ask aux else .reply aux (fieldAt b 0 8) (fieldAt b 8 8)

/-- Step the counter to the upstream value (R327): forward at once, backward by holding the count; counted and
recorded. -/
def State.stepTime (s : State) (up : Nat) : State :=
  let g : GTime := if Nat.blt up s.gtime.count then { s.gtime with hold := some up, locked := true }
    else { s.gtime with count := up, hold := none, locked := true }
  ((State.bump { s with gtime := g } Ent.gtSteps).log Code.gtStep [up]).setEnt Ent.gtLocked 1

/-- Steer the counter (R327): its rate changes, to at most 200 parts per million either way; by how much is free
(assumption 20). -/
def State.steerTime (s : State) : State :=
  let r := s.freeNat
  let rate : Int := (r.1 % 401 : Nat) - (200 : Int)
  State.setEnt { r.2 with gtime := { r.2.gtime with rate := rate } } Ent.gtLocked 1

/-- The upstream neighbour's count now, from the four counts of an exchange: its own as the answer left and half of what
the exchange took on the way. -/
def upstreamCount (t1 t2 t3 t4 : Nat) : Nat :=
  ((t3 : Int) + ((t4 : Int) - t1 - (t3 - t2)) / 2).toNat % 2 ^ 64

/-- A TIME message arrives on a port (R326, R327): a question is answered with this package's count; the answer to this
package's own measures the upstream count. At the first lock, and beyond 1 µs of error, the counter is stepped; otherwise it
is steered. -/
def State.takeTime (s : State) (p : Nat) (t : TimeMsg) : State :=
  match t with
  | .ask t1 => s.sendTime p (.reply t1 s.gtime.count s.gtime.count)
  | .reply t1 t2 t3 =>
    if !s.upstreamUp || s.upstream != some p || s.gtime.asked != some t1 then s
    else
      let up := upstreamCount t1 t2 t3 s.gtime.count
      let err := Nat.max (up - s.gtime.count) (s.gtime.count - up)
      let s1 : State := { s with gtime := { s.gtime with asked := none } }
      if !s.gtime.locked || Nat.blt 1000 err then s1.stepTime up else s1.steerTime

/-! ### Messages for this package -/

/-- An ACK reaches this package (R320): it completes what a core sent; for what a context sent without a core, SCORE names
the TYPE, and an answer other than OK counts in LINK_DROP and refuses a refill request (R231, Table 11.9). -/
def State.takeAckMsg (s : State) (h : MsgHeader) : State :=
  if bitsAt h.score.toNat 0 5 = 31 then
    if h.status.toNat = Ack.ok then s
    else
      let n := h.dctx.toNat
      let s1 := s.linkDrop n ((s.peerNo n h.scoord.toNat h.spart.toNat h.sctx.toNat).getD 0) h.status.toNat
      if bitsAt h.score.toNat 5 6 = Kind.refillReq then s1.refillRefused h.msgid.toNat h.status.toNat else s1
  else s.takeAck h

/-- The lines of a refill answer: bit i of AUX marks line i as poisoned. -/
def refillData (aux : Nat) (b : List Byte) : List (Option (BitVec 512)) :=
  (List.range (b.length / 64)).map fun i => if aux.testBit i then none else some (BitVec.ofNat 512 (fieldAt b (64 * i) 64))

/-- A token from a link (R325, R337, R338). -/
def State.takeToken (s : State) (p : Fin 6) (m : Msg) : State :=
  let a := m.h.daddr.toNat
  if bitsAt a 0 8 = Token.check then s.takeRingToken m.h.dpart.toNat (bitsAt a 8 8 % 3) p m.h.aux.toNat
  else if bitsAt a 0 8 = Token.opening then s.takeOpen p m.h (decodeOpen (bitsAt a 8 8) m.h.aux m.payload)
  else if bitsAt a 0 8 = Token.abort then s.takeAbort m.h (decodeAbort (bitsAt a 8 8) m.payload)
  else s

/-- A message of a type that takes effect whatever port it came on, at the package that it names; one for another package
is passed on (R319, R323). -/
def State.takeMessage (s : State) (got : Msg) : State :=
  let m : Msg := { got with h := got.h.clean }
  let b := m.payload
  if m.h.dcoord.toNat ≠ s.ent Ent.pkgCoord then s.forward m
  else if m.kind = Kind.write || m.kind = Kind.voile then s.takeWrite m
  else if m.kind = Kind.post then s.takePost m.h
  else if m.kind = Kind.ack then s.takeAckMsg m.h
  else if m.kind = Kind.refillReq then
    s.takeRefillReq m.h ((List.range (b.length / 8)).map fun i => fieldAt b (8 * i) 8) m.h.aux.toNat
  else if m.kind = Kind.refillResp then s.takeRefillResp m.h (refillData m.h.aux.toNat b) b.isEmpty
  else if m.kind = Kind.norm then
    if m.h.aux.getLsbD 63 then s.takeDigest m.h (fieldAt b 0 8) (fieldAt b 8 16)
    else s.takeNorm m.h (fieldAt b 0 8) (fieldAt b 8 12) (m.h.aux.getLsbD 62)
  else s

/-- A message from a link: TIME messages, tokens and collective data go one link at a time, and the port they come on
matters. -/
def State.takeFromPort (s : State) (p : Fin 6) (m : Msg) : State :=
  if m.h.dcoord.toNat ≠ s.ent Ent.pkgCoord then s.takeMessage m
  else if m.kind = Kind.time then s.takeTime p (decodeTime m.h.aux.toNat m.payload)
  else if m.kind = Kind.token then s.takeToken p m
  else if m.kind = Kind.coll then s.takeColl p m.h (decodeCollMsg m.h.daddr.toNat m.h.aux.toNat m.payload)
  else s.takeMessage m

/-! ### Flits as they arrive (R307 to R309) -/

/-- Add the payload of a data flit to the message that arrives on its virtual channel; a message begins in a flit of its
own and is complete after its header and LENGTH bytes (R317). It then takes effect, and its flit buffers are free: their
credits return (R309; assumption 98). -/
def State.gatherFlit (s : State) (p : Fin 6) (vc : Nat) (payload : List Byte) : State :=
  let b := SMap.get (fun _ => []) (s.port p).rx vc ++ payload
  let h := decodeHeader b
  if Nat.ble (32 + h.2.length.toNat) b.length then
    ((s.modPort p fun x =>
      { x with rx := SMap.set (fun _ => []) x.rx vc [] }.free vc (b.length / 240)).takeFromPort p
        { kind := h.1, h := h.2, payload := (b.drop 32).take h.2.length.toNat }).returnCredits p
  else s.modPort p fun x => { x with rx := SMap.set (fun _ => []) x.rx vc b }

/-- What the header of a good flit says of the other direction: acknowledged flits leave the replay buffer, and credits
return (R308, R309). -/
def State.flitReturns (s : State) (p ack cvc credits : Nat) : State :=
  let x := s.port p
  (s.setPort p { x with
    replay := x.replay.filter fun f => seqBefore ack f.seq
    credits := SMap.set (fun _ => 1024) x.credits cvc (Nat.min 1024 (x.credit cvc + credits)) }).flushPort p

/-- Ask for the SEQ expected next (R308); the eighth request in succession retrains the port. -/
def State.askReplay (s : State) (p : Nat) : State :=
  let x := s.port p
  let s1 := (s.setPort p { x with discard := true, askRun := x.askRun + 1 }).sendBare p 2 x.rxSeq
  if Nat.ble 8 (x.askRun + 1) then s1.modPort p fun x => { x with retrain := true } else s1

/-- A good data or control flit: accepted where its SEQ is the next expected, otherwise discarded, with a request unless
one is already out (R308). -/
def State.takeFlit (s : State) (p : Fin 6) (flit : List Byte) : State :=
  let h := fieldAt flit 0 8
  let x := s.port p
  if bitsAt h 0 16 ≠ x.rxSeq then (if x.discard then s else s.askReplay p)
  else
    let s1 := s.setPort p { x with rxSeq := (x.rxSeq + 1) % 65536, discard := false, askRun := 0 }
    if bitsAt h 36 3 = 0 && Nat.blt (bitsAt h 32 3) 6 then s1.gatherFlit p (bitsAt h 32 3) ((flit.drop 8).take 240) else s1

end Sys2Proof.Machine
end

