-- ==== Sys2Proof/Machine/ExecLink.lean ====
section
/-!
DEFINITION. The commands of the link ports (R307 to R314, R383), of transport messages (R319, R320, R231), of ring
checks (R325) and of global time (R326, R327).
-/

namespace Sys2Proof.Machine

open Sys2Proof

/-! ### Ports -/

/-- PORT_TRAINING (R312): an enabled port without a link finds its partner's signal. -/
def execPortTraining (port : Fin 6) (s : State) : Res :=
  .next (if s.linksRun && s.ent (Ent.portEnable port) == 1 && (s.port port).state == 1 then
      s.modPort port fun x => { x with state := 2 }
    else s)

/-- PORT_UP (R312, R313, R475): training and the exchange of certificates end; the partner's coordinate is checked, and
what was queued is sent in order. -/
def execPortUp (port : Fin 6) (coord : BitVec 16) (authentic : Bool) (s : State) : Res :=
  .next (if (s.port port).state ≠ 2 then s
    else
      let s1 := s.modPort port fun x => { Port.init with state := 2, queue := x.queue, nextId := x.nextId }
      if !authentic then s1.downPort port 1
      else
        let s2 := (s1.setEnt (Ent.portPartner port) coord.toNat).reportCoord port
        if bitsAt coord.toNat 0 11 ≠ s.neighbour port then s2.miscablePort port
        else (s2.modPort port Port.linked).sendQueued port (s2.port port).waiting)

/-- PORT_DOWN (R312): every lane of a direction has lost its signal, or retraining has failed. -/
def execPortDown (port : Fin 6) (s : State) : Res := .next (if (s.port port).up then s.downPort port 0 else s)

/-- LANE_DROP (R310): recorded and counted; a direction left with fewer than 8 lanes takes the port down. -/
def execLaneDrop (port : Fin 6) (tx : Bool) (lane : Fin 16) (s : State) : Res :=
  let x := s.port port
  let bit := BitVec.ofNat 16 (2 ^ lane.val)
  let x1 : Port := { x with
    txDrop := if tx then x.txDrop ||| bit else x.txDrop
    rxDrop := if tx then x.rxDrop else x.rxDrop ||| bit
    check := x.check.filter fun c => c != (tx, lane.val) }
  .next (if !x.up || (if tx then x.txDrop else x.rxDrop).getLsbD lane.val then s
    else
      let s1 := ((s.setPort port x1.linked).bump (Ent.laneDrops port)).log Code.laneDrop [port, b2n tx, lane]
      if Nat.blt (lanesLeft x1.txDrop) 8 || Nat.blt (lanesLeft x1.rxDrop) 8 then s1.downPort port 0 else s1)

/-- RETRAIN_WINDOW (R311): the dropped lanes of every port with a link train in the background and enter error
checking. -/
def execRetrainWindow (s : State) : Res :=
  .next ((List.range 6).foldl (fun s p =>
    let x := s.port p
    let lanes := fun (tx : Bool) (m : BitVec 16) => (setBits m.toNat 16).map fun l => (tx, l)
    if x.up then s.setPort p { x with check := lanes true x.txDrop ++ lanes false x.rxDrop } else s) s)

/-- LANE_READD (R311): a lane that has passed its second of checking is re-added; one that failed waits for the next
window. -/
def execLaneReadd (port : Fin 6) (tx : Bool) (lane : Fin 16) (passed : Bool) (s : State) : Res :=
  let x := s.port port
  let bit := BitVec.ofNat 16 (2 ^ lane.val)
  let x1 : Port := { x with check := x.check.filter fun c => c != (tx, lane.val) }
  let x2 : Port := if !passed then x1
    else if tx then { x1 with txDrop := x1.txDrop &&& ~~~ bit } else { x1 with rxDrop := x1.rxDrop &&& ~~~ bit }
  .next (if x.up && x.check.contains (tx, lane.val) then s.setPort port x2.linked else s)

/-- FLIT_RECEIVE (R307 to R309, R323): a flit that fails its CRC or its SEQ is discarded and a replay requested; a good
one returns acknowledgements and credits, and its payload is delivered or forwarded. -/
def execFlitReceive (port : Fin 6) (flit : List Byte) (s : State) : Res :=
  let h := fieldAt flit 0 8
  let kind := bitsAt h 36 3
  .next (if !(s.port port).up then s
    else if !flitOk flit then s.askReplay port
    else if Nat.ble 4 kind then s
    else
      let counted := kind = 1 || kind = 2 || bitsAt h 0 16 = (s.port port).rxSeq
      let s1 := s.flitReturns port (bitsAt h 16 16) (bitsAt h 40 3) (if counted then bitsAt h 48 16 else 0)
      match kind with
      | 1 => s1
      | 2 => s1.replayFrom port (bitsAt h 0 16)
      | _ => s1.takeFlit port flit)

/-- REPLAY_REQUEST (R308). -/
def execReplayRequest (port : Fin 6) (seq : BitVec 16) (s : State) : Res :=
  .next (if (s.port port).up then s.replayFrom port seq.toNat else s)

/-- PORT_RETRAIN_COMPLETE (R308, R383): the replay buffer is resent and traffic resumes. -/
def execPortRetrainComplete (port : Fin 6) (s : State) : Res :=
  let x := s.port port
  .next (if !x.up || !x.retrain then s
    else
      let s1 := s.setPort port { x with retrain := false, reqRun := 0, askRun := 0 }
      (x.replay.foldl (fun s f => s.sendFlit port f.kind f.seq f.vc f.payload) s1).flushPort port)

/-- TRAINING_QUEUE_TIMEOUT (R313): the oldest request queued on a training port completes with LINK_DOWN. -/
def execTrainingQueueTimeout (port : Fin 6) (s : State) : Res :=
  let x := s.port port
  .next (match x.state, x.queue with
    | 2, m :: l => (s.setPort port { x with queue := l }).loseMsg m.msg
    | _, _ => s)

/-- CREDIT_STARVED (R379, R383): a flit has waited too long for a credit; the port retrains, and a second trip within
10 s takes it down. -/
def execCreditStarved (port : Fin 6) (vc : Fin 6) (s : State) : Res :=
  let x := s.port port
  let waits := x.queue.any (fun m => m.vc == vc.val) && x.credit vc == 0
  .next (if !x.up || x.retrain || !waits then s
    else
      let s1 := s.log Code.creditStarved [port, vc]
      let again := match SMap.get (fun _ => none) s.rel.starved port.val with
        | some t => Nat.ble s.now (t + 10000000000)
        | none => false
      let s2 : State := { s1 with rel := { s1.rel with
        starved := SMap.set (fun _ => none) s1.rel.starved port.val (some s.now) } }
      if again then s2.downPort port 0 else s2.modPort port fun x => { x with retrain := true })

/-! ### Messages -/

/-- WRITE_MESSAGE (R319, R158). -/
def execWriteMessage (h : MsgHeader) (payload : List Byte) (s : State) : Res :=
  .next (s.takeMessage { kind := Kind.write, h := h, payload := payload })

/-- VOILE_MESSAGE (R319, R171). -/
def execVoileMessage (h : MsgHeader) (payload : List Byte) (s : State) : Res :=
  .next (s.takeMessage { kind := Kind.voile, h := h, payload := payload })

/-- POST_MESSAGE (R190, R319). -/
def execPostMessage (h : MsgHeader) (s : State) : Res :=
  .next (s.takeMessage { kind := Kind.post, h := h, payload := [] })

/-- ACK_MESSAGE (R320). -/
def execAckMessage (h : MsgHeader) (s : State) : Res := .next (s.takeMessage { kind := Kind.ack, h := h, payload := [] })

/-- ACK_TIMEOUT (R320): a message without an ACK for 1 ms completes with LINK_DOWN. -/
def execAckTimeout (c : CoreId) (msgid : BitVec 32) (s : State) : Res :=
  .next (match s.findSent (coreKey c) msgid.toNat with
    | some e => s.completeSent e Ack.linkDown 0
    | none => s)

/-- REFILL_REQ_MESSAGE (R231): answered with the lines, their poison marks, or NOT_NOW. -/
def execRefillReqMessage (h0 : MsgHeader) (lines : List Nat) (step : Nat) (s : State) : Res :=
  let h := h0.clean
  .next (if h.dcoord.toNat = s.ent Ent.pkgCoord then s.takeRefillReq h lines step
    else s.forward { kind := Kind.refillReq, h := { h with aux := BitVec.ofNat 64 step },
                     payload := lines.flatMap fun a => leBytes 8 a })

/-- REFILL_RESP_MESSAGE (R231, R392): lines that arrive are written whole and lose their poison; a line the peer reads as
poisoned, or a third refusal, counts as a failure. -/
def execRefillRespMessage (h0 : MsgHeader) (lines : List (Option (BitVec 512))) (notNow : Bool) (s : State) : Res :=
  let h := h0.clean
  .next (if h.dcoord.toNat ≠ s.ent Ent.pkgCoord then
      s.forward { kind := Kind.refillResp, h := h, payload := lines.flatMap fun l => leBytes 64 (l.getD 0#512).toNat }
    else s.takeRefillResp h lines notNow)

/-! ### Ring checks and global time -/

/-- RING_VERIFY_TOKEN (R325). -/
def execRingVerifyToken (k : Fin 16) (ring : Fin 3) (inPort : BitVec 3) (position : BitVec 11) (s : State) : Res :=
  .next (s.takeRingToken k ring inPort.toNat position.toNat)

/-- RING_VERIFY_TIMEOUT (R325): the token has not returned within 2 ms. -/
def execRingVerifyTimeout (k : Fin 16) (ring : Fin 3) (s : State) : Res :=
  .next (if s.ringChecking k ring then s.endCheck k ring 3 else s)

/-- TIME_EXCHANGE (R326): a TIME message with this package's count goes to the upstream neighbour. -/
def execTimeExchange (s : State) : Res :=
  .next (match s.upstream with
    | none => s
    | some p =>
      if !s.upstreamUp then s
      else
        let s1 := s.sendTime p (.ask s.gtime.count)
        { s1 with gtime := { s1.gtime with asked := some s.gtime.count } })

/-- TIME_MESSAGE (R326, R327). -/
def execTimeMessage (a : TimeArrival) (s : State) : Res :=
  .next (if (s.port a.port).up then s.takeTime a.port a.msg else s)

/-- GT_HOLDOVER_EXPIRY (R327): the upstream port has not been UP for 100 ms. -/
def execGtHoldoverExpiry (s : State) : Res :=
  .next (if s.upstream.isSome && !s.upstreamUp then s.setEnt Ent.gtLocked 0 else s)

end Sys2Proof.Machine
end

