-- ==== Sys2Proof/Machine/Platform.lean ====
section
/-!
DEFINITION. What start-up, reset inputs and the rails share (18, R396, R413, R441): what is lost and what the management
domain keeps, firmware selection (R471), flash records (R463) and effective calibration values (R448).
-/

namespace Sys2Proof.Machine

open Sys2Proof

/-- Whether the main-rail logic is served: READY (R466). -/
def State.isReady (s : State) : Bool := s.plat.stage == .ready

/-! ### Calibration (R448, Table 17.7) -/

/-- An effective 32-bit value: factory value plus user delta. -/
def State.applyTrim (s : State) (eff fact delta : Nat) : State :=
  s.setEnt eff (ofI32 (toI32 (s.ent fact) + toI32 (s.ent delta)))

/-- One byte of an effective transmitter preset: U8 plus I8, clamped to 0 to 15. -/
def presetByte (fact delta : Nat) : Nat :=
  let d : Int := if delta < 128 then (delta : Int) else (delta : Int) - 256
  Int.toNat (min 15 (max 0 ((fact : Int) + d)))

/-- The effective transmitter presets of a port. -/
def State.applyTxeq (s : State) (p : Nat) : State :=
  s.setEnt (Ent.linkTxeqEff p) ((List.range 16).foldl (fun v i =>
    v + presetByte (s.entBits (Ent.linkTxeq p) (8 * i) 8) (s.entBits (Ent.linkTxeqDelta p) (8 * i) 8) * 256 ^ i) 0)

/-- A changed delta takes effect at a compute reset or start-up (R448). -/
def State.applyTrims (s : State) : State :=
  let f := fun (n : Nat) (eff fact delta : Nat → Nat) (s : State) =>
    (List.range n).foldl (fun s i => s.applyTrim (eff i) (fact i) (delta i)) s
  let s1 := f 100 Ent.sensorOffsetEff Ent.sensorOffset Ent.sensorOffsetDelta s
  let s2 := f 7 Ent.coreVtrimEff Ent.coreVtrim Ent.coreVtrimDelta s1
  let s3 := f 6 Ent.fabricVtrimEff Ent.fabricVtrim Ent.fabricVtrimDelta s2
  let s4 := f 16 Ent.stackRdlyEff Ent.stackRdly Ent.stackRdlyDelta s3
  (List.range 6).foldl State.applyTxeq s4

/-! ### Firmware (R470 to R472) -/

/-- Whether the root of trust accepts what a slot holds (R470). -/
def Fw.accepts (f : Fw) (x : FwSlot) : Bool := x.ok && Nat.ble f.fused x.svn

/-- The image that runs: the slot marked active, and then the other slot (R471). -/
def Fw.select (f : Fw) : Option FwSlot :=
  let first := if f.activeB then f.b else f.a
  let other := if f.activeB then f.a else f.b
  match first.filter f.accepts with
  | some x => some x
  | none => other.filter f.accepts

/-- The images of the three classes are chosen; with none of one class the package enters recovery (R471). -/
def Plat.boot (p : Plat) : Plat :=
  match p.fwMgmt.select, p.fwComp.select, p.fwCal.select with
  | some m, some c, some k =>
    { p with
      stage := .booted
      fwMgmt := { p.fwMgmt with running := some m }
      fwComp := { p.fwComp with running := some c }
      fwCal := { p.fwCal with running := some k } }
  | _, _, _ =>
    { p with
      stage := .recovery
      fwMgmt := { p.fwMgmt with running := none }
      fwComp := { p.fwComp with running := none }
      fwCal := { p.fwCal with running := none } }

/-- After the first READY the fused minimum rises to the SVN of an image whose header asks for it (R472). -/
def Fw.raise (f : Fw) : Fw :=
  match f.running with
  | some x => if x.raiseMin then { f with fused := Nat.max f.fused x.svn } else f
  | none => f

/-! ### What is lost -/

/-- What persists of the dictionary (Table 17.3): entries of flash persistence, and those retained where `kept` holds. -/
def State.keepEntries (s : State) (kept : Bool) : SMap Nat :=
  SMap.dropKeys (fun k => match Catalog.row k with
    | some r => !(r.pers == .flash || (kept && r.pers == .retained))
    | none => true) s.dict

/-- What the memory manager keeps of the stacks' repairs when their contents are lost (R463): erased wires, spare rows and
groups under retirement. The counts within a scrub period are volatile and start afresh (R221). -/
def Mem.lost (m : Mem) : Mem :=
  { Mem.cold with
    wires := SMap.mapVals (fun _ => WireRec.init) (fun _ w => { WireRec.init with erased := w.erased }) m.wires
    spare := m.spare
    retiring := m.retiring }

/-- Every part of the package but the management domain loses its state (R396, R413, R416, Table 14.4): the tags and the
times at which ids left them stay, log records in the overflow are lost, plans are lost (Table 15.5), resets and tests in
progress end. -/
def State.unpower (s : State) : State :=
  let gone := s.rel.log.length - 4096
  { s with
    cores := []
    grants := []
    sync := Sync.zero
    mem := s.mem.lost
    ctxs := (s.ctxs.filter fun e => !e.2.tagLeft.isEmpty).map fun e => (e.1, { Ctx.init with tagLeft := e.2.tagLeft })
    parts := []
    dict := SMap.dropKeys (fun k => k / 256 == 0x4013) (s.keepEntries true)
    live := []
    host := HostIf.init
    rel := { Rel.init with
      log := s.rel.log.take 4096
      cursors := s.rel.cursors
      esc := s.rel.esc.map fun e => if e.ended.isNone then { e with ended := some s.now } else e
      queued := s.rel.queued.filter fun v => v.kind == .diagnosis
      ivr := s.rel.ivr }
    links := Links.init
    gtime := { GTime.init with count := s.gtime.count }
    power := Power.init
    tap := { s.tap with lbStat := [], ioStat := 0, mbStat := [], mbFail := [], started := none }
    plat := { s.plat with devReady := false, idle := true, bist := false, lostLog := s.plat.lostLog + gone } }

/-! ### Flash records (R463) -/

/-- The slots of a cluster that hold an identity somewhere on its die. -/
def State.holdsIdentity (s : State) (c slot : Nat) : Bool :=
  ((dieClusters (dieOf c)).flatMap fun x => (List.range 24).map fun j => 24 * x + j).any fun k =>
    s.slotOf k == (c, slot) && !s.coreLost k

/-- The roles of the cores as the core map and FENCED give them: a core whose slot is fenced waits for a spare. -/
def State.applyRoles (s : State) : State :=
  (List.range 1536).foldl (fun s k =>
    if s.coreLost k then s.modCore k fun c => { c with role := .lost }
    else if s.slotFenced (s.slotOf k).1 (s.slotOf k).2 then s.modCore k fun c => { c with role := .fenced }
    else s) s

/-- Working slots that hold no identity stand by (R453, R370). -/
def State.applySpares (s : State) : State :=
  ((List.range 64).flatMap fun c => (List.range 25).map fun j => (c, j)).foldl (fun s p =>
    if s.slotFenced p.1 p.2 || s.spareOf p.1 == p.2 || s.holdsIdentity p.1 p.2 then s else s.addSpare p.1 p.2)
    { s with rel := { s.rel with reserve := [] } }

/-- Apply the flash records (R463, R391): roles, spares, the dies that have none (R363), and groups whose retirement no
page delays any more. -/
def State.applyRecords (s : State) : State :=
  let s1 := (List.range 4).foldl State.judgeDie s.applyRoles.applySpares
  s1.mem.retiring.foldl (fun s g => s.leaveGroup (g / 16) (g % 16)) s1

end Sys2Proof.Machine
end

