-- ==== Sys2Proof/Machine/ExecReset.lean ====
section
/-!
DEFINITION. The commands that end resets (R387, R389, R391, R393) and the reset inputs (R396, R397).
-/

namespace Sys2Proof.Machine

open Sys2Proof

/-- A context whose reset has completed stands at its step boundary (R300). -/
def State.resetDone (s : State) (n : Nat) : State :=
  if (s.ctx n).resetting.isSome then (s.ctxResetDone n).idleBoundary n else s

/-- CONTEXT_RESET_COMPLETE (R387 step 8): once the tag has advanced. A context reset within a partition or compute reset
completes with it. -/
def execContextResetComplete (n : Fin 64) (s : State) : Res :=
  .next (if (s.ctx n).tagDelay || (s.part (s.ctxPart n)).resetting || s.rel.creset then s else s.resetDone n)

/-- Every context of a partition completes its reset. -/
def State.partContextsDone (s : State) (k : Nat) : State := (s.ctxsOf k).foldl State.resetDone s

/-- PARTITION_RESET_COMPLETE (R389): PART_STATE returns to 1, restricted signalling ends, and the arm slots are tested
(R203). A function-level reset that asked for it is over (R435). -/
def execPartitionResetComplete (k : Fin 16) (s : State) : Res :=
  .next (if !(s.part k).resetting || s.rel.creset || s.tagsDelayed k then s
    else
      let s1 := (s.partContextsDone k).modPart k fun p => { p with resetting := false }
      let s2 := { s1 with host := { s1.host with flr := s1.host.flr.filter (· != k.val + 1) } }
      let s3 := (s2.logPart Code.partitionReset k []).escEnded fun e =>
        Nat.ble e.level 3 && (if e.source = 4 then e.scope == k.val else s.ctxOf k e.scope)
      s3.testArms k)

/-- COMPUTE_RESET_COMPLETE (R390, R391, R448): the stacks are served, user deltas take effect, every partition and
function-level reset completes; not while the dies are held for a power cycle (R386). -/
def execComputeResetComplete (s : State) : Res :=
  .next (if !s.rel.creset || s.plat.pwrCycle || (List.range 16).any s.tagsDelayed then s
    else
      let s1 := s.definedParts.foldl (fun s k => (s.partContextsDone k).modPart k fun p =>
        { p with resetting := false }) s
      let s2 := { s1 with
        rel := { s1.rel with creset := false }
        mem := { s1.mem with served := s.isReady || s.plat.stage == StartStage.memoryReady }
        host := { s1.host with flr := [] } }
      let s3 := (s2.applyTrims.log Code.computeReset []).escEnded fun e => Nat.ble e.level 4
      s3.definedParts.foldl State.testArms s3)

/-- TAG_ADVANCE_DELAY_EXPIRY (R393): 10 ms after the id left the value the advance is made, and a context reset that waited
for it completes. -/
def execTagAdvanceDelayExpiry (n : Fin 64) (s : State) : Res :=
  let old := s.tag n
  let new := (old + 1) % 256
  .next (if !(s.ctx n).tagDelay then s
    else
      let s1 := (s.modCtx n fun c => { c with
        tagDelay := false
        tagLeft := (c.tagLeft.filter fun p => p.1 != new) ++ [(old, s.now)] }).setEnt (Ent.selvedgeTag n) new
      if (s.part (s.ctxPart n)).resetting || s.rel.creset then s1 else s1.resetDone n)

/-- The bit of an input in the set of those asserted. -/
def pinBit : ResetPin → Nat
  | .perst => 0
  | .sysRst => 1

/-- RESET_INPUT_ASSERT (R396): a pulse of 1 µs or more resets everything but the management domain; accepted firmware that
was staged runs from then on (R472), and READY falls (R466). -/
def execResetInputAssert (pin : ResetPin) (ns : Nat) (s : State) : Res :=
  .next (if Nat.blt ns 1000 then s
    else
      let p := { s.plat with rst := s.plat.rst ||| BitVec.ofNat 2 (2 ^ pinBit pin) }
      if s.plat.stage = .off then { s with plat := p }
      else
        let s1 := State.unpower { s with plat := p }
        State.updateAlertN { s1 with plat := s1.plat.boot })

/-- RESET_INPUT_RELEASE (R396, R397): with the last input released RESET_HELD clears. -/
def execResetInputRelease (pin : ResetPin) (s : State) : Res :=
  let rst := s.plat.rst &&& ~~~ (BitVec.ofNat 2 (2 ^ pinBit pin))
  let s1 := { s with plat := { s.plat with rst := rst } }
  .next (if rst = 0#2 then s1.setEntBit Ent.resetStatus 0 false else s1)

/-- RESET_HELD (R397): an input asserted for longer than RESET_HELD_TIME. -/
def execResetHeld (s : State) : Res :=
  .next (if s.plat.rst = 0#2 || s.plat.stage = .off then s else (s.setEntBit Ent.resetStatus 0 true).alert 2)

end Sys2Proof.Machine
end

