-- ==== Sys2Proof/Machine/ExecPlatform.lean ====
section
/-!
DEFINITION. Rails, clocks and start-up (R458 to R467, R483, R486), firmware update (R472), PLDM sensors (R445) and SPDM
(R473, R474).
-/

namespace Sys2Proof.Machine

open Sys2Proof

/-! ### Rails and clocks -/

/-- The main rail no longer feeds the converters (R413, R467): everything on it loses its state, a power-cycle request is
released (R386), staged firmware runs from then on, and start-up begins again from event 2. -/
def State.mainOff (s : State) (removed : Bool) : State :=
  let s1 := (s.unpower).setEntBit Ent.resetStatus 1 false
  let p := { s1.plat with
    main := false
    conv := false
    mainAt := none
    barred := s.plat.barred && !removed
    thermtrip := s.plat.thermtrip && !removed
    pwrCycle := false
    refLost := false }
  State.updateAlertN { s1 with plat := if s.plat.stage = .off then p else p.boot }

/-- MAIN_RAIL_APPLY (R458): the 12 V input enters its range; the converters start once the management domain has booted. A
sag ends, with results gone wrong meanwhile (R403). -/
def execMainRailApply (s0 : State) : Res :=
  let s := if s0.sagging then s0.sag else s0
  .next { s with plat := { s.plat with
    main := true
    conv := s.plat.conv || (s.plat.stage == StartStage.booted && !s.plat.barred)
    mainAt := if s.plat.aux || s.plat.main then s.plat.mainAt else some s.now } }

/-- MAIN_RAIL_LOSS (R403, R413, R467): a rail that is removed ends everything on it. One that leaves its range ends
start-up and a held power-cycle request; a device that runs keeps running, and its results from then on are free until the
input returns (R403). -/
def execMainRailLoss (how : RailLoss) (s : State) : Res :=
  .next (match how with
    | .removed => s.mainOff true
    | .outOfRange =>
      if !s.plat.main then s
      else if s.isReady then State.sag { s with plat := { s.plat with main := false } }
      else s.mainOff false)

/-- AUX_RAIL_RISE (R458, R459): the management domain and the root of trust start; a main rail applied without the
auxiliary rail for more than 1 s leaves the package doing nothing further. -/
def execAuxRailRise (s : State) : Res :=
  let late := match s.plat.mainAt with
    | some t => s.plat.main && Nat.blt (t + 1000000000) s.now
    | none => false
  .next (if s.plat.aux then s
    else { s with
      plat := { s.plat with aux := true, barred := late, mainAt := none, devReady := false }
      tap := Tap.init })

/-- AUX_RAIL_LOSS (R467, R483, Table 17.3, Table 14.4): everything stops; only flash and the hardware's own records stay,
and the next start is a cold start. -/
def execAuxRailLoss (s : State) : Res :=
  let s1 := s.unpower
  let p := { s1.plat with
    aux := false
    conv := false
    mainAt := if s.plat.main then some s.now else none
    barred := false
    stage := .off
    strap := 0#2
    thermtrip := false
    pwrCycle := false
    alertN := false
    refLost := false
    lostLog := 0
    fwMgmt := { s1.plat.fwMgmt with running := none }
    fwComp := { s1.plat.fwComp with running := none }
    fwCal := { s1.plat.fwCal with running := none }
    spdm := []
    tested := false }
  .next (if !s.plat.aux then s
    else { s1 with
      ctxs := []
      dict := s.plat.flash
      rel := { Rel.init with ivr := s.rel.ivr }
      tap := Tap.init
      plat := p })

/-- REFCLK_LOSS (R486): all work ends with a power-cycle request, and the global time of the package is lost: what the
counter holds is free (assumption 2). -/
def execRefclkLoss (s : State) : Res :=
  .next (if !s.powered then s
    else
      let s1 := (s.powerCycleReq).setEnt Ent.gtLocked 0
      let r := s1.freeNat
      { r.2 with
        gtime := { GTime.init with count := r.1 % 2 ^ 64 }
        plat := { r.2.plat with refLost := true } })

/-! ### Start-up (Table 18.1) -/

/-- MANAGEMENT_BOOT_COMPLETE (R459, R471, R488): the images are chosen, or the package enters recovery; the address strap
is sampled, and the converters start where the 12 V input is in range. -/
def execManagementBootComplete (strapAddr : BitVec 2) (s : State) : Res :=
  .next (if !s.plat.aux || s.plat.barred || s.plat.stage ≠ .off then s
    else
      let p := { s.plat with strap := strapAddr }.boot
      State.updateAlertN { s with plat := { p with conv := p.main && p.stage == StartStage.booted } })

/-- A core slot whose PLL does not lock is fenced (R462). -/
def State.fenceSlot (s : State) (c slot : Nat) : State :=
  if s.slotFenced c slot then s
  else match s.slotHolder c slot with
    | some k => s.fence k
    | none => s.fenceSpare c slot

/-- What steps 3 and 4 find is judged (R462): slots, dies, modules and channels; an island of the I/O die that did not lock
is recorded under a code that no rule states (assumption 2), and leaves the package without READY. -/
def State.judgeStart (s : State) (found : StartFindings) : State :=
  let s1 := found.slots.foldl (fun s p => s.fenceSlot p.1.val p.2.val) s
  let s2 := found.modules.foldl (fun s p => ((s.setEdgeModule p.1.val p.2.1.val (if p.2.2 then 1 else 2)).log Code.edgeRetrain
    [p.1.val, p.2.1.val, if p.2.2 then 8 else 0]).judgeEdge p.1.val) s1
  let s3 := found.dies.foldl (fun s d => s.dieGone d.val) s2
  let s4 := found.channels.foldl (fun s p => s.retireGroup p.1.val (p.2.val / 8)) s3
  if found.ioLocked then s4
  else
    let r := s4.freeNat
    let s5 := r.2.log (r.1 % 65536) []
    { s5 with plat := { s5.plat with stage := .noReady } }

/-- START_POINT (R460 to R462, R326, R448): with every reset input released, the management domain booted and the island
supplies in range, global time starts at 0, the strap is sampled, trims and presets apply, and edges, stacks and links
train. -/
def execStartPoint (found : StartFindings) (s : State) : Res :=
  .next (if s.plat.stage ≠ .booted || !s.plat.conv || !s.plat.main || s.plat.rst ≠ 0#2 || s.plat.pwrCycle ||
      s.plat.thermtrip then s
    else
      let s1 := { s with
        gtime := GTime.init
        plat := { s.plat with stage := .calibrated, bist := found.bistStrap, idle := false, refLost := false } }
      let s2 := (List.range 6).foldl (fun s p =>
        if s.ent (Ent.portEnable p) = 1 then s.modPort p fun x => { x with state := 1 } else s) s1.applyTrims
      s2.judgeStart found)

/-- FLASH_RECORDS_APPLY (R463): when 4a to 4c have ended. -/
def execFlashRecordsApply (s : State) : Res :=
  .next (if s.plat.stage ≠ .calibrated then s
    else
      let s1 := s.applyRecords
      { s1 with plat := { s1.plat with stage := .recordsApplied } })

/-- SELFTEST_STATUS (Table 17.12). -/
def State.testStatus (s : State) (state kind fails : Nat) : State :=
  s.setEnt Ent.selftestStatus (state + 256 * kind + 65536 * Nat.min fails 65535)

/-- MEMORY_INIT_COMPLETE (R464, R465): every line of the groups in service holds zeros and valid check bits, records lost
with the overflow are counted, and the logic self-test starts where it was selected. -/
def execMemoryInitComplete (s : State) : Res :=
  .next (if s.plat.stage ≠ .recordsApplied then s
    else
      let s1 := s.bumpBy Ent.logLost s.plat.lostLog
      let s2 := { s1 with
        mem := { s1.mem.lost with served := !s1.rel.creset }
        plat := { s1.plat with stage := .memoryReady, lostLog := 0 } }
      let s3 := (s2.reportFrames).reportResv
      if s3.plat.bist then State.testStatus { s3 with rel := { s3.rel with selftest := some 1 } } 2 1 0 else s3)

/-- DEV_READY (R466, R472, R375): DEV_READY rises with READY, restricted signalling ends, the fused minimum rises where a
new image asks for it, and a REPLACE that is not 0 requests a drain. -/
def execDevReady (s : State) : Res :=
  .next (if s.plat.stage ≠ .memoryReady || s.rel.selftest.isSome then s
    else
      let s1 := { s with plat := { s.plat with
        stage := .ready
        devReady := true
        fwMgmt := s.plat.fwMgmt.raise
        fwComp := s.plat.fwComp.raise
        fwCal := s.plat.fwCal.raise } }
      if s1.ent Ent.replace = 0 then s1 else s1.drain)

/-- STARTUP_STEP_STUCK (R467): a step from S on has not ended within three times its maximum. -/
def execStartupStepStuck (s : State) : Res :=
  .next (match s.plat.stage with
    | .calibrated | .recordsApplied | .memoryReady => (s.log Code.resetStuck []).powerCycleReq
    | _ => s)

/-- FLASH_ENTRY_WRITTEN (R441): what the entry holds is in flash from now on. -/
def execFlashEntryWritten (index : BitVec 16) (sub : Byte) (s : State) : Res :=
  let k := 256 * index.toNat + sub.toNat
  .next (match Catalog.row k with
    | some r =>
      if r.pers = .flash && s.plat.stage ≠ .off then
        { s with plat := { s.plat with flash := SMap.set Catalog.dflt s.plat.flash k (s.ent k) } }
      else s
    | none => s)

/-! ### Ports of the management domain -/

/-- Whether a dictionary port carries requests: I3C once the management domain has booted (R459), the others while the PCIe
link is up. -/
def State.portOpen (s : State) (p : DictPort) : Bool :=
  s.plat.stage != .off && (match p with
    | .i3c => true
    | _ => s.host.pcieUp && s.plat.stage != .recovery)

/-- Whether a port is an MCTP port (R443). -/
def mctpPort : DictPort → Bool
  | .mbx _ => false
  | _ => true

/-- FIRMWARE_UPDATE (R472, R445): on the I3C port, the image is written to the inactive slot and verified; accepted, it is
marked active. -/
def execFirmwareUpdate (port : DictPort) (cls : FwClass) (img : FwImage) (s : State) : Res :=
  let up := fun (f : Fw) =>
    let ok := img.partOk && img.sigOk && Nat.ble 1 img.svn.val && Nat.ble img.svn.val 32
    let x : FwSlot := { svn := img.svn.val, version := img.version.toNat, raiseMin := img.raiseMin, ok := ok }
    let acc := f.accepts x
    let g : Fw := if f.activeB then { f with a := some x } else { f with b := some x }
    (acc, if acc then { g with activeB := !f.activeB } else g)
  .next (if port ≠ .i3c || s.plat.stage = .off then s
    else match cls with
      | .management =>
        let r := up s.plat.fwMgmt
        State.emit { s with plat := { s.plat with fwMgmt := r.2 } } (.firmware port r.1)
      | .compute =>
        let r := up s.plat.fwComp
        State.emit { s with plat := { s.plat with fwComp := r.2 } } (.firmware port r.1)
      | .calico =>
        let r := up s.plat.fwCal
        State.emit { s with plat := { s.plat with fwCal := r.2 } } (.firmware port r.1))

/-- The temperature of a sensor in TEMPS, in units of 1/16 °C (Table 15.6). -/
def State.tempOf (s : State) (n : Nat) : Int :=
  let v := s.entBits Ent.temps (16 * n) 16
  if v < 32768 then (v : Int) else (v : Int) - 65536

/-- PLDM_SENSOR_READ (R445, R468): numeric and state sensors on both MCTP ports; those of unpowered islands are
unavailable. -/
def execPldmSensorRead (port : DictPort) (sensor : PldmSensor) (s : State) : Res :=
  let v : Option Int := match sensor with
    | .powerNow => some (s.ent Ent.powerNow : Nat)
    | .vin12 => some (s.ent Ent.vin12 : Nat)
    | .temp n => if s.powered then some (s.tempOf n.val) else none
    | .thermStage => if s.powered then some (s.ent Ent.thermStage : Nat) else none
    | .ready => some (b2n s.plat.devReady : Nat)
  .next (if mctpPort port && s.portOpen port && s.plat.stage ≠ .recovery then s.emit (.pldm port v) else s)

/-! ### SPDM (R473, R474): response codes are those of DSP0274 -/

/-- The number under which the exchange of a port is kept. -/
def spdmKey : DictPort → Nat
  | .i3c => 0
  | _ => 1

/-- How far the exchange of a port has come: 0 nothing, 1 version, 2 capabilities, 3 algorithms. -/
def State.spdmAt (s : State) (p : DictPort) : Nat := SMap.get (fun _ => 0) s.plat.spdm (spdmKey p)

/-- Answer a request: with a response where the exchange has come far enough and the request is one the root of trust
supports, otherwise with ERROR (0x7F). -/
def State.spdmAnswer (s : State) (p : DictPort) (need next : Nat) (ok : Bool) (code : Nat) (data : List Byte) : State :=
  if !mctpPort p || s.plat.stage = .off || (p != .i3c && !s.host.pcieUp) then s
  else if Nat.ble need (s.spdmAt p) && ok then
    State.emit { s with plat := { s.plat with spdm := SMap.set (fun _ => 0) s.plat.spdm (spdmKey p) next } } (.spdm p code data)
  else s.emit (.spdm p 0x7F [])

/-- Bytes that no rule states: certificates, digests and signatures (assumption 2). -/
def State.spdmFree (s : State) (code : Nat) : List Byte × State :=
  (Config.spdmBytes s.freeCtr code, { s with freeCtr := s.freeCtr + 1 })

/-- GET_VERSION: SPDM 1.2; the exchange begins. -/
def execGetVersion (port : DictPort) (s : State) : Res := .next (s.spdmAnswer port 0 1 true 0x04 [0x12#8])

/-- GET_CAPABILITIES. -/
def execGetCapabilities (port : DictPort) (s : State) : Res :=
  let r := s.spdmFree 0x61
  .next (r.2.spdmAnswer port 1 (Nat.max 2 (s.spdmAt port)) true 0x61 r.1)

/-- NEGOTIATE_ALGORITHMS: only ECDSA on NIST P-384 and SHA-384. -/
def execNegotiateAlgorithms (port : DictPort) (p384 : Bool) (sha384 : Bool) (s : State) : Res :=
  .next (s.spdmAnswer port 2 3 (p384 && sha384) 0x63 [])

/-- GET_DIGESTS. -/
def execGetDigests (port : DictPort) (s : State) : Res :=
  let r := s.spdmFree 0x01
  .next (r.2.spdmAnswer port 3 3 true 0x01 r.1)

/-- GET_CERTIFICATE: only slot 0 holds a chain. -/
def execGetCertificate (port : DictPort) (slot : Fin 8) (s : State) : Res :=
  let r := s.spdmFree 0x02
  .next (r.2.spdmAnswer port 3 3 (slot.val == 0) 0x02 r.1)

/-- CHALLENGE: signed with the alias key over the nonce. -/
def execChallenge (port : DictPort) (slot : Fin 8) (_nonce : BitVec 256) (s : State) : Res :=
  let r := s.spdmFree 0x03
  .next (r.2.spdmAnswer port 3 3 (slot.val == 0) 0x03 r.1)

/-- SVN of the image that runs; 0 with none. -/
def Fw.runningSvn (f : Fw) : Nat :=
  match f.running with
  | some x => x.svn
  | none => 0

/-- A measurement block (Table 18.4): SVNs with fused minimums, test access, or a digest that no rule states. -/
def State.measure (s : State) (block : Nat) (free : List Byte) : List Byte :=
  match block with
  | 5 => [s.plat.fwMgmt.runningSvn, s.plat.fwComp.runningSvn, s.plat.fwCal.runningSvn,
      s.plat.fwMgmt.fused, s.plat.fwComp.fused, s.plat.fwCal.fused].map (BitVec.ofNat 8)
  | 8 => [BitVec.ofNat 8 (b2n s.plat.tested)]
  | _ => (free ++ List.replicate 48 0#8).take 48

/-- GET_MEASUREMENTS (R474): one block, the number of blocks (0), or all of them (0xFF). -/
def execGetMeasurements (port : DictPort) (block : Byte) (s : State) : Res :=
  let n := block.toNat
  let r := s.spdmFree 0x60
  let data := if n = 0 then [8#8]
    else if n = 255 then (List.range 8).flatMap fun i => s.measure (i + 1) (Config.spdmBytes s.freeCtr (256 + i))
    else s.measure n r.1
  .next (r.2.spdmAnswer port 3 3 (Nat.ble n 8 || n == 255) 0x60 data)

/-! ### The PCIe link -/

/-- PCIE_LINK_UP (R486, R468): training begins at S. -/
def execPcieLinkUp (s : State) : Res :=
  .next (if s.powered && s.plat.rst = 0#2 then { s with host := { s.host with pcieUp := true } } else s)

/-- HOST_INTERFACE_CONFIG_LOADED (R468): configuration requests are answered normally from now on. -/
def execHostInterfaceConfigLoaded (s : State) : Res :=
  .next (if s.powered then { s with host := { s.host with cfgUp := true } } else s)

end Sys2Proof.Machine
end

