-- ==== Sys2Proof/Machine/ExecPower.lean ====
section
/-!
DEFINITION. Power samples (R403 to R406), the ramp grid (R412), thermal stages and the trip (R415, R416), and regulators
(R401).
-/

namespace Sys2Proof.Machine

open Sys2Proof

/-! ### Power -/

/-- The average of some readings. -/
def average (l : List Nat) : Nat := l.foldl (· + ·) 0 / Nat.max 1 l.length

/-- POWER_SAMPLE (R403 to R406, Table 15.6): the readings over 1 ms, the peak, the watermark of the input, and the limiter;
CAP_UNMET clears when a sample falls below the cap. -/
def execPowerSample (r : PowerReading) (s : State) : Res :=
  let l := ((r.package, r.vin12mV, r.others) :: s.power.samples).take 1000
  let s1 := { s with power := { s.power with samples := l, last := some r, settle := s.power.settle - 1 } }
  let now := l.take 100
  let s2 := (s1.setEnt Ent.powerNow (Nat.min 65535 (average (now.map (·.1))))).setEnt Ent.vin12
    (Nat.min 65535 (average (now.map (·.2.1))))
  let s3 := (s2.setEnt Ent.powerPeak (Nat.max (s2.ent Ent.powerPeak) (Nat.min 65535 r.package))).wmLevel 0x4032
    (s2.ent Ent.vin12)
  .next (if s.plat.stage = .off then s
    else if !s.powered then s3
    else if Nat.blt (s.ent Ent.powerCap) r.package then s3.limit r
    else if Nat.blt r.package (s.ent Ent.powerCap) then s3.setEntBit Ent.capStatus 1 false
    else s3)

/-- RAMP_GRID_INSTANT (R412): a rise that waits begins. -/
def execRampGridInstant (s : State) : Res := .next { s with power := { s.power with rise := false } }

/-! ### Temperatures -/

/-- Whether a sensor is one of DRAM (Table 15.6). -/
def dramSensor (i : Nat) : Bool := Nat.ble 64 i && Nat.blt i 96

/-- The sensors that decide the stage of die d (R415). -/
def dieSensors (d : Nat) : List Nat :=
  ((List.range 16).map (16 * d + ·)) ++ ((List.range 8).map (64 + 8 * d + ·)) ++ [96, 97, 98, 99]

/-- The entry temperature of stage t (4: the trip) for a sensor, in units of 1/16 °C (Table 15.4). -/
def stageTemp (t i : Nat) : Int :=
  let compute : Int := match t with
    | 1 => 98
    | 2 => 101
    | 3 => 103
    | _ => 105
  16 * (if dramSensor i then compute - 10 else compute)

/-- The sensors of a die that have reached the entry temperature of a stage in two consecutive readings. -/
def reached (t d : Nat) (prev now : List Int) : List Nat :=
  (dieSensors d).filter fun i =>
    match prev[i]?, now[i]? with
    | some a, some b => decide (stageTemp t i ≤ a ∧ stageTemp t i ≤ b)
    | _, _ => false

/-- Readings in succession in which all sensors of a die were low enough to leave a stage. -/
def State.lowRun (s : State) (d t : Nat) : Nat := SMap.get (fun _ => 0) s.power.below (4 * d + t)

/-- Count a reading towards leaving each stage (R415): all sensors 3 °C below its entry temperature. -/
def State.countLow (s : State) (d : Nat) (now : List Int) : State :=
  [1, 2, 3].foldl (fun s t =>
    let low := (dieSensors d).all fun i => decide (now.getD i 0 ≤ stageTemp t i - 48)
    { s with power := { s.power with
      below := SMap.set (fun _ => 0) s.power.below (4 * d + t) (if low then s.lowRun d t + 1 else 0) } }) s

/-- The stage that a die leaves for: 10 ms are 100 intervals of 100 µs, so 101 low readings in succession. -/
def State.cooled (s : State) (d : Nat) : Nat → Nat
  | 0 => 0
  | t + 1 => if Nat.ble 101 (s.lowRun d (t + 1)) then s.cooled d t else t + 1

/-- A die enters stage t (Table 15.4): counted and recorded; from stage 2 on ALERT_N, and in stage 3 the replays on the die
are recorded. -/
def State.enterStage (s : State) (d t : Nat) : State :=
  let s1 := ((s.setEntBits Ent.thermStage (2 * d) 2 t).bump Ent.stageEntries).log Code.thermStage [d, t]
  let s2 := if Nat.ble 2 t then s1.alert 4 else s1
  if t = 3 then
    ((s2.cores.filter fun e => e.2.replay && dieOf (s2.slotOf e.1).1 == d).map (·.1)).foldl State.noteThrottled s2
  else s2

/-- Judge the stage of a die after a reading. -/
def State.judgeStage (s : State) (prev now : List Int) (d : Nat) : State :=
  let cur := s.dieStage d
  let top := ([1, 2, 3].filter fun t => !(reached t d prev now).isEmpty).foldl Nat.max 0
  if Nat.blt cur top then ((List.range (top - cur)).map (cur + 1 + ·)).foldl (fun s t => s.enterStage d t) s
  else s.setEntBits Ent.thermStage (2 * d) 2 (s.cooled d cur)

/-- The cause of a trip in THERM_TRIP (Table 15.6): the kinds of the sensors at the limit and the first of them. -/
def tripWord (l : List Nat) : Nat :=
  b2n (l.any fun i => Nat.blt i 64) + 2 * b2n (l.any dramSensor) + 4 * b2n (l.any fun i => Nat.ble 96 i) + 8 * l.headD 0

/-- The trip (R416): THERMTRIP_N is asserted, the cause is recorded, every island but the management domain loses its
supply, and READY falls (R466). -/
def State.thermTrip (s : State) (l : List Nat) : State :=
  let s1 := State.unpower ((s.setEnt Ent.thermTrip (tripWord l)).log Code.thermTrip [tripWord l])
  State.updateAlertN { s1 with plat := { s1.plat with thermtrip := true, conv := false, stage := .booted } }

/-- THERMAL_SENSOR_READ (R415, R416, R448): the raw readings plus the effective offsets, the watermarks, and the stages of
the four dies. -/
def execThermalSensorRead (raw : List Int) (s : State) : Res :=
  let now := raw.zipIdx.map fun p => p.1 + toI32 (s.ent (Ent.sensorOffsetEff p.2))
  let word := now.zipIdx.foldl (fun v p => v + (p.1 % 65536).toNat * 65536 ^ p.2) 0
  let hottest := fun (dram : Bool) =>
    ((now.zipIdx.filter fun p => dramSensor p.2 == dram).map (fun p => (p.1 / 16).toNat)).foldl Nat.max 0
  let s1 := (State.setEnt { s with power := { s.power with temps := now } } Ent.temps word).wmLevel 0x4030 (hottest false)
  let s2 := s1.wmLevel 0x4031 (hottest true)
  let trip := (List.range 4).flatMap fun d => reached 4 d s.power.temps now
  .next (if s.plat.stage = .off || raw.length ≠ 100 then s
    else if !s.powered || s.plat.thermtrip then s2
    else if !trip.isEmpty then s2.thermTrip trip
    else
      let prev := s.power.temps
      let s3 := (List.range 4).foldl (fun s d => (s.countLow d now).judgeStage prev now d) s2
      s3.definedParts.foldl State.reportGov s3)

/-! ### Regulators -/

/-- The number under which the phases of a regulator are counted. -/
def regulatorKey : Regulator → Nat
  | .slot c j => 25 * c.val + j.val
  | .die d i => 10000 + 32 * d.val + i.val
  | .io i => 20000 + i.val

/-- A slot whose regulator fails is fenced as for an engine parity error (R401, R83, R454); one under test fails its test
(R373), and one under the check of its return stays out (Table 17.10). -/
def State.slotPowerFails (s : State) (c slot : Nat) : State :=
  match s.slotHolder c slot with
  | some k => s.fenceParity k
  | none =>
    if s.rel.rets.contains (1, slot + 32 * c) then (s.calicoFail c slot 0 0).returnEnds 1 (slot + 32 * c) false
    else if s.slotFenced c slot then s
    else
      let s1 := match (if s.underTest c slot then s.visitOn (dieOf c) else none) with
        | some v => s.testedFaults v
        | none => s.fenceSpare c slot
      { s1 with rel := { s1.rel with queued := s1.rel.queued ++
        [{ cluster := c, slot := slot, kind := .diagnosis, cond := 0, deferred := false }] } }

/-- IVR_PHASE (R401): the first lost phase is absorbed and recorded; a second fences the core's slot, or makes the die
lost. -/
def execIvrPhase (r : Regulator) (s : State) : Res :=
  let n := SMap.get (fun _ => 0) s.rel.ivr (regulatorKey r)
  let s1 := { s with rel := { s.rel with ivr := SMap.set (fun _ => 0) s.rel.ivr (regulatorKey r) (n + 1) } }
  .next (if !s.powered then s
    else if n = 0 then s1.log Code.ivrPhase [regulatorKey r]
    else if n = 1 then
      (match r with
        | .slot c j => s1.slotPowerFails c.val j.val
        | .die d _ => s1.dieGone d.val
        | .io _ => s1)
    else s1)

end Sys2Proof.Machine
end

