-- ==== Sys2Proof/Machine/ExecHost.lean ====
section
/-!
DEFINITION. The host interface (16): function registers, context pages, function-level resets, Bus Master Enable, the
apertures, and the sync window (R182, R199 to R202).
-/

namespace Sys2Proof.Machine

open Sys2Proof

/-- Whether an inbound request reaches function f: the link is up, and neither the function nor the physical function is
under a function-level reset (R436, Table 16.8). -/
def State.hostReach (s : State) (f : Nat) : Bool := s.host.pcieUp && !s.host.flr.contains f && !s.host.flr.contains 0

/-! ### Function registers (Table 16.3) -/

/-- Whether a number is a power of two in [2^a, 2^b]. -/
def powerIn (a b v : Nat) : Bool := (List.range (b + 1 - a)).any fun i => v == 2 ^ (a + i)

/-- Whether nothing of a function's memory command queue is under way (R428). -/
def State.mqIdle (s : State) (f : Nat) : Bool := s.fn f 0x060 == s.fn f 0x068 && s.fn f 0x060 == s.fn f 0x080

/-- Write MQ_BASE (R428): accepted while the queue is idle, or while MQ_ERROR is set, which it clears. -/
def State.writeMqBase (s : State) (f v : Nat) : State :=
  if v % 4096 != 0 || !(s.mqIdle f || (s.memq f).error) then s.hostDrop f
  else (s.setFn f 0x048 v).setMemq f { (s.memq f) with error := false }

/-- Write a function register; one of the memory queue or the aperture is dropped before READY (Table 18.3), a reserved
offset always (R422). -/
def State.fnWrite (s : State) (f off v : Nat) : State :=
  if [0x030, 0x038, 0x040, 0x048, 0x050, 0x058, 0x080, 0x088].contains off && !s.isReady then s.hostDrop f
  else match off with
    | 0x000 | 0x008 | 0x060 | 0x068 => s
    | 0x010 => s.setFn f 0x010 ((setBits (s.fn f 0x010) 5).foldl (fun a b => if v.testBit b then a else a + 2 ^ b) 0)
    | 0x018 => s.setFn f 0x018 (v &&& 0x3F3F3F3F3F)
    | 0x020 => s.setFn f 0x020 (v % 32)
    | 0x028 => s.setFn f 0x028 (v % 2 ^ 32)
    | 0x030 => s.setFn f 0x030 (bitsAt v 21 (if f = 0 then 20 else 27) * 2 ^ 21)
    | 0x038 => if f != 0 && !s.ctxOf (f - 1) (v % 64) then s.hostDrop f else s.setFn f 0x038 (v % 64)
    | 0x040 => State.setFn { s with host := { s.host with aptRec := s.host.aptRec.filter (· != f) } } f 0x040 (v % 2 ^ 32)
    | 0x048 => s.writeMqBase f v
    | 0x050 => if s.mqIdle f && powerIn 4 12 v then s.setFn f 0x050 v else s.hostDrop f
    | 0x058 => if s.mqIdle f && v % 4096 == 0 then s.setFn f 0x058 v else s.hostDrop f
    | 0x080 => s.setFn f 0x080 v
    | 0x088 => s.setFn f 0x088 v
    | _ => s.hostDrop f

/-- MQ_TAIL_WRITE (R428). -/
def execMqTailWrite (f : Fin 17) (value : Word64) (s : State) : Res :=
  .next (if s.hostReach f then s.fnWrite f 0x080 value.toNat else s)

/-- MQ_BASE_WRITE (R428). -/
def execMqBaseWrite (f : Fin 17) (value : Word64) (s : State) : Res :=
  .next (if s.hostReach f then s.fnWrite f 0x048 value.toNat else s)

/-! ### Context pages (Table 16.4) -/

/-- A CQ_TAIL write to a context (R425, R427): held during a reset, refused with BAD_TAIL, or accepted. -/
def State.writeTail (s : State) (n v : Nat) : State :=
  if (s.ctx n).resetting.isSome then s.modCtx n fun c => { c with heldTail := some v }
  else if Nat.blt v (s.pg n 0x040) || Nat.blt (s.pg n 0x010 + s.pg n 0x008) v then s.cqEvent n 1
  else s.setPg n 0x040 v

/-- Write a register of the page of context n (R425). -/
def State.pageWrite (s : State) (n off v : Nat) : State :=
  let f := s.ctxPart n + 1
  let quiet := s.pg n 0x010 == s.pg n 0x040 && Nat.ble (s.ctxState n) 1
  match off with
  | 0x000 => if quiet && v % 4096 == 0 then s.setPg n 0x000 v else s.hostDrop f
  | 0x008 => if quiet && powerIn 6 16 v then s.setPg n 0x008 v else s.hostDrop f
  | 0x010 | 0x018 | 0x028 => s
  | 0x020 => s.setPg n 0x020 ((setBits (s.pg n 0x020) 3).foldl (fun a b => if v.testBit b then a else a + 2 ^ b) 0)
  | 0x040 => s.writeTail n v
  | _ => s.hostDrop f

/-- CQ_TAIL_WRITE (R425, R427, Table 18.3). -/
def execCqTailWrite (n : Fin 64) (value : Word64) (s : State) : Res :=
  let f := s.ctxPart n + 1
  .next (if !s.ctxValid n || !s.hostReach f then s
    else if !s.isReady then s.hostDrop f
    else s.writeTail n value.toNat)

/-! ### Bus Master Enable and function-level resets (R433 to R436) -/

/-- Set Bus Master Enable of a function. -/
def State.setBme (s : State) (f : Nat) (on : Bool) : State :=
  { s with host := { s.host with bme := SMap.set (fun _ => false) s.host.bme f on } }

/-- BUS_MASTER_ENABLE_CLEAR (R434): new upstream requests of the function wait. -/
def execBusMasterEnableClear (f : Fin 17) (s : State) : Res :=
  .next (if s.hostReach f && s.host.cfgUp then s.setBme f false else s)

/-- BUS_MASTER_ENABLE_SET (R434): completions that were held are written in order, and pending messages are sent. -/
def execBusMasterEnableSet (f : Fin 17) (s : State) : Res :=
  let q := s.memq f
  .next (if !s.hostReach f || !s.host.cfgUp || s.bme f then s
    else
      let s1 := (s.setBme f true).setMemq f { q with held := [] }
      (q.held.foldl (fun s d => s.writeCompletion f d) s1).flushPba f)

/-- Function f returns to its defaults (Table 16.8): registers, mailbox, MSI-X table and pending bits, Bus Master Enable 0;
its generation advances, and commands already read take effect without a completion. -/
def State.fnDefaults (s : State) (f : Nat) : State :=
  let q := s.memq f
  let h := s.host
  State.setMemq { s with host := { h with
    regs := SMap.dropKeys (fun k => k / 4096 == f) h.regs
    mbx := SMap.dropKeys (· == f) h.mbx
    msix := SMap.dropKeys (fun k => k / 1024 == f) h.msix
    pba := SMap.dropKeys (· == f) h.pba
    bme := SMap.dropKeys (· == f) h.bme
    gen := SMap.set (fun _ => 0) h.gen f ((SMap.get (fun _ => 0) h.gen f + 1) % 256)
    aptRec := h.aptRec.filter (· != f) } } f { cmds := q.cmds, stale := q.cmds.length, error := false, held := [] }

/-- The context pages of a partition return to their defaults. -/
def State.partPages (s : State) (k : Nat) : State :=
  (s.ctxsOf k).foldl (fun s n => (s.pageDefaults n).modCtx n fun c => { c with heldTail := none }) s

/-- A function-level reset (R435, Table 16.8): of a virtual function, a partition reset; of the physical function, a compute
reset, with every virtual function reset too. -/
def State.flrOf (s : State) (f : Nat) : State :=
  if f = 0 then
    let s1 := if s.powered then s.compReset else s
    let s2 := (List.range 16).foldl State.partPages ((List.range 17).foldl State.fnDefaults s1)
    if s2.rel.creset then { s2 with host := { s2.host with flr := [0] } } else s2
  else
    let s1 := ((s.partReset (f - 1)).partPages (f - 1)).fnDefaults f
    if (s1.part (f - 1)).resetting then
      { s1 with host := { s1.host with flr := (s1.host.flr.filter (· != f)) ++ [f] } }
    else s1

/-- FUNCTION_LEVEL_RESET (R435). -/
def execFunctionLevelReset (f : Fin 17) (s : State) : Res :=
  .next (if s.hostReach f && s.host.cfgUp then s.flrOf f else s)

/-- PCIE_LINK_DOWN (R486): a function-level reset of the physical function. -/
def execPcieLinkDown (s : State) : Res :=
  .next (if s.host.pcieUp then State.flrOf { s with host := { s.host with pcieUp := false } } 0 else s)

/-! ### Apertures (R429, R430) -/

/-- An aperture access is not performed: APT_DROP rises, and the first since a clear is recorded (R430). -/
def State.aptDrop (s : State) (f : Nat) (noted : Bool) : State :=
  let s1 := s.bumpFn f 0x040
  if !noted || s.host.aptRec.contains f then s1
  else
    let s2 := { s1 with host := { s1.host with aptRec := s1.host.aptRec ++ [f] } }
    if f = 0 then s2.log Code.apertureDrop [f] else s2.logPart Code.apertureDrop (f - 1) [f]

/-- The device physical address behind an offset of an aperture (R429); none where no such access is performed (R430). -/
def State.aptAddr (s : State) (f offset : Nat) (write : Bool) : Option Nat :=
  let a := s.fn f 0x030 + offset
  if f = 0 then
    if Nat.ble (2 ^ 41) a || Nat.ble 49152 (paFrame a) || (write && Nat.ble 48128 (paFrame a) && Nat.blt (paFrame a) 48192)
    then none else some a
  else
    let n := s.fn f 0x038
    if !s.ctxOf (f - 1) n then none
    else match s.page n (a / 2 ^ 21) with
      | some p => if write && p.ro then none else s.translate n a
      | none => none

/-- The addresses of the line parts of an access; none where a part of it is not performed. -/
def State.aptParts (s : State) (f offset len : Nat) (write : Bool) : Option (List (Nat × Nat)) :=
  if s.rel.creset || !s.mem.served then none
  else (lineParts offset len).mapM fun p => (s.aptAddr f p.1 write).map fun a => (a, p.2)

/-- APERTURE_READ (R429, R430, Table 8.5): whole lines; poisoned data is marked EP with every byte 0xFF. -/
def execApertureRead (f : Fin 17) (offset : Nat) (length : Nat) (s : State) : Res :=
  let ones := List.replicate length 0xFF#8
  .next (if !s.host.pcieUp || length = 0 || Nat.blt 4096 length || Nat.blt (2 ^ 36) (offset + length) then s
    else if !s.hostReach f then s.emit (.complete f ones false)
    else if !s.isReady then (s.aptDrop f false).emit (.complete f ones false)
    else match s.aptParts f offset length false with
      | none => (s.aptDrop f true).emit (.complete f ones false)
      | some l =>
        match l.find? fun p => s.poisoned (lineNo p.1) with
        | some p => (s.consumePoison (.host f) p.1).emit (.complete f ones true)
        | none => s.emit (.complete f (l.flatMap fun p => s.readPhys p.1 p.2) false))

/-- Write the parts of an access, line by line. -/
def State.aptWrite (s : State) (f : Fin 17) : List (Nat × Nat) → List Byte → State
  | [], _ => s
  | (pa, k) :: l, d => State.aptWrite (s.writeLinePart (.host f) pa (d.take k)) f l (d.drop k)

/-- APERTURE_WRITE (R429, R430): line writes, whole or partial; a write with EP set is dropped and reported. -/
def execApertureWrite (f : Fin 17) (offset : Nat) (data : List Byte) (ep : Bool) (s : State) : Res :=
  .next (if data.isEmpty || Nat.blt 512 data.length || Nat.blt (2 ^ 36) (offset + data.length) || !s.hostReach f then s
    else if ep then s.emit (.aer f)
    else if !s.isReady then s.aptDrop f false
    else match s.aptParts f offset data.length true with
      | none => s.aptDrop f true
      | some l => s.aptWrite f l data)

/-! ### The sync window (R199 to R203, R182) -/

/-- Whether a task that runs can reach a sync word of partition k (R201). -/
def State.wordInUse (s : State) (k key : Nat) : Bool :=
  s.cores.any fun e => match e.2.run with
    | some r => s.ctxOf k r.ctx && (s.word key).admitsCtx r.ctx
    | none => false

/-- A value written while a running task can reach the word: unpredictable (R201), so free (assumption 2). -/
def State.hostValue (s : State) (k key v : Nat) : Nat × State :=
  if s.wordInUse k key then (s.freeNat.1 % 2 ^ 64, s.freeNat.2) else (v, s)

/-- Set a word for the host: it holds no lock and no mark; arm slots are tested. -/
def State.hostSet (s : State) (k key v config : Nat) : State :=
  let r := s.hostValue k key v
  (r.2.setWord key { value := r.1, config := config, holder := none, abandoned := false }).wordChanged key

/-- A write of the sync window that reaches a word of the function's partition: dropped for the physical function and an
undefined partition (R421, R422), and counted in restricted signalling (R203) or outside the partition (R199). -/
def State.windowWrite (s : State) (f rel : Nat) (act : State → Nat → Nat → State) : State :=
  let k := f - 1
  if !s.hostReach f then s
  else if f = 0 || !s.partDefined k then s.hostDrop f
  else if s.restricted k then s.bump (Ent.syncHostDrop k)
  else match s.globalCluster k rel with
    | some c => act s k c
    | none => s.bump (Ent.syncHostDrop k)

/-- SET of a word (R201). -/
def State.syncSetAt (s : State) (f : Fin 17) (cluster index v : Nat) : State :=
  s.windowWrite f cluster fun s k c => s.hostSet k (wordKey c index) v (s.word (wordKey c index)).config

/-- SYNC_SET (R201). -/
def execSyncSet (f : Fin 17) (cluster : Fin 64) (index : Fin 4096) (value : Word64) (s : State) : Res :=
  .next (s.syncSetAt f cluster index value.toNat)

/-- POST of a word (R200): dropped at a lock word. -/
def State.syncPostAt (s : State) (f : Fin 17) (cluster index v : Nat) : State :=
  s.windowWrite f cluster fun s k c =>
    if (s.word (wordKey c index)).mode = 2 then s.bump (Ent.syncHostDrop k) else s.addWord (wordKey c index) v

/-- SYNC_HOST_POST (R200). -/
def execSyncHostPost (f : Fin 17) (cluster : Fin 64) (index : Fin 4096) (value : Word64) (s : State) : Res :=
  .next (s.syncPostAt f cluster index value.toNat)

/-- Write the CONFIG of a word (R182): the word reads 0 and its lock is free; an invalid configuration is dropped, counted
and recorded. -/
def State.syncConfigAt (s : State) (f : Fin 17) (cluster index v : Nat) : State :=
  s.windowWrite f cluster fun s k c =>
    if bitsAt v 0 2 = 3 || (bitsAt v 0 2 == 1 && bitsAt v 16 16 == 0) || (v.testBit 2 && !s.ctxOf k (bitsAt v 3 6)) then
      (s.bump (Ent.syncHostDrop k)).logPart Code.syncConfigInvalid k [wordKey c index, v]
    else s.hostSet k (wordKey c index) 0 v

/-- SYNC_CONFIG_WRITE (R182). -/
def execSyncConfigWrite (f : Fin 17) (cluster : Fin 64) (index : Fin 4096) (value : Word64) (s : State) : Res :=
  .next (s.syncConfigAt f cluster index value.toNat)

/-- One of the four registers of an arm slot (Table 7.8): a TARGET or VECTOR written while the slot is armed is a free choice
of old or new (R202). -/
def ArmSlot.write (a : ArmSlot) (field v : Nat) (keep : Bool) : ArmSlot :=
  match field with
  | 0 => { a with word := bitsAt v 0 18, enable := v.testBit 31, resv0 := v - bitsAt v 0 18 - bitsAt v 31 1 * 2 ^ 31 }
  | 1 => if keep then a else { a with target := v }
  | 2 => if keep then a else { a with vector := bitsAt v 0 16, resv2 := v / 65536 }
  | _ => if v.testBit 0 then { a with fired := false } else a

/-- Write a register of an arm slot (R202): ENABLE = 1 arms the slot, which fires at once where its word meets TARGET
already. -/
def State.armWriteAt (s : State) (f : Fin 17) (slot field v : Nat) : State :=
  let k := f.val - 1
  let i := 64 * k + slot
  if !s.hostReach f then s
  else if f = 0 || !s.partDefined k then s.hostDrop f
  else if s.restricted k then s.bump (Ent.syncHostDrop k)
  else
    let open_ := (s.arm i).enable && (field == 1 || field == 2)
    let r := if open_ then s.freeBool else (false, s)
    (r.2.setArm i ((s.arm i).write field v r.1)).testArms k

/-- ARM_SLOT_WRITE (R202). -/
def execArmSlotWrite (f : Fin 17) (slot : Fin 64) (field : Fin 4) (value : Word64) (s : State) : Res :=
  .next (s.armWriteAt f slot field value.toNat)

end Sys2Proof.Machine
end

