-- ==== Sys2Proof/Machine/Dict.lean ====
section
/-!
DEFINITION. Access to the Fapin dictionary (17): who may reach an entry and when (R444, R446, R469), which values it accepts
(R439, R442), what a write does (R440) and what a read returns, and the answer of each port.
-/

namespace Sys2Proof.Machine

open Sys2Proof

/-! ### Ports and scopes (R443, R444, R446) -/

/-- The owner that a port writes as (R444). -/
def portOwner : DictPort → EOwner
  | .i3c => .mgmt
  | .vdm => .host
  | .mbx _ => .host

/-- The partition of a virtual function's mailbox; none for a port with package scope. -/
def portPart : DictPort → Option Nat
  | .mbx f => if f.val = 0 then none else some (f.val - 1)
  | .i3c => none
  | .vdm => none

/-- The reader of the fault log that a port is (R377). -/
def portReader : DictPort → Nat
  | .i3c => 0
  | .vdm => 1
  | .mbx f => 2 + f.val

/-- Whether an entry lies in a port's scope (R432, R444); a write of CTX_DEF where it names the function's own partition and
no context of another (R284). -/
def State.inScope (s : State) (port : DictPort) (r : ERow) (key : Nat) (write : Bool) (v : Nat) : Bool :=
  match portPart port with
  | none => true
  | some k =>
    let n := key % 256 - 1
    match r.scope with
    | .package => false
    | .pfOnly => false
    | .part => n == k
    | .ctx =>
      if write && key / 256 == 0x5010 then (!s.ctxValid n || s.ctxOf k n) && bitsAt v 2 4 == k
      else s.ctxOf k n
    | .log => true
    | .peer => s.ctxOf k (v % 64)

/-- The rows of an index. -/
def indexRows (index : Nat) : List ERow :=
  (Catalog.rowsOf (index / 4096)).filter fun r => Nat.ble (r.lo / 256) index && Nat.blt (index - r.lo / 256) r.idx

/-- Whether an entry is reached before READY (R469). -/
def earlyEntry (r : ERow) (index : Nat) : Bool :=
  r.pers != .volatile || [0x1000, 0x1001, 0x1010, 0x1011, 0x1012, 0x4003, 0x4020, 0x4021].contains index

/-! ### Accepted values (R439, R442) -/

/-- The bytes of a value. -/
def byteOf (v i : Nat) : Nat := bitsAt v (8 * i) 8

/-- What the type of an entry accepts (R439, R442): its range, its reserved bits, its alignment. -/
def ERow.accepts (r : ERow) (v : Nat) : Bool :=
  (v &&& r.resv) == 0 && v % Nat.max 1 r.align == 0 &&
    (match r.type with
      | .bool => Nat.ble v 1
      | .int => decide ((toI32 v).natAbs ≤ r.max)
      | .uint => Nat.ble r.min v && Nat.ble v r.max
      | .f32 => !isNan32 (BitVec.ofNat 32 v)
      | .str => true
      | .blob => true) &&
    (!r.pow2 || (List.range 64).any fun i => v == 2 ^ i)

/-- The peak of a die times 0.85, rounded down (R241). -/
def State.resvLimit (s : State) (d : Nat) : Nat := s.dieGroups d * 34816 / 100

/-- Whether a reservation is admitted (R241): on every die, with the written value for the context's own. Of the other
contexts the values in force count, and no admitted write still pending (DESIGN CHOICE, assumption 105). -/
def State.resvFits (s : State) (n v : Nat) : Bool :=
  (List.range 4).all fun d =>
    Nat.ble ((List.range 64).foldl (fun a m =>
      a + (if m = n then bitsAt v (16 * d) 16 else s.entBits (Ent.resv m) (16 * d) 16)) 0) (s.resvLimit d)

/-- Whether a ring configuration is accepted (R325). The port field 7 of a ring of one package names no port (R324). -/
def State.ringCfgOk (s : State) (k r v : Nat) : Bool :=
  let inP := bitsAt v 0 3
  let outP := bitsAt v 3 3
  let len := bitsAt v 32 12
  let taken := fun (p : Nat) => Nat.blt p 6 && (List.range 3).any fun q => q != r && s.ringValid k q && (s.ringIn k q == p || s.ringOut k q == p)
  len == s.blockSize k && Nat.blt (bitsAt v 8 11) len && !taken inP && !taken outP && (inP != outP || Nat.ble len 1)

/-- Whether a collective of partition k is in flight. -/
def State.collsInFlight (s : State) (k : Nat) : Bool := (s.ctxsOf k).any fun n => !(s.ctx n).colls.isEmpty

/-- Whether a reset of a context, its partition or the compute dies is in progress (Table 14.7). -/
def State.ctxInReset (s : State) (n : Nat) : Bool :=
  (s.ctx n).resetting.isSome || (s.part (s.ctxPart n)).resetting || s.rel.creset

/-- What the unit behind an entry says to a value that its type accepts: a result code of Table 17.4. -/
def State.unitCheck (s : State) (key v : Nat) : Nat :=
  let n := key % 256 - 1
  let ok := fun (b : Bool) => if b then Dr.ok else Dr.range
  match key / 256 with
  | 0x3020 => ok ((List.range 16).all fun i => Nat.ble (byteOf v i) 2 || Nat.ble 254 (byteOf v i))
  | 0x4002 =>
    if key = Ent.rampPeriod then ok (v == 0 || (Nat.ble 10 v && Nat.ble v 1000))
    else if key = Ent.rampOffset then ok (Nat.blt v (s.ent Ent.rampPeriod * 1000))
    else Dr.ok
  | 0x4010 => ok (v == 0xFF || (s.ctxOf n v && !s.ctxEval v))
  | 0x5000 => if (s.part n).resetting || s.rel.creset then Dr.busy else s.partClustersCheck n v
  | 0x5002 => ok (s.partDefined n)
  | 0x5010 => if v.testBit 0 then s.ctxCreateCheck n v else s.ctxDestroyCheck n
  | 0x5011 => if s.ctxValid n && s.ctxInReset n then Dr.busy else s.ctxClustersCheck n v
  | 0x5021 => s.seqCtlCheck n v
  | 0x5030 => ok (s.ctxEval n && Nat.ble 10 (bitsAt v 16 32) && Nat.ble (bitsAt v 16 32) 10000000)
  | 0x5090 => ok ((List.range 16).all fun i =>
      let x := bitsAt v (32 * i) 32
      x == 4294967295 || (Nat.ble 1 x && Nat.ble x 10000000))
  | 0x5092 => ok (v == 0 || (Nat.ble 1000 v && Nat.ble v 600000000))
  | 0x5095 => ok (s.ctxValid n)
  | 0x6010 => if s.resvFits n v then Dr.ok else Dr.capacity
  | 0x7000 => ok (key != Ent.pkgCoord || Nat.blt v 2048)
  | 0x7020 => if s.partHasCtx n then Dr.busy else Dr.ok
  | 0x7021 => if s.collsInFlight n then Dr.busy else ok (s.ringCfgOk n 0 v)
  | 0x7022 => if s.collsInFlight n then Dr.busy else ok (s.ringCfgOk n 1 v)
  | 0x7023 => if s.collsInFlight n then Dr.busy else ok (s.ringCfgOk n 2 v)
  | 0x8000 => ok (key != Ent.logTail || Nat.ble v (s.ent Ent.logHead))
  | 0x8031 => ok (Nat.ble (bitsAt v 0 16) 7)
  | 0x8050 => ok (Nat.ble (bitsAt v 0 3) 4 && Nat.ble (bitsAt v 3 3) 5 && Nat.ble (bitsAt v 0 3) (bitsAt v 3 3) &&
      bitsAt v 6 2 == 0 && Nat.ble 1 (bitsAt v 8 8))
  | 0x9000 => ok (v == 0 || !s.ctxEval n)
  | 0x9001 => ok ((s.syncKey (s.ctxPart n) (bitsAt v 0 18)).isSome)
  | 0x9002 => ok ((s.syncKey (s.ctxPart n) (bitsAt v 0 18)).isSome)
  | 0x9023 => ok (Nat.ble v (s.ent (Ent.exportTail n)))
  | _ => Dr.ok

/-! ### Self-tests and returns (R452, R453, Tables 17.9 and 17.10) -/

/-- Whether a single-slot test is queued or runs. -/
def State.slotTestBusy (s : State) : Bool :=
  s.rel.queued.any (fun v => v.kind == .selftest) ||
    (List.range 4).any fun d => match s.visitOn d with
      | some v => v.kind == .selftest
      | none => false

/-- Whether a package-wide test of a kind is refused with BUSY (Table 17.9): a context that is not FREE, a compute reset,
another test or a return; kind 2 also while a frame is mapped. -/
def State.testBusy (s : State) (kind : Nat) : Bool :=
  (List.range 64).any s.ctxValid || s.rel.creset || s.rel.selftest.isSome || s.slotTestBusy || !s.rel.rets.isEmpty ||
    (kind == 2 && s.ent Ent.freeFrames != s.ent Ent.usableFrames)

/-- How a request of a self-test is answered (R452, R498). -/
def State.testCheck (s : State) (kind : Nat) : Nat :=
  let c := s.entBits Ent.selftestSlot 5 6
  let slot := s.entBits Ent.selftestSlot 0 5
  if kind = 3 then
    if s.rel.queued.any (fun v => v.kind == .selftest) || (s.rel.selftest.isSome && s.tap.started.isSome) then Dr.busy
    else if Nat.ble 25 slot || s.slotFenced c slot then Dr.range
    else Dr.ok
  else if s.testBusy kind then Dr.busy
  else Dr.ok

/-- Begin a package-wide test (Table 17.9), or queue a single-slot test ahead of the rotation. -/
def State.testStart (s : State) (kind : Nat) : State :=
  if kind = 3 then
    let v : Visit := { cluster := s.entBits Ent.selftestSlot 5 6, slot := s.entBits Ent.selftestSlot 0 5, kind := .selftest,
                       cond := 0, deferred := false }
    State.slotTestStatus { s with rel := { s.rel with queued := s.rel.queued ++ [v] } } 1 0
  else State.testStatus { s with rel := { s.rel with selftest := some kind } } 2 kind 0

/-- The die of a unit of a return (Table 17.10). -/
def returnDie (kind unit : Nat) : Nat := if kind = 1 then bitsAt unit 5 6 / 16 else if kind = 2 then unit / 16 / 4 else unit / 4

/-- Whether a unit of a return exists and is out of service (R453). -/
def State.unitOut (s : State) (kind unit : Nat) : Bool :=
  let c := bitsAt unit 5 6
  let slot := bitsAt unit 0 5
  match kind with
  | 1 => Nat.blt unit 2048 && Nat.blt slot 25 && s.slotFenced c slot &&
      !((List.range 1536).any fun k => s.coreLost k && s.slotOf k == (c, slot))
  | 2 => Nat.blt unit 256 && !s.groupIn (unit / 16) (unit % 16)
  | 3 => Nat.blt unit 16 && s.rel.upeOut.getLsbD unit
  | _ => false

/-- How a request of a return is answered (R453). -/
def State.returnCheck (s : State) (kind unit : Nat) : Nat :=
  if !s.unitOut kind unit then Dr.range
  else if s.rel.rets.any fun r => returnDie r.1 r.2 == returnDie kind unit then Dr.busy
  else Dr.ok

/-- Begin the check of a unit that is to return. -/
def State.returnStart (s : State) (kind unit : Nat) : State :=
  State.returnStatus { s with rel := { s.rel with rets := s.rel.rets ++ [(kind, unit)] } } 1 kind unit

/-! ### Writes (R440) -/

/-- How a write is answered: a result code of Table 17.4, the checks in the order of this definition. -/
def State.dictCheck (s : State) (port : DictPort) (key : Nat) (data : List Byte) : Nat :=
  let v := leNat data
  match Catalog.row key with
  | none => if key % 256 = 0 && !(indexRows (key / 256)).isEmpty then Dr.mode else Dr.noEntry
  | some r =>
    if !s.isReady && !earlyEntry r (key / 256) then Dr.notReady
    else if !s.inScope port r key true v then Dr.owner
    else if r.acc == .ro then Dr.mode
    else if r.owner != .any && r.owner != portOwner port then Dr.owner
    else if (if r.type == .str then Nat.blt r.size data.length else r.size != data.length) then Dr.length
    else if !r.accepts v then Dr.range
    else if r.acc == .rwl && r.scope == .ctx && !s.ctxValid (key % 256 - 1) then Dr.range
    else if key = Ent.selftestReq then s.testCheck v
    else if key = Ent.returnReq then s.returnCheck (bitsAt v 0 3) (bitsAt v 8 16)
    else s.unitCheck key v

/-- A static entry (R302, R353): what a write while its unit runs leaves is unpredictable, so free (assumption 2). -/
def State.writeStatic (s : State) (key v size : Nat) : State :=
  let n := key % 256 - 1
  let runs := if key / 256 = 0x5020 then s.entBit (Ent.seqCtl n) 6 || (s.part n).seq.left != 0 else !(s.ctx n).colls.isEmpty
  let s1 := if runs then s.freeNat.2.setEnt key (s.freeNat.1 % 256 ^ size) else s.setEnt key v
  if key / 256 = 0x7042 then
    match s1.syncKey (s1.ctxPart n) (s1.entBits (Ent.collDoorbell n) 0 18) with
    | some w => s1.setEnt (Ent.collDbBase n) (s1.word w).value
    | none => s1
  else s1

/-- Clear the mark that a first drop was recorded: bit b of Ctx.first. -/
def State.clearFirst (s : State) (n b : Nat) : State :=
  s.modCtx n fun c => { c with first := c.first &&& ~~~ (BitVec.ofNat 4 (2 ^ b)) }

/-- PEER_UPDATE (R316): the cached tag of one entry. -/
def State.peerTag (s : State) (n entry tag : Nat) : State :=
  match SMap.get (fun _ => none) (s.ctx n).peers entry with
  | none => s
  | some p => s.modCtx n fun c => { c with peers := SMap.set (fun _ => none) c.peers entry (some { p with tag := tag }) }

/-- A vote releases a DONE that it withheld (R368). -/
def State.voteRelease (s : State) (n : Nat) : State :=
  if (s.ctx n).vote.withheld then
    (s.modVote n fun v => { v with withheld := false }).finishStep n (s.ent (Ent.step n) - 1)
  else s

/-- Write EXPORT_CTL (R277, R280): KEYREQ asks for KEY records; SHARDREQ for a shard export, which begins at once while no
step of the context is in progress. -/
def State.exportCtlWrite (s : State) (n v : Nat) : State :=
  let s1 := if v.testBit 0 then s.setEntBit (Ent.exportCtl n) 0 true else s
  if v.testBit 1 && !s1.entBit (Ent.exportCtl n) 1 then
    (s1.setEntBit (Ent.exportCtl n) 1 true).modExp n fun e =>
      if s1.stepOpen n then { e with held := true } else { e with shard := true }
  else s1

/-- Clear the bits of a W1C entry that are written 1; RESET stays while a reset input is held (R397). -/
def State.writeOnes (s : State) (key v : Nat) : State :=
  let m := if key = Ent.alertStatus && s.entBit Ent.resetStatus 0 then v - 4 * bitsAt v 2 1 else v
  s.setEnt key (s.ent key - (s.ent key &&& m))

/-- Write GT_CTL (R326): the master's time is locked; a package that ceases to be it has not locked yet. -/
def State.gtCtlWrite (s : State) (v : Nat) : State :=
  let s1 := s.setEnt Ent.gtCtl v
  if v.testBit 0 then s1.setEnt Ent.gtLocked 1
  else if s.entBit Ent.gtCtl 0 then s1.setEnt Ent.gtLocked 0
  else s1

/-- What an accepted write does, where it does more than its access code says. -/
def State.dictApply (s : State) (port : DictPort) (r : ERow) (key v : Nat) : State :=
  let n := key % 256 - 1
  match key / 256 with
  | 0x1002 => if v = 1 then s.compReset else s
  | 0x1010 => (if key = Ent.alertStatus then s.writeOnes key v else s.setEnt key v).updateAlertN
  | 0x4000 => (s.setEnt key v).relearnAll
  | 0x4002 =>
    let s1 := s.setEnt key v
    if key = Ent.rampPeriod && v = 0 then { s1 with power := { s1.power with rise := false } } else s1
  | 0x4014 => if v = 1 && s.partDefined n then s.relearn n else s
  | 0x5000 => s.setPartClusters n v
  | 0x5002 => if v = 1 then s.partReset n else s
  | 0x5010 => if v.testBit 0 then s.ctxCreate n v else s.ctxDestroy n
  | 0x5011 => s.setCtxClusters n v
  | 0x5021 => s.setSeqCtl n v
  | 0x5070 => (s.setEnt key v).clearFirst n 0
  | 0x5071 => (s.setEnt key v).clearFirst n 1
  | 0x5094 => (s.setEnt key v).clearFirst n 2
  | 0x5095 => if v = 1 then s.ctxReset n Code.hostReset else s
  | 0x7003 => s.setPortEnable n v
  | 0x7012 => s.peerTag (v % 64) (bitsAt v 6 12) (bitsAt v 18 8)
  | 0x7014 => (s.setEnt key v).clearFirst n 3
  | 0x7024 => (setBits v 3).foldl (fun s r => s.startCheck n r) s
  | 0x7030 => if key = Ent.gtCtl then s.gtCtlWrite v else s.setEnt key v
  | 0x8000 =>
    if key = Ent.logTail then { s with rel := { s.rel with cursors := SMap.set (fun _ => 0) s.rel.cursors (portReader port) v } }
    else s.setEnt key v
  | 0x8034 => if v = 1 then s.voteRelease n else s
  | 0x9027 => s.exportCtlWrite n v
  | 0xA000 => if key = Ent.selftestReq then s.testStart v else s.setEnt key v
  | 0xA010 => s.returnStart (bitsAt v 0 3) (bitsAt v 8 16)
  | _ =>
    if r.acc == .w1c then s.writeOnes key v
    else if r.acc == .rwl then s.writeLive key v
    else if r.acc == .rws then s.writeStatic key v r.size
    else if r.acc == .wo then s
    else if key % 256 == 2 && [0x4030, 0x4031, 0x4032, 0x6030, 0x6031, 0x6032].contains (key / 256) then
      (if key / 256 = 0x6030 then s.setEnt (256 * 0x6030 + 1) s.correctedRate else s).wmMark (key / 256) v
    else s.setEnt key v

/-- A write: its result code, and the state after it; a refused write changes nothing (R442). -/
def State.dictWriteAt (s : State) (port : DictPort) (key : Nat) (data : List Byte) : Nat × State :=
  let code := s.dictCheck port key data
  match Catalog.row key with
  | none => (code, s)
  | some r => (code, if code = Dr.ok then s.dictApply port r key (leNat data) else s)

/-! ### Reads -/

/-- Width of the slot that holds logical core k (R104). -/
def State.coreWidth (s : State) (k : Nat) : Nat := s.slotWidth (s.slotOf k).1 (s.slotOf k).2

/-- CORE_CAP and SPARE_CAP of cluster c (Table 4.6): 0 before READY, for a lost core and for no spare. -/
def State.capAt (s : State) (c sub : Nat) : Nat :=
  if !s.isReady then 0
  else if sub = 25 then (if s.spareOf c = 31 then 0 else capWord (s.badCols c (s.spareOf c)))
  else if s.coreLost (24 * c + (sub - 1)) then 0
  else capWord (s.badCols (s.slotOf (24 * c + (sub - 1))).1 (s.slotOf (24 * c + (sub - 1))).2)

/-- The logical cores that are not lost. -/
def State.liveCores (s : State) : List Nat := (List.range 1536).filter fun k => !s.coreLost k

/-- SEQ_STATUS of partition k (Table 10.6): running, and what the sequencer waits for. -/
def State.seqStatus (s : State) (k : Nat) : Nat :=
  let q := (s.part k).seq
  let n := s.entBits (Ent.seqCtl k) 0 6
  let p := s.ent (Ent.seqPass k)
  let wait := match q.table[q.next]? with
    | some e =>
      if !s.gateMet k q.inc p e then 2
      else match s.taskGroup (e.task n q.next p) with
        | some keys => if s.slotsFree keys then 0 else 4
        | none => 0
    | none => 0
  if !s.entBit (Ent.seqCtl k) 6 then 0
  else 1 + (if q.inPass then wait else 8) + 16 * (q.next % 4096)

/-- The bytes of a fault log record (Table 13.7); the placement of its arguments is not stated (assumption 21). -/
def LogRec.bytes (r : LogRec) : List Byte :=
  leBytes 8 r.time ++ leBytes 2 r.code ++ leBytes 1 r.part ++ leBytes 1 r.ctx ++ leBytes 2 r.core ++ leBytes 2 r.slot ++
    leBytes 16 (Config.logArgs r.code r.args)

/-- The number of the oldest record still held. -/
def State.logOldest (s : State) : Nat := s.ent Ent.logHead - s.rel.log.length

/-- The cursor of a reader (R377): a record that was discarded gives way to the oldest held. -/
def State.cursor (s : State) (reader : Nat) : Nat := Nat.max s.logOldest (SMap.get (fun _ => 0) s.rel.cursors reader)

/-- The records from a number on that a port sees, oldest first, with their numbers. -/
def State.logFrom (s : State) (k : Option Nat) (from_ : Nat) : List (Nat × LogRec) :=
  let l := s.rel.log.reverse.zipIdx.map fun p => (s.logOldest + p.2, p.1)
  l.filter fun p => Nat.ble from_ p.1 && (match k with
    | none => true
    | some k => p.2.part == k)

/-- A read of LOG_RECORD (R377): the next record of the reader, whose cursor moves past it; with none left, zeros. -/
def State.readLog (s : State) (port : DictPort) : List Byte × State :=
  let reader := portReader port
  let put := fun (v : Nat) => { s with rel := { s.rel with cursors := SMap.set (fun _ => 0) s.rel.cursors reader v } }
  match s.logFrom (portPart port) (s.cursor reader) with
  | p :: _ => (p.2.bytes, put (p.1 + 1))
  | [] => (List.replicate 32 0#8, put (s.ent Ent.logHead))

/-- The value of an entry as a read returns it: the value in force, or what the unit's state says. NARROWED and MIN_W leave
out lost identities, whose W no rule states (DESIGN CHOICE, assumption 103). -/
def State.dictValue (s : State) (port : DictPort) (key : Nat) : Nat :=
  let n := key % 256 - 1
  let i := key / 256
  if Nat.ble 0x1100 i && Nat.blt i 0x1140 then s.capAt (i - 0x1100) (key % 256)
  else match i with
    | 0x1000 => if key = Ent.fwVersion then (s.plat.fwMgmt.running.map (·.version)).getD 0 else s.ent key
    | 0x1001 => b2n s.plat.devReady
    | 0x1002 => if s.plat.pwrCycle then 2 else if s.rel.creset then 1 else 0
    | 0x1140 =>
      let l := s.liveCores.map s.coreWidth
      if !s.isReady then s.ent key
      else if key = Ent.narrowed then (l.filter fun w => Nat.blt w 64).length
      else l.foldl Nat.min 64
    | 0x5001 => s.partState n
    | 0x5012 => s.ctxState n
    | 0x5022 => s.seqStatus n
    | 0x5082 => b2n (s.restricted n)
    | 0x6030 => if key % 256 = 1 then s.correctedRate else s.ent key
    | 0x7030 => if key = Ent.globalTime then s.gtime.count else s.ent key
    | 0x8000 => if key = Ent.logTail then s.cursor (portReader port) else s.ent key
    | _ => s.ent key

/-- A read: its result code, the data, and the state after it. -/
def State.dictReadAt (s : State) (port : DictPort) (key : Nat) : Nat × List Byte × State :=
  match Catalog.row key with
  | some r =>
    if !s.isReady && !earlyEntry r (key / 256) then (Dr.notReady, [], s)
    else if !s.inScope port r key false 0 then (Dr.owner, [], s)
    else if r.acc == .wo then (Dr.mode, [], s)
    else if key = Ent.logRecord then (Dr.ok, (s.readLog port).1, (s.readLog port).2)
    else (Dr.ok, leBytes r.size (s.dictValue port key), s)
  | none =>
    let l := indexRows (key / 256)
    if key % 256 ≠ 0 || l.isEmpty then (Dr.noEntry, [], s)
    else if !s.isReady && !(l.any fun r => earlyEntry r (key / 256)) then (Dr.notReady, [], s)
    else if (portPart port).isSome && l.all fun r => r.scope == .package || r.scope == .pfOnly then (Dr.owner, [], s)
    else (Dr.ok, leBytes 1 ((Catalog.top (key / 256)).getD 0), s)

/-! ### Answers (R443, R432) -/

/-- Whether a request on a port is handled: a port that is open, a function that is reached; in recovery only reads of index
0x1000 on I3C (R471). -/
def State.dictOpen (s : State) (port : DictPort) (readIndex : Option Nat) : Bool :=
  s.portOpen port && (s.plat.stage != .recovery || readIndex == some 0x1000) &&
    (match port with
      | .mbx f => s.hostReach f.val
      | .i3c => true
      | .vdm => true)

/-- The mailbox of a function. -/
def State.mailbox (s : State) (f : Nat) : Mailbox := SMap.get (fun _ => Mailbox.init) s.host.mbx f

/-- Set the mailbox of a function. -/
def State.setMailbox (s : State) (f : Nat) (m : Mailbox) : State :=
  { s with host := { s.host with mbx := SMap.set (fun _ => Mailbox.init) s.host.mbx f m } }

/-- Put bytes into a mailbox's DATA. -/
def Mailbox.put (m : Mailbox) (data : List Byte) : Mailbox :=
  { m with data := SMap.setAll (fun _ => 0#8) m.data (data.zipIdx.map fun p => (p.2, p.1)) }

/-- Answer an access: a response over MCTP, or STATUS and DATA of the mailbox, which holds the request (Table 16.5). -/
def State.dictAnswer (s : State) (port : DictPort) (op : Nat) (sent : List Byte) (code : Nat) (data : List Byte) : State :=
  match port with
  | .mbx f => s.setMailbox f.val (({ (s.mailbox f.val).put sent with
      op := op, status := 256 * code + 65536 * data.length } : Mailbox).put data)
  | .i3c => s.emit (.dict port code data)
  | .vdm => s.emit (.dict port code data)

/-- A write request on a port, with its answer. -/
def State.dictRequest (s : State) (port : DictPort) (key : Nat) (data : List Byte) : State :=
  if !s.dictOpen port none then s
  else
    let r := s.dictWriteAt port key data
    r.2.dictAnswer port (2 + key % 256 * 256 + key / 256 * 65536 + data.length * 2 ^ 32) data r.1 []

/-- A read request on a port, with its answer. -/
def State.dictFetch (s : State) (port : DictPort) (key : Nat) : State :=
  if !s.dictOpen port (some (key / 256)) then s
  else
    let r := s.dictReadAt port key
    r.2.2.dictAnswer port (1 + key % 256 * 256 + key / 256 * 65536) [] r.1 r.2.1

/-! ### BAR0 (R422, R423, Table 16.2) -/

/-- A write of a mailbox register (Table 16.5): GO starts an access, which completes at once. -/
def State.mailboxWrite (s : State) (f : Fin 17) (off v : Nat) : State :=
  let m := s.mailbox f.val
  let key := 256 * bitsAt v 16 16 + bitsAt v 8 8
  if off = 0 then
    if v.testBit 63 then
      (if bitsAt v 0 8 = 1 then s.dictFetch (.mbx f) key
      else if bitsAt v 0 8 = 2 then s.dictRequest (.mbx f) key ((List.range (bitsAt v 32 11)).map fun i =>
        SMap.get (fun _ => 0#8) m.data i)
      else s.dictAnswer (.mbx f) (bitsAt v 0 63) [] Dr.invalid [])
    else s.setMailbox f.val { m with op := v }
  else if off = 8 then s
  else if Nat.ble 0x100 off && Nat.blt off 0x500 then
    s.setMailbox f.val { m with data := SMap.setAll (fun _ => 0#8) m.data ((leBytes 8 v).zipIdx.map fun p =>
      (off - 0x100 + p.2, p.1)) }
  else s.hostDrop f.val

/-- A write of the MSI-X table: 4 or 8 bytes, naturally aligned; an entry unmasked sends what is pending (R431). -/
def State.msixWrite (s : State) (f off size v : Nat) : State :=
  let half := off / 8 * 8
  let new := if size = 8 then v else putBits (s.msixHalf f half) (8 * (off % 8)) 32 v
  if (size = 8 && off % 8 = 0) || (size = 4 && off % 4 = 0) then
    State.flushPba { s with host := { s.host with msix := SMap.set msixDefault s.host.msix (1024 * f + half) new } } f
  else s.hostDrop f

/-- A write of the sync window (R199, Table 7.5). -/
def State.syncWindowWrite (s : State) (f : Fin 17) (off size v : Nat) : State :=
  let k := f.val - 1
  let w := fun (base unit : Nat) => (off - base) / unit
  if f.val = 0 || !s.partDefined k then s.hostDrop f.val
  else if size ≠ 8 || off % 8 ≠ 0 then s.bump (Ent.syncHostDrop k)
  else if Nat.blt off 0x400000 then
    (if off % 16 = 0 then s.syncSetAt f (w 0 16 / 4096) (w 0 16 % 4096) v
    else s.syncPostAt f (w 0 16 / 4096) (w 0 16 % 4096) v)
  else if Nat.blt off 0x600000 then s.syncConfigAt f (w 0x400000 8 / 4096) (w 0x400000 8 % 4096) v
  else if Nat.blt off 0x600800 then s.armWriteAt f (w 0x600000 32) (off % 32 / 8) v
  else s.bump (Ent.syncHostDrop k)

/-- A write of BAR0 of function f. -/
def State.bar0Write (s : State) (f : Fin 17) (off size v : Nat) : State :=
  let whole := size == 8 && off % 8 == 0
  let n := (off - 0x10000) / 0x1000
  if Nat.blt off 0x1000 then (if whole then s.fnWrite f.val off v else s.hostDrop f.val)
  else if Nat.blt off 0x2000 then (if whole then s.mailboxWrite f (off - 0x1000) v else s.hostDrop f.val)
  else if Nat.ble 0x10000 off && Nat.blt off 0x50000 then
    (if f.val ≠ 0 && whole && s.ctxOf (f.val - 1) n && s.isReady then s.pageWrite n (off % 0x1000) v else s.hostDrop f.val)
  else if Nat.ble 0x100000 off && Nat.blt off 0x100400 then s.msixWrite f.val (off - 0x100000) size v
  else if Nat.ble 0x108000 off && Nat.blt off 0x108008 then s
  else if Nat.ble 0x800000 off && Nat.blt off 0x1000000 then s.syncWindowWrite f (off - 0x800000) size v
  else s.hostDrop f.val

end Sys2Proof.Machine
end

