-- ==== Sys2Proof/Machine/ExecDict.lean ====
section
/-!
DEFINITION. The commands of the dictionary ports and of BAR0 (17, R422): reads and writes, and the writes that have a row of
their own. A row of its own is the same request as DICT_WRITE with that entry, answered in the same way.
-/

namespace Sys2Proof.Machine

open Sys2Proof

/-- DICT_READ (R442). -/
def execDictRead (port : DictPort) (index : BitVec 16) (sub : Byte) (s : State) : Res :=
  .next (s.dictFetch port (256 * index.toNat + sub.toNat))

/-- DICT_WRITE (R442): a message carries at most 1,024 bytes (Table 17.5). -/
def execDictWrite (port : DictPort) (index : BitVec 16) (sub : Byte) (data : List Byte) (s : State) : Res :=
  .next (if Nat.blt 1024 data.length then s else s.dictRequest port (256 * index.toNat + sub.toNat) data)

/-- REGISTER_WRITE (R423, R440): a write of BAR0. -/
def execRegisterWrite (f : Fin 17) (offset : BitVec 26) (size : Nat) (value : Word64) (s : State) : Res :=
  .next (if s.hostReach f then s.bar0Write f offset.toNat size value.toNat else s)

/-- WATERMARK_MARK_WRITE (R449). -/
def execWatermarkMarkWrite (port : DictPort) (index : BitVec 16) (value : BitVec 32) (s : State) : Res :=
  .next (if [0x4030, 0x4031, 0x4032, 0x6030, 0x6031, 0x6032].contains index.toNat then
      s.dictRequest port (256 * index.toNat + 2) (leBytes 4 value.toNat)
    else s)

/-! ### Memory, updates and export -/

/-- RESV_WRITE (R240, R241). -/
def execResvWrite (port : DictPort) (n : Fin 64) (value : Word64) (s : State) : Res :=
  .next (s.dictRequest port (Ent.resv n) (leBytes 8 value.toNat))

/-- VOTE_RELEASE (R368). -/
def execVoteRelease (port : DictPort) (n : Fin 64) (s : State) : Res :=
  .next (s.dictRequest port (Ent.voteRelease n) [1#8])

/-- EXPORT_HEAD_WRITE (R276). -/
def execExportHeadWrite (port : DictPort) (n : Fin 64) (value : Word64) (s : State) : Res :=
  .next (s.dictRequest port (Ent.exportHead n) (leBytes 8 value.toNat))

/-- KEYREQ (R277). -/
def execKeyreq (port : DictPort) (n : Fin 64) (s : State) : Res := .next (s.dictRequest port (Ent.exportCtl n) [1#8])

/-- SHARDREQ (R280). -/
def execShardreq (port : DictPort) (n : Fin 64) (s : State) : Res := .next (s.dictRequest port (Ent.exportCtl n) [2#8])

/-! ### Partitions and contexts -/

/-- PART_CLUSTERS_WRITE (R283). -/
def execPartClustersWrite (port : DictPort) (k : Fin 16) (mask : Word64) (s : State) : Res :=
  .next (s.dictRequest port (Ent.partClusters k) (leBytes 8 mask.toNat))

/-- CTX_CREATE (R284): a CTX_DEF write with VALID = 1. -/
def execCtxCreate (port : DictPort) (n : Fin 64) (value : BitVec 32) (s : State) : Res :=
  .next (if value.getLsbD 0 then s.dictRequest port (Ent.ctxDef n) (leBytes 4 value.toNat) else s)

/-- CTX_DESTROY (R285): a CTX_DEF write with VALID = 0. -/
def execCtxDestroy (port : DictPort) (n : Fin 64) (value : BitVec 32) (s : State) : Res :=
  .next (if value.getLsbD 0 then s else s.dictRequest port (Ent.ctxDef n) (leBytes 4 value.toNat))

/-- CTX_CLUSTERS_WRITE (R286). -/
def execCtxClustersWrite (port : DictPort) (n : Fin 64) (mask : Word64) (s : State) : Res :=
  .next (s.dictRequest port (Ent.ctxClusters n) (leBytes 8 mask.toNat))

/-- SEQ_RUN (R290): a SEQ_CTL write with RUN = 1. -/
def execSeqRun (port : DictPort) (k : Fin 16) (value : Word64) (s : State) : Res :=
  .next (if value.getLsbD 6 then s.dictRequest port (Ent.seqCtl k) (leBytes 8 value.toNat) else s)

/-- SEQ_STOP (R290): a SEQ_CTL write with RUN = 0. -/
def execSeqStop (port : DictPort) (k : Fin 16) (value : Word64) (s : State) : Res :=
  .next (if value.getLsbD 6 then s else s.dictRequest port (Ent.seqCtl k) (leBytes 8 value.toNat))

/-! ### Links and collectives -/

/-- PORT_ENABLE_WRITE (R312). -/
def execPortEnableWrite (from_ : DictPort) (port : Fin 6) (value : Byte) (s : State) : Res :=
  .next (s.dictRequest from_ (Ent.portEnable port) [value])

/-- PEER_UPDATE (R316). -/
def execPeerUpdate (port : DictPort) (value : BitVec 32) (s : State) : Res :=
  .next (s.dictRequest port Ent.peerUpdate (leBytes 4 value.toNat))

/-- RING_CFG_WRITE (R325). -/
def execRingCfgWrite (port : DictPort) (ring : Fin 3) (k : Fin 16) (value : Word64) (s : State) : Res :=
  .next (s.dictRequest port (Ent.ringCfg ring k) (leBytes 8 value.toNat))

/-- RING_VERIFY (R325). -/
def execRingVerify (port : DictPort) (k : Fin 16) (rings : Byte) (s : State) : Res :=
  .next (s.dictRequest port (Ent.ringVerify k) [rings])

/-- COLL_DOORBELL_WRITE (R332). -/
def execCollDoorbellWrite (port : DictPort) (n : Fin 64) (value : BitVec 32) (s : State) : Res :=
  .next (s.dictRequest port (Ent.collDoorbell n) (leBytes 4 value.toNat))

/-! ### Resets -/

/-- CTX_RESET (R387). -/
def execCtxReset (port : DictPort) (n : Fin 64) (value : Byte) (s : State) : Res :=
  .next (s.dictRequest port (Ent.ctxReset n) [value])

/-- PART_RESET (R389). -/
def execPartReset (port : DictPort) (k : Fin 16) (value : Byte) (s : State) : Res :=
  .next (s.dictRequest port (Ent.partReset k) [value])

/-- COMPUTE_RESET (R390). -/
def execComputeReset (port : DictPort) (value : Byte) (s : State) : Res :=
  .next (s.dictRequest port Ent.computeReset [value])

/-! ### Power -/

/-- POWER_CAP_WRITE (R404). -/
def execPowerCapWrite (port : DictPort) (value : BitVec 16) (s : State) : Res :=
  .next (s.dictRequest port Ent.powerCap (leBytes 2 value.toNat))

/-- SLOPE_WRITE (R411). -/
def execSlopeWrite (port : DictPort) (value : BitVec 16) (s : State) : Res :=
  .next (s.dictRequest port Ent.slope (leBytes 2 value.toNat))

/-- GOV_RELEARN (R409). -/
def execGovRelearn (port : DictPort) (k : Fin 16) (s : State) : Res := .next (s.dictRequest port (Ent.govRelearn k) [1#8])

/-! ### Self-tests and returns -/

/-- SELFTEST_LOGIC (R452). -/
def execSelftestLogic (port : DictPort) (s : State) : Res := .next (s.dictRequest port Ent.selftestReq [1#8])

/-- SELFTEST_MEMORY (R452). -/
def execSelftestMemory (port : DictPort) (s : State) : Res := .next (s.dictRequest port Ent.selftestReq [2#8])

/-- SELFTEST_SLOT (R452): the slot that the entry SELFTEST_SLOT names. -/
def execSelftestSlot (port : DictPort) (s : State) : Res := .next (s.dictRequest port Ent.selftestReq [3#8])

/-- RETURN_CORE_SLOT (R453). -/
def execReturnCoreSlot (port : DictPort) (cluster : Fin 64) (slot : Fin 32) (s : State) : Res :=
  .next (s.dictRequest port Ent.returnReq (leBytes 4 (1 + 256 * (slot + 32 * cluster))))

/-- RETURN_CHANNEL_GROUP (R453). -/
def execReturnChannelGroup (port : DictPort) (stack : Fin 16) (group : Fin 16) (s : State) : Res :=
  .next (s.dictRequest port Ent.returnReq (leBytes 4 (2 + 256 * (group + 16 * stack))))

/-- RETURN_UPE (R453). -/
def execReturnUpe (port : DictPort) (engine : Fin 16) (s : State) : Res :=
  .next (s.dictRequest port Ent.returnReq (leBytes 4 (3 + 256 * engine)))

end Sys2Proof.Machine
end

