-- ==== Sys2Proof/Machine/ExecMatrix.lean ====
section
/-!
DEFINITION. The commands of the matrix engine: class 0x10 enters its queue (R84, R113), and the gatherer fires (R107,
R109); what each does at the head is in Machine/Matrix.lean. Matrix instructions have no guard (R121).
-/

namespace Sys2Proof.Machine

open Sys2Proof

/-- MLOAD (R88). -/
def execMload (c : CoreId) (x : MLoadArgs) (hw : HwFault) (s : State) : Res :=
  .next (s.issue (coreKey c) 0#4 (.mload x hw))

/-- MSWAP (R89). -/
def execMswap (c : CoreId) (s : State) : Res := .next (s.issue (coreKey c) 0#4 .mswap)

/-- MSTREAM with GATH = 0 (R90). -/
def execMstream (c : CoreId) (x : MStreamArgs) (hw : HwFault) (s : State) : Res :=
  .next (s.issue (coreKey c) 0#4 (.mstream x false hw))

/-- MSTREAM with GATH = 1 (R106). -/
def execGatheredSubmission (c : CoreId) (x : MStreamArgs) (hw : HwFault) (s : State) : Res :=
  .next (s.issue (coreKey c) 0#4 (.mstream x true hw))

/-- MDRAIN (R95). -/
def execMdrain (c : CoreId) (x : MDrainArgs) (hw : HwFault) (s : State) : Res :=
  .next (s.issue (coreKey c) 0#4 (.mdrain x hw))

/-- The gatherer fires when a condition of R107 holds; a detector's fault fences the core with nothing written (R83). -/
def execRowGathererFire (c : CoreId) (hw : HwFault) (s : State) : Res :=
  let k := coreKey c
  .next (match (s.core k).run with
    | some r =>
      if (s.core k).role = .inService && (s.core k).fires (s.ent (Ent.gatherTimeout r.ctx) == 0) then
        match s.guarded k r.ctx (s.core k).regs.pc .mxe hw [] fun s => .done (s.modCore k Core.fireAll) with
        | .done s1 => s1.pump k .mxe
        | .wait s1 _ => s1
        | .gone s1 => s1
      else s
    | none => s)

/-- The gather timeout runs out (R107, R109): it counts from the copy of the oldest pending row. -/
def execGatherTimeout (c : CoreId) (s : State) : Res :=
  let k := coreKey c
  .next (if (s.core k).mxe.gath.rows.isEmpty then s
    else s.modCore k fun c => { c with mxe := { c.mxe with gath := { c.mxe.gath with timeout := true } } })

end Sys2Proof.Machine
end

