-- ==== Sys2Proof/Machine/ExecTest.lean ====
section
/-!
DEFINITION. The ends of self-tests and returns (R452 to R454), and the test access port (R494 to R498).
-/

namespace Sys2Proof.Machine

open Sys2Proof

/-! ### Self-tests -/

/-- Set the status of the test register that started a test (Table 19.12): die d's LBIST is d, IO_BIST 4, the stack
interface of stack s is 5 + s. -/
def Tap.report (t : Tap) (at_ status : Nat) : Tap :=
  if at_ < 4 then { t with lbStat := SMap.set (fun _ => 0) t.lbStat at_ status }
  else if at_ = 4 then { t with ioStat := status }
  else { t with mbStat := SMap.set (fun _ => 0) t.mbStat (at_ - 5) status }

/-- Whether the logic self-test under way covers cluster c. -/
def State.testsCluster (s : State) (c : Nat) : Bool :=
  match s.tap.started with
  | none => true
  | some d => dieOf c == d && (SMap.get (fun _ => 0xFFFF) s.tap.lbMask d).testBit (c % 16)

/-- Whether the memory self-test under way covers a group of a stack. -/
def State.testsGroup (s : State) (stack g : Nat) : Bool :=
  match s.tap.started with
  | none => true
  | some x => stack + 5 == x && (SMap.get (fun _ => 0xFFFF) s.tap.mbMask stack).testBit g

/-- A slot that fails logic self-test: a Calico failure at C0 (R372, Table 17.9). One that holds no identity takes its bad
columns, and stands by while W is at least 32. One that holds an identity is fenced, since neither its map nor W may change
before it has passed the identity (R103); failures in columns alone then have the diagnosis visit of R454, which records
them (DEDUCED, assumption 104). -/
def State.slotFails (s : State) (c slot : Nat) (r : KernelResult) : State :=
  let s1 := (s.logTested Code.selftest c slot []).calicoFail c slot 0 0
  match r, s.slotHolder c slot with
  | .columns _, some k => s1.fenceParity k
  | .columns bad, none =>
    let s2 := s1.addBadCols c slot bad
    if s2.slotWorks c slot then s2 else s2.fenceSlot c slot
  | .other, _ | .pass, _ | .deferred, _ => s1.fenceSlot c slot

/-- What a failing unit brings about, where the kind of test covers it (Table 17.9); each is recorded as SELFTEST. -/
def State.testFails (s : State) (kind : Nat) (u : FailUnit) : State :=
  match u with
  | .slot c slot r => if kind = 1 then s.slotFails c.val slot.val r else s
  | .io => if kind = 1 then s.log Code.selftest [] else s
  | .row st ch b r =>
    if kind = 2 then
      (s.log Code.selftest [st.val, ch.val, b.val, r.val]).retireRow (12288 * (32 * (128 * st.val + ch.val) + b.val) + r.val)
    else s
  | .group st g => if kind = 2 then (s.log Code.selftest [st.val, g.val]).retireGroup st.val g.val else s

/-- Logic self-test leaves the scratchpads it tested zeroed; memory self-test leaves every line it tested zero and
unpoisoned (Table 17.9). -/
def State.testClears (s : State) (kind : Nat) : State :=
  let mine := fun (frame : Nat) => s.testsGroup (frame / 65536) (frameGroup (frame % 65536))
  if kind = 1 then
    { s with cores := SMap.mapVals (fun _ => Core.init) (fun k c =>
        if s.testsCluster (k / 24) then { c with sp := Scratch.zero } else c) s.cores }
  else
    (s.modMem fun m => { m with
      cells := SMap.dropKeys (fun a => mine (a / 2 ^ 21)) m.cells
      poison := SMap.dropKeys (fun l => mine (l / 32768)) m.poison
      poisonFrames := m.poisonFrames.filter fun f => !mine f }).reportPoison

/-- The groups of a stack that leave service under a test. -/
def failGroups (fails : List FailUnit) (stack : Nat) : Nat :=
  fails.foldl (fun m u => match u with
    | .group st g => if st.val = stack then putBits m g.val 1 1 else m
    | _ => m) 0

/-- SELFTEST_COMPLETE (R452, R498): failing units leave service, the result is reported, and restricted signalling ends
(R203). -/
def execSelftestComplete (fails : List FailUnit) (s : State) : Res :=
  .next (match s.rel.selftest with
    | none => s
    | some kind =>
      let n := (fails.filter fun u => match u with
        | .slot _ _ _ => kind == 1
        | .io => kind == 1
        | .row _ _ _ _ => kind == 2
        | .group _ _ => kind == 2).length
      let s1 := (fails.foldl (fun s u => s.testFails kind u) s).testClears kind
      let tap := match s.tap.started with
        | none => s1.tap
        | some x =>
          let t := s1.tap.report x (if n = 0 then 2 else 3)
          { t with started := none, mbFail := if x < 5 then t.mbFail else SMap.set (fun _ => 0) t.mbFail (x - 5) (failGroups fails (x - 5)) }
      let s2 : State := { s1 with tap := tap, rel := { s1.rel with selftest := none } }
      (s2.definedParts.foldl State.testArms s2).testStatus (if n = 0 then 3 else 4) kind n)

/-! ### Returns (Table 17.10) -/

/-- A channel group rejoins placement; the pages in spare frames of its die move into it (Table 17.10). -/
def State.groupBack (s : State) (stack g : Nat) : State :=
  let s1 := (s.setEntBit (Ent.groupsInService stack) g true).reportFrames
  let spare := (s1.mem.pages.filter ownMapping).filterMap fun e => e.2.filter fun p =>
    p.stack / 4 == stack / 4 && Nat.ble 48192 p.frame
  (spare.foldl (fun s p =>
    if s.mem.migr.any fun m => m.ctx == p.owner && m.vpage == p.opage then s
    else match s.pickFrame (s.freeIn stack g 0 3008) with
      | none => s
      | some r => (r.2.modMem fun m => { m with migr := m.migr ++
          [{ ctx := p.owner, vpage := p.opage, stack := stack, frame := r.1 }] }).reportFrames) s1).reportResv

/-- An update engine serves its stack again; UPE_DEGRADED clears when all serve (Table 17.10). -/
def State.upeBack (s : State) (u : Nat) : State :=
  let out := s.rel.upeOut &&& ~~~ (BitVec.ofNat 16 (2 ^ u))
  let s1 : State := { s with rel := { s.rel with upeOut := out } }
  if out = 0#16 then (List.range 64).foldl (fun s n => s.setEntBit (Ent.updStatus n) 5 false) s1 else s1

/-- RETURN_COMPLETE (R453, R454): the unit comes back in its standby role, or stays out; a slot whose failures lie in
columns alone comes back with its new W, and one with W < 32 never does (R102). A condition that was prevented leaves the
visit under way (R371), and no visit goes on in a compute reset (R370). -/
def execReturnComplete (die : Fin 4) (r : KernelResult) (s : State) : Res :=
  .next (match s.rel.rets.find? fun x => returnDie x.1 x.2 == die.val with
    | none => s
    | some (kind, unit) =>
      let c := bitsAt unit 5 6
      let slot := bitsAt unit 0 5
      if kind = 1 && s.rel.creset then s
      else match kind, r with
      | 1, .deferred => s.logTested Code.calicoDeferred c slot [0]
      | 1, .pass => (s.addSpare c slot).returnEnds kind unit (s.slotWorks c slot)
      | 1, .columns bad =>
        let s1 := (s.calicoFail c slot 0 0).addBadCols c slot bad
        (s1.addSpare c slot).returnEnds kind unit (s1.slotWorks c slot)
      | 1, .other => (s.calicoFail c slot 0 0).returnEnds kind unit false
      | 2, .pass => (s.groupBack (unit / 16) (unit % 16)).returnEnds kind unit true
      | 3, .pass => (s.upeBack unit).returnEnds kind unit true
      | _, _ => s.returnEnds kind unit false)

/-! ### The test access port -/

/-- Whether a reset input is held. -/
def State.inputHeld (s : State) : Bool := s.plat.rst != 0#2

/-- Select an instruction (Table 19.10), on a port that is powered from the auxiliary rail; its data register and what
that captures. -/
def State.tapSelect (s : State) (code len bits : Nat) : State :=
  if !s.plat.aux then s else State.emit { s with tap := { s.tap with ir := code } } (.tdo len bits)

/-- The 16 cells of the boundary register: which pin each cell sees is not stated (assumption 2). -/
def State.boundary (s : State) : Nat × State :=
  (Config.testRegister s.freeCtr % 65536, { s with freeCtr := s.freeCtr + 1 })

/-- EXTEST: the boundary register while a reset input is held, otherwise as BYPASS. -/
def execExtest (s : State) : Res :=
  .next (if s.inputHeld then s.boundary.2.tapSelect 0x00 16 s.boundary.1 else s.tapSelect 0x00 1 0)

/-- SAMPLE/PRELOAD: the boundary register. -/
def execSamplePreload (s : State) : Res := .next (s.boundary.2.tapSelect 0x01 16 s.boundary.1)

/-- IDCODE: 0x10A4_0CCB. -/
def execIdcode (s : State) : Res := .next (s.tapSelect 0x02 32 0x10A40CCB)

/-- CLAMP: the bypass register. -/
def execClamp (s : State) : Res := .next (s.tapSelect 0x03 1 0)

/-- HIGHZ: the bypass register. -/
def execHighz (s : State) : Res := .next (s.tapSelect 0x04 1 0)

/-- BYPASS, and every code that Table 19.10 does not list. -/
def execBypass (code : Byte) (s : State) : Res :=
  .next (if [0x00, 0x01, 0x02, 0x03, 0x04, 0x10].contains code.toNat then s else s.tapSelect code.toNat 1 0)

/-- TAP_RESET: IDCODE is selected and every SIB closes; the device is not affected. -/
def execTapReset (s : State) : Res :=
  .next (if s.plat.aux then { s with tap := { s.tap with ir := 2, sibs := [] } } else s)

/-! ### The network of SIBs (R496, R497) -/

/-- Whether a SIB is open: 0 SIB_IO, 1 + d SIB_Dd, 5 + s SIB_S of stack s, 21 + s SIB_M of stack s. -/
def Tap.sibOpen (t : Tap) (i : Nat) : Bool := SMap.get (fun _ => false) t.sibs i

/-- A part of the scan path: a SIB, or a register with its length and what it captures. -/
inductive ScanPart where
  | sib (i : Nat)
  | reg (len bits : Nat)

/-- What a register that no rule describes captures. -/
def State.openReg (s : State) (i len : Nat) : ScanPart := .reg len (Config.testRegister (s.freeCtr + i) % 2 ^ len)

/-- The segment of a stack, from TDO. -/
def State.stackScan (s : State) (x : Nat) : List ScanPart :=
  let t := s.tap
  let field := SMap.get (fun _ => 3) t.mbPat x * 2 + SMap.get (fun _ => 0xFFFF) t.mbMask x * 8 +
    SMap.get (fun _ => 0) t.mbStat x * 2 ^ 19 + SMap.get (fun _ => 0) t.mbFail x * 2 ^ 22
  .sib (5 + x) :: (if t.sibOpen (5 + x) then
    .sib (21 + x) :: (if t.sibOpen (21 + x) then (List.range 8).map fun i => s.openReg (8 * x + i) 48 else []) ++ [.reg 64 field]
  else [])

/-- The segment of a die, from TDO. -/
def State.dieScan (s : State) (d : Nat) : List ScanPart :=
  let t := s.tap
  let lb := SMap.get (fun _ => 0xFFFF) t.lbMask d * 2 + SMap.get (fun _ => 0) t.lbStat d * 2 ^ 17
  .sib (1 + d) :: (if t.sibOpen (1 + d) then
    ([3, 2, 1, 0].flatMap fun q => s.stackScan (4 * d + q)) ++ [.reg 32 lb, s.openReg (128 + d) 16]
  else [])

/-- The scan path from TDO to TDI (R496). -/
def State.scanPath (s : State) : List ScanPart :=
  ([3, 2, 1, 0].flatMap s.dieScan) ++ .sib 0 :: (if s.tap.sibOpen 0 then
    [s.openReg 132 32, .reg 32 (s.tap.ioStat * 2), s.openReg 133 16]
  else [])

/-- The length of a scan path and the bits it captures, the bit nearest TDO first. -/
def scanBits (t : Tap) : List ScanPart → Nat × Nat
  | [] => (0, 0)
  | .sib i :: l => ((scanBits t l).1 + 1, b2n (t.sibOpen i) + 2 * (scanBits t l).2)
  | .reg n v :: l => ((scanBits t l).1 + n, v + 2 ^ n * (scanBits t l).2)

/-- The SIBs of the scan path, from TDO. -/
def State.sibChain (s : State) : List Nat :=
  s.scanPath.filterMap fun p => match p with
    | .sib i => some i
    | .reg _ _ => none

/-- NET_SEL: the network as its SIBs stand. -/
def execNetSel (s : State) : Res :=
  let r := scanBits s.tap s.scanPath
  .next (State.tapSelect { s with freeCtr := s.freeCtr + 134 } 0x10 r.1 r.2)

/-- Whether frames of a stack are mapped, or a refill or copy runs on it. -/
def State.stackBusy (s : State) (x : Nat) : Bool :=
  s.usedFrames.any (fun f => f.1 == x) ||
    (s.mem.pages.any fun e => match e.2 with
      | some p => p.stack == x
      | none => false) ||
    s.mem.refills.any (fun r => r.line / 32768 / 65536 == x) || s.mem.retiring.any (fun g => g / 16 == x)

/-- Whether a SIB may open (R497). -/
def State.sibMayOpen (s : State) (i : Nat) : Bool :=
  if i = 0 then true
  else if i < 5 then s.plat.conv && !s.rel.dieLost.getLsbD (i - 1)
  else if i < 21 then true
  else !s.stackBusy (i - 21)

/-- SIB_UPDATE (R496, R497): the bits of the SIBs in the path, from TDO; a SIB that may not open stays closed, and the first
1 sets measurement 8 whether its SIB opens or not. -/
def execSibUpdate (bits : List Bool) (s : State) : Res :=
  .next (if !s.plat.aux || s.tap.ir ≠ 0x10 then s
    else
      let l := s.sibChain.zip bits
      let sibs := l.foldl (fun m p => SMap.set (fun _ => false) m p.1 (p.2 && s.sibMayOpen p.1)) s.tap.sibs
      let s1 : State := { s with
        tap := { s.tap with sibs := sibs }
        plat := { s.plat with tested := s.plat.tested || l.any (·.2) } }
      let r := scanBits s1.tap s1.scanPath
      State.emit { s1 with freeCtr := s1.freeCtr + 134 } (.tdo r.1 r.2))

/-- Whether a register behind some SIBs is in the path. -/
def State.inPath (s : State) (l : List Nat) : Bool := s.plat.aux && s.tap.ir == 0x10 && l.all s.tap.sibOpen

/-- Start a test through the network: refused as the dictionary request would be (R498), and before READY. -/
def State.tapStart (s : State) (kind at_ : Nat) : State :=
  if !s.isReady || s.testBusy kind then { s with tap := s.tap.report at_ 4 }
  else
    let s1 := s.testStart kind
    { s1 with tap := { s1.tap.report at_ 1 with started := some at_ } }

/-- LBIST_START (R498). -/
def execLbistStart (die : Fin 4) (cmask : BitVec 16) (s : State) : Res :=
  .next (if !s.inPath [1 + die.val] then s
    else State.tapStart { s with tap := { s.tap with
      lbMask := SMap.set (fun _ => 0xFFFF) s.tap.lbMask die.val cmask.toNat } } 1 die.val)

/-- IO_BIST_START (R498). -/
def execIoBistStart (s : State) : Res := .next (if s.inPath [0] then s.tapStart 1 4 else s)

/-- MB_START (R498). -/
def execMbStart (stack : Fin 16) (gmask : BitVec 16) (pattern : BitVec 2) (s : State) : Res :=
  .next (if !s.inPath [1 + stack.val / 4, 5 + stack.val] then s
    else State.tapStart { s with tap := { s.tap with
      mbMask := SMap.set (fun _ => 0xFFFF) s.tap.mbMask stack.val gmask.toNat
      mbPat := SMap.set (fun _ => 3) s.tap.mbPat stack.val pattern.toNat } } 2 (5 + stack.val))

end Sys2Proof.Machine
end

