-- ==== Sys2Proof/Machine/ExecTransfer.lean ====
section
/-!
DEFINITION. The commands of the transfer engine: class 0x20 enters its queue (R113, R134); grants, completions,
acknowledgements and arriving words (R136, R158, R167). What each does at the head is in Machine/Transfer.lean.
-/

namespace Sys2Proof.Machine

open Sys2Proof

/-- TLOAD (R162). -/
def execTload (c : CoreId) (x : TMoveArgs) (s : State) : Res := .next (s.issue (coreKey c) x.guard (.tload x))

/-- TSTORE (R162). -/
def execTstore (c : CoreId) (x : TMoveArgs) (hw : HwFault) (s : State) : Res :=
  .next (s.issue (coreKey c) x.guard (.tstore x hw))

/-- TSEND with V = 0 (R168). -/
def execTsend (c : CoreId) (x : TSendArgs) (hw : HwFault) (s : State) : Res :=
  .next (s.issue (coreKey c) x.guard (.tsend x false hw))

/-- TSEND with V = 1 (R171). -/
def execTsendVoile (c : CoreId) (x : TSendArgs) (hw : HwFault) (s : State) : Res :=
  .next (s.issue (coreKey c) x.guard (.tsend x true hw))

/-- WOPEN (R157). -/
def execWopen (c : CoreId) (x : WinArgs) (s : State) : Res := .next (s.issue (coreKey c) x.guard (.wopen x))

/-- WCLOSE (R157). -/
def execWclose (c : CoreId) (x : WinArgs) (s : State) : Res := .next (s.issue (coreKey c) x.guard (.wclose x))

/-- The grants that a cluster has given; the extra grant of a replay is not counted (R136, R357). -/
def State.granted (s : State) (cluster : Nat) : Nat :=
  ((List.range 24).filter fun j => (s.core (24 * cluster + j)).disp.grant).length

/-- The cluster gives a grant to the oldest request while it has given fewer than G (R136, R137). -/
def execTransferGrant (cluster : Fin 64) (s : State) : Res :=
  .next (match SMap.get (fun _ => []) s.grants cluster.val, s.clusterPart cluster.val with
    | k :: l, some p =>
      if Nat.blt (s.granted cluster.val) (s.ent (Ent.transferGrants p)) then
        let s1 := { s with grants := SMap.set (fun _ => []) s.grants cluster.val l }
        (s1.modCore k fun c => { c with disp := { c.disp with grant := true } }).pump k .txe
      else s
    | _, _ => s)

/-- The oldest TLOAD in flight retires, and its flags are set (R163, R167); read data that a context reset overtook lands
first, and is dropped and counted (R387, R392). -/
def execTloadComplete (c : CoreId) (s : State) : Res :=
  let k := coreKey c
  .next (match (s.core k).disp.lateLoads, (s.core k).disp.loads with
    | n :: l, _ => (s.modCore k fun c => { c with disp := { c.disp with lateLoads := l } }).staleDrop n [Stale.read, k]
    | [], f :: l =>
      (s.modCore k fun c => Core.raise { c with disp := { c.disp with loads := l } } .txe f.flags).pump k .txe
    | [], [] => s)

/-- The oldest TSTORE not acknowledged is accepted by the stack controller (R167); an acknowledgement that a context reset
overtook lands first, and is dropped and counted (R387, R392). -/
def execTstoreAcknowledged (c : CoreId) (s : State) : Res :=
  let k := coreKey c
  .next (match (s.core k).disp.lateStores, (s.core k).disp.stores with
    | n :: l, _ => (s.modCore k fun c => { c with disp := { c.disp with lateStores := l } }).staleDrop n [Stale.store, k]
    | [], _ :: l => (s.modCore k fun c => { c with disp := { c.disp with stores := l } }).pump k .txe
    | [], [] => s)

/-- The acknowledgement of a TSEND within the package reaches the sender (R160, R167); one of an earlier tag
is dropped and counted (R392). -/
def execTsendAcknowledged (c : CoreId) (s : State) : Res :=
  let k := coreKey c
  .next (match (s.core k).disp.acks with
    | a :: l =>
      let s1 := s.modCore k fun c => { c with disp := { c.disp with acks := l } }
      if s.tagOk a.ctx a.tag then
        (s1.modCore k fun c => { c with disp := { c.disp with sends := c.disp.sends - 1 } }).winDropTx a.ctx a.dropped
          (s.sourceArgs k (s.ctxPart a.ctx) ++ [a.dst]) a.recorded
      else s1.staleDrop a.ctx [Stale.send, k]
    | [] => s)

/-- A packet on its way to a core arrives, the first of its writer on its path: its words are written, or dropped and
counted (R158, R160, R297); one that the crossings hold waits (Table 5.13, R297). Which writer's or path's comes next is the
command's to say, since nothing orders them (R20, R173): 0 is the oldest. -/
def execRemoteWriteArrival (a : Arrival) (s : State) : Res :=
  let k := coreKey a.core
  .next (match (s.packetHeads k)[a.pick]? with
    | some p => if s.heldInCrossing k p then s else s.arrive k p
    | none => s)

end Sys2Proof.Machine
end

