-- ==== Sys2Proof/Machine/ExecVector.lean ====
section
/-!
DEFINITION. The commands of the vector engine: classes 0x18, 0x19 and 0x1A enter its queue (R113, R128); what each
does at the head is in Machine/Vector.lean.
-/

namespace Sys2Proof.Machine

open Sys2Proof

/-- Dispatch an instruction of class 0x18 or 0x19. -/
def State.issueVec (s : State) (c : CoreId) (op : VOp) (x : VArgs) : State := s.issue (coreKey c) x.guard (.vec op x)

/-- Dispatch an instruction of class 0x1A. -/
def State.issueVmem (s : State) (c : CoreId) (op : MOp) (x : EArgs) (hw : HwFault) : State :=
  s.issue (coreKey c) x.guard (.vmem op x hw)

/-- VADD (Table 5.8, R129). -/
def execVadd (c : CoreId) (x : VArgs) (s : State) : Res := .next (s.issueVec c .vadd x)

/-- VSUB (Table 5.8, R129). -/
def execVsub (c : CoreId) (x : VArgs) (s : State) : Res := .next (s.issueVec c .vsub x)

/-- VMUL (Table 5.8, R129). -/
def execVmul (c : CoreId) (x : VArgs) (s : State) : Res := .next (s.issueVec c .vmul x)

/-- VFMA (Table 5.8, R129). -/
def execVfma (c : CoreId) (x : VArgs) (s : State) : Res := .next (s.issueVec c .vfma x)

/-- VMIN (Table 5.8, R129). -/
def execVmin (c : CoreId) (x : VArgs) (s : State) : Res := .next (s.issueVec c .vmin x)

/-- VMAX (Table 5.8, R129). -/
def execVmax (c : CoreId) (x : VArgs) (s : State) : Res := .next (s.issueVec c .vmax x)

/-- VABS (Table 5.8, R129). -/
def execVabs (c : CoreId) (x : VArgs) (s : State) : Res := .next (s.issueVec c .vabs x)

/-- VNEG (Table 5.8, R129). -/
def execVneg (c : CoreId) (x : VArgs) (s : State) : Res := .next (s.issueVec c .vneg x)

/-- VSEL (Table 5.8, R129). -/
def execVsel (c : CoreId) (x : VArgs) (s : State) : Res := .next (s.issueVec c .vsel x)

/-- VCEQ (Table 5.8, R129). -/
def execVceq (c : CoreId) (x : VArgs) (s : State) : Res := .next (s.issueVec c .vceq x)

/-- VCNE (Table 5.8, R129). -/
def execVcne (c : CoreId) (x : VArgs) (s : State) : Res := .next (s.issueVec c .vcne x)

/-- VCLT (Table 5.8, R129). -/
def execVclt (c : CoreId) (x : VArgs) (s : State) : Res := .next (s.issueVec c .vclt x)

/-- VCLE (Table 5.8, R129). -/
def execVcle (c : CoreId) (x : VArgs) (s : State) : Res := .next (s.issueVec c .vcle x)

/-- VIADD (Table 5.8, R129). -/
def execViadd (c : CoreId) (x : VArgs) (s : State) : Res := .next (s.issueVec c .viadd x)

/-- VAND (Table 5.8, R129). -/
def execVand (c : CoreId) (x : VArgs) (s : State) : Res := .next (s.issueVec c .vand x)

/-- VOR (Table 5.8, R129). -/
def execVor (c : CoreId) (x : VArgs) (s : State) : Res := .next (s.issueVec c .vor x)

/-- VXOR (Table 5.8, R129). -/
def execVxor (c : CoreId) (x : VArgs) (s : State) : Res := .next (s.issueVec c .vxor x)

/-- VSHL (Table 5.8, R129). -/
def execVshl (c : CoreId) (x : VArgs) (s : State) : Res := .next (s.issueVec c .vshl x)

/-- VSHR (Table 5.8, R129). -/
def execVshr (c : CoreId) (x : VArgs) (s : State) : Res := .next (s.issueVec c .vshr x)

/-- VBCAST (Table 5.8, R129). -/
def execVbcast (c : CoreId) (x : VArgs) (s : State) : Res := .next (s.issueVec c .vbcast x)

/-- VLANE (Table 5.8, R129). -/
def execVlane (c : CoreId) (x : VArgs) (s : State) : Res := .next (s.issueVec c .vlane x)

/-- VREDSUM (Table 5.8, R131). -/
def execVredsum (c : CoreId) (x : VArgs) (s : State) : Res := .next (s.issueVec c .vredsum x)

/-- VREDMAX (Table 5.8, R131). -/
def execVredmax (c : CoreId) (x : VArgs) (s : State) : Res := .next (s.issueVec c .vredmax x)

/-- VRCP (Table 5.8, R59). -/
def execVrcp (c : CoreId) (x : VArgs) (s : State) : Res := .next (s.issueVec c .vrcp x)

/-- VRSQRT (Table 5.8, R59). -/
def execVrsqrt (c : CoreId) (x : VArgs) (s : State) : Res := .next (s.issueVec c .vrsqrt x)

/-- VSQRT (Table 5.8, R59). -/
def execVsqrt (c : CoreId) (x : VArgs) (s : State) : Res := .next (s.issueVec c .vsqrt x)

/-- VEXP2 (Table 5.8, R59). -/
def execVexp2 (c : CoreId) (x : VArgs) (s : State) : Res := .next (s.issueVec c .vexp2 x)

/-- VLOG2 (Table 5.8, R59). -/
def execVlog2 (c : CoreId) (x : VArgs) (s : State) : Res := .next (s.issueVec c .vlog2 x)

/-- VEXP (Table 5.8, R60). -/
def execVexp (c : CoreId) (x : VArgs) (s : State) : Res := .next (s.issueVec c .vexp x)

/-- VLN (Table 5.8, R60). -/
def execVln (c : CoreId) (x : VArgs) (s : State) : Res := .next (s.issueVec c .vln x)

/-- VSIGM (Table 5.8, R60). -/
def execVsigm (c : CoreId) (x : VArgs) (s : State) : Res := .next (s.issueVec c .vsigm x)

/-- VTANH (Table 5.8, R60). -/
def execVtanh (c : CoreId) (x : VArgs) (s : State) : Res := .next (s.issueVec c .vtanh x)

/-- VSILU (Table 5.8, R60). -/
def execVsilu (c : CoreId) (x : VArgs) (s : State) : Res := .next (s.issueVec c .vsilu x)

/-- VCVT (Table 5.8, R129). -/
def execVcvt (c : CoreId) (x : VArgs) (s : State) : Res := .next (s.issueVec c .vcvt x)

/-- VCVTFI (Table 5.8, R58). -/
def execVcvtfi (c : CoreId) (x : VArgs) (s : State) : Res := .next (s.issueVec c .vcvtfi x)

/-- VCVTIF (Table 5.8, R58). -/
def execVcvtif (c : CoreId) (x : VArgs) (s : State) : Res := .next (s.issueVec c .vcvtif x)

/-- VRAND (Table 5.8, R130). -/
def execVrand (c : CoreId) (x : VArgs) (s : State) : Res := .next (s.issueVec c .vrand x)

/-- VDROP (Table 5.8, R130, R275). -/
def execVdrop (c : CoreId) (x : VArgs) (s : State) : Res := .next (s.issueVec c .vdrop x)

/-- VLD (Table 5.9, R132). -/
def execVld (c : CoreId) (x : EArgs) (hw : HwFault) (s : State) : Res := .next (s.issueVmem c .vld x hw)

/-- SLD (Table 5.9, R132). -/
def execSld (c : CoreId) (x : EArgs) (hw : HwFault) (s : State) : Res := .next (s.issueVmem c .sld x hw)

/-- SLDD (Table 5.9, R132). -/
def execSldd (c : CoreId) (x : EArgs) (hw : HwFault) (s : State) : Res := .next (s.issueVmem c .sldd x hw)

/-- VST (Table 5.9, R132). -/
def execVst (c : CoreId) (x : EArgs) (s : State) : Res := .next (s.issueVmem c .vst x .none)

/-- SST (Table 5.9, R132). -/
def execSst (c : CoreId) (x : EArgs) (s : State) : Res := .next (s.issueVmem c .sst x .none)

/-- SSTD (Table 5.9, R132). -/
def execSstd (c : CoreId) (x : EArgs) (s : State) : Res := .next (s.issueVmem c .sstd x .none)

end Sys2Proof.Machine
end

