-- ==== Sys2Proof/Machine/Dispatch.lean ====
section
/-!
DEFINITION. Dispatch: one arm per command, each one direct call of its meaning.
-/

namespace Sys2Proof.Machine

open Sys2Proof

/-- The effect of a command on everything but the queue. -/
def exec (i : Instr) (s : State) : Host.Outcome State Fault Refusal :=
  match i with
  | .mload c x hw => Sys2Proof.Machine.execMload c x hw s
  | .mswap c => Sys2Proof.Machine.execMswap c s
  | .mstream c x hw => Sys2Proof.Machine.execMstream c x hw s
  | .gatheredSubmission c x hw => Sys2Proof.Machine.execGatheredSubmission c x hw s
  | .rowGathererFire c hw => Sys2Proof.Machine.execRowGathererFire c hw s
  | .gatherTimeout c => Sys2Proof.Machine.execGatherTimeout c s
  | .mdrain c x hw => Sys2Proof.Machine.execMdrain c x hw s
  | .add c x => Sys2Proof.Machine.execAdd c x s
  | .sub c x => Sys2Proof.Machine.execSub c x s
  | .mul c x => Sys2Proof.Machine.execMul c x s
  | .and c x => Sys2Proof.Machine.execAnd c x s
  | .or c x => Sys2Proof.Machine.execOr c x s
  | .xor c x => Sys2Proof.Machine.execXor c x s
  | .shl c x => Sys2Proof.Machine.execShl c x s
  | .shr c x => Sys2Proof.Machine.execShr c x s
  | .sra c x => Sys2Proof.Machine.execSra c x s
  | .min c x => Sys2Proof.Machine.execMin c x s
  | .max c x => Sys2Proof.Machine.execMax c x s
  | .minu c x => Sys2Proof.Machine.execMinu c x s
  | .maxu c x => Sys2Proof.Machine.execMaxu c x s
  | .ceq c x => Sys2Proof.Machine.execCeq c x s
  | .cne c x => Sys2Proof.Machine.execCne c x s
  | .clt c x => Sys2Proof.Machine.execClt c x s
  | .cltu c x => Sys2Proof.Machine.execCltu c x s
  | .cle c x => Sys2Proof.Machine.execCle c x s
  | .cleu c x => Sys2Proof.Machine.execCleu c x s
  | .li c x => Sys2Proof.Machine.execLi c x s
  | .lih c x => Sys2Proof.Machine.execLih c x s
  | .adda c x => Sys2Proof.Machine.execAdda c x s
  | .movas c x => Sys2Proof.Machine.execMovas c x s
  | .movsa c x => Sys2Proof.Machine.execMovsa c x s
  | .pand c x => Sys2Proof.Machine.execPand c x s
  | .por c x => Sys2Proof.Machine.execPor c x s
  | .pxor c x => Sys2Proof.Machine.execPxor c x s
  | .pnot c x => Sys2Proof.Machine.execPnot c x s
  | .pset c x => Sys2Proof.Machine.execPset c x s
  | .br c x => Sys2Proof.Machine.execBr c x s
  | .loop c x => Sys2Proof.Machine.execLoop c x s
  | .endTask c x => Sys2Proof.Machine.execEnd c x s
  | .nop c x => Sys2Proof.Machine.execNop c x s
  | .flagrd c x => Sys2Proof.Machine.execFlagrd c x s
  | .flagclr c x => Sys2Proof.Machine.execFlagclr c x s
  | .phase c x => Sys2Proof.Machine.execPhase c x s
  | .csrrd c x => Sys2Proof.Machine.execCsrrd c x s
  | .drain c x => Sys2Proof.Machine.execDrain c x s
  | .illegalInstruction c w => Sys2Proof.Machine.execIllegalInstruction c w s
  | .periodChange c => Sys2Proof.Machine.execPeriodChange c s
  | .spost c x => Sys2Proof.Machine.execSpost c x s
  | .spostLocal c x => Sys2Proof.Machine.execSpostLocal c x s
  | .swait c x => Sys2Proof.Machine.execSwait c x s
  | .swaitLocal c x => Sys2Proof.Machine.execSwaitLocal c x s
  | .sbar c x => Sys2Proof.Machine.execSbar c x s
  | .slock c x => Sys2Proof.Machine.execSlock c x s
  | .sunlock c x => Sys2Proof.Machine.execSunlock c x s
  | .hpush c x => Sys2Proof.Machine.execHpush c x s
  | .hpushLocal c x => Sys2Proof.Machine.execHpushLocal c x s
  | .hpop c x => Sys2Proof.Machine.execHpop c x s
  | .hpopLocal c x => Sys2Proof.Machine.execHpopLocal c x s
  | .scommit c x => Sys2Proof.Machine.execScommit c x s
  | .segmentCommit c => Sys2Proof.Machine.execSegmentCommit c s
  | .postBufferRelease c => Sys2Proof.Machine.execPostBufferRelease c s
  | .syncWaitSatisfied c u => Sys2Proof.Machine.execSyncWaitSatisfied c u s
  | .slockGrant cluster index => Sys2Proof.Machine.execSlockGrant cluster index s
  | .handleWaitSatisfied c u => Sys2Proof.Machine.execHandleWaitSatisfied c u s
  | .vadd c x => Sys2Proof.Machine.execVadd c x s
  | .vsub c x => Sys2Proof.Machine.execVsub c x s
  | .vmul c x => Sys2Proof.Machine.execVmul c x s
  | .vfma c x => Sys2Proof.Machine.execVfma c x s
  | .vmin c x => Sys2Proof.Machine.execVmin c x s
  | .vmax c x => Sys2Proof.Machine.execVmax c x s
  | .vabs c x => Sys2Proof.Machine.execVabs c x s
  | .vneg c x => Sys2Proof.Machine.execVneg c x s
  | .vsel c x => Sys2Proof.Machine.execVsel c x s
  | .vceq c x => Sys2Proof.Machine.execVceq c x s
  | .vcne c x => Sys2Proof.Machine.execVcne c x s
  | .vclt c x => Sys2Proof.Machine.execVclt c x s
  | .vcle c x => Sys2Proof.Machine.execVcle c x s
  | .viadd c x => Sys2Proof.Machine.execViadd c x s
  | .vand c x => Sys2Proof.Machine.execVand c x s
  | .vor c x => Sys2Proof.Machine.execVor c x s
  | .vxor c x => Sys2Proof.Machine.execVxor c x s
  | .vshl c x => Sys2Proof.Machine.execVshl c x s
  | .vshr c x => Sys2Proof.Machine.execVshr c x s
  | .vbcast c x => Sys2Proof.Machine.execVbcast c x s
  | .vlane c x => Sys2Proof.Machine.execVlane c x s
  | .vredsum c x => Sys2Proof.Machine.execVredsum c x s
  | .vredmax c x => Sys2Proof.Machine.execVredmax c x s
  | .vrcp c x => Sys2Proof.Machine.execVrcp c x s
  | .vrsqrt c x => Sys2Proof.Machine.execVrsqrt c x s
  | .vsqrt c x => Sys2Proof.Machine.execVsqrt c x s
  | .vexp2 c x => Sys2Proof.Machine.execVexp2 c x s
  | .vlog2 c x => Sys2Proof.Machine.execVlog2 c x s
  | .vexp c x => Sys2Proof.Machine.execVexp c x s
  | .vln c x => Sys2Proof.Machine.execVln c x s
  | .vsigm c x => Sys2Proof.Machine.execVsigm c x s
  | .vtanh c x => Sys2Proof.Machine.execVtanh c x s
  | .vsilu c x => Sys2Proof.Machine.execVsilu c x s
  | .vcvt c x => Sys2Proof.Machine.execVcvt c x s
  | .vcvtfi c x => Sys2Proof.Machine.execVcvtfi c x s
  | .vcvtif c x => Sys2Proof.Machine.execVcvtif c x s
  | .vrand c x => Sys2Proof.Machine.execVrand c x s
  | .vdrop c x => Sys2Proof.Machine.execVdrop c x s
  | .vld c x hw => Sys2Proof.Machine.execVld c x hw s
  | .vst c x => Sys2Proof.Machine.execVst c x s
  | .sld c x hw => Sys2Proof.Machine.execSld c x hw s
  | .sldd c x hw => Sys2Proof.Machine.execSldd c x hw s
  | .sst c x => Sys2Proof.Machine.execSst c x s
  | .sstd c x => Sys2Proof.Machine.execSstd c x s
  | .tload c x => Sys2Proof.Machine.execTload c x s
  | .tstore c x hw => Sys2Proof.Machine.execTstore c x hw s
  | .tsend c x hw => Sys2Proof.Machine.execTsend c x hw s
  | .tsendVoile c x hw => Sys2Proof.Machine.execTsendVoile c x hw s
  | .wopen c x => Sys2Proof.Machine.execWopen c x s
  | .wclose c x => Sys2Proof.Machine.execWclose c x s
  | .transferGrant cluster => Sys2Proof.Machine.execTransferGrant cluster s
  | .tloadComplete c => Sys2Proof.Machine.execTloadComplete c s
  | .tstoreAcknowledged c => Sys2Proof.Machine.execTstoreAcknowledged c s
  | .tsendAcknowledged c => Sys2Proof.Machine.execTsendAcknowledged c s
  | .remoteWriteArrival a => Sys2Proof.Machine.execRemoteWriteArrival a s
  | .seqStall c => Sys2Proof.Machine.execSeqStall c s
  | .qheadStall c u => Sys2Proof.Machine.execQheadStall c u s
  | .waitTimeout c u => Sys2Proof.Machine.execWaitTimeout c u s
  | .heartbeat n => Sys2Proof.Machine.execHeartbeat n s
  | .creditStarved port vc => Sys2Proof.Machine.execCreditStarved port vc s
  | .collStall n gen => Sys2Proof.Machine.execCollStall n gen s
  | .resetStuck scope => Sys2Proof.Machine.execResetStuck scope s
  | .segmentLong c => Sys2Proof.Machine.execSegmentLong c s
  | .spareSubstitution c deliverable badWords => Sys2Proof.Machine.execSpareSubstitution c deliverable badWords s
  | .replayStart c => Sys2Proof.Machine.execReplayStart c s
  | .calicoVisitStart cluster slot => Sys2Proof.Machine.execCalicoVisitStart cluster slot s
  | .calicoConditionEnd die r kernel => Sys2Proof.Machine.execCalicoConditionEnd die r kernel s
  | .diagnosisVisit cluster slot r => Sys2Proof.Machine.execDiagnosisVisit cluster slot r s
  | .edgeModuleLaneLoss edge module trainsX8 => Sys2Proof.Machine.execEdgeModuleLaneLoss edge module trainsX8 s
  | .edgeRetrainComplete edge module => Sys2Proof.Machine.execEdgeRetrainComplete edge module s
  | .memoryLineRead at_ errs who => Sys2Proof.Machine.execMemoryLineRead at_ errs who s
  | .memoryLineWrite at_ mask data errs who => Sys2Proof.Machine.execMemoryLineWrite at_ mask data errs who s
  | .scrubRead stack errs => Sys2Proof.Machine.execScrubRead stack errs s
  | .refillHoldTimeout at_ => Sys2Proof.Machine.execRefillHoldTimeout at_ s
  | .migrationWindowEnd => Sys2Proof.Machine.execMigrationWindowEnd s
  | .pageMigrationComplete n vpage => Sys2Proof.Machine.execPageMigrationComplete n vpage s
  | .mqFetch f st cmd => Sys2Proof.Machine.execMqFetch f st cmd s
  | .alloc f cmd => Sys2Proof.Machine.execAlloc f cmd s
  | .free f cmd => Sys2Proof.Machine.execFree f cmd s
  | .shareRo f cmd => Sys2Proof.Machine.execShareRo f cmd s
  | .replReg f cmd => Sys2Proof.Machine.execReplReg f cmd s
  | .replUnreg f cmd => Sys2Proof.Machine.execReplUnreg f cmd s
  | .migrate f cmd => Sys2Proof.Machine.execMigrate f cmd s
  | .resvWrite port n value => Sys2Proof.Machine.execResvWrite port n value s
  | .updateTrigger n => Sys2Proof.Machine.execUpdateTrigger n s
  | .prePassEnd n => Sys2Proof.Machine.execPrePassEnd n s
  | .normReceive port h step sum nonfinite => Sys2Proof.Machine.execNormReceive port h step sum nonfinite s
  | .normTimeout n => Sys2Proof.Machine.execNormTimeout n s
  | .upeGroup n record group residueFails => Sys2Proof.Machine.execUpeGroup n record group residueFails s
  | .stepBoundary n => Sys2Proof.Machine.execStepBoundary n s
  | .digestReceive port h step digest => Sys2Proof.Machine.execDigestReceive port h step digest s
  | .voteTimeout n => Sys2Proof.Machine.execVoteTimeout n s
  | .voteRelease port n => Sys2Proof.Machine.execVoteRelease port n s
  | .exportHeadWrite port n value => Sys2Proof.Machine.execExportHeadWrite port n value s
  | .exportSpillDrain n => Sys2Proof.Machine.execExportSpillDrain n s
  | .keyreq port n => Sys2Proof.Machine.execKeyreq port n s
  | .shardreq port n => Sys2Proof.Machine.execShardreq port n s
  | .shardExportComplete n => Sys2Proof.Machine.execShardExportComplete n s
  | .partClustersWrite port k mask => Sys2Proof.Machine.execPartClustersWrite port k mask s
  | .ctxCreate port n value => Sys2Proof.Machine.execCtxCreate port n value s
  | .ctxDestroy port n value => Sys2Proof.Machine.execCtxDestroy port n value s
  | .ctxClustersWrite port n mask => Sys2Proof.Machine.execCtxClustersWrite port n mask s
  | .cqTailWrite n value => Sys2Proof.Machine.execCqTailWrite n value s
  | .descriptorFetch n => Sys2Proof.Machine.execDescriptorFetch n s
  | .descriptorReadCompletion n st d => Sys2Proof.Machine.execDescriptorReadCompletion n st d s
  | .taskStart c => Sys2Proof.Machine.execTaskStart c s
  | .seqRun port k value => Sys2Proof.Machine.execSeqRun port k value s
  | .seqStop port k value => Sys2Proof.Machine.execSeqStop port k value s
  | .seqPassStart k => Sys2Proof.Machine.execSeqPassStart k s
  | .seqEntryIssue k => Sys2Proof.Machine.execSeqEntryIssue k s
  | .evalSlotSave n => Sys2Proof.Machine.execEvalSlotSave n s
  | .evalSlotRun n => Sys2Proof.Machine.execEvalSlotRun n s
  | .evalBudgetExpiry n => Sys2Proof.Machine.execEvalBudgetExpiry n s
  | .evalSlotEnd n => Sys2Proof.Machine.execEvalSlotEnd n s
  | .evalRestoreComplete n => Sys2Proof.Machine.execEvalRestoreComplete n s
  | .portUp port coord authentic => Sys2Proof.Machine.execPortUp port coord authentic s
  | .portDown port => Sys2Proof.Machine.execPortDown port s
  | .portEnableWrite from_ port value => Sys2Proof.Machine.execPortEnableWrite from_ port value s
  | .laneDrop port tx lane => Sys2Proof.Machine.execLaneDrop port tx lane s
  | .retrainWindow => Sys2Proof.Machine.execRetrainWindow s
  | .laneReadd port tx lane passed => Sys2Proof.Machine.execLaneReadd port tx lane passed s
  | .flitReceive port flit => Sys2Proof.Machine.execFlitReceive port flit s
  | .replayRequest port seq => Sys2Proof.Machine.execReplayRequest port seq s
  | .trainingQueueTimeout port => Sys2Proof.Machine.execTrainingQueueTimeout port s
  | .writeMessage h payload => Sys2Proof.Machine.execWriteMessage h payload s
  | .voileMessage h payload => Sys2Proof.Machine.execVoileMessage h payload s
  | .postMessage h => Sys2Proof.Machine.execPostMessage h s
  | .ackMessage h => Sys2Proof.Machine.execAckMessage h s
  | .ackTimeout c msgid => Sys2Proof.Machine.execAckTimeout c msgid s
  | .refillReqMessage h lines step => Sys2Proof.Machine.execRefillReqMessage h lines step s
  | .refillRespMessage h lines notNow => Sys2Proof.Machine.execRefillRespMessage h lines notNow s
  | .peerUpdate port value => Sys2Proof.Machine.execPeerUpdate port value s
  | .ringCfgWrite port ring k value => Sys2Proof.Machine.execRingCfgWrite port ring k value s
  | .ringVerify port k rings => Sys2Proof.Machine.execRingVerify port k rings s
  | .ringVerifyToken k ring inPort position => Sys2Proof.Machine.execRingVerifyToken k ring inPort position s
  | .ringVerifyTimeout k ring => Sys2Proof.Machine.execRingVerifyTimeout k ring s
  | .timeExchange => Sys2Proof.Machine.execTimeExchange s
  | .timeMessage a => Sys2Proof.Machine.execTimeMessage a s
  | .gtHoldoverExpiry => Sys2Proof.Machine.execGtHoldoverExpiry s
  | .collDoorbellWrite port n value => Sys2Proof.Machine.execCollDoorbellWrite port n value s
  | .collectiveIssue n => Sys2Proof.Machine.execCollectiveIssue n s
  | .openingToken port h t => Sys2Proof.Machine.execOpeningToken port h t s
  | .abortToken port h t => Sys2Proof.Machine.execAbortToken port h t s
  | .collDataPhaseStart n gen => Sys2Proof.Machine.execCollDataPhaseStart n gen s
  | .collMessage port h m => Sys2Proof.Machine.execCollMessage port h m s
  | .collComplete n => Sys2Proof.Machine.execCollComplete n s
  | .ctxReset port n value => Sys2Proof.Machine.execCtxReset port n value s
  | .contextResetComplete n => Sys2Proof.Machine.execContextResetComplete n s
  | .partReset port k value => Sys2Proof.Machine.execPartReset port k value s
  | .partitionResetComplete k => Sys2Proof.Machine.execPartitionResetComplete k s
  | .computeReset port value => Sys2Proof.Machine.execComputeReset port value s
  | .computeResetComplete => Sys2Proof.Machine.execComputeResetComplete s
  | .tagAdvanceDelayExpiry n => Sys2Proof.Machine.execTagAdvanceDelayExpiry n s
  | .resetInputAssert pin ns => Sys2Proof.Machine.execResetInputAssert pin ns s
  | .resetHeld => Sys2Proof.Machine.execResetHeld s
  | .functionLevelReset f => Sys2Proof.Machine.execFunctionLevelReset f s
  | .busMasterEnableClear f => Sys2Proof.Machine.execBusMasterEnableClear f s
  | .busMasterEnableSet f => Sys2Proof.Machine.execBusMasterEnableSet f s
  | .pcieLinkDown => Sys2Proof.Machine.execPcieLinkDown s
  | .apertureRead f offset length => Sys2Proof.Machine.execApertureRead f offset length s
  | .apertureWrite f offset data ep => Sys2Proof.Machine.execApertureWrite f offset data ep s
  | .mqTailWrite f value => Sys2Proof.Machine.execMqTailWrite f value s
  | .mqBaseWrite f value => Sys2Proof.Machine.execMqBaseWrite f value s
  | .syncSet f cluster index value => Sys2Proof.Machine.execSyncSet f cluster index value s
  | .syncHostPost f cluster index value => Sys2Proof.Machine.execSyncHostPost f cluster index value s
  | .syncConfigWrite f cluster index value => Sys2Proof.Machine.execSyncConfigWrite f cluster index value s
  | .armSlotWrite f slot field value => Sys2Proof.Machine.execArmSlotWrite f slot field value s
  | .dictRead port index sub => Sys2Proof.Machine.execDictRead port index sub s
  | .dictWrite port index sub data => Sys2Proof.Machine.execDictWrite port index sub data s
  | .registerWrite f offset size value => Sys2Proof.Machine.execRegisterWrite f offset size value s
  | .watermarkMarkWrite port index value => Sys2Proof.Machine.execWatermarkMarkWrite port index value s
  | .selftestLogic port => Sys2Proof.Machine.execSelftestLogic port s
  | .selftestMemory port => Sys2Proof.Machine.execSelftestMemory port s
  | .selftestSlot port => Sys2Proof.Machine.execSelftestSlot port s
  | .selftestComplete fails => Sys2Proof.Machine.execSelftestComplete fails s
  | .returnCoreSlot port cluster slot => Sys2Proof.Machine.execReturnCoreSlot port cluster slot s
  | .returnChannelGroup port stack group => Sys2Proof.Machine.execReturnChannelGroup port stack group s
  | .returnUpe port engine => Sys2Proof.Machine.execReturnUpe port engine s
  | .returnComplete die r => Sys2Proof.Machine.execReturnComplete die r s
  | .powerSample r => Sys2Proof.Machine.execPowerSample r s
  | .powerCapWrite port value => Sys2Proof.Machine.execPowerCapWrite port value s
  | .slopeWrite port value => Sys2Proof.Machine.execSlopeWrite port value s
  | .govRelearn port k => Sys2Proof.Machine.execGovRelearn port k s
  | .rampGridInstant => Sys2Proof.Machine.execRampGridInstant s
  | .thermalSensorRead raw => Sys2Proof.Machine.execThermalSensorRead raw s
  | .ivrPhase r => Sys2Proof.Machine.execIvrPhase r s
  | .mainRailApply => Sys2Proof.Machine.execMainRailApply s
  | .mainRailLoss how => Sys2Proof.Machine.execMainRailLoss how s
  | .auxRailRise => Sys2Proof.Machine.execAuxRailRise s
  | .auxRailLoss => Sys2Proof.Machine.execAuxRailLoss s
  | .refclkLoss => Sys2Proof.Machine.execRefclkLoss s
  | .managementBootComplete strapAddr => Sys2Proof.Machine.execManagementBootComplete strapAddr s
  | .startPoint found => Sys2Proof.Machine.execStartPoint found s
  | .flashRecordsApply => Sys2Proof.Machine.execFlashRecordsApply s
  | .memoryInitComplete => Sys2Proof.Machine.execMemoryInitComplete s
  | .devReady => Sys2Proof.Machine.execDevReady s
  | .startupStepStuck => Sys2Proof.Machine.execStartupStepStuck s
  | .firmwareUpdate port cls img => Sys2Proof.Machine.execFirmwareUpdate port cls img s
  | .pldmSensorRead port sensor => Sys2Proof.Machine.execPldmSensorRead port sensor s
  | .getVersion port => Sys2Proof.Machine.execGetVersion port s
  | .getCapabilities port => Sys2Proof.Machine.execGetCapabilities port s
  | .negotiateAlgorithms port p384 sha384 => Sys2Proof.Machine.execNegotiateAlgorithms port p384 sha384 s
  | .getDigests port => Sys2Proof.Machine.execGetDigests port s
  | .getCertificate port slot => Sys2Proof.Machine.execGetCertificate port slot s
  | .challenge port slot nonce => Sys2Proof.Machine.execChallenge port slot nonce s
  | .getMeasurements port block => Sys2Proof.Machine.execGetMeasurements port block s
  | .extest => Sys2Proof.Machine.execExtest s
  | .samplePreload => Sys2Proof.Machine.execSamplePreload s
  | .idcode => Sys2Proof.Machine.execIdcode s
  | .clamp => Sys2Proof.Machine.execClamp s
  | .highz => Sys2Proof.Machine.execHighz s
  | .netSel => Sys2Proof.Machine.execNetSel s
  | .bypass code => Sys2Proof.Machine.execBypass code s
  | .tapReset => Sys2Proof.Machine.execTapReset s
  | .sibUpdate bits => Sys2Proof.Machine.execSibUpdate bits s
  | .lbistStart die cmask => Sys2Proof.Machine.execLbistStart die cmask s
  | .ioBistStart => Sys2Proof.Machine.execIoBistStart s
  | .mbStart stack gmask pattern => Sys2Proof.Machine.execMbStart stack gmask pattern s
  | .resetInputRelease pin => Sys2Proof.Machine.execResetInputRelease pin s
  | .portTraining port => Sys2Proof.Machine.execPortTraining port s
  | .portRetrainComplete port => Sys2Proof.Machine.execPortRetrainComplete port s
  | .pcieLinkUp => Sys2Proof.Machine.execPcieLinkUp s
  | .hostInterfaceConfigLoaded => Sys2Proof.Machine.execHostInterfaceConfigLoaded s
  | .spareRowCopyComplete stack channel bank row => Sys2Proof.Machine.execSpareRowCopyComplete stack channel bank row s
  | .flashEntryWritten index sub => Sys2Proof.Machine.execFlashEntryWritten index sub s

end Sys2Proof.Machine
end

