-- ==== Sys2Proof/Machine/Tick.lean ====
section
/-!
DEFINITION. The passing of time: one nanosecond of an idle step (assumption 4, R326).
-/

namespace Sys2Proof.Machine

/-- One count of the global time counter at its corrected rate (R327): the count rises by 1, so it neither falls nor
skips, and the time that takes on the clock of the model differs from a nanosecond by the correction in parts per million. -/
def State.countTick (s : State) : State :=
  let f := s.gtime.frac + s.gtime.rate
  { s with
    now := if f ≥ 1000000 then s.now else if f ≤ -1000000 then s.now + 2 else s.now + 1
    gtime := { s.gtime with
      count := s.gtime.count + 1
      frac := if f ≥ 1000000 then f - 1000000 else if f ≤ -1000000 then f + 1000000 else f } }

/-- One nanosecond passes: the clock of the model, and the global time counter where it runs: from S on (R460),
while SYS_REFCLK is present (R486), held while a backward correction waits for the upstream value (R327). Under a sag of
the 12 V input results go wrong meanwhile (R403). -/
def State.tick (s0 : State) : State :=
  let s := if s0.sagging then s0.sag else s0
  let s1 := { s with now := s.now + 1 }
  if s.plat.refLost then s1
  else
    match s.plat.stage with
    | .off | .booted | .recovery => s1
    | _ =>
      match s.gtime.hold with
      | some u =>
        if Nat.ble s.gtime.count (u + 1) then { s1 with gtime := { s.gtime with count := u + 1, hold := none } }
        else { s1 with gtime := { s.gtime with hold := some (u + 1) } }
      | none => s.countTick

end Sys2Proof.Machine
end

