-- ==== Sys2Proof/Machine/BarRead.lean ====
section
/-!
DEFINITION. What a read of BAR0 returns (R421 to R423, R199), and the identity in configuration space (R1): the registers of
Tables 16.3, 16.4 and 16.5, the MSI-X table and the sync window. No row of the table of commands reads BAR0, so these are
what a host sees of a state.
-/

namespace Sys2Proof.Machine

open Sys2Proof

/-- PCIe vendor ID of every function (Table 0.1). -/
def pcieVendor : Nat := 0x1FE7

/-- PCIe device ID of a function: the physical one, or a virtual one (Table 0.1). -/
def pcieDevice (f : Fin 17) : Nat := if f = 0 then 0x0A40 else 0x0A41

/-- The identity in a function's configuration space (R1): vendor and device ID, the low and the high half of the register
at its offset 0. -/
def State.configIdentity (_s : State) (f : Fin 17) : Nat := pcieVendor + 65536 * pcieDevice f

/-- Whether an upstream request of function f waits for Bus Master Enable (R434, Table 16.7). -/
def State.bmeWait (s : State) (f : Nat) : Bool :=
  !s.bme f && (s.fn f 0x060 != s.fn f 0x080 || !(s.memq f).held.isEmpty || s.pba f != 0 ||
    (f != 0 && (s.ctxsOf (f - 1)).any fun n => s.pg n 0x010 != s.pg n 0x040))

/-- Whether partition reset of function f's partition is in progress. -/
def State.fnPartReset (s : State) (f : Nat) : Bool := f != 0 && (s.part (f - 1)).resetting

/-- The STATUS word of a function (offset 0x008 of Table 16.3). -/
def State.fnStatus (s : State) (f : Nat) : Nat :=
  b2n s.isReady + 2 * b2n (s.fnPartReset f) + 4 * b2n s.rel.creset + 8 * b2n s.plat.pwrCycle + 16 * b2n (s.bmeWait f) +
    32 * b2n (f == 0 || s.partDefined (f - 1)) + 64 * b2n (s.memq f).error

/-- A function register (Table 16.3). -/
def State.fnRead (s : State) (f off : Nat) : Nat :=
  match off with
  | 0x000 => f + 65536 * (f - 1)
  | 0x008 => s.fnStatus f
  | _ => s.fn f off

/-- A register of the page of context n (Table 16.4). -/
def State.pageRead (s : State) (n off : Nat) : Nat :=
  match off with
  | 0x018 => s.ctxState n + 8 * b2n (!s.bme (s.ctxPart n + 1) && s.pg n 0x010 != s.pg n 0x040)
  | _ => s.pg n off

/-- The eight bytes at an offset of the mailbox of function f (Table 16.5); GO reads 0. -/
def State.mailboxRead (s : State) (f : Fin 17) (off : Nat) : Nat :=
  let m := s.mailbox f.val
  if off = 0 then bitsAt m.op 0 63
  else if off = 8 then m.status
  else if Nat.ble 0x100 off && Nat.blt off 0x500 then
    leNat ((List.range 8).map fun i => SMap.get (fun _ => 0#8) m.data (off - 0x100 + i))
  else 0

/-- The lock state of a lock word (Table 7.7); 0 for another word. -/
def SyncWord.lockState (w : SyncWord) : Nat :=
  if w.mode ≠ 2 then 0
  else 2 * b2n w.abandoned + (match w.holder with
    | some h => 1 + 4 * h.ctx + 256 * h.core + 8192 * h.cluster + 524288 * h.tag + 134217728 * b2n h.committed
    | none => 0)

/-- A register of an arm slot (Table 7.8). -/
def ArmSlot.read (a : ArmSlot) (field : Nat) : Nat :=
  match field with
  | 0 => a.word + a.resv0 + 2147483648 * b2n a.enable
  | 1 => a.target
  | 2 => a.vector + 65536 * a.resv2
  | _ => b2n a.fired

/-- A read of the sync window (R199, Tables 7.5 to 7.8): 0 for the physical function, an undefined partition, restricted
signalling (R203), another size, a reserved offset and a cluster outside the partition. -/
def State.syncWindowRead (s : State) (f off size : Nat) : Nat :=
  let k := f - 1
  let word := fun (i : Nat) => (s.globalCluster k (i / 4096)).map fun c => s.word (wordKey c (i % 4096))
  if f = 0 || !s.partDefined k || s.restricted k || size ≠ 8 || off % 8 ≠ 0 then 0
  else if Nat.blt off 0x400000 then
    match word (off / 16) with
    | some w => if off % 16 = 0 then w.value else w.lockState
    | none => 0
  else if Nat.blt off 0x600000 then ((word ((off - 0x400000) / 8)).map fun w => w.config).getD 0
  else if Nat.blt off 0x600800 then (s.arm (64 * k + (off - 0x600000) / 32)).read (off % 32 / 8)
  else 0

/-- The 64-bit register at an aligned offset of BAR0 below the sync window (Table 16.2). -/
def State.bar0Word (s : State) (f : Fin 17) (off : Nat) : Nat :=
  let n := (off - 0x10000) / 0x1000
  if Nat.blt off 0x1000 then s.fnRead f.val off
  else if Nat.blt off 0x2000 then s.mailboxRead f (off - 0x1000)
  else if Nat.ble 0x10000 off && Nat.blt off 0x50000 then
    (if f.val ≠ 0 && s.ctxOf (f.val - 1) n then s.pageRead n (off % 0x1000) else 0)
  else if Nat.ble 0x100000 off && Nat.blt off 0x100400 then s.msixHalf f.val (off - 0x100000)
  else if off = 0x108000 then s.pba f.val
  else 0

/-- What a read of size bytes (4 or 8, naturally aligned) at an offset of BAR0 of function f returns (R423); every byte is
0xFF while the function is under a function-level reset (R436). -/
def State.bar0Read (s : State) (f : Fin 17) (off size : Nat) : Nat :=
  if s.host.flr.contains f.val || s.host.flr.contains 0 then 2 ^ (8 * size) - 1
  else if Nat.ble 0x800000 off then s.syncWindowRead f.val (off - 0x800000) size
  else bitsAt (s.bar0Word f (off / 8 * 8)) (8 * (off % 8)) (8 * size)

end Sys2Proof.Machine
end

