-- ==== Sys2Proof/WellFormed.lean ====
section
/-!
DEFINITION. Well-formed commands: what the manual asks of a command's operands and the operand types do not say.
-/

namespace Sys2Proof

/-- No number stands twice in a list. -/
def noRepeat : List Nat → Bool
  | [] => true
  | n :: l => !l.contains n && noRepeat l

/-- Symbols that arrived wrong lie on different wires, and each differs (R217). -/
def symbolsOk (l : List SymErr) : Bool := noRepeat (l.map fun e => e.wire.val) && l.all fun e => e.diff != 0#8

/-- The OPCODE field of a memory command (Table 8.6). -/
def MemCmd.opcode (c : MemCmd) : Nat := (c.w0.extractLsb' 0 8).toNat

/-- Bad columns are named once, and at least one is (R372). -/
def KernelResult.wellFormed : KernelResult → Bool
  | .columns bad => !bad.isEmpty && noRepeat (bad.map fun b => b.val)
  | .pass | .other | .deferred => true

/-- A failing slot names a failure (R452). -/
def FailUnit.wellFormed : FailUnit → Bool
  | .slot _ _ r => r.wellFormed && r != .pass && r != .deferred
  | .row _ _ _ _ | .group _ _ | .io => true

/-- The counts of a TIME message are 64-bit counts of nanoseconds (R326). -/
def TimeMsg.wellFormed : TimeMsg → Bool
  | .ask t1 => t1 < 2 ^ 64
  | .reply t1 t2 t3 => t1 < 2 ^ 64 && t2 < 2 ^ 64 && t3 < 2 ^ 64

/-- Whether a command is well formed: CSR numbers (Table 5.2), Q of SBAR and SCOMMIT (R122), a word that no instruction
decodes (R122), opcodes of memory commands (Table 8.6), VALID and RUN as the row says (R284, R285, R290), lengths of flits and
messages (R306, R317), of accesses (R423, R429) and of dictionary writes (Table 17.5), and the numbers of readings (R405,
R415). -/
def Instr.wellFormed : Instr → Bool
  | .mload _ _ _ | .mswap _ | .mstream _ _ _ | .gatheredSubmission _ _ _ | .rowGathererFire _ _ | .gatherTimeout _
  | .mdrain _ _ _ | .add _ _ | .sub _ _ | .mul _ _ | .and _ _ | .or _ _ | .xor _ _ | .shl _ _ | .shr _ _ | .sra _ _
  | .min _ _ | .max _ _ | .minu _ _ | .maxu _ _ | .ceq _ _ | .cne _ _ | .clt _ _ | .cltu _ _ | .cle _ _ | .cleu _ _
  | .li _ _ | .lih _ _ | .adda _ _ | .movas _ _ | .movsa _ _ | .pand _ _ | .por _ _ | .pxor _ _ | .pnot _ _
  | .pset _ _ | .br _ _ | .loop _ _ | .endTask _ _ | .nop _ _ | .flagrd _ _ | .flagclr _ _ | .phase _ _ => true
  | .csrrd _ x => csrDefined x
  | .drain _ _ => true
  | .illegalInstruction c w => (decodePlovmi c w).isNone
  | .periodChange _ | .spost _ _ | .spostLocal _ _ | .swait _ _ | .swaitLocal _ _ => true
  | .sbar _ x => x.q == 0#2
  | .slock _ _ | .sunlock _ _ | .hpush _ _ | .hpushLocal _ _ | .hpop _ _ | .hpopLocal _ _ => true
  | .scommit _ x => x.q == 0#2
  | .segmentCommit _ | .postBufferRelease _ | .syncWaitSatisfied _ _ | .slockGrant _ _ | .handleWaitSatisfied _ _
  | .vadd _ _ | .vsub _ _ | .vmul _ _ | .vfma _ _ | .vmin _ _ | .vmax _ _ | .vabs _ _ | .vneg _ _ | .vsel _ _
  | .vceq _ _ | .vcne _ _ | .vclt _ _ | .vcle _ _ | .viadd _ _ | .vand _ _ | .vor _ _ | .vxor _ _ | .vshl _ _
  | .vshr _ _ | .vbcast _ _ | .vlane _ _ | .vredsum _ _ | .vredmax _ _ | .vrcp _ _ | .vrsqrt _ _ | .vsqrt _ _
  | .vexp2 _ _ | .vlog2 _ _ | .vexp _ _ | .vln _ _ | .vsigm _ _ | .vtanh _ _ | .vsilu _ _ | .vcvt _ _ | .vcvtfi _ _
  | .vcvtif _ _ | .vrand _ _ | .vdrop _ _ | .vld _ _ _ | .vst _ _ | .sld _ _ _ | .sldd _ _ _ | .sst _ _ | .sstd _ _
  | .tload _ _ | .tstore _ _ _ | .tsend _ _ _ | .tsendVoile _ _ _ | .wopen _ _ | .wclose _ _ | .transferGrant _
  | .tloadComplete _ | .tstoreAcknowledged _ | .tsendAcknowledged _ | .remoteWriteArrival _ | .seqStall _
  | .qheadStall _ _ | .waitTimeout _ _ | .heartbeat _ | .creditStarved _ _ | .collStall _ _ | .resetStuck _
  | .segmentLong _ => true
  | .spareSubstitution _ _ badWords => noRepeat (badWords.map fun w => w.val)
  | .replayStart _ | .calicoVisitStart _ _ => true
  | .calicoConditionEnd _ r _ => r.wellFormed
  | .diagnosisVisit _ _ r => r.wellFormed
  | .edgeModuleLaneLoss _ _ _ | .edgeRetrainComplete _ _ => true
  | .memoryLineRead _ errs _ => symbolsOk errs
  | .memoryLineWrite _ _ _ errs _ => symbolsOk errs
  | .scrubRead _ errs => symbolsOk errs
  | .refillHoldTimeout _ | .migrationWindowEnd => true
  | .pageMigrationComplete _ vpage => vpage < 2 ^ 27
  | .mqFetch _ _ _ => true
  | .alloc _ cmd => cmd.opcode == 1
  | .free _ cmd => cmd.opcode == 2
  | .shareRo _ cmd => cmd.opcode == 3
  | .replReg _ cmd => cmd.opcode == 4
  | .replUnreg _ cmd => cmd.opcode == 5
  | .migrate _ cmd => cmd.opcode == 6
  | .resvWrite _ _ _ | .updateTrigger _ | .prePassEnd _ => true
  | .normReceive _ _ step sum _ => step < 2 ^ 64 && sum < 2 ^ 96
  | .normTimeout _ => true
  | .upeGroup _ _ _ residueFails => residueFails ≤ 3
  | .stepBoundary _ => true
  | .digestReceive _ _ step digest => step < 2 ^ 64 && digest < 2 ^ 128
  | .voteTimeout _ | .voteRelease _ _ | .exportHeadWrite _ _ _ | .exportSpillDrain _ | .keyreq _ _ | .shardreq _ _
  | .shardExportComplete _ | .partClustersWrite _ _ _ => true
  | .ctxCreate _ _ value => value.getLsbD 0
  | .ctxDestroy _ _ value => !value.getLsbD 0
  | .ctxClustersWrite _ _ _ | .cqTailWrite _ _ | .descriptorFetch _ | .descriptorReadCompletion _ _ _ | .taskStart _ => true
  | .seqRun _ _ value => value.getLsbD 6
  | .seqStop _ _ value => !value.getLsbD 6
  | .seqPassStart _ | .seqEntryIssue _ | .evalSlotSave _ | .evalSlotRun _ | .evalBudgetExpiry _ | .evalSlotEnd _
  | .evalRestoreComplete _ | .portUp _ _ _ | .portDown _ | .portEnableWrite _ _ _ | .laneDrop _ _ _ | .retrainWindow
  | .laneReadd _ _ _ _ => true
  | .flitReceive _ flit => flit.length == 256
  | .replayRequest _ _ | .trainingQueueTimeout _ => true
  | .writeMessage h payload => payload.length == h.length.toNat && payload.length ≤ 4096
  | .voileMessage h payload => payload.length == h.length.toNat && payload.length ≤ 256
  | .postMessage h => h.length == 0#16
  | .ackMessage h => h.length == 0#16
  | .ackTimeout _ _ => true
  | .refillReqMessage _ lines step => lines.length ≤ 64 && lines.all (fun a => a % 64 == 0) && step < 2 ^ 64
  | .refillRespMessage _ lines _ => lines.length ≤ 64
  | .peerUpdate _ _ | .ringCfgWrite _ _ _ _ | .ringVerify _ _ _ | .ringVerifyToken _ _ _ _ | .ringVerifyTimeout _ _
  | .timeExchange => true
  | .timeMessage a => a.msg.wellFormed
  | .gtHoldoverExpiry | .collDoorbellWrite _ _ _ | .collectiveIssue _ => true
  | .openingToken _ _ t => t.gen < 2 ^ 64 && t.slotSum < 2 ^ 32
  | .abortToken _ _ t => t.gen < 2 ^ 64
  | .collDataPhaseStart _ _ => true
  | .collMessage _ h m => m.gen < 2 ^ 64 && m.first < 2 ^ 48 && m.data.length == h.length.toNat && m.data.length ≤ 4096
  | .collComplete _ | .ctxReset _ _ _ | .contextResetComplete _ | .partReset _ _ _ | .partitionResetComplete _
  | .computeReset _ _ | .computeResetComplete | .tagAdvanceDelayExpiry _ | .resetInputAssert _ _ | .resetHeld
  | .functionLevelReset _ | .busMasterEnableClear _ | .busMasterEnableSet _ | .pcieLinkDown => true
  | .apertureRead _ offset length => 1 ≤ length && length ≤ 4096 && offset + length ≤ 2 ^ 36
  | .apertureWrite _ offset data _ => 1 ≤ data.length && data.length ≤ 512 && offset + data.length ≤ 2 ^ 36
  | .mqTailWrite _ _ | .mqBaseWrite _ _ | .syncSet _ _ _ _ | .syncHostPost _ _ _ _ | .syncConfigWrite _ _ _ _
  | .armSlotWrite _ _ _ _ | .dictRead _ _ _ => true
  | .dictWrite _ _ _ data => data.length ≤ 1024
  | .registerWrite _ _ size value => [1, 2, 4, 8].contains size && value.toNat < 256 ^ size
  | .watermarkMarkWrite _ index _ => [0x4030#16, 0x4031#16, 0x4032#16, 0x6030#16, 0x6031#16, 0x6032#16].contains index
  | .selftestLogic _ | .selftestMemory _ | .selftestSlot _ => true
  | .selftestComplete fails => fails.all FailUnit.wellFormed
  | .returnCoreSlot _ _ _ | .returnChannelGroup _ _ _ | .returnUpe _ _ => true
  | .returnComplete _ r => r.wellFormed
  | .powerSample r => r.partitions.length == 16 && r.extra.length == 17
  | .powerCapWrite _ _ | .slopeWrite _ _ | .govRelearn _ _ | .rampGridInstant => true
  | .thermalSensorRead raw => raw.length == 100
  | .ivrPhase _ | .mainRailApply | .mainRailLoss _ | .auxRailRise | .auxRailLoss | .refclkLoss
  | .managementBootComplete _ | .startPoint _ | .flashRecordsApply | .memoryInitComplete | .devReady
  | .startupStepStuck | .firmwareUpdate _ _ _ | .pldmSensorRead _ _ | .getVersion _ | .getCapabilities _
  | .negotiateAlgorithms _ _ _ | .getDigests _ | .getCertificate _ _ | .challenge _ _ _ | .getMeasurements _ _
  | .extest | .samplePreload | .idcode | .clamp | .highz | .netSel => true
  | .bypass code => !([0x00#8, 0x01#8, 0x02#8, 0x03#8, 0x04#8, 0x10#8].contains code)
  | .tapReset | .sibUpdate _ | .lbistStart _ _ | .ioBistStart | .mbStart _ _ _ | .resetInputRelease _
  | .portTraining _ | .portRetrainComplete _ | .pcieLinkUp | .hostInterfaceConfigLoaded
  | .spareRowCopyComplete _ _ _ _ | .flashEntryWritten _ _ => true

/-- The core of an instruction that a word spells (Table 5.3); none for every other command. -/
def Instr.core? (i : Instr) : Option CoreId :=
  match i with
  | .mload c _ _ | .mswap c | .mstream c _ _ | .gatheredSubmission c _ _ | .mdrain c _ _ | .add c _ | .sub c _
  | .mul c _ | .and c _ | .or c _ | .xor c _ | .shl c _ | .shr c _ | .sra c _ | .min c _ | .max c _ | .minu c _
  | .maxu c _ | .ceq c _ | .cne c _ | .clt c _ | .cltu c _ | .cle c _ | .cleu c _ | .li c _ | .lih c _ | .adda c _
  | .movas c _ | .movsa c _ | .pand c _ | .por c _ | .pxor c _ | .pnot c _ | .pset c _ | .br c _ | .loop c _
  | .endTask c _ | .nop c _ | .flagrd c _ | .flagclr c _ | .phase c _ | .csrrd c _ | .drain c _ | .spost c _
  | .spostLocal c _ | .swait c _ | .swaitLocal c _ | .sbar c _ | .slock c _ | .sunlock c _ | .hpush c _
  | .hpushLocal c _ | .hpop c _ | .hpopLocal c _ | .scommit c _ | .vadd c _ | .vsub c _ | .vmul c _ | .vfma c _
  | .vmin c _ | .vmax c _ | .vabs c _ | .vneg c _ | .vsel c _ | .vceq c _ | .vcne c _ | .vclt c _ | .vcle c _
  | .viadd c _ | .vand c _ | .vor c _ | .vxor c _ | .vshl c _ | .vshr c _ | .vbcast c _ | .vlane c _ | .vredsum c _
  | .vredmax c _ | .vrcp c _ | .vrsqrt c _ | .vsqrt c _ | .vexp2 c _ | .vlog2 c _ | .vexp c _ | .vln c _
  | .vsigm c _ | .vtanh c _ | .vsilu c _ | .vcvt c _ | .vcvtfi c _ | .vcvtif c _ | .vrand c _ | .vdrop c _
  | .vld c _ _ | .vst c _ | .sld c _ _ | .sldd c _ _ | .sst c _ | .sstd c _ | .tload c _ | .tstore c _ _
  | .tsend c _ _ | .tsendVoile c _ _ | .wopen c _ | .wclose c _ => some c
  | _ => none

/-- Whether no detector's fault stands in an instruction: a word spells none (R83, R155). -/
def Instr.faultless : Instr → Bool
  | .mload _ _ hw | .mstream _ _ hw | .gatheredSubmission _ _ hw | .mdrain _ _ hw | .vld _ _ hw | .sld _ _ hw |
    .sldd _ _ hw | .tstore _ _ hw | .tsend _ _ hw | .tsendVoile _ _ hw => hw == .none
  | _ => true

end Sys2Proof
end

