-- ==== Sys2Proof/Safety.lean ====
section
/-!
DEFINITION. The terms in which statements are made: a command that completes, a core whose sequencer dispatches, an engine
that is free, a dictionary request that is accepted.
-/

namespace Sys2Proof.Machine

open Sys2Proof

/-- A command completes in a state: it answers a next state, and neither a fault nor a refusal. -/
def Completes (i : Instr) (s : State) : Prop := ∃ t, exec i s = .next t

/-- Core k runs task r, and its sequencer dispatches an instruction with guard g that reads rd and writes wr: the core is
in service and held by nothing (R113), its PC is aligned and its instruction cache holds the PC's line (R114), the guard is
true (R121), and no interlock holds the instruction back (R116). -/
structure Dispatches (s : State) (k : Nat) (g : BitVec 4) (rd wr : List RegName) (r : RunTask) : Prop where
  ready   : (s.core k).ready = some r
  aligned : (s.core k).regs.pc % 8 = 0
  cached  : (s.core k).cached (s.core k).regs.pc = true
  guard   : (s.core k).guard g = true
  free    : (s.core k).interlocked rd wr = false

/-- Core k dispatches an engine or synchronisation instruction: no restricted signalling forbids it in the partition (R203),
and it acts at dispatch (Q = 0), or its queue is empty and the period admits it, so that it stands at the head at once (R113,
R126, R135); no access of the other compute engine stands unordered beside it (R156). -/
structure Issues (s : State) (k : Nat) (g : BitVec 4) (op : EngOp) (r : RunTask) : Prop where
  goes    : Dispatches s k g op.reads op.writes r
  place   : op.unit = .seq ∨ ((s.core k).disp.queue op.unit = [] ∧ (s.core k).admits op.unit = true)
  open_   : (op.crossCore && s.restricted (s.ctxPart r.ctx)) = false
  alone   : (s.core k).disp.races.unordered op.unit false = []

/-- Core k goes on after an instruction of unit u: it is what f makes of it, with the program counter at the next
instruction, dispatch free, one more instruction dispatched, and the period that of the instruction (R135); the transfer
engine may have returned its grant (R136), and the period's record of accesses may have grown (R156). Nothing outside the core
changes. -/
def Retires (s t : State) (k : Nat) (u : CoreUnit) (f : Core → Core) : Prop :=
  let q := f (s.core k)
  t = { s with cores := t.cores } ∧ (∀ j, j ≠ k → t.core j = s.core j) ∧
    t.core k = { q with
      regs := { q.regs with pc := ((s.core k).regs.pc + 8) % 2 ^ 48 }
      disp := { q.disp with
        drain := false
        count := (s.core k).disp.count + 1
        races := (t.core k).disp.races
        period := if u = .seq then q.disp.period else some (unitPeriod u)
        grant := if u = .txe then (t.core k).disp.grant else q.disp.grant } }

/-- A write request on a port is accepted: the port is open and every check of Table 17.4 passes. -/
def Accepted (s : State) (port : DictPort) (key : Nat) (data : List Byte) : Prop :=
  s.dictOpen port none = true ∧ s.dictCheck port key data = Dr.ok

/-- The request word of a write, as its mailbox keeps it (Table 16.5). -/
def writeWord (key : Nat) (data : List Byte) : Nat :=
  2 + key % 256 * 256 + key / 256 * 65536 + data.length * 2 ^ 32

/-- The write request of the dictionary that a command is: its port, the key of its entry, and its data (R440, R442). -/
def request : Instr → Option (DictPort × Nat × List Byte)
  | .dictWrite p index sub data =>
    if data.length ≤ 1024 then some (p, 256 * index.toNat + sub.toNat, data) else none
  | .watermarkMarkWrite p index v =>
    if [0x4030, 0x4031, 0x4032, 0x6030, 0x6031, 0x6032].contains index.toNat then
      some (p, 256 * index.toNat + 2, leBytes 4 v.toNat)
    else none
  | .resvWrite p n v => some (p, Ent.resv n, leBytes 8 v.toNat)
  | .voteRelease p n => some (p, Ent.voteRelease n, [1#8])
  | .exportHeadWrite p n v => some (p, Ent.exportHead n, leBytes 8 v.toNat)
  | .keyreq p n => some (p, Ent.exportCtl n, [1#8])
  | .shardreq p n => some (p, Ent.exportCtl n, [2#8])
  | .partClustersWrite p k v => some (p, Ent.partClusters k, leBytes 8 v.toNat)
  | .ctxCreate p n v => if v.getLsbD 0 then some (p, Ent.ctxDef n, leBytes 4 v.toNat) else none
  | .ctxDestroy p n v => if v.getLsbD 0 then none else some (p, Ent.ctxDef n, leBytes 4 v.toNat)
  | .ctxClustersWrite p n v => some (p, Ent.ctxClusters n, leBytes 8 v.toNat)
  | .seqRun p k v => if v.getLsbD 6 then some (p, Ent.seqCtl k, leBytes 8 v.toNat) else none
  | .seqStop p k v => if v.getLsbD 6 then none else some (p, Ent.seqCtl k, leBytes 8 v.toNat)
  | .portEnableWrite p port v => some (p, Ent.portEnable port, [v])
  | .peerUpdate p v => some (p, Ent.peerUpdate, leBytes 4 v.toNat)
  | .ringCfgWrite p ring k v => some (p, Ent.ringCfg ring k, leBytes 8 v.toNat)
  | .ringVerify p k rings => some (p, Ent.ringVerify k, [rings])
  | .collDoorbellWrite p n v => some (p, Ent.collDoorbell n, leBytes 4 v.toNat)
  | .ctxReset p n v => some (p, Ent.ctxReset n, [v])
  | .partReset p k v => some (p, Ent.partReset k, [v])
  | .computeReset p v => some (p, Ent.computeReset, [v])
  | .powerCapWrite p v => some (p, Ent.powerCap, leBytes 2 v.toNat)
  | .slopeWrite p v => some (p, Ent.slope, leBytes 2 v.toNat)
  | .govRelearn p k => some (p, Ent.govRelearn k, [1#8])
  | .selftestLogic p => some (p, Ent.selftestReq, [1#8])
  | .selftestMemory p => some (p, Ent.selftestReq, [2#8])
  | .selftestSlot p => some (p, Ent.selftestReq, [3#8])
  | .returnCoreSlot p c slot => some (p, Ent.returnReq, leBytes 4 (1 + 256 * (slot + 32 * c)))
  | .returnChannelGroup p st g => some (p, Ent.returnReq, leBytes 4 (2 + 256 * (g + 16 * st)))
  | .returnUpe p u => some (p, Ent.returnReq, leBytes 4 (3 + 256 * u))
  | _ => none

/-- The answer OK to a write request (R442). -/
def State.answerOk (t : State) (port : DictPort) (key : Nat) (data : List Byte) : State :=
  t.dictAnswer port (writeWord key data) data Dr.ok []

end Sys2Proof.Machine
end

