-- ==== Sys2Proof/Certificates/Slice0/Obligations.lean ====
section
/-!
DEFINITION. The statements about the package that the provers settle, each with the rules of the manual it rests on.
-/

open Sys2Proof Sys2Proof.Machine

/-! ### The block -/

/-- A step takes the command at the front of the queue and runs it with the queue's rest. -/
def Obligations.StepRunsFrontCommand : Prop :=
  ∀ (i : Instr) (rest : List Instr) (s : State),
    step { s with pending := i :: rest } = exec i { s with pending := rest }

/-- The machine before any rail is applied: start-up has not begun (R458), every entry reads its default (Table 17.3),
every sync word reads 0 with CONFIG 0 (R181), no context is defined (R284), nothing waits, is mapped or logged, the
sequencers of the cores run no task, and memory lists no byte. That a byte never written reads 0 is the model's choice
(log entry 5). On an empty queue the block idles: time passes on its clock, and, but during a sag of its 12 V input (R403),
nothing but the clock and the global time counter changes (the model's choice, assumption 4); the counter does not fall. From
S on, with SYS_REFCLK present and no correction held or under way, global time counts 1 ns (R326, R327). -/
def Obligations.ResetAndIdle : Prop :=
  (let s := State.reset
   s.plat.stage = .off ∧ s.plat.aux = false ∧ s.plat.main = false ∧ s.plat.devReady = false ∧ s.pending = [] ∧
     (∀ k, s.ent k = Catalog.dflt k) ∧ (∀ k, s.word k = SyncWord.zero) ∧ (∀ k, s.core k = Core.init) ∧
     (∀ n, s.ctxValid n = false) ∧ (∀ n v, s.page n v = none) ∧ s.rel.log = [] ∧ Memory.wf s.mem = true ∧ ∀ a, s.memByte a = 0#8) ∧
  (∀ s : State, s.pending = [] → s.sagging = false →
     ∃ (now : Nat) (g : GTime), step s = .next { s with now := now, gtime := g } ∧ s.now ≤ now ∧ now ≤ s.now + 2 ∧
       s.gtime.count ≤ g.count ∧
       (s.plat.stage = StartStage.ready → s.plat.refLost = false → s.gtime.hold = none → s.gtime.rate = 0 →
         s.gtime.frac = 0 → now = s.now + 1 ∧ g = { s.gtime with count := s.gtime.count + 1 }))

/-- Every command completes: none ends in a fault, and none is refused. -/
def Obligations.EveryCommandCompletes : Prop := ∀ (i : Instr) (s : State), Completes i s

/-- The memory of the stacks stays in its canonical form, whatever command comes: addresses rise strictly, and no byte
that reads as one never written is listed. -/
def Obligations.MemoryStaysCanonical : Prop :=
  ∀ s t : State, Memory.wf s.mem = true → step s = .next t → Memory.wf t.mem = true

/-! ### Words of instructions -/

/-- Decoding the word of an instruction gives the instruction back, for every instruction, every operand at every value
that its layout holds (R120, Tables 4.2, 5.4, 5.7 and 5.11). -/
def Obligations.DecodeInvertsEncode : Prop :=
  ∀ (i : Instr) (c : CoreId) (w : Word64), i.wellFormed = true → i.faultless = true → i.core? = some c →
    encodePlovmi i = some w → decodePlovmi c w = some i

/-- Words written out from the tables decode to the instructions they stand for: ADD s1, s2, s3 under guard 0; VADD v1,
v2, v3; SPOST of class 0x08 with Q = 0; MSWAP; WCLOSE of window 5; a word of class 0 is illegal. -/
def Obligations.WrittenWordsDecode : Prop :=
  ∀ c : CoreId,
    decodePlovmi c 0b0000010000010000100010000110000000000000000000000000000000000000#64 =
      some (.add c { d := 1, a := 2, b := 3, i := false, imm := 0, guard := 0 }) ∧
    decodePlovmi c 0b0110000000010000100010000110000000000000000000000000000000000000#64 =
      some (.vadd c { vd := 1, va := 2, vb := 3, vc := 0, fmt := 0, sat := false, rnd := false, trunc := false, sI := 0,
                      sT := 0, sX := 0, lane := 0, guard := 0 }) ∧
    decodePlovmi c 0b0010000000010000000010000110000000000000000000000000000000000000#64 =
      some (.spost c { q := 0, a := 2, b := 3, i := false, imm := 0, tsel := 0, d := 0, guard := 0 }) ∧
    decodePlovmi c 0b0100000000100000000000000000000000000000000000000000000000000000#64 = some (.mswap c) ∧
    decodePlovmi c 0b1000000001010000000000000000000000000000000000000001010000000000#64 =
      some (.wclose c { aB := 0, sN := 0, w := 5, guard := 0 }) ∧
    decodePlovmi c 0#64 = none

/-! ### The sequencer (05) -/

/-- ADD, SUB, MUL, AND, OR, XOR, SHL, SHR, SRA, MIN, MAX, MINU and MAXU complete with sd as Table 5.5 says, b being sb, or
IMM32 sign-extended; shifts are by b[5:0]; nothing else changes but the program counter of the core (R124). LI, LIH, ADDA,
MOVAS and MOVSA complete with the register that Table 5.5 names (R124). -/
def Obligations.AluAndMoveResults : Prop :=
  (∀ (c : CoreId) (x : SArgs) (s : State) (r : RunTask),
     Dispatches s (coreKey c) x.guard (readsAB x) [.s x.d] r →
     let a := (s.core (coreKey c)).sreg x.a
     let b := if x.i then BitVec.ofInt 64 x.imm.toInt else (s.core (coreKey c)).sreg x.b
     let put : Word64 → Res := fun v => .next (s.modCore (coreKey c) fun q => (q.setS x.d v).next)
     exec (.add c x) s = put (BitVec.ofNat 64 (a.toNat + b.toNat)) ∧
     exec (.sub c x) s = put (BitVec.ofInt 64 (a.toInt - b.toInt)) ∧
     exec (.mul c x) s = put (BitVec.ofNat 64 (a.toNat * b.toNat)) ∧
     exec (.and c x) s = put (a &&& b) ∧
     exec (.or c x) s = put (a ||| b) ∧
     exec (.xor c x) s = put (a ^^^ b) ∧
     exec (.shl c x) s = put (BitVec.ofNat 64 (a.toNat * 2 ^ (b.toNat % 64))) ∧
     exec (.shr c x) s = put (BitVec.ofNat 64 (a.toNat / 2 ^ (b.toNat % 64))) ∧
     exec (.sra c x) s = put (BitVec.ofInt 64 (a.toInt / 2 ^ (b.toNat % 64))) ∧
     exec (.min c x) s = put (BitVec.ofInt 64 (min a.toInt b.toInt)) ∧
     exec (.max c x) s = put (BitVec.ofInt 64 (max a.toInt b.toInt)) ∧
     exec (.minu c x) s = put (BitVec.ofNat 64 (min a.toNat b.toNat)) ∧
     exec (.maxu c x) s = put (BitVec.ofNat 64 (max a.toNat b.toNat))) ∧
  (∀ (c : CoreId) (x : SArgs) (s : State) (r : RunTask),
     let q := s.core (coreKey c)
     let ad : BitVec 4 := x.d.setWidth 4
     let aa : BitVec 4 := x.a.setWidth 4
     let b := if x.i then BitVec.ofInt 64 x.imm.toInt else q.sreg x.b
     let putS : Word64 → Res := fun v => .next (s.modCore (coreKey c) fun q => (q.setS x.d v).next)
     let putA : Word64 → Res := fun v => .next (s.modCore (coreKey c) fun q => (q.setA ad v).next)
     (Dispatches s (coreKey c) x.guard [] [.s x.d] r → exec (.li c x) s = putS (BitVec.ofInt 64 x.imm.toInt)) ∧
     (Dispatches s (coreKey c) x.guard [.s x.d] [.s x.d] r →
       exec (.lih c x) s = putS (BitVec.ofNat 64 (2 ^ 32 * x.imm.toNat + (q.sreg x.d).toNat % 2 ^ 32))) ∧
     (Dispatches s (coreKey c) x.guard (.a aa :: if x.i then [] else [.s x.b]) [.a ad] r →
       exec (.adda c x) s = putA (BitVec.ofNat 64 ((q.areg aa).toNat + b.toNat))) ∧
     (Dispatches s (coreKey c) x.guard [.s x.a] [.a ad] r → exec (.movas c x) s = putA (q.sreg x.a)) ∧
     (Dispatches s (coreKey c) x.guard [.a aa] [.s x.d] r → exec (.movsa c x) s = putS (q.areg aa)))

/-- CEQ, CNE, CLT, CLTU, CLE and CLEU complete with pd set to whether the relation holds (R124); a write of p0 is
discarded, and p0 reads 1 (R117). PAND, POR, PXOR, PNOT and PSET complete with pd as Table 5.5 says (R124). -/
def Obligations.CompareAndPredicateResults : Prop :=
  ((∀ (c : CoreId) (x : SArgs) (s : State) (r : RunTask),
     Dispatches s (coreKey c) x.guard (readsAB x) [] r →
     let a := (s.core (coreKey c)).sreg x.a
     let b := if x.i then BitVec.ofInt 64 x.imm.toInt else (s.core (coreKey c)).sreg x.b
     let put : Bool → Res := fun v => .next (s.modCore (coreKey c) fun q => (q.setP (x.d.setWidth 3) v).next)
     exec (.ceq c x) s = put (decide (a.toNat = b.toNat)) ∧
     exec (.cne c x) s = put (decide (a.toNat ≠ b.toNat)) ∧
     exec (.clt c x) s = put (decide (a.toInt < b.toInt)) ∧
     exec (.cltu c x) s = put (decide (a.toNat < b.toNat)) ∧
     exec (.cle c x) s = put (decide (a.toInt ≤ b.toInt)) ∧
     exec (.cleu c x) s = put (decide (a.toNat ≤ b.toNat))) ∧
   ∀ (q : Core) (n m : BitVec 3) (v : Bool),
     (q.setP n v).preg m = if m = 0#3 then true else if m = n then v else q.preg m) ∧
  (∀ (c : CoreId) (x : SArgs) (s : State) (r : RunTask), Dispatches s (coreKey c) x.guard [] [] r →
     let pa := (s.core (coreKey c)).preg (x.a.setWidth 3)
     let pb := (s.core (coreKey c)).preg (x.b.setWidth 3)
     let put : Bool → Res := fun v => .next (s.modCore (coreKey c) fun q => (q.setP (x.d.setWidth 3) v).next)
     exec (.pand c x) s = put (decide (pa = true ∧ pb = true)) ∧
     exec (.por c x) s = put (decide (pa = true ∨ pb = true)) ∧
     exec (.pxor c x) s = put (decide (pa ≠ pb)) ∧
     exec (.pnot c x) s = put (decide (pa = false)) ∧
     exec (.pset c x) s = put (decide (x.imm.toNat % 2 = 1)))

/-- BR jumps to PC + 8 x IMM32; LOOP counts sd down and jumps while it is not 0; NOP does nothing; PHASE sets the core's
phase; CSRRD reads a core status value of Table 5.2; each but a jump goes on to the next instruction (R119, R124, R150).
FLAGRD, FLAGCLR and DRAIN wait until every engine has retired; then FLAGRD reads the OR of the three engines' flags,
FLAGCLR clears the three and leaves what the core gathers for its context, and DRAIN goes on (R62, R124); what the engines
accessed before comes before what they do next (R156). -/
def Obligations.ControlResults : Prop :=
  (∀ (c : CoreId) (x : SArgs) (s : State) (r : RunTask),
     let k := coreKey c
     let q := s.core k
     let target := (((q.regs.pc : Int) + 8 * x.imm.toInt) % 2 ^ 48).toNat
     let v := q.sreg x.d - 1#64
     (Dispatches s k x.guard [] [] r →
       (∃ t, exec (.br c x) s = .next t ∧ (t.core k).regs.pc = target ∧ (t.core k).regs.s = q.regs.s ∧ t.mem = s.mem) ∧
       exec (.nop c x) s = .next (s.modCore k Core.next) ∧
       (∃ t, exec (.phase c x) s = .next t ∧ (t.core k).regs.phase = x.imm.toNat % 16 ∧
         (t.core k).regs.pc = (q.regs.pc + 8) % 2 ^ 48 ∧ (t.core k).regs.s = q.regs.s ∧ t.mem = s.mem)) ∧
     (Dispatches s k x.guard [.s x.d] [.s x.d] r →
       ∃ t, exec (.loop c x) s = .next t ∧ (t.core k).sreg x.d = v ∧
         (t.core k).regs.pc = (if v = 0#64 then (q.regs.pc + 8) % 2 ^ 48 else target) ∧ t.mem = s.mem) ∧
     (Dispatches s k x.guard [] [.s x.d] r → x.imm.toNat % 4096 < 6 →
       exec (.csrrd c x) s = .next (s.modCore k fun q => (q.setS x.d (BitVec.ofNat 64
         (match x.imm.toNat % 4096 with
           | 0 => k % 24
           | 1 => s.relCluster (s.ctxPart r.ctx) (k / 24)
           | 2 => (s.partClusters (s.ctxPart r.ctx)).length
           | 3 => r.ctx
           | 4 => r.step
           | _ => r.taskid))).next))) ∧
  (∀ (c : CoreId) (x : SArgs) (s : State) (r : RunTask),
     let k := coreKey c
     let q := s.core k
     let waits : Res := .next (s.modCore k fun q => { q with disp := { q.disp with drain := true } })
     (Dispatches s k x.guard [] [.s x.d] r →
       exec (.flagrd c x) s = if q.retired then
           .next (s.modCore k fun q =>
             ((q.setS x.d ((q.flags.m ||| q.flags.v ||| q.flags.t).setWidth 64)).modRaces fun _ => Races.none).next)
         else waits) ∧
     (Dispatches s k x.guard [] [] r →
       exec (.flagclr c x) s = (if q.retired then
           .next (s.modCore k fun q =>
             (Core.modRaces { q with flags := { m := 0#4, v := 0#4, t := 0#4, seg := q.flags.seg } } fun _ => Races.none).next)
         else waits) ∧
       exec (.drain c x) s =
         if q.retired then .next (s.modCore k fun q => (q.modRaces fun _ => Races.none).next) else waits))

/-- The instructions that the sequencer executes at dispatch, but those that wait for the engines and those that end a
segment, with the registers that each reads and writes. -/
def scalarForms (c : CoreId) (x : SArgs) : List (Instr × List RegName × List RegName) :=
  let ab := readsAB x
  let aa : BitVec 4 := x.a.setWidth 4
  let ad : BitVec 4 := x.d.setWidth 4
  [(.add c x, ab, [.s x.d]), (.sub c x, ab, [.s x.d]), (.mul c x, ab, [.s x.d]), (.and c x, ab, [.s x.d]),
   (.or c x, ab, [.s x.d]), (.xor c x, ab, [.s x.d]), (.shl c x, ab, [.s x.d]), (.shr c x, ab, [.s x.d]),
   (.sra c x, ab, [.s x.d]), (.min c x, ab, [.s x.d]), (.max c x, ab, [.s x.d]), (.minu c x, ab, [.s x.d]),
   (.maxu c x, ab, [.s x.d]), (.li c x, [], [.s x.d]), (.lih c x, [.s x.d], [.s x.d]),
   (.adda c x, .a aa :: if x.i then [] else [.s x.b], [.a ad]), (.movas c x, [.s x.a], [.a ad]),
   (.movsa c x, [.a aa], [.s x.d]), (.loop c x, [.s x.d], [.s x.d]), (.br c x, [], []), (.nop c x, [], []),
   (.phase c x, [], [])]

/-- The frame of the sequencer's instructions: every scalar and address register but the destination, the predicates,
every flag, vector register, local counter, the scratchpad, the matrix engine, the handle queues and the post buffer of
the core are unchanged, and so are every other core, every byte of stacked memory, every sync word and the dictionary. -/
def Obligations.ScalarFrame : Prop :=
  ∀ (c : CoreId) (x : SArgs) (s : State) (r : RunTask), ∀ p ∈ scalarForms c x,
    Dispatches s (coreKey c) x.guard p.2.1 p.2.2 r →
    ∃ t, exec p.1 s = .next t ∧
      (∀ n, RegName.s n ∉ p.2.2 → (t.core (coreKey c)).sreg n = (s.core (coreKey c)).sreg n) ∧
      (∀ n, RegName.a n ∉ p.2.2 → (t.core (coreKey c)).areg n = (s.core (coreKey c)).areg n) ∧
      (t.core (coreKey c)).regs.p = (s.core (coreKey c)).regs.p ∧
      (t.core (coreKey c)).flags = (s.core (coreKey c)).flags ∧
      (t.core (coreKey c)).regs.v = (s.core (coreKey c)).regs.v ∧
      (t.core (coreKey c)).regs.lctr = (s.core (coreKey c)).regs.lctr ∧
      (t.core (coreKey c)).sp = (s.core (coreKey c)).sp ∧
      (t.core (coreKey c)).mxe = (s.core (coreKey c)).mxe ∧
      (t.core (coreKey c)).hq = (s.core (coreKey c)).hq ∧
      (t.core (coreKey c)).post = (s.core (coreKey c)).post ∧
      (∀ j, j ≠ coreKey c → t.core j = s.core j) ∧
      (∀ a, t.memByte a = s.memByte a) ∧ (∀ w, t.word w = s.word w) ∧ (∀ e, t.ent e = s.ent e)

/-- An instruction of the sequencer whose guard is false retires without effect (R121): only the program counter goes on.
A word that no instruction decodes faults at dispatch (R122): the fault log records ILLEGAL_INSTRUCTION with the logical
core, the PC and the word, and the context is reset; so does a CSRRD of a number that Table 5.2 does not list, and an SCOMMIT
or SBAR with Q other than 0, whatever the guard. A fetch at a PC that is not a multiple of 8, or of a line that the
instruction cache does not hold in a page that is not mapped, faults as UNMAPPED (R114). A fetch of a line that the cache
does not hold fills it from context memory, and the instruction runs (R114): the line is held afterwards. -/
def Obligations.FalseGuardsAndFetchFaults : Prop :=
  (∀ (c : CoreId) (x : SArgs) (s : State) (r : RunTask),
     let q := s.core (coreKey c)
     q.ready = some r → q.regs.pc % 8 = 0 → q.cached q.regs.pc = true → q.guard x.guard = false →
     ∀ i ∈ [Instr.add c x, .mul c x, .ceq c x, .li c x, .adda c x, .pand c x, .br c x, .loop c x, .endTask c x, .nop c x,
         .flagrd c x, .flagclr c x, .phase c x, .drain c x],
       ∃ t, exec i s = .next t ∧ t.core (coreKey c) = q.next ∧ t.mem = s.mem ∧ t.sync = s.sync ∧ t.dict = s.dict ∧
         t.rel = s.rel) ∧
  ((∀ (c : CoreId) (w : Word64) (s : State) (r : RunTask), decodePlovmi c w = none →
     Dispatches s (coreKey c) 0#4 [] [] r →
     exec (.illegalInstruction c w) s =
       .next ((s.logCore 0x0102 r.ctx (coreKey c) [(s.core (coreKey c)).regs.pc, w.toNat]).ctxReset r.ctx 0x0102)) ∧
   (∀ (c : CoreId) (x : SArgs) (y : YArgs) (w : Word64) (s : State) (r : RunTask),
     Dispatches s (coreKey c) 0#4 [] [] r →
     let ill : Res :=
       .next ((s.logCore 0x0102 r.ctx (coreKey c) [(s.core (coreKey c)).regs.pc, w.toNat]).ctxReset r.ctx 0x0102)
     (6 ≤ x.imm.toNat % 4096 → encodePlovmi (.csrrd c x) = some w → exec (.csrrd c x) s = ill) ∧
     (y.q ≠ 0#2 → encodePlovmi (.scommit c y) = some w → exec (.scommit c y) s = ill) ∧
     (y.q ≠ 0#2 → encodePlovmi (.sbar c y) = some w → exec (.sbar c y) s = ill)) ∧
   (∀ (c : CoreId) (x : SArgs) (s : State) (r : RunTask),
     let q := s.core (coreKey c)
     q.ready = some r →
     (q.regs.pc % 8 ≠ 0 ∨ (q.cached q.regs.pc = false ∧ s.translate r.ctx q.regs.pc = none)) →
     exec (.add c x) s = .next ((s.logCore 0x0306 r.ctx (coreKey c) [q.regs.pc, q.regs.pc]).ctxReset r.ctx 0x0306)) ∧
   ∀ (c : CoreId) (x : SArgs) (s : State) (r : RunTask) (b : List Byte),
     let q := s.core (coreKey c)
     q.ready = some r → q.regs.pc % 8 = 0 → q.cached q.regs.pc = false → q.guard x.guard = true →
     q.interlocked [] [.s x.d] = false → s.readVirt r.ctx (q.regs.pc / 256 * 256) 256 = .ok b →
     ∃ t, exec (.li c x) s = .next t ∧ (t.core (coreKey c)).cached q.regs.pc = true ∧
       (t.core (coreKey c)).sreg x.d = BitVec.ofInt 64 x.imm.toInt ∧
       (t.core (coreKey c)).regs.pc = (q.regs.pc + 8) % 2 ^ 48 ∧ (∀ a, t.memByte a = s.memByte a) ∧ t.sync = s.sync)

/-! ### Synchronisation (07) -/

/-- SPOST with L = 0 and SUNLOCK are held in the post buffer until SCOMMIT (R139, R185, R190, R196): each adds an
uncommitted entry with the context, its tag and the PC at its place in program order, or combines with one for the same word
(R141); no word changes. POST_BUFFER_RELEASE takes the oldest committed entry out of the buffer and applies it (R139, R176,
R185, R192, R196): an increment or an arrival adds to its word, saturating; an unlock by the holder frees the lock and its
value rises by one; a push raises the producer count of its queue; a peer's increment is sent to the peer. Only an entry to a
private word, or a push, depends on the context's tag (R392). -/
def Obligations.PostsAreHeldAndReleased : Prop :=
  (∀ (c : CoreId) (x : YArgs) (s : State) (r : RunTask) (key : Nat) (peer : Peer),
     let k := coreKey c
     let q := s.core k
     let a := (q.sreg x.a).toNat
     let b := if x.i then x.imm.toNat else (q.sreg x.b).toNat
     let new : PostKind → PostEntry := fun kind =>
       { kind := kind, committed := false, ctx := r.ctx, tag := s.tag r.ctx, pc := q.regs.pc, seq := q.disp.count }
     let held : Instr → EngOp → PostKind → Prop := fun i op kind =>
       Issues s k x.guard op r → q.earlierRetired op.unit = true →
       ((combinePost (new kind) q.post).isSome = true ∨ q.post.length < 256) →
       ∃ t, exec i s = .next t ∧ Retires s t k op.unit fun q => { q with post := enterPost (new kind) q.post }
     (opPeer a = 0 → s.target r.ctx a anyMode = .word key →
       held (.spost c x) (.spost false x) (.add (key / 4096) (key % 4096) b)) ∧
     (opPeer a ≠ 0 → s.peerOf r.ctx (opPeer a) = some peer →
       held (.spost c x) (.spost false x) (.peerAdd (opPeer a) (a % 2 ^ 18) b)) ∧
     (opPeer a = 0 → s.target r.ctx a [2] = .word key →
       held (.sunlock c x) (.sunlock x) (.unlock (key / 4096) (key % 4096)))) ∧
  (∀ (c : CoreId) (s : State) (e : PostEntry) (l : List PostEntry),
     let k := coreKey c
     let shared : Nat → Prop := fun w => (s.word w).owner = none ∨ s.tagOk e.ctx e.tag = true
     (s.core k).post = e :: l → e.committed = true → (s.core k).disp.queued = [] → (s.core k).disp.hold = .none →
     (∀ p a v, e.kind ≠ .peerAdd p a v) →
     ∃ t, exec (.postBufferRelease c) s = .next t ∧ (t.core k).post = l ∧ (t.core k).regs = (s.core k).regs ∧
       t.mem.cells = s.mem.cells ∧
       match e.kind with
       | .add g i v => shared (wordKey g i) → (s.word (wordKey g i)).admitsCtx e.ctx = true →
           (t.word (wordKey g i)).value = min ((s.word (wordKey g i)).value + v) (2 ^ 64 - 1) ∧
             ∀ j, j ≠ wordKey g i → t.word j = s.word j
       | .arrive g i =>
           shared (wordKey g i) → (s.word (wordKey g i)).admitsCtx e.ctx = true → (s.word (wordKey g i)).mode = 1 →
           (t.word (wordKey g i)).value = min ((s.word (wordKey g i)).value + 1) (2 ^ 64 - 1)
       | .unlock g i => ∀ h, shared (wordKey g i) → (s.word (wordKey g i)).admitsCtx e.ctx = true → (s.word (wordKey g i)).mode = 2 →
           (s.word (wordKey g i)).holder = some h → s.holds h k e.ctx = true → h.tag = e.tag →
           (t.word (wordKey g i)).holder = none ∧ (t.word (wordKey g i)).abandoned = false ∧
             (t.word (wordKey g i)).value = min ((s.word (wordKey g i)).value + 1) (2 ^ 64 - 1)
       | .push d h _ _ => s.tagOk e.ctx e.tag = true →
           (t.core d).pcount h = (s.core d).pcount h + 1 ∧ t.sync = s.sync
       | .adv h v => s.tagOk e.ctx e.tag = true → (t.core k).ccount h = v ∧ t.sync = s.sync
       | .peerAdd _ _ _ => True) ∧
  (∀ (c : CoreId) (s : State) (e : PostEntry) (l : List PostEntry) (p a v : Nat) (peer : Peer),
     let k := coreKey c
     (s.core k).post = e :: l → e.committed = true → e.kind = .peerAdd p a v → s.peerOf e.ctx p = some peer →
     exec (.postBufferRelease c) s = .next (((s.modCore k fun q => { q with post := l }).sendPeer k e.ctx e.tag p Kind.post
       peer a (min v (2 ^ 64 - 1)) false []).pumpAll k))

/-- The local forms act at once on what the core holds (R127, R174): SPOST adds to a local counter; SWAIT goes on where
the counter has reached b; HPUSH appends to a local queue of fewer than 16 entries; HPOP takes its oldest. Nothing else
changes. The cross-core handle queues (R176): HPUSH with room in queue q of core d places the descriptor in slot (PC +
pushes held) mod 16 and holds its push; HPOP of the core's own queue advances the view and holds the advance, and, of a queue
with one producer and one consumer (R175), returns the descriptor at its view. The producer count stays until the push is
released, the consumer count until the commit. -/
def Obligations.LocalSyncAndHandleQueues : Prop :=
  (∀ (c : CoreId) (x : YArgs) (s : State) (r : RunTask),
     let k := coreKey c
     let q := s.core k
     let a := (q.sreg x.a).toNat
     let b := if x.i then x.imm.toNat else (q.sreg x.b).toNat
     (Issues s k x.guard (.spost true x) r → q.earlierRetired (qUnit x.q) = true → q.lctr (a % 16) + b < 2 ^ 64 →
       ∃ t, exec (.spostLocal c x) s = .next t ∧
         Retires s t k (qUnit x.q) (Core.setLctr · (a % 16) (q.lctr (a % 16) + b))) ∧
     (Issues s k x.guard (.swait true x) r → q.earlierRetired (qUnit x.q) = true → b ≤ q.lctr (a % 16) →
       ∃ t, exec (.swaitLocal c x) s = .next t ∧ Retires s t k (qUnit x.q) id) ∧
     (Issues s k x.guard (.hpush true x) r → q.earlierRetired (qUnit x.q) = true → (q.local (a % 8)).length < 16 →
       ∃ t, exec (.hpushLocal c x) s = .next t ∧
         Retires s t k (qUnit x.q) (Core.setLocal · (a % 8) (q.local (a % 8) ++ [BitVec.ofNat 64 b]))) ∧
     ∀ v l, Issues s k x.guard (.hpop true x) r → q.earlierRetired (qUnit x.q) = true → q.local (a % 8) = v :: l →
       ∃ t, exec (.hpopLocal c x) s = .next t ∧
         Retires s t k (qUnit x.q) fun q => (q.setLocal (a % 8) l).setS x.d v) ∧
  (∀ (c : CoreId) (x : YArgs) (s : State) (r : RunTask) (d h : Nat),
     let k := coreKey c
     let q := s.core k
     let a := (q.sreg x.a).toNat
     let b := if x.i then x.imm.toNat else (q.sreg x.b).toNat
     let place := (s.core d).pcount h + q.pushesTo d h
     let view := q.view h
     (Issues s k x.guard (.hpush false x) r → q.earlierRetired (qUnit x.q) = true → s.handle r.ctx a = some (d, h) →
       place ≤ (s.core d).ccount h + bitsAt a 32 4 → q.post.length < 256 →
       ∃ t, exec (.hpush c x) s = .next t ∧
         (t.core k).post = insertPost { kind := .push d h (place % 16) (BitVec.ofNat 64 b), committed := false, ctx := r.ctx,
                                        tag := s.tag r.ctx, pc := q.regs.pc, seq := q.disp.count } q.post ∧
         (t.core k).regs = { q.regs with pc := (q.regs.pc + 8) % 2 ^ 48 } ∧
         SMap.get (fun _ => (0#64 : Word64)) (t.core d).hq.slot (16 * h + place % 16) = BitVec.ofNat 64 b ∧
         (t.core d).pcount h = (s.core d).pcount h ∧ t.sync = s.sync ∧ t.mem = s.mem) ∧
     (Issues s k x.guard (.hpop false x) r → q.earlierRetired (qUnit x.q) = true → s.handle r.ctx a = some (k, h) →
       view < q.pcount h →
       ((combinePost { kind := .adv h (view + 1), committed := false, ctx := r.ctx, tag := s.tag r.ctx, pc := q.regs.pc,
                       seq := q.disp.count } q.post).isSome = true ∨ q.post.length < 256) →
       ∃ t, exec (.hpop c x) s = .next t ∧
         ((q.poppedBy h k).shared h = false →
           (t.core k).sreg x.d = SMap.get (fun _ => (0#64 : Word64)) q.hq.slot (16 * h + view % 16)) ∧
         (t.core k).view h = view + 1 ∧ (t.core k).ccount h = q.ccount h ∧ (t.core k).regs.pc = (q.regs.pc + 8) % 2 ^ 48 ∧
         t.sync = s.sync ∧ t.mem = s.mem ∧ ∀ j, j ≠ k → t.core j = s.core j))

/-- SWAIT with L = 0 goes on where the word has reached b, unsigned (R186). SLOCK takes a free lock on which nothing is
queued: it records the holder and sd receives 1 where the lock had been abandoned, else 0 (R195, R197, Table 7.3); the
core that holds it already receives 2 where a committed segment acquired it. -/
def Obligations.WaitsAndLocks : Prop :=
  ∀ (c : CoreId) (x : YArgs) (s : State) (r : RunTask) (key : Nat),
    let k := coreKey c
    let q := s.core k
    let a := (q.sreg x.a).toNat
    let b := if x.i then x.imm.toNat else (q.sreg x.b).toNat
    let w := s.word key
    (Issues s k x.guard (.swait false x) r → q.earlierRetired (qUnit x.q) = true → opPeer a = 0 →
      s.target r.ctx a anyMode = .word key → b ≤ w.value →
      ∃ t, exec (.swait c x) s = .next t ∧ Retires s t k (qUnit x.q) id) ∧
    (Issues s k x.guard (.slock x) r → q.earlierRetired (qUnit x.q) = true → opPeer a = 0 →
      s.target r.ctx a [2] = .word key →
      (w.holder = none → s.lockQueued key = false →
        ∃ t, exec (.slock c x) s = .next t ∧ (t.core k).sreg x.d = BitVec.ofNat 64 (b2n w.abandoned) ∧
          (t.core k).regs.pc = (q.regs.pc + 8) % 2 ^ 48 ∧
          (t.word key).holder = some
            { ctx := r.ctx, cluster := s.relCluster (s.ctxPart r.ctx) (k / 24), core := k % 24, tag := s.tag r.ctx,
              status := b2n w.abandoned, committed := false } ∧
          (t.word key).value = w.value ∧ (t.word key).config = w.config ∧
          (∀ j, j ≠ key → t.word j = s.word j) ∧ (∀ j, j ≠ k → t.core j = s.core j) ∧ t.mem = s.mem) ∧
      ∀ h, w.holder = some h → s.holds h k r.ctx = true →
        ∃ t, exec (.slock c x) s = .next t ∧
          Retires s t k (qUnit x.q) (Core.setS · x.d (if h.committed then 2#64 else BitVec.ofNat 64 h.status)))

/-- Waits end (R127, R186, R192, R195): SYNC_WAIT_SATISFIED lets an SWAIT at dispatch, or an SBAR, go on once its word or
local counter has reached the target, whatever the word's CONFIG is by then (R182); SLOCK_GRANT gives a free lock to the
first request queued on it; HANDLE_WAIT_SATISFIED lets a waiting local HPOP take the entry that has come (R174).
PERIOD_CHANGE makes the awaited kind the period once every instruction of the current kind has retired (R135). -/
def Obligations.WaitsEnd : Prop :=
  ∀ (c : CoreId) (s : State) (r : RunTask),
    let k := coreKey c
    let q := s.core k
    q.run = some r → q.role = .inService →
    (∀ b, q.disp.hold = .barWait b → s.waitMet k .seq = true →
      ∃ t, exec (.syncWaitSatisfied c .seq) s = .next t ∧ (t.core k).disp.hold = .none ∧
        (t.core k).regs = { q.regs with pc := (q.regs.pc + 8) % 2 ^ 48 } ∧ t.sync.words = s.sync.words ∧ t.mem = s.mem) ∧
    (∀ e x, q.disp.hold = .op e → e.waiting = true → e.op = .swait false x → s.waitMet k .seq = true →
      ∃ t, exec (.syncWaitSatisfied c .seq) s = .next t ∧ (t.core k).disp.hold = .none ∧
        (t.core k).regs = { q.regs with pc := (q.regs.pc + 8) % 2 ^ 48 } ∧ t.sync.words = s.sync.words ∧ t.mem = s.mem) ∧
    (∀ e x, q.disp.hold = .op e → e.waiting = true → e.op = .swait true x → q.opB x ≤ q.lctr (q.opA x % 16) →
      ∃ t, exec (.syncWaitSatisfied c .seq) s = .next t ∧ (t.core k).disp.hold = .none ∧
        (t.core k).regs = { q.regs with pc := (q.regs.pc + 8) % 2 ^ 48 } ∧ t.sync.words = s.sync.words ∧ t.mem = s.mem) ∧
    (∀ e x (g : Fin 64) (i : Fin 4096), q.disp.hold = .op e → e.waiting = true → e.op = .slock x →
      (s.word (wordKey g i)).mode = 2 → (s.word (wordKey g i)).holder = none →
      (s.sync.watches.find? fun w => w.isLock && w.cluster == g.val && w.index == i.val) =
        some { core := k, unit := .seq, cluster := g, index := i, target := 0, isLock := true } →
      ∃ t h, exec (.slockGrant g i) s = .next t ∧ (t.word (wordKey g i)).holder = some h ∧ s.holds h k r.ctx = true ∧
        (t.core k).sreg x.d = BitVec.ofNat 64 (b2n (s.word (wordKey g i)).abandoned) ∧ (t.core k).disp.hold = .none ∧
        (t.core k).regs.pc = (q.regs.pc + 8) % 2 ^ 48) ∧
    (∀ e x v l, q.disp.hold = .op e → e.waiting = true → e.op = .hpop true x → q.local (q.opA x % 8) = v :: l →
      ∃ t, exec (.handleWaitSatisfied c .seq) s = .next t ∧ (t.core k).sreg x.d = v ∧
        (t.core k).local (q.opA x % 8) = l ∧ (t.core k).disp.hold = .none ∧
        (t.core k).regs.pc = (q.regs.pc + 8) % 2 ^ 48) ∧
    (∀ p p', q.disp.awaited = some p → q.disp.period = some p' → q.kindRetired p' = true →
      exec (.periodChange c) s = .next (s.modCore k fun q =>
        { q with disp := { q.disp with period := some p, awaited := none, races := Races.none } }))

/-- SCOMMIT, END and SBAR stop dispatch and begin the steps of a commit (R138, R143, R192): nothing else changes until the
engines have drained. SBAR's target is b times P of the barrier word, saturating (R192, Table 7.1). SEGMENT_COMMIT of an
SCOMMIT, once every queue is empty, every engine has retired and every store and send is acknowledged (R138): the consumer
counts take the views that the segment's pops held, which leave the post buffer (R176, Table 6.11), and its other entries are
committed; the commit record takes the next PC, the registers, phase and flags; the vector registers,
local counters, local queues, planes and accumulator are cleared; the flags set since the last commit are ORed into the
context's flags (R63); the scratchpad and memory are unchanged; dispatch goes on. SEGMENT_COMMIT of an SBAR enters the
arrival in the post buffer last (R192): it commits with the segment, the commit record names the barrier, and the core
waits in its new segment until the word has reached the target, or goes on where it has. SEGMENT_COMMIT of an END ends the
task: the core holds none, and on the last core of the group the tasks completed of the context rise by one (R143, R289).
-/
def Obligations.CommitsEndSegments : Prop :=
  (∀ (c : CoreId) (s : State) (r : RunTask) (y : YArgs) (x : SArgs) (key : Nat),
     let k := coreKey c
     let q := s.core k
     let a := (q.sreg y.a).toNat
     let b := if y.i then y.imm.toNat else (q.sreg y.b).toNat
     let holds : SeqHold → Res := fun h =>
       .next (s.modCore k fun q => { q with disp := { q.disp with hold := h, drain := false } })
     (Dispatches s k y.guard [] [] r → y.q = 0#2 → s.restricted (s.ctxPart r.ctx) = false →
       exec (.scommit c y) s = holds .commit) ∧
     (Dispatches s k x.guard [] [] r → exec (.endTask c x) s = holds .commitEnd) ∧
     (Dispatches s k y.guard (.s y.a :: if y.i then [] else [.s y.b]) [] r → y.q = 0#2 →
       s.restricted (s.ctxPart r.ctx) = false → opPeer a = 0 → s.target r.ctx a [1] = .word key →
       exec (.sbar c y) s = holds (.commitBar
         { cluster := key / 4096, index := key % 4096, tsel := y.tsel.toNat,
           target := min (b * ((s.word key).config / 2 ^ 16 % 2 ^ 16)) (2 ^ 64 - 1) }))) ∧
  (∀ (c : CoreId) (s : State) (r : RunTask),
     let k := coreKey c
     let q := s.core k
     let next := (q.regs.pc + 8) % 2 ^ 48
     q.run = some r → q.role = .inService → q.drained = true → q.disp.hold = .commit →
     s.slotWidth (s.slotOf k).1 (s.slotOf k).2 = 64 →
     ∃ t, exec (.segmentCommit c) s = .next t ∧
       (t.core k).regs = { q.regs with pc := next, lctr := [], v := [] } ∧
       (t.core k).sp = q.sp ∧ (t.core k).mxe = Mxe.clear ∧
       (∃ cc, (t.core k).hq = { q.hq with loc := [], cc := cc }) ∧
       (∀ h, (∀ e ∈ q.post, e.committed = false → ∀ v, e.kind ≠ .adv h v) → (t.core k).ccount h = q.ccount h) ∧
       (∀ h v, (∃ e ∈ q.post, e.committed = false ∧ e.kind = .adv h v) →
         (∀ e ∈ q.post, e.committed = false → ∀ w, e.kind = .adv h w → w = v) → (t.core k).ccount h = v) ∧
       (t.core k).post = (q.post.filter fun e => e.committed || !(match e.kind with
         | .adv _ _ => true
         | _ => false)).map (fun e => { e with committed := true }) ∧
       (t.core k).flags = { q.flags with seg := 0#4 } ∧
       (t.core k).crec = { pc := next, s := q.regs.s, a := q.regs.a, p := q.regs.p, phase := q.regs.phase,
                           flags := q.coreFlags, bar := none, dispatched := q.disp.count } ∧
       (t.core k).disp.hold = .none ∧ (t.core k).run = some r ∧
       t.ent (Ent.ctxFlags r.ctx) = Nat.lor (s.ent (Ent.ctxFlags r.ctx)) q.flags.seg.toNat ∧
       (∀ e, e ≠ Ent.ctxFlags r.ctx → t.ent e = s.ent e) ∧
       (∀ j, j ≠ k → t.core j = s.core j) ∧ t.mem = s.mem) ∧
  (∀ (c : CoreId) (s : State) (r : RunTask),
     let k := coreKey c
     let q := s.core k
     let arrival : BarRef → PostEntry := fun b =>
       { kind := .arrive b.cluster b.index, committed := false, ctx := r.ctx, tag := s.tag r.ctx, pc := q.regs.pc,
         seq := q.disp.count }
     q.run = some r → q.role = .inService → q.drained = true →
     s.slotWidth (s.slotOf k).1 (s.slotOf k).2 = 64 →
     (∀ b, q.disp.hold = .commitBar b → q.post.length < 256 →
       ∃ t, exec (.segmentCommit c) s = .next t ∧
         (t.core k).post = (Core.commitViews { q with post := enterPost (arrival b) q.post }).post.map
           (fun e => { e with committed := true }) ∧
         (t.core k).crec.bar = some b ∧ (t.core k).mxe = Mxe.clear ∧ (t.core k).sp = q.sp ∧
         if b.target ≤ (s.word (wordKey b.cluster b.index)).value then
           (t.core k).disp.hold = .none ∧ (t.core k).regs.pc = (q.regs.pc % 2 ^ 48 + 8) % 2 ^ 48
         else
           (t.core k).disp.hold = .barWait b ∧ (t.core k).regs.pc = q.regs.pc % 2 ^ 48 ∧
             ({ core := k, unit := .seq, cluster := wordKey b.cluster b.index / 4096,
                index := wordKey b.cluster b.index % 4096, target := b.target, isLock := false } : Watch) ∈ t.sync.watches) ∧
     (∀ b, q.disp.hold = .commitEnd → s.live = [] → (∀ e ∈ s.mem.refills, e.wait = false) →
       (s.ctx r.ctx).tasks = [{ id := r.inst, started := b, left := 1, done := none, seq := none }] →
       s.ent (Ent.ctxTasks r.ctx) + 1 < 2 ^ 64 → r.ctx < 64 →
       ∃ t, exec (.segmentCommit c) s = .next t ∧ (t.core k).run = none ∧ (t.core k).disp.hold = .none ∧
         (t.ctx r.ctx).tasks = [] ∧ t.ent (Ent.ctxTasks r.ctx) = s.ent (Ent.ctxTasks r.ctx) + 1 ∧ t.mem = s.mem))

/-! ### The engines (03, 06) -/

/-- MLOAD loads the shadow plane (R88): it takes the format; element k of column n is element k of row n of the operand, and
block j of column n has the scale byte j of row n; rows stand at the strides that sG gives, 0 meaning the dense ones (R85,
Table 4.3). It waits while a gathered submission with DEST = 1 has writes outstanding (R97). MSWAP exchanges the roles of
the planes once no gathered row is pending (R89). Nothing else changes. MSTREAM with GATH = 0 streams M rows through the
active plane (R90, R91): only the accumulator or the scratchpad, and the engine's flags, change. With M = 1 the result of
column n is the block sum of row 0 with the column: for DEST = 0 it is added to row ACCBASE, or to -0 where ACC = 0; for
DEST = 1 it is written to word aO + n. -/
def Obligations.PlanesAndStreams : Prop :=
  (∀ (c : CoreId) (x : MLoadArgs) (s : State) (r : RunTask) (f : Fmt),
     let k := coreKey c
     let q := s.core k
     let g := q.geom f x.aE x.aS x.sG
     let shadow : Core → Plane := fun q => if q.mxe.activeB then q.mxe.planeA else q.mxe.planeB
     (Issues s k 0#4 (.mload x .none) r → q.destPending = true → ∃ t, exec (.mload c x .none) s = .next t ∧
       (t.core k).mxe = q.mxe ∧ (t.core k).disp.queue .mxe = [QEntry.new q (.mload x .none)]) ∧
     (Issues s k 0#4 (.mload x .none) r → q.destPending = false → Fmt.ofCode x.fmt = some f → f ≠ .fp32 →
       q.anyPoison (g.words f 0 64) = false →
       ∃ t, exec (.mload c x .none) s = .next t ∧
         Retires s t k .mxe (fun q => { q with mxe := (t.core k).mxe }) ∧
         (t.core k).mxe.activeB = q.mxe.activeB ∧ (t.core k).active = q.active ∧ (t.core k).mxe.acc = q.mxe.acc ∧
         (t.core k).mxe.gath = q.mxe.gath ∧ (shadow (t.core k)).fmt = some f ∧
         (∀ n e, n < 64 → e < 64 →
           (shadow (t.core k)).elem n e = unpackElem f (fun w => q.rd (g.base + n * g.stride + w)) e) ∧
         (∀ n j, n < 64 → j < 2 →
           (shadow (t.core k)).scale n j = if f.isMx then q.rdByte (g.sbase + n * g.sstride + j) else 0)) ∧
     (Issues s k 0#4 .mswap r → q.mxe.gath.rows = [] →
       ∃ t, exec (.mswap c) s = .next t ∧
         Retires s t k .mxe fun q => { q with mxe := { q.mxe with activeB := !q.mxe.activeB } })) ∧
  (∀ (c : CoreId) (x : MStreamArgs) (s : State) (r : RunTask) (f : Fmt),
     let k := coreKey c
     let q := s.core k
     let g := q.geom f x.aE x.aS x.sG
     let m := (q.sreg x.sM).toNat % 2 ^ 32
     let row := ((q.rowElems f g.base).zipIdx).map fun e => operand f e.1 ((q.rowScales f g.sbase).getD (e.2 / 32) 0)
     let sum : Nat → Word32 × FFlags := fun n =>
       blockSum f (row.zipIdx.map fun e => (e.1, operand f (q.active.elem n e.2) (q.active.scale n (e.2 / 32))))
     Issues s k 0#4 (.mstream x false .none) r → q.mxe.gath.rows = [] → Fmt.ofCode x.fmt = some f →
     q.active.fmt = some f → q.anyPoison (g.words f 0 m) = false →
     ∃ t, exec (.mstream c x .none) s = .next t ∧
       Retires s t k .mxe (fun q => { q with
         sp := (t.core k).sp, flags := (t.core k).flags, mxe := { q.mxe with acc := (t.core k).mxe.acc } }) ∧
       (x.dest = false → (t.core k).sp = q.sp) ∧ (x.dest = true → (t.core k).mxe.acc = q.mxe.acc) ∧
       (t.core k).flags.v = q.flags.v ∧ (t.core k).flags.t = q.flags.t ∧
       (m = 1 → x.dest = false → ∀ n, n < 64 →
         (t.core k).accAt (x.accBase.toNat % 512) n =
           (accumulate (if x.acc then q.accAt (x.accBase.toNat % 512) n else f32zero true) (sum n)).1) ∧
       (m = 1 → x.dest = true → ∀ n, n < 64 → (t.core k).rd (q.wordAddr x.aO + n) = (sum n).1))

/-- MDRAIN converts M accumulator rows into the scratchpad (R95): only the scratchpad, the accumulator and the engine's
flags change, and the accumulator only with CLR = 1. Draining one row to fp32 writes its 64 elements as they are, and CLR
leaves -0 in it. A gathered submission that finds room, with no writes of an earlier one outstanding (R97), copies its M
rows into the gatherer and leaves the queue (R106); the gatherer fires on the conditions of R107 and has no row left; the
gather timeout runs out while a row is pending (R107, R109). -/
def Obligations.DrainsAndTheGatherer : Prop :=
  (∀ (c : CoreId) (x : MDrainArgs) (s : State) (r : RunTask) (f : Fmt),
     let k := coreKey c
     let q := s.core k
     let row := x.accBase.toNat % 512
     Issues s k 0#4 (.mdrain x .none) r → q.mxe.gath.rows = [] → Fmt.ofCode x.fmt = some f →
     ∃ t, exec (.mdrain c x .none) s = .next t ∧
       Retires s t k .mxe (fun q => { q with
         sp := (t.core k).sp, flags := (t.core k).flags, mxe := { q.mxe with acc := (t.core k).mxe.acc } }) ∧
       (x.clr = false → (t.core k).mxe.acc = q.mxe.acc) ∧
       (t.core k).flags.v = q.flags.v ∧ (t.core k).flags.t = q.flags.t ∧
       ((q.sreg x.sM).toNat % 2 ^ 32 = 1 → f = .fp32 → ∀ n, n < 64 →
         (t.core k).rd (q.wordAddr x.aO + n) = q.accAt row n ∧ (t.core k).flags = q.flags ∧
           (t.core k).accAt row n = if x.clr then f32zero true else q.accAt row n)) ∧
  (∀ (c : CoreId) (x : MStreamArgs) (s : State) (r : RunTask) (f : Fmt),
     let k := coreKey c
     let q := s.core k
     let g := q.geom f x.aE x.aS x.sG
     let m := (q.sreg x.sM).toNat % 2 ^ 32
     (Issues s k 0#4 (.mstream x true .none) r → Fmt.ofCode x.fmt = some f → q.active.fmt = some f → 0 < m →
       q.mxe.gath.rows.length + m ≤ 64 → q.mxe.gath.subs.length < 16 → q.destPending = false → q.anyPoison (g.words f 0 m) = false →
       ∃ t, exec (.gatheredSubmission c x .none) s = .next t ∧
         Retires s t k .mxe (fun q => { q with mxe := { q.mxe with gath := (t.core k).mxe.gath } }) ∧
         (t.core k).mxe.gath.rows = q.mxe.gath.rows ++ (List.range m).map fun i =>
           { sub := q.mxe.gath.first + q.mxe.gath.subs.length, r := i, elems := q.rowElems f (g.base + i * g.stride),
             scales := q.rowScales f (g.sbase + i * g.sstride) }) ∧
     (q.run = some r → q.role = .inService → q.disp.qM = [] → q.active.fmt = some f →
       q.fires (s.ent (Ent.gatherTimeout r.ctx) == 0) = true →
       ∃ t, exec (.rowGathererFire c .none) s = .next t ∧ (t.core k).mxe.gath.rows = [] ∧
         (t.core k).mxe.gath.timeout = false ∧ (t.core k).active = q.active ∧ (t.core k).regs = q.regs ∧
         t.mem = s.mem ∧ ∀ j, j ≠ k → t.core j = s.core j) ∧
     (q.mxe.gath.rows ≠ [] → exec (.gatherTimeout c) s = .next (s.modCore k fun q =>
       { q with mxe := { q.mxe with gath := { q.mxe.gath with timeout := true } } })))

/-- A residue or parity error while a matrix instruction runs fences the core before anything is written (R83, R358): the
FENCED bit of its slot is set, and its accumulator, planes, registers and commit record stay. An engine instruction that
names a reserved format faults (R43): the fault log records FORMAT_MISMATCH with the core, the PC and the code, and the
context is reset; nothing of the instruction executes. -/
def Obligations.EngineFaults : Prop :=
  (∀ (c : CoreId) (x : MDrainArgs) (s : State) (r : RunTask) (f : Fmt),
     let k := coreKey c
     let q := s.core k
     Issues s k 0#4 (.mdrain x .parity) r → q.mxe.gath.rows = [] → Fmt.ofCode x.fmt = some f →
     s.dieHasSpare (dieOf (s.slotOf k).1) = true →
     ∃ t, exec (.mdrain c x .parity) s = .next t ∧ (t.core k).role = .fenced ∧
       t.slotFenced (s.slotOf k).1 (s.slotOf k).2 = true ∧ (t.core k).mxe = q.mxe ∧ (t.core k).sp = q.sp ∧
       (t.core k).crec = q.crec ∧ (t.core k).post = q.post.filter (·.committed) ∧ t.mem = s.mem) ∧
  (∀ (c : CoreId) (x : VArgs) (y : EArgs) (z : MLoadArgs) (s : State) (r : RunTask),
     let k := coreKey c
     let pc := (s.core k).regs.pc
     let fault : EngOp → BitVec 4 → Res := fun op fmt =>
       .next (((s.modCore k (Core.enqueue · op)).logCore 0x0101 r.ctx k [pc, fmt.toNat]).ctxReset r.ctx 0x0101)
     (Issues s k x.guard (.vec .vcvt x) r → 9 ≤ x.fmt.toNat → exec (.vcvt c x) s = fault (.vec .vcvt x) x.fmt) ∧
     (Issues s k y.guard (.vmem .vld y .none) r → 9 ≤ y.fmt.toNat →
       exec (.vld c y .none) s = fault (.vmem .vld y .none) y.fmt) ∧
     (Issues s k y.guard (.vmem .sst y .none) r → y.fmt ≠ 0#4 →
       exec (.sst c y) s = fault (.vmem .sst y .none) y.fmt) ∧
     (Issues s k 0#4 (.mload z .none) r → (s.core k).destPending = false → (9 ≤ z.fmt.toNat ∨ z.fmt = 0#4) →
       exec (.mload c z .none) s = fault (.mload z .none) z.fmt))

/-- The instructions of Tables 5.8 that work lane by lane: operation, and the value and flags of lane l. -/
def laneForms (c : CoreId) (x : VArgs) (q : Core) (r : RunTask) (keep : Bool) :
    List (Instr × VOp × (Nat → Word32 × FFlags)) :=
  let a := q.vlane x.va
  let b := q.vlane x.vb
  let d := q.vlane x.vc
  let bits : (Nat → Word32) → Nat → Word32 × FFlags := fun f l => (f l, 0#4)
  let rel : FRel → Nat → Word32 × FFlags := fun o l => (if f32rel o (a l) (b l) then 1#32 else 0#32, 0#4)
  let u : Nat → Nat := fun l => gauzeValue r.key r.step ((q.sreg x.sT).toNat % 2 ^ 32) ((q.sreg x.sI).toNat + l)
  [(.vadd c x, .vadd, fun l => f32add (a l) (b l)), (.vsub c x, .vsub, fun l => f32sub (a l) (b l)),
   (.vmul c x, .vmul, fun l => f32mul (a l) (b l)), (.vfma c x, .vfma, fun l => f32fma (a l) (b l) (d l)),
   (.vmin c x, .vmin, bits fun l => f32min (a l) (b l)), (.vmax c x, .vmax, bits fun l => f32max (a l) (b l)),
   (.vabs c x, .vabs, bits fun l => a l &&& 0x7FFFFFFF#32), (.vneg c x, .vneg, bits fun l => a l ^^^ 0x80000000#32),
   (.vsel c x, .vsel, bits fun l => if d l = 0#32 then b l else a l),
   (.vceq c x, .vceq, rel .eq), (.vcne c x, .vcne, rel .ne), (.vclt c x, .vclt, rel .lt), (.vcle c x, .vcle, rel .le),
   (.viadd c x, .viadd, bits fun l => a l + b l), (.vand c x, .vand, bits fun l => a l &&& b l),
   (.vor c x, .vor, bits fun l => a l ||| b l), (.vxor c x, .vxor, bits fun l => a l ^^^ b l),
   (.vshl c x, .vshl, bits fun l => a l <<< ((b l).toNat % 32)),
   (.vshr c x, .vshr, bits fun l => a l >>> ((b l).toNat % 32)),
   (.vbcast c x, .vbcast, bits fun _ => (q.sreg x.sX).setWidth 32),
   (.vrcp c x, .vrcp, fun l => f32rcp (a l)), (.vrsqrt c x, .vrsqrt, fun l => f32rsqrt (a l)),
   (.vsqrt c x, .vsqrt, fun l => f32sqrt (a l)), (.vexp2 c x, .vexp2, fun l => f32exp2 (a l)),
   (.vlog2 c x, .vlog2, fun l => f32log2 (a l)), (.vexp c x, .vexp, fun l => f32exp (a l)),
   (.vln c x, .vln, fun l => f32ln (a l)), (.vsigm c x, .vsigm, fun l => f32sigmoid (a l)),
   (.vtanh c x, .vtanh, fun l => f32tanh (a l)), (.vsilu c x, .vsilu, fun l => f32silu (a l)),
   (.vcvtfi c x, .vcvtfi, fun l => f32ToI32 (a l) x.trunc), (.vcvtif c x, .vcvtif, fun l => i32ToF32 (a l)),
   (.vrand c x, .vrand, bits fun l => BitVec.ofNat 32 (u l)),
   (.vdrop c x, .vdrop, bits fun l => if keep ∨ u l < min ((q.sreg x.sX).toNat % 2 ^ 17) 65536 then a l else 0#32)]

/-- The instructions that work lane by lane (Table 5.8, R129, R130, R275) write the 64 lanes of vd, each from its own lane
of the sources, and set the VXE's flags to the OR with the lanes' flags (R61); nothing else changes: no other vector
register, no scalar, address or predicate register, no flag of another engine, no word of the scratchpad. VLANE moves one
lane to a scalar register, zero-extended; VREDSUM adds the 64 lanes and VREDMAX takes their maximum by the tree of six
levels in which lane i meets lane i + 2^(5 - level) (R131); VCVT rounds every lane to its format, in blocks of 32 lanes
for a format with block scales (R57, R129). -/
def Obligations.VectorResults : Prop :=
  (∀ (c : CoreId) (x : VArgs) (s : State) (r : RunTask),
     let k := coreKey c
     let q := s.core k
     ∀ p ∈ laneForms c x q r (s.ctxEval r.ctx), Issues s k x.guard (.vec p.2.1 x) r →
     ∃ t, exec p.1 s = .next t ∧
       Retires s t k .vxe (fun q => { q with
         regs := { q.regs with v := (t.core k).regs.v }
         flags := { q.flags with v := (t.core k).flags.v, seg := (t.core k).flags.seg } }) ∧
       (∀ l, l < 64 → (t.core k).vlane x.vd l = (p.2.2 l).1) ∧
       (∀ v l, v ≠ x.vd → l < 64 → (t.core k).vlane v l = q.vlane v l) ∧
       (let fl := FFlags.all ((List.range 64).map fun l => (p.2.2 l).2)
        (t.core k).flags.v = q.flags.v ||| fl ∧ (t.core k).flags.seg = q.flags.seg ||| fl)) ∧
  (∀ (c : CoreId) (x : VArgs) (s : State) (r : RunTask) (f : Fmt),
     let k := coreKey c
     let q := s.core k
     let sum := redTree f32add 6 (q.vreg x.va)
     let mode : Nat → RoundMode := fun l => if x.rnd then
         .sr (gauzeValue r.key r.step ((q.sreg x.sT).toNat % 2 ^ 32) ((q.sreg x.sI).toNat + l))
       else .rne
     (Issues s k x.guard (.vec .vlane x) r → ∃ t, exec (.vlane c x) s = .next t ∧
       Retires s t k .vxe (Core.setS · x.sX ((q.vlane x.va x.lane.toNat).setWidth 64))) ∧
     (Issues s k x.guard (.vec .vredsum x) r → ∃ t, exec (.vredsum c x) s = .next t ∧
       Retires s t k .vxe fun q => (q.setS x.sX (sum.1.setWidth 64)).raise .vxe sum.2) ∧
     (Issues s k x.guard (.vec .vredmax x) r → ∃ t, exec (.vredmax c x) s = .next t ∧
       Retires s t k .vxe (Core.setS · x.sX ((redTree (fun a b => (f32max a b, 0#4)) 6 (q.vreg x.va)).1.setWidth 64))) ∧
     (Issues s k x.guard (.vec .vcvt x) r → Fmt.ofCode x.fmt = some f →
       ∃ t, exec (.vcvt c x) s = .next t ∧
         Retires s t k .vxe (fun q => { q with
           regs := { q.regs with v := (t.core k).regs.v }
           flags := { q.flags with v := (t.core k).flags.v, seg := (t.core k).flags.seg } }) ∧
         (∀ l, l < 64 → (t.core k).vlane x.vd l = if f.isMx then
             ((cvtBlock f ((List.range 32).map fun i => q.vlane x.va (l / 32 * 32 + i)) fun i =>
               mode (l / 32 * 32 + i)).getD (l % 32) (0#32, 0#4)).1
           else (cvtLane f (mode l) x.sat (q.vlane x.va l)).1) ∧
         ∀ v l, v ≠ x.vd → l < 64 → (t.core k).vlane v l = q.vlane v l))

/-- Memory operations of the vector engine (R132): the element address is aE + IMM16 words, wrapping (R85). SLD and SLDD
read one and two words into sd, SST and SSTD write them, clearing their poison (R148). No other word of the scratchpad
changes. VLD decodes the 64 packed elements at its element address into the lanes of vd, with the scale byte of their
block where the format has scales; VST rounds or encodes the 64 lanes and writes them, for fp32 word for word (R53, R132).
No other word of the scratchpad changes in an fp32 store. -/
def Obligations.ScalarMovesAndVectorMemory : Prop :=
  (∀ (c : CoreId) (x : EArgs) (s : State) (r : RunTask),
     let k := coreKey c
     let q := s.core k
     let w := (((q.areg x.aE).toNat + x.imm.toInt : Int) % 524288).toNat
     let v := q.sreg x.d
     x.fmt = 0#4 →
     (Issues s k x.guard (.vmem .sld x .none) r → q.anyPoison [w] = false → ∃ t, exec (.sld c x .none) s = .next t ∧
       Retires s t k .vxe (Core.setS · x.d ((q.rd w).setWidth 64))) ∧
     (Issues s k x.guard (.vmem .sldd x .none) r → w % 2 = 0 → q.anyPoison [w, w + 1] = false →
       ∃ t, exec (.sldd c x .none) s = .next t ∧ Retires s t k .vxe (Core.setS · x.d (q.rd (w + 1) ++ q.rd w))) ∧
     (Issues s k x.guard (.vmem .sst x .none) r → ∃ t, exec (.sst c x) s = .next t ∧
       Retires s t k .vxe (fun q => { q with sp := (t.core k).sp }) ∧ (t.core k).poisonedAt w = false ∧
       ∀ j, j < 524288 → (t.core k).rd j = if j = w then v.setWidth 32 else q.rd j) ∧
     (Issues s k x.guard (.vmem .sstd x .none) r → w % 2 = 0 → ∃ t, exec (.sstd c x) s = .next t ∧
       Retires s t k .vxe (fun q => { q with sp := (t.core k).sp }) ∧
       ∀ j, j < 524288 → (t.core k).rd j =
         if j = w then v.extractLsb' 0 32 else if j = w + 1 then v.extractLsb' 32 32 else q.rd j)) ∧
  (∀ (c : CoreId) (x : EArgs) (s : State) (r : RunTask) (f : Fmt),
     let k := coreKey c
     let q := s.core k
     let w := (((q.areg x.aE).toNat + x.imm.toInt : Int) % 524288).toNat
     let sb := 4 * ((q.areg x.aS).toNat % 524288)
     let mode : Nat → RoundMode := fun l => if x.rnd then
         .sr (gauzeValue r.key r.step ((q.sreg x.sT).toNat % 2 ^ 32) ((q.sreg x.sI).toNat + l))
       else .rne
     let elem : Nat → Nat := unpackElem f fun i => q.rd (w + i)
     let row := convertRow f (q.vreg x.d) mode x.sat
     Fmt.ofCode x.fmt = some f →
     (Issues s k x.guard (.vmem .vld x .none) r → q.anyPoison (rowWords f w ++ scaleWords f sb) = false →
       ∃ t, exec (.vld c x .none) s = .next t ∧
         Retires s t k .vxe (fun q => { q with
           regs := { q.regs with v := (t.core k).regs.v }
           flags := { q.flags with v := (t.core k).flags.v, seg := (t.core k).flags.seg } }) ∧
         (∀ l, l < 64 → (t.core k).vlane x.d l =
           if f.isMx then (widenMx f (elem l) (q.rdByte (sb + l / 32))).1
           else if f = .fp32 then q.rd (w + l) else widen f (elem l)) ∧
         ∀ v l, v ≠ x.d → l < 64 → (t.core k).vlane v l = q.vlane v l) ∧
     (Issues s k x.guard (.vmem .vst x .none) r → ∃ t, exec (.vst c x) s = .next t ∧
       Retires s t k .vxe (fun q => (q.writeRow w sb row).raise .vxe row.2.2) ∧
       (f = .fp32 → ∀ l, l < 64 → (t.core k).rd (w + l) = q.vlane x.d l) ∧
       (f = .fp32 → ∀ j, (∀ l, l < 64 → (w + l) % 524288 ≠ j % 524288) → (t.core k).rd j = q.rd j)))

/-! ### Transfers (05) -/

/-- WOPEN opens window W from aB for the words that sN gives, bounded by the end of the scratchpad, with its filter; a
length of 0 closes it (R157, Table 6.3). WCLOSE closes it. Nothing else changes. -/
def Obligations.WindowsOpenAndClose : Prop :=
  ∀ (c : CoreId) (x : WinArgs) (s : State) (r : RunTask),
    let k := coreKey c
    let q := s.core k
    let base := (q.areg x.aB).toNat % 524288
    let sN := (q.sreg x.sN).toNat
    let len := sN % 2 ^ 20
    let table := fun (t : State) (w : Nat) => windowAt (t.core k).sp.win w
    (Issues s k x.guard (.wopen x) r → ∃ t, exec (.wopen c x) s = .next t ∧
      Retires s t k .txe (fun q => { q with sp := { q.sp with win := (t.core k).sp.win } }) ∧
      (∀ w, w ≠ x.w.toNat → table t w = table s w) ∧
      ((table t x.w.toNat).isOpen = true ↔ len ≠ 0) ∧
      (len ≠ 0 → (table t x.w.toNat).base = base ∧ (table t x.w.toNat).bound = min (base + len) 524288 - 1 ∧
        (table t x.w.toNat).filter = min (sN / 2 ^ 32 % 4) 2 ∧
        (table t x.w.toNat).fcore = sN / 2 ^ 34 % 32 ∧ (table t x.w.toNat).fcluster = sN / 2 ^ 39 % 64)) ∧
    (Issues s k x.guard (.wclose x) r → ∃ t, exec (.wclose c x) s = .next t ∧
      Retires s t k .txe (fun q => { q with sp := { q.sp with win := (t.core k).sp.win } }) ∧
      (table t x.w.toNat).isOpen = false ∧ ∀ w, w ≠ x.w.toNat → table t w = table s w)

/-- A TLOAD of one row that holds a grant reads the row from context memory, converts it and writes it to the scratchpad;
it stays in flight with the range that it writes (R136, R162, R166), and its flags are set only when it retires (R61, R163,
R167). Memory, the other words of the scratchpad and the registers are unchanged. A TSTORE of one row that lies in one line of
a page mapped for writing, and that no other core's store races (R30), writes the converted row there, and waits for its
acknowledgement (R162, R167, R207). Every byte of memory outside the row, and the scratchpad, are unchanged. With 4 TLOADs in
flight neither a TLOAD nor a TSTORE issues (R166). -/
def Obligations.LoadsAndStoresMoveRows : Prop :=
  (∀ (c : CoreId) (x : TMoveArgs) (s : State) (r : RunTask) (sh : TShape) (bytes : List Byte),
     let k := coreKey c
     let q := s.core k
     let n := (q.sreg x.sN).toNat % 2 ^ 32
     let va := (q.areg x.aV).toNat
     let dst := (q.areg x.aL).toNat % 524288
     let conv := sh.convert x.sat (fun e => roundOf r x.rnd ((q.sreg x.sT).toNat % 2 ^ 32) ((q.sreg x.sI).toNat + e)) n
       (wordsOf bytes)
     let words := conv.1
     Issues s k x.guard (.tload x) r → q.granted = true → q.disp.loads = [] → q.disp.stores = [] →
     transferShape x.sfmt x.dfmt = some sh → 0 < n → (q.sreg x.sN).toNat / 2 ^ 32 ≤ 1 →
     va % 4 = 0 → (q.sreg x.sG).toNat % 2 ^ 32 = 0 → sh.srcBytes n % 4 = 0 → fillsWords sh false n = true →
     words.length ≤ 524288 → s.readVirt r.ctx va (sh.srcBytes n) = .ok bytes →
     ∃ t, exec (.tload c x) s = .next t ∧
       (∀ i, i < words.length → (t.core k).rd (dst + i) = words.getD i 0#32) ∧
       (∀ j, (∀ i, i < words.length → (dst + i) % 524288 ≠ j % 524288) → (t.core k).rd j = q.rd j) ∧
       (∃ fl, (t.core k).disp.loads = [fl] ∧ fl.pc = q.regs.pc ∧ fl.flags = conv.2) ∧ (t.core k).flags = q.flags ∧
       (t.core k).disp.qT = [] ∧
       (t.core k).regs = { q.regs with pc := (q.regs.pc + 8) % 2 ^ 48 } ∧
       (∀ a, t.memByte a = s.memByte a) ∧ ∀ j, j ≠ k → t.core j = s.core j) ∧
  (∀ (c : CoreId) (x : TMoveArgs) (s : State) (r : RunTask) (sh : TShape) (p : Page) (pa : Nat),
     let k := coreKey c
     let q := s.core k
     let n := (q.sreg x.sN).toNat % 2 ^ 32
     let va := (q.areg x.aV).toNat
     let src := (q.areg x.aL).toNat % 524288
     let words := wordRun src ((sh.srcBytes n + 3) / 4)
     let row := bytesOf (sh.convert x.sat
       (fun e => roundOf r x.rnd ((q.sreg x.sT).toNat % 2 ^ 32) ((q.sreg x.sI).toNat + e)) n (words.map q.rd)).1
     Issues s k x.guard (.tstore x .none) r → q.granted = true → q.disp.loads = [] → q.disp.stores = [] →
     transferShape x.sfmt x.dfmt = some sh → 0 < n → (q.sreg x.sN).toNat / 2 ^ 32 ≤ 1 →
     va % 4 = 0 → (q.sreg x.sG).toNat % 2 ^ 32 = 0 → sh.dstBytes n % 4 = 0 → fillsWords sh true n = true →
     q.anyPoison words = false → row.length = sh.dstBytes n → 0 < row.length → va % 64 + row.length ≤ 64 →
     s.page r.ctx (va / 2 ^ 21) = some p → p.ro = false → s.translate r.ctx va = some pa → s.poisoned (lineNo pa) = false →
     (∀ line, s.lineRaced k r.ctx line = false) →
     ∃ t, exec (.tstore c x .none) s = .next t ∧
       (∀ i, i < row.length → t.memByte (pa + i) = row.getD i 0#8) ∧
       (∀ a, (a < pa ∨ pa + row.length ≤ a) → t.memByte a = s.memByte a) ∧
       (∃ fl, (t.core k).disp.stores = [fl] ∧ fl.pc = q.regs.pc) ∧ (t.core k).sp = q.sp ∧
       (t.core k).regs = { q.regs with pc := (q.regs.pc + 8) % 2 ^ 48 } ∧ ∀ j, j ≠ k → t.core j = s.core j) ∧
  (∀ (c : CoreId) (x : TMoveArgs) (s : State) (r : RunTask) (sh : TShape),
     let k := coreKey c
     let q := s.core k
     let n := (q.sreg x.sN).toNat % 2 ^ 32
     let waits : Instr → EngOp → Prop := fun i op => ∃ t, exec i s = .next t ∧ (t.core k).disp.qT = [QEntry.new q op] ∧
       (t.core k).disp.loads = q.disp.loads ∧ (t.core k).disp.stores = q.disp.stores ∧ (t.core k).sp = q.sp ∧ t.mem = s.mem
     0 < n → q.granted = true → 4 ≤ q.disp.loads.length →
     (Issues s k x.guard (.tload x) r → waits (.tload c x) (.tload x)) ∧
     (Issues s k x.guard (.tstore x .none) r → transferShape x.sfmt x.dfmt = some sh → (q.areg x.aV).toNat % 4 = 0 →
       (q.sreg x.sG).toNat % 4 = 0 → sh.dstBytes n % 4 = 0 → fillsWords sh true n = true →
       waits (.tstore c x .none) (.tstore x .none)))

/-- A TSEND to a core of the own partition sends its converted words as one packet with the context's tag (R168, R36, R392),
on Voile where V is 1 and they are at most 256 bytes (R171), and counts as not acknowledged until its acknowledgement
returns (R167). -/
def Obligations.SendsLeaveAsPackets : Prop :=
  ∀ (c : CoreId) (x : TSendArgs) (v : Bool) (s : State) (r : RunTask) (sh : TShape) (g : Nat),
    let k := coreKey c
    let q := s.core k
    let n := (q.sreg x.sN).toNat % 2 ^ 32
    let sR := (q.sreg x.sR).toNat
    let words := wordRun ((q.areg x.aL).toNat % 524288) (sh.srcBytes n / 4)
    Issues s k x.guard (.tsend x v .none) r → q.granted = true → q.disp.loads = [] →
    transferShape x.sfmt x.dfmt = some sh → 0 < n → fillsWords sh true n = true → fillsWords sh false n = true →
    q.anyPoison words = false → bitsAt sR 32 12 = 0 → bitsAt sR 19 5 < 24 →
    s.globalCluster (s.ctxPart r.ctx) (bitsAt sR 24 6) = some g →
    let data := (sh.convert x.sat
      (fun e => roundOf r x.rnd ((q.sreg x.sT).toNat % 2 ^ 32) ((q.sreg x.sI).toNat + e)) n (words.map q.rd)).1
    ∃ t, exec (if v then .tsendVoile c x .none else .tsend c x .none) s = .next t ∧
      t.links.packets = s.links.packets ++
        [{ ctx := r.ctx, tag := s.tag r.ctx, score := k % 24, scluster := s.relCluster (s.ctxPart r.ctx) (k / 24), own := true,
           part := s.ctxPart r.ctx, dst := some (24 * g + bitsAt sR 19 5), word := bitsAt sR 0 19,
           data := data, sender := some k, reply := none, voile := v && decide (data.length ≤ 64), raced := [] }] ∧
      (t.core k).disp.sends = q.disp.sends + 1 ∧ (t.core k).sp = q.sp ∧
      (t.core k).regs = { q.regs with pc := (q.regs.pc + 8) % 2 ^ 48 } ∧ t.mem = s.mem ∧ t.sync = s.sync ∧
      ∀ j, j ≠ k → t.core j = s.core j

/-- A TLOAD or TSTORE whose memory address, memory pitch or memory-side row length in bytes is not a multiple of 4, or
whose scratchpad-side row does not fill whole words, and a TSEND whose source or destination does not fill whole words, is
not executed (R164): at issue the fault log records MISALIGNED_TRANSFER with the logical core, the PC and the register
values, and the context is reset; the core no longer holds a grant that it does not need (R136). A row fills whole words
where its bytes in a plain copy, or its bits in a conversion, do. A transfer with ROWLEN = 0 retires at issue without
effect and takes no grant. -/
def Obligations.MisalignedTransfersFault : Prop :=
  (∀ (c : CoreId) (x : TMoveArgs) (y : TSendArgs) (v : Bool) (s : State) (r : RunTask) (sh : TShape),
     let k := coreKey c
     let q := s.core k
     let reg := fun (n : BitVec 5) => (q.sreg n).toNat
     let va := (q.areg x.aV).toNat
     let pitch := reg x.sG % 2 ^ 32
     let bad := fun (bytes : Nat) (memoryIsSource : Bool) =>
       va % 4 ≠ 0 ∨ pitch % 4 ≠ 0 ∨ bytes % 4 ≠ 0 ∨ fillsWords sh (!memoryIsSource) (reg x.sN % 2 ^ 32) = false
     let values := [(q.areg x.aL).toNat, va, reg x.sN, reg x.sG]
     let fault : EngOp → List Nat → Res := fun op l =>
       .next ((((s.modCore k (Core.enqueue · op)).logCore 0x0105 r.ctx k (q.regs.pc :: l)).ctxReset r.ctx 0x0105).settleGrant k)
     let send := if v then Instr.tsendVoile c y .none else .tsend c y .none
     (Issues s k x.guard (.tload x) r → q.granted = true → q.disp.loads.length < 4 → transferShape x.sfmt x.dfmt = some sh →
       0 < reg x.sN % 2 ^ 32 → bad (sh.srcBytes (reg x.sN % 2 ^ 32)) true →
       exec (.tload c x) s = fault (.tload x) values) ∧
     (Issues s k x.guard (.tstore x .none) r → q.granted = true → transferShape x.sfmt x.dfmt = some sh →
       0 < reg x.sN % 2 ^ 32 → bad (sh.dstBytes (reg x.sN % 2 ^ 32)) false →
       exec (.tstore c x .none) s = fault (.tstore x .none) values) ∧
     (Issues s k y.guard (.tsend y v .none) r → q.granted = true → transferShape y.sfmt y.dfmt = some sh →
       0 < reg y.sN % 2 ^ 32 →
       (fillsWords sh true (reg y.sN % 2 ^ 32) = false ∨ fillsWords sh false (reg y.sN % 2 ^ 32) = false) →
       exec send s = fault (.tsend y v .none) [(q.areg y.aL).toNat, reg y.sN, reg y.sR]) ∧
     (Issues s k x.guard (.tload x) r → reg x.sN % 2 ^ 32 = 0 → ∃ t, exec (.tload c x) s = .next t ∧ Retires s t k .txe id) ∧
     (Issues s k x.guard (.tstore x .none) r → reg x.sN % 2 ^ 32 = 0 →
       ∃ t, exec (.tstore c x .none) s = .next t ∧ Retires s t k .txe id) ∧
     (Issues s k y.guard (.tsend y v .none) r → reg y.sN % 2 ^ 32 = 0 →
       ∃ t, exec send s = .next t ∧ Retires s t k .txe id)) ∧
  (∀ n, fillsWords .plain true n = decide (n % 4 = 0) ∧ fillsWords .plain false n = decide (n % 4 = 0) ∧
    ∀ a b, fillsWords (.conv a b) true n = decide (n * a.width % 32 = 0) ∧
      fillsWords (.conv a b) false n = decide (n * b.width % 32 = 0))

/-- A packet for a core that runs the sending context arrives (R158, R160, R167), the first of its writer on its path, with
no other writer's on its way to the core: words that an open window admits are written in order; with every window closed
all are dropped and counted in WIN_DROP_RX; either way the acknowledgement goes back to the sender with the words dropped.
Grants, completions and acknowledgements of a core whose transfer queue is empty: the cluster's oldest request gets the
grant while fewer than G are given (R136, R137); the oldest TLOAD in flight retires and its flags are set, the oldest TSTORE
is accepted, and an acknowledgement of a send of the current tag lowers the count of sends and counts the words dropped
(R160, R167). -/
def Obligations.TransfersComplete : Prop :=
  (∀ (c : CoreId) (pick : Nat) (s : State) (r : RunTask) (p : Packet) (j : Nat),
     let k := coreKey c
     let q := s.core k
     q.run = some r → r.ctx = p.ctx → (s.ctx p.ctx).eval = .none → q.role = .inService →
     (s.packetHeads k)[pick]? = some p → p.raced = [] →
     (∀ q ∈ s.links.packets.erase p, q.dst = p.dst → q.sameWriter p = true) →
     s.tagOk p.ctx p.tag = true → p.sender = some j → j ≠ k →
     p.data.length ≤ 524288 → p.ctx < 64 → s.ent (Ent.winDropRx p.ctx) + p.data.length < 2 ^ 32 →
     ((∀ i, i < p.data.length → windowAdmits q.sp.win p ((p.word + i) % 524288) = some true) →
       ∃ t, exec (.remoteWriteArrival ⟨c, pick⟩) s = .next t ∧ t.links.packets = s.links.packets.erase p ∧
         (∀ i, i < p.data.length → (t.core k).rd (p.word + i) = p.data.getD i 0#32) ∧
         (t.core k).regs = q.regs ∧ t.ent (Ent.winDropRx p.ctx) = s.ent (Ent.winDropRx p.ctx) ∧
         ∃ d, (t.core j).disp.acks = (s.core j).disp.acks ++
           [{ ctx := p.ctx, tag := p.tag, dropped := 0, recorded := false, dst := d }]) ∧
     ((∀ w, w < 8 → (windowAt q.sp.win w).isOpen = false) →
       ∃ t, exec (.remoteWriteArrival ⟨c, pick⟩) s = .next t ∧ t.links.packets = s.links.packets.erase p ∧
         (t.core k).sp = q.sp ∧ t.ent (Ent.winDropRx p.ctx) = s.ent (Ent.winDropRx p.ctx) + p.data.length ∧
         ∃ b d, (t.core j).disp.acks = (s.core j).disp.acks ++
           [{ ctx := p.ctx, tag := p.tag, dropped := p.data.length, recorded := b, dst := d }])) ∧
  (∀ (c : CoreId) (s : State) (fl : Flight) (l : List Flight) (a : SendAck) (m : List SendAck) (g : List Nat) (p : Nat),
     let k := coreKey c
     let q := s.core k
     q.disp.qT = [] →
     (SMap.get (fun _ => []) s.grants c.cluster = k :: g → s.clusterPart c.cluster = some p →
       s.granted c.cluster < s.ent (Ent.transferGrants p) → q.disp.loads ≠ [] →
       ∃ t, exec (.transferGrant c.cluster) s = .next t ∧ (t.core k).disp.grant = true ∧
         SMap.get (fun _ => []) t.grants c.cluster = g ∧ ∀ j, j ≠ k → t.core j = s.core j) ∧
     (q.disp.lateLoads = [] → q.disp.loads = fl :: l →
       ∃ t, exec (.tloadComplete c) s = .next t ∧ (t.core k).disp.loads = l ∧ (t.core k).regs = q.regs ∧
         (t.core k).flags.t = q.flags.t ||| fl.flags ∧
         (t.core k).sp = q.sp ∧ t.mem = s.mem ∧ ∀ j, j ≠ k → t.core j = s.core j) ∧
     (q.disp.lateStores = [] → q.disp.stores = fl :: l →
       ∃ t, exec (.tstoreAcknowledged c) s = .next t ∧ (t.core k).disp.stores = l ∧ (t.core k).regs = q.regs ∧
         (t.core k).sp = q.sp ∧ t.mem = s.mem ∧ ∀ j, j ≠ k → t.core j = s.core j) ∧
     (q.disp.acks = a :: m → s.tagOk a.ctx a.tag = true → a.ctx < 64 →
       s.ent (Ent.winDropTx a.ctx) + a.dropped < 2 ^ 32 →
       ∃ t, exec (.tsendAcknowledged c) s = .next t ∧ (t.core k).disp.acks = m ∧
         (t.core k).disp.sends = q.disp.sends - 1 ∧
         t.ent (Ent.winDropTx a.ctx) = s.ent (Ent.winDropTx a.ctx) + a.dropped ∧ t.mem = s.mem))

/-! ### Watchdogs, fences and spares (13, 14) -/

/-- SEQ_STALL is recorded and fences the core (R379, R358): its role is fenced, the FENCED bit of its slot is set, its
queues and uncommitted posts are gone, its commit record and scratchpad stay. SEGMENT_LONG is recorded once for a segment,
and the segment runs on (R145). QHEAD_STALL, WAIT_TIMEOUT and HEARTBEAT whose policy level is 0 are recorded and reset
nothing (R379, R380, R382). RESET_STUCK supersedes a reset that has not completed with the next level (R385): a context's
with that of its partition, a partition's with that of the compute dies, and that with the request of a power cycle, which
asserts PWR_CYCLE_REQ_N and takes DEV_READY away (R386); a tag advance that waits for the 10 ms of R393 is not counted. -/
def Obligations.WatchdogsRecordAndEscalate : Prop :=
  (∀ (c : CoreId) (u : CoreUnit) (n : Fin 64) (s : State) (r : RunTask) (pc sel : Nat),
     let k := coreKey c
     let q := s.core k
     let recorded := fun (t : State) (code ctx : Nat) => ∃ rec_, t.rel.log.head? = some rec_ ∧ rec_.code = code ∧ rec_.ctx = ctx
     let untouched := fun (t : State) => t.cores = s.cores ∧ t.mem = s.mem ∧ t.sync = s.sync ∧ t.ctxs = s.ctxs ∧ t.parts = s.parts
     (q.ready = some r → s.scopeResetting r.ctx = false → s.dieHasSpare (dieOf (s.slotOf k).1) = true →
       ∃ t, exec (.seqStall c) s = .next t ∧ (t.core k).role = .fenced ∧
         (t.core k).disp = { Disp.idle with count := q.disp.count } ∧
         t.slotFenced (s.slotOf k).1 (s.slotOf k).2 = true ∧ (t.core k).post = q.post.filter (·.committed) ∧
         (t.core k).crec = q.crec ∧ (t.core k).sp = q.sp ∧ t.mem = s.mem ∧ ∀ j, j ≠ k → t.core j = s.core j) ∧
     (q.run = some r → q.segLong = false →
       ∃ t, exec (.segmentLong c) s = .next t ∧ t.core k = { q with segLong := true } ∧ recorded t 0x0104 r.ctx ∧
         t.mem = s.mem ∧ ∀ j, j ≠ k → t.core j = s.core j) ∧
     (q.run = some r → q.stalledPc u = some pc → s.scopeResetting r.ctx = false → q.role = .inService →
       s.escLevel 1 r.ctx = 0 →
       ∃ t, exec (.qheadStall c u) s = .next t ∧ recorded t 0x0702 r.ctx ∧ untouched t) ∧
     (q.run = some r → q.waitSel u = some sel → s.scopeResetting r.ctx = false →
       s.entBits (Ent.waitTimeouts r.ctx) (32 * sel) 32 ≠ 0xFFFFFFFF → s.escLevel 2 r.ctx = 0 →
       ∃ t, exec (.waitTimeout c u) s = .next t ∧ recorded t 0x0703 r.ctx ∧ untouched t) ∧
     ((s.ctxState n = 2 ∨ s.ctxState n = 3) → s.ent (Ent.heartbeat n) ≠ 0 → s.scopeResetting n = false →
       s.escLevel 3 n = 0 →
       ∃ t, exec (.heartbeat n) s = .next t ∧ recorded t 0x0704 n ∧ untouched t)) ∧
  ((∀ (n : Fin 64) (s : State), (s.ctx n).resetting.isSome = true → (s.ctx n).tagDelay = false →
     (s.part (s.ctxPart n)).resetting = false → s.rel.creset = false → s.partDefined (s.ctxPart n) = true →
     ∃ t, exec (.resetStuck (.context n)) s = .next t ∧ (t.part (s.ctxPart n)).resetting = true) ∧
   (∀ (k : Fin 16) (s : State), (s.part k).resetting = true → s.rel.creset = false → s.tagsDelayed k = false →
     ∃ t, exec (.resetStuck (.partition k)) s = .next t ∧ t.rel.creset = true ∧ t.mem.served = false) ∧
   ∀ s : State, s.rel.creset = true → s.plat.pwrCycle = false → (∀ k, k < 16 → s.tagsDelayed k = false) →
     ∃ t, exec (.resetStuck .compute) s = .next t ∧ t.plat.pwrCycle = true ∧ t.plat.devReady = false ∧
       t.plat.stage = StartStage.noReady ∧ t.plat.idle = true ∧ t.links = Links.init)

/-- A substitution gives a fenced core's identity to the standby spare of its cluster, when no core of the die fenced at the
same moment goes first (R33, R359, R360): CORE_MAP names the spare, no spare stands by unless one is in reserve, and the
scratchpad is copied, with every word poisoned where the failed slot delivers none (R148). With no spare on the die the
identity is lost (R363). REPLAY_START then continues from the commit record: program counter, scalar, address and predicate
registers, phase and flags are those of the last commit, and vector registers, local counters, planes, accumulator, queues
and local views are as at a segment's start (R357, R361); a core that had dispatched nothing since its commit replays
nothing. -/
def Obligations.SubstitutionAndReplay : Prop :=
  ∀ (c : CoreId) (ok : Bool) (bad : List (Fin 524288)) (s : State) (r : RunTask),
    let k := coreKey c
    let q := s.core k
    let spare := s.spareOf c.cluster
    (q.role = .fenced → s.goesAfter k = false → spare ≠ 31 → s.visitOn (dieOf c.cluster) = none →
      (s.rel.reserve.find? fun p => p.1 == c.cluster.val) = none →
      ∃ t, exec (.spareSubstitution c ok bad) s = .next t ∧ t.slotOf k = (c.cluster.val, spare) ∧
        t.spareOf c.cluster = 31 ∧ (t.core k).role = .copying ∧ (t.core k).crec = q.crec ∧
        (∀ w, (t.core k).rd w = q.rd w) ∧ (ok = false → ∀ w, (t.core k).poisonedAt w = true)) ∧
    (q.role = .fenced → s.goesAfter k = false → s.spareFor k = none → s.coreOwner k = none →
      ∃ t, exec (.spareSubstitution c ok bad) s = .next t ∧ (t.core k).role = .lost ∧ t.coreLost k = true) ∧
    (q.role = .copying → q.run = some r → q.crec.bar = none →
      ∃ t, exec (.replayStart c) s = .next t ∧ (t.core k).role = .inService ∧
        (t.core k).replay = (q.disp.count != q.crec.dispatched) ∧
        (t.core k).regs = { pc := q.crec.pc, s := q.crec.s, a := q.crec.a, p := q.crec.p, lctr := [], v := [],
                            phase := q.crec.phase } ∧
        (t.core k).coreFlags = q.crec.flags ∧ (t.core k).mxe = Mxe.clear ∧ (t.core k).hq.loc = [] ∧ (t.core k).hq.view = [] ∧
        (t.core k).disp.queued = [] ∧ (t.core k).disp.extra = (q.disp.count != q.crec.dispatched) ∧
        (t.core k).sp = q.sp ∧ (t.core k).post = q.post ∧
        t.mem = s.mem)

/-- Calico (R370 to R373, R454): a visit of a standby spare whose turn has come begins with condition 0; a condition that
ends with a pass leads to the next, and the visit ends after condition 3; a failure of other kind than columns at condition
0 fences the slot, and one after it sets CORE_STRESS; a condition that its die's stage or the share defers is left out and
the visit goes on (R371, R410). A diagnosis visit of a slot that holds no identity any more, which finds columns alone with
W at least 32, returns the slot. A module of a die-to-die edge that loses lanes retrains at x8, or goes down (R22), which is
recorded; when its retraining completes it carries traffic again. An edge below 1,536 GB/s a direction is out and sets the
replace flag (R23). -/
def Obligations.CalicoAndEdges : Prop :=
  (∀ (g : Fin 64) (slot : Fin 25) (kernel : BitVec 32) (s : State) (v : Visit),
     let d := dieOf g
     (s.testsMayRun d = true → s.visitable g slot = true → s.visitDue g slot = some .rotation → s.slotHolder g slot = none →
       ∃ t, exec (.calicoVisitStart g slot) s = .next t ∧
         t.visitOn d = some { cluster := g, slot := slot, kind := .rotation, cond := 0, deferred := false }) ∧
     (∀ die : Fin 4, s.visitOn die = some v → dieOf v.cluster = die → v.kind = .rotation → s.ent Ent.calicoPeriod ≠ 0 →
       v.cond < 3 → s.rel.creset = false → s.testShows v .pass = .pass →
       ∃ t, exec (.calicoConditionEnd die .pass kernel) s = .next t ∧ t.visitOn die = some { v with cond := v.cond + 1 }) ∧
     (∀ (die : Fin 4) (r : KernelResult), s.visitOn die = some v → dieOf v.cluster = die → v.kind = .rotation →
       s.ent Ent.calicoPeriod ≠ 0 → v.cond < 3 → s.rel.creset = false → s.testShows v r = .deferred →
       ∃ t, exec (.calicoConditionEnd die r kernel) s = .next t ∧
         t.visitOn die = some { v with cond := v.cond + 1, deferred := true } ∧
         t.slotFenced v.cluster v.slot = s.slotFenced v.cluster v.slot ∧
         ∃ rec_, t.rel.log.head? = some rec_ ∧ rec_.code = 0x0608 ∧ rec_.part = 0xFF ∧ rec_.slot = v.slot + 32 * v.cluster) ∧
     (∀ die : Fin 4, s.visitOn die = some v → dieOf v.cluster = die → v.kind = .rotation → v.cluster < 64 →
       s.rel.creset = false → s.testShows v .other = .other →
       ∃ t, exec (.calicoConditionEnd die .other kernel) s = .next t ∧ t.visitOn die = none ∧
         t.slotFenced v.cluster v.slot = true ∧ (v.cond ≠ 0 → t.entBit Ent.replace 0 = true)) ∧
     (∀ bad : List (Fin 66), s.testsMayRun d = true → s.slotHolder g slot = none →
       (s.addBadCols g slot bad).slotWorks g slot = true →
       (s.rel.queued.any fun v => v.kind == .diagnosis && v.cluster == g.val && v.slot == slot.val) = true →
       ∃ t, exec (.diagnosisVisit g slot (.columns bad)) s = .next t ∧ t.slotFenced g slot = false ∧
         (t.rel.queued.any fun v => v.kind == .diagnosis && v.cluster == g.val && v.slot == slot.val) = false)) ∧
  (∀ (e : Fin 8) (m : Fin 32) (x8 : Bool) (s : State),
     (s.powered = true → s.edgeModule e m % 4 ≠ 2 →
       ∃ t, exec (.edgeModuleLaneLoss e m x8) s = .next t ∧
         (s.rel.edgeOut = 0#8 → (s.setEdgeModule e m (if x8 then 5 else 2)).edgeCapacity e < 1536 →
           t.rel.edgeOut.getLsbD e = true ∧ t.entBit Ent.replace 3 = true) ∧
         (1536 ≤ (s.setEdgeModule e m (if x8 then 5 else 2)).edgeCapacity e →
           t.edgeModule e m = (if x8 then 5 else 2) ∧ t.rel.edgeOut = s.rel.edgeOut)) ∧
     ∃ t, exec (.edgeRetrainComplete e m) s = .next t ∧ t.edgeModule e m = s.edgeModule e m % 4 ∧ t.mem = s.mem)

/-! ### Stacked memory (08) -/

/-- A line that the stacks serve and that arrives as it was stored is delivered and nothing changes; one that is
uncorrectable and has no replica is poisoned (R217, R218). A write of a whole line replaces its bytes and clears its
poison; a partial write merges its bytes into the line as it is delivered, which is the line stored where no symbol is in
error, and is discarded and recorded where the line is poisoned (R207, R220). A scrub read of an uncorrectable line
poisons it, poisoned before or not, retires its row and goes on to the next line (R221 to R223, R235); in a replicated
frame it starts the line's refill, and the rest of the frame is read at once, line after line (R223). -/
def Obligations.LinesAreReadAndWritten : Prop :=
  ∀ (at_ : LineAddr) (errs : List SymErr) (who : LineReader) (mask : Word64) (data : BitVec 512) (s : State),
    let stack := at_.stack.val
    let frame := at_.frame.val
    let x := at_.line.val
    let pa := paOf stack frame (64 * x)
    let others := fun (t : State) => ∀ a, (a < pa ∨ pa + 64 ≤ a) → t.memByte a = s.memByte a
    let clean := s.poisoned (lineNo pa) = false ∧ s.decodeLine stack frame x errs = some []
    let atScrub := fun (p : Nat) => s.mem.served = true ∧ s.ent Ent.scrubPeriod ≠ 0 ∧ s.rel.selftest ≠ some 1 ∧
      s.rel.selftest ≠ some 2 ∧
      s.mem.copying.contains (rowKey stack (p / 32768) (p % 32768)) = false
    let onPass := fun (p : Nat) => atScrub p ∧ (s.mem.rescan.find? fun r => r.stack == stack) = none ∧
      s.scrubFrom stack (s.scrubPos stack) 17 = some p
    (s.lineServed stack frame x = true → clean → exec (.memoryLineRead at_ errs who) s = .next s) ∧
    (s.lineServed stack frame x = true → s.poisoned (lineNo pa) = false → s.decodeLine stack frame x errs = none →
      s.replica (lineNo pa) = none → SMap.get (fun _ => []) s.mem.ues (128 * stack + lineChannel frame x) = [] →
      ∃ t, exec (.memoryLineRead at_ errs .exporter) s = .next t ∧ t.poisoned (lineNo pa) = true ∧
        (∀ a, t.memByte a = s.memByte a) ∧ t.cores = s.cores) ∧
    (s.lineServed stack frame x = true → ∃ t, exec (.memoryLineWrite at_ (BitVec.allOnes 64) data errs who) s = .next t ∧
      (∀ i, i < 64 → t.memByte (pa + i) = data.extractLsb' (8 * i) 8) ∧ others t ∧
      SMap.get (fun _ => false) t.mem.poison (lineNo pa) = false) ∧
    (s.lineServed stack frame x = true → mask ≠ BitVec.allOnes 64 → s.poisoned (lineNo pa) = false →
      (s.decodeLine stack frame x errs).isSome = true →
      ∃ t, exec (.memoryLineWrite at_ mask data errs who) s = .next t ∧ others t ∧
        ∀ i, i < 64 → t.memByte (pa + i) =
          if mask.getLsbD i then data.extractLsb' (8 * i) 8 else (s.lineRead stack frame x errs).getD i 0#8) ∧
    (∀ i, i < 64 → (s.lineRead stack frame x []).getD i 0#8 = s.memByte (pa + i)) ∧
    (s.lineServed stack frame x = true → mask ≠ BitVec.allOnes 64 → s.poisoned (lineNo pa) = true →
      ∃ t, exec (.memoryLineWrite at_ mask data errs who) s = .next t ∧ t.mem = s.mem ∧
        ∃ rec_, t.rel.log.head? = some rec_ ∧ rec_.code = 0x0303 ∧ rec_.args = [pa]) ∧
    (∀ p, onPass p → s.poisoned (stack * 2147483648 + p) = false →
      s.decodeLine stack (p / 32768) (p % 32768) errs = some [] →
      ∃ t, exec (.scrubRead at_.stack errs) s = .next t ∧ t.scrubPos stack = (p + 1) % 1610612736 ∧
        ∀ a, t.memByte a = s.memByte a) ∧
    (∀ (p : Nat) (r : Rescan), atScrub p → (s.mem.rescan.find? fun r => r.stack == stack) = some r →
      p = 32768 * r.frame + r.next → p / 32768 = r.frame → 1 < r.left → s.poisoned (stack * 2147483648 + p) = false →
      s.decodeLine stack (p / 32768) (p % 32768) errs = some [] →
      ∃ t, exec (.scrubRead at_.stack errs) s = .next t ∧ t.scrubPos stack = s.scrubPos stack ∧
        { r with next := (r.next + 1) % 32768, left := r.left - 1 } ∈ t.mem.rescan ∧ ∀ a, t.memByte a = s.memByte a) ∧
    (∀ p, onPass p → s.decodeLine stack (p / 32768) (p % 32768) errs = none →
      (s.replica (stack * 2147483648 + p)).isSome = true →
      ∃ t, exec (.scrubRead at_.stack errs) s = .next t ∧
        { stack := stack, frame := p / 32768, next := (p % 32768 + 1) % 32768, left := 32767 } ∈ t.mem.rescan ∧
        t.scrubPos stack = (p / 32768 + 1) * 32768 % 1610612736) ∧
    (∀ p, onPass p → s.decodeLine stack (p / 32768) (p % 32768) errs = none →
      s.replica (stack * 2147483648 + p) = none →
      SMap.get (fun _ => []) s.mem.ues (128 * stack + lineChannel (p / 32768) (p % 32768)) = [] →
      SMap.get (fun _ => 0) s.mem.spare (rowKey stack (p / 32768) (p % 32768) / 12288) < 16 →
      ∃ t, exec (.scrubRead at_.stack errs) s = .next t ∧ t.scrubPos stack = (p + 1) % 1610612736 ∧
        t.poisoned (stack * 2147483648 + p) = true ∧
        t.mem.copying.contains (rowKey stack (p / 32768) (p % 32768)) = true ∧
        ∃ rec_, t.rel.log.head? = some rec_ ∧ rec_.code = 0x0304)

/-- Reads held for a refill that takes too long return poison, and the refill goes on (R224). A window of the migration rule
ends with its counts cleared, and moves nothing while MIGRATE_EN is 0; a page that one other die used in two windows running
starts to move there (R232). A page whose copy is complete stands in its new frame with the bytes it had (R233). A spare row
whose copy is complete serves its requests again (R235), unless a compute reset holds the stacks (R239). A command that
fails a check changes no page, and it completes with the status that R226 gives (INVALID, BAD_CONTEXT, RANGE) and no pages;
its completion is written to the ring, MQ_DONE rises and MEMQ is set (R428). -/
def Obligations.PagesMoveAndRefusals : Prop :=
  (∀ (at_ : LineAddr) (n : Fin 64) (vpage : Nat) (stack : Fin 16) (channel : Fin 128) (bank : Fin 32) (row : Fin 12288)
       (s : State),
     let line := lineNo (paOf at_.stack at_.frame (64 * at_.line))
     let rowOf := 12288 * (32 * (128 * stack.val + channel.val) + bank.val) + row.val
     ((s.mem.held.any fun h => h.1 == line) = true → (∀ h ∈ s.mem.held, h.1 = line → h.2 = .exporter) →
       ∃ t, exec (.refillHoldTimeout at_) s = .next t ∧ t.poisoned line = true ∧ t.mem.refills = s.mem.refills ∧
         t.mem.held = s.mem.held.filter fun h => h.1 != line) ∧
     (∃ t, exec .migrationWindowEnd s = .next t ∧ t.mem.accesses = [] ∧ t.mem.pages = s.mem.pages ∧
       t.mem.cells = s.mem.cells ∧ (s.ent Ent.migrateEn = 0 → t.mem.migr = s.mem.migr)) ∧
     (∀ (key d st fr : Nat) (p : Page) (s1 : State), s.ent Ent.migrateEn ≠ 0 → s.mem.pages = [(key, some p)] →
       ownMapping (key, some p) = true → s.mainDie key = d → d ≠ 4 → SMap.get (fun _ => 4) s.mem.prevWin key = d →
       p.stack / 4 ≠ d → p.pin = false → p.ro = false → s.mem.migr = [] → s.placeOn (dieStacks d 0) = some (st, fr, s1) →
       ∃ t, exec .migrationWindowEnd s = .next t ∧
         t.mem.migr = [{ ctx := p.owner, vpage := p.opage, stack := st, frame := fr }]) ∧
     (∀ (g : Migr) (p : Page), (s.mem.migr.find? fun g => g.ctx == n.val && g.vpage == vpage) = some g →
       s.mem.served = true → s.page n vpage = some p → p.frame < 65536 → g.frame < 65536 → Memory.wf s.mem = true →
       ∃ t, exec (.pageMigrationComplete n vpage) s = .next t ∧
         t.page n vpage = some { p with stack := g.stack, frame := g.frame } ∧
         ∀ off, off < 2 ^ 21 → t.memByte (paOf g.stack g.frame off) = s.memByte (paOf p.stack p.frame off)) ∧
     (s.mem.served = true →
       ∃ t, exec (.spareRowCopyComplete stack channel bank row) s = .next t ∧ t.mem.copying.contains rowOf = false ∧
         (∀ r, r ≠ rowOf → t.mem.copying.contains r = s.mem.copying.contains r) ∧ t = { s with mem := t.mem } ∧
         t.mem.cells = s.mem.cells)) ∧
  (∀ (f : Fin 17) (c : MemCmd) (s : State) (st : Nat) (i : Instr),
     i ∈ [Instr.alloc f c, .free f c, .shareRo f c, .replReg f c, .replUnreg f c, .migrate f c] →
     (i = .alloc f c → c.op = 1) → (i = .free f c → c.op = 2) → (i = .shareRo f c → c.op = 3) →
     (i = .replReg f c → c.op = 4) → (i = .replUnreg f c → c.op = 5) → (i = .migrate f c → c.op = 6) →
     (s.memq f).cmds = [c] → s.rel.creset = false → s.cmdCheck f c = some st → (s.memq f).stale = 0 →
     s.bme f = true → (s.memq f).held = [] →
     ∃ t, exec i s = .next t ∧ t.mem = s.mem ∧ (t.memq f).cmds = [] ∧ t.fn f 0x068 = s.fn f 0x068 + 1 ∧
       (t.fn f 0x010).testBit 1 = true ∧ st ∈ [7, 5, 2] ∧
       Out.write f (s.fn f 0x058 + 16 * (s.fn f 0x068 % s.fn f 0x050)) (leBytes 8 (c.tag + st * 2 ^ 32) ++ leBytes 8 0) ∈ t.out)

/-- Memory commands (R226 to R232, R428). MQ_FETCH reads the next command of the ring behind those that wait; a read that
fails sets MQ_ERROR. The command at the front that passes its checks has its effect: ALLOC maps zeroed pages, FREE removes
the pages and every mapping of them, SHARE_RO maps the pages read-only in another context, REPL_REG and REPL_UNREG set and
clear the registration of the pages of the context itself, and MIGRATE leaves every page on the target die. -/
def Obligations.MemoryCommands : Prop :=
  ∀ (f : Fin 17) (c : MemCmd) (s : State),
    let q := s.memq f
    let s1 := s.setMemq f { q with cmds := q.cmds.tail }
    let front := fun (op : Nat) => q.cmds.head? = some c ∧ c.op = op ∧ s.rel.creset = false ∧ s.cmdCheck f c = none
    let fetches := q.error = false ∧ s.bme f = true ∧ s.fn f 0x060 < s.fn f 0x080 ∧
      s.fn f 0x060 < s.fn f 0x088 + s.fn f 0x050
    let src := fun (i : Nat) => s.page c.ctx (c.vpage + i)
    (fetches → q.cmds ≠ [] → ∃ t, exec (.mqFetch f .ok c) s = .next t ∧ (t.memq f).cmds = q.cmds ++ [c] ∧
      t.fn f 0x060 = s.fn f 0x060 + 1 ∧ t.mem = s.mem ∧
      Out.read f (s.fn f 0x048 + 32 * (s.fn f 0x060 % s.fn f 0x050)) 32 ∈ t.out) ∧
    (∀ st, st ≠ .ok → fetches → ∃ t, exec (.mqFetch f st c) s = .next t ∧ (t.memq f).error = true ∧ (t.memq f).cmds = q.cmds ∧
      t.fn f 0x060 = s.fn f 0x060 ∧ (t.fn f 0x010).testBit 1 = true) ∧
    (front 1 → s.anyMapped c.ctx c.vpage c.count = false → s.ent (Ent.memQuota (s.ctxPart c.ctx)) = 0 →
      c.count ≤ s.ent Ent.freeFrames →
      (s1.allocPages c (if c.home = 4 then s.homeDie (s.ctxPart c.ctx) else c.home) (List.range c.count) 0).isSome = true →
      ∃ t, exec (.alloc f c) s = .next t ∧
        (∀ i, i < c.count → ∃ p, t.page c.ctx (c.vpage + i) = some p ∧ p.owner = c.ctx ∧ p.opage = c.vpage + i ∧
          p.ro = false ∧ p.pin = c.pin ∧ p.repl = none ∧ ∀ off, off < 2 ^ 21 → t.memByte (paOf p.stack p.frame off) = 0#8) ∧
        ∀ key, (∀ i, i < c.count → key ≠ 134217728 * c.ctx + (c.vpage + i)) →
          SMap.get (fun _ => none) t.mem.pages key = SMap.get (fun _ => none) s.mem.pages key) ∧
    (front 2 → s.allOwned c = true → ∃ t, exec (.free f c) s = .next t ∧
      (∀ i, i < c.count → t.page c.ctx (c.vpage + i) = none) ∧
      (∀ key p, SMap.get (fun _ => none) t.mem.pages key = some p →
        ¬ (p.owner = c.ctx ∧ c.vpage ≤ p.opage ∧ p.opage < c.vpage + c.count)) ∧
      ∀ key p, SMap.get (fun _ => none) s.mem.pages key = some p →
        ¬ (p.owner = c.ctx ∧ c.vpage ≤ p.opage ∧ p.opage < c.vpage + c.count) →
        SMap.get (fun _ => none) t.mem.pages key = some p) ∧
    (front 3 → s.allOwned c = true → s.anyMapped c.dctx c.aux c.count = false → ∃ t, exec (.shareRo f c) s = .next t ∧
      (∀ i, i < c.count → t.page c.dctx (c.aux + i) =
        (src i).map fun p => { p with ro := true, pin := false, repl := none }) ∧
      ∀ key, (∀ i, i < c.count → key ≠ 134217728 * c.dctx + (c.aux + i)) →
        SMap.get (fun _ => none) t.mem.pages key = SMap.get (fun _ => none) s.mem.pages key) ∧
    (∀ peer, front 4 → s.peerOf c.ctx c.peer = some peer →
      s.allOwned c = true → ∃ t, exec (.replReg f c) s = .next t ∧ t.mem.cells = s.mem.cells ∧
        ∀ i, i < c.count → t.page c.ctx (c.vpage + i) =
          (src i).map fun p => { p with repl := some (c.peer, c.aux + i) }) ∧
    (front 5 → ∃ t, exec (.replUnreg f c) s = .next t ∧ t.mem.cells = s.mem.cells ∧
      ∀ i, i < c.count → t.page c.ctx (c.vpage + i) = (src i).map fun p =>
        if ownMapping (134217728 * c.ctx + (c.vpage + i), some p) then { p with repl := none } else p) ∧
    (front 6 → s.allOwned c = true → (s1.migratePages c (List.range c.count)).isSome = true →
      ∃ t, exec (.migrate f c) s = .next t ∧
        ∀ i, i < c.count → ∃ p, t.page c.ctx (c.vpage + i) = some p ∧ p.stack / 4 = c.tdie)

/-! ### Updates, votes and exports (09) -/

/-- A trigger that has reached its target raises the target; it starts a step, which captures the table and sets BUSY, or
it queues behind the step in progress (R254, R255). The pre-pass of a package without norm peers decides the step: a
non-finite gradient, a saturated sum or a norm above the ceiling skips it and counts it, and otherwise the sweep begins
with the clip scale (R258 to R263); with peers it waits for their partials (R259). -/
def Obligations.StepsBeginAndDecide : Prop :=
  ∀ (n : Fin 64) (s : State) (key : Nat) (tb : UpdTable) (sum : Nat) (nonfin : Bool),
    let u := (s.ctx n).upd
    let inc := s.entBits (Ent.updTrigger n) 32 32
    let reached := s.syncKey (s.ctxPart n) (s.entBits (Ent.updTrigger n) 0 18) = some key ∧ s.ctxValid n = true ∧
      s.ent (Ent.updTable n) ≠ 0 ∧ inc ≠ 0 ∧ s.mem.served = true ∧ u.target ≤ (s.word key).value
    let bad := nonfin = true ∨ sum = normSat ∨ f32rel .lt u.table.ceiling (normOf sum) = true
    (reached → s.stepOpen n = false → u.queued = 0 → s.readUpdTable n = .ok tb →
      ∃ t, exec (.updateTrigger n) s = .next t ∧ (t.ctx n).upd.stage = .prePass ∧ (t.ctx n).upd.table = tb ∧
        (t.ctx n).upd.step = s.ent (Ent.step n) ∧ (t.ctx n).upd.target = u.target + inc ∧ (t.ctx n).upd.queued = 0 ∧
        t.entBit (Ent.updStatus n) 0 = true ∧ t.mem = s.mem ∧ t.cores = s.cores) ∧
    (reached → s.stepOpen n = true →
      ∃ t, exec (.updateTrigger n) s = .next t ∧ (t.ctx n).upd = { u with target := u.target + inc, queued := u.queued + 1 } ∧
        t = { s with ctxs := t.ctxs } ∧ ∀ m, m ≠ n.val → t.ctx m = s.ctx m) ∧
    (u.stage = .prePass → s.mem.served = true → s.prePass n u.table u.table.recs (0, false) = .ok (sum, nonfin) →
      u.table.peers = [] → s.ent (Ent.skipCount n) < 2 ^ 32 - 1 →
      ∃ t, exec (.prePassEnd n) s = .next t ∧ t.mem = { s.mem with accesses := t.mem.accesses } ∧
        (bad → (t.ctx n).upd.stage = .boundary ∧ (t.ctx n).upd.skipped = true ∧
          t.ent (Ent.skipCount n) = s.ent (Ent.skipCount n) + 1 ∧ t.entBit (Ent.updStatus n) 1 = true) ∧
        (¬ bad → (t.ctx n).upd.stage = .sweep ∧ (t.ctx n).upd.scale = clipScale u.table.clipNorm (normOf sum) ∧
          t.ent (Ent.lastNorm n) = (normOf sum).toNat ∧ t.entBit (Ent.updStatus n) 1 = false ∧
          t.entBits (Ent.updStatus n) 2 3 = 0)) ∧
    (u.stage = .prePass → s.mem.served = true → s.prePass n u.table u.table.recs (0, false) = .ok (sum, nonfin) →
      (∃ p ∈ u.table.peers, u.partialOf p = none) →
      (∀ j ∈ u.table.peers, ∀ p, s.peerOf n j = some p → p.coord ≠ s.ent Ent.pkgCoord) →
      ∃ t, exec (.prePassEnd n) s = .next t ∧ (t.ctx n).upd.stage = .norm ∧ (t.ctx n).upd.sum = sum ∧
        (t.ctx n).upd.nonfin = nonfin ∧ t.mem.cells = s.mem.cells)

/-- A norm partial from a peer (R259, R319): one from a source that the peer table does not name is refused and counted; one
for an earlier step is dropped; one for this step or a later one is kept, and of the others only those that the same peer
sent for the same step, or of two later steps, give way; the last one that a step waits for decides it over the saturated
sum of all (R260). NORM_TIMEOUT abandons the step with CAUSE 4: nothing is written, the partials
are kept and BUSY falls (R259, R262). -/
def Obligations.PartialsAreGathered : Prop :=
  ∀ (port : Fin 6) (h : MsgHeader) (n : Fin 64) (peer step sum : Nat) (nonfin : Bool) (s : State),
    let u := (s.ctx n).upd
    let c := h.clean
    let now := s.ent (Ent.step n)
    let mine := c.dcoord.toNat = s.ent Ent.pkgCoord ∧ c.dctx.toNat = n.val
    let known := mine ∧ s.accepts c = true ∧ s.tagOk n c.tag.toNat = true ∧ s.rel.creset = false ∧
      s.peerNo n c.scoord.toNat c.spart.toNat c.sctx.toNat = some peer
    let total := Nat.min (u.sum + Nat.min sum normSat) normSat
    (mine → s.accepts c = false → c.scoord.toNat ≠ s.ent Ent.pkgCoord → s.ent (Ent.peerReject n) < 2 ^ 32 - 1 →
      ∃ t, exec (.normReceive port h step sum nonfin) s = .next t ∧ t.ent (Ent.peerReject n) = s.ent (Ent.peerReject n) + 1 ∧
        t.ctxs = s.ctxs ∧ t.mem = s.mem) ∧
    (known → step < now → exec (.normReceive port h step sum nonfin) s = .next s) ∧
    (known → now ≤ step → u.stage ≠ .norm →
      ∃ t, exec (.normReceive port h step sum nonfin) s = .next t ∧
        (peer, step, Nat.min sum normSat, nonfin) ∈ (t.ctx n).upd.partials ∧
        (∀ p ∈ u.partials, (p.1 ≠ peer ∨ (p.2.1 ≠ step ∧ (p.2.1 = now ∨ step = now))) → p ∈ (t.ctx n).upd.partials) ∧
        (∀ p ∈ (t.ctx n).upd.partials, p ∈ u.partials ∨ p = (peer, step, Nat.min sum normSat, nonfin)) ∧
        (t.ctx n).upd = { u with partials := (t.ctx n).upd.partials } ∧ t = { s with ctxs := t.ctxs }) ∧
    (known → now ≤ step → u.stage = .norm → u.table.peers = [peer] → step = u.step →
      ∃ t, exec (.normReceive port h step sum nonfin) s = .next t ∧
        ((t.ctx n).upd.stage = .sweep ↔
          (u.nonfin || nonfin) = false ∧ total ≠ normSat ∧ f32rel .lt u.table.ceiling (normOf total) = false) ∧
        ((t.ctx n).upd.stage = .sweep ∨ (t.ctx n).upd.stage = .boundary) ∧ t.mem = s.mem) ∧
    (u.stage = .norm → u.queued = 0 → ∃ t, exec (.normTimeout n) s = .next t ∧ (t.ctx n).upd = { u with stage := .idle } ∧
      t.entBits (Ent.updStatus n) 2 3 = 4 ∧ t.entBit (Ent.updStatus n) 0 = false ∧ t.mem = s.mem ∧ t.cores = s.cores ∧
      ∃ rec_, t.rel.log.head? = some rec_ ∧ rec_.code = 0x0403 ∧ rec_.ctx = n.val)

/-- A group of 16 lines that the sweep has not done writes what the optimiser computes from what it reads, and counts as
done; its flags join UPD_FLAGS (R247, R265 to R268), and the accesses count for the die of the engine (R232). Three failures
of the residue check take the engine out of service (R269). The step boundary of a step that was skipped, or of which every
group is done, ends it: STEP rises by 1, BUSY falls and the DONE word receives its post (R256). A due digest with no vote
stands in LAST_DIGEST (R270, R271). -/
def Obligations.SweepsAndBoundaries : Prop :=
  ∀ (n : Fin 64) (record group fails : Nat) (s : State) (r : TensorRec) (a : List (List Word32)) (key digest : Nat),
    let u := (s.ctx n).upd
    let len := Nat.min 256 (r.count - 256 * group)
    let off := 1024 * group
    let reads := u.table.reads r group
    let w := sweepGroup u.table r u.step group len (BitVec.ofNat 64 (s.ent (Ent.gauzeKey n))) u.scale false a
    let counted := s.countUpe n (fun _ => s.upeAt n (r.master + off))
      (reads.filterMap (fun va => va.map fun x => (x, 4 * len)) ++ w.1.map fun x => (x.va, x.bytes.length))
    let res := counted.sweepWrites n w.1
    let todo := u.table.recs[record]? = some r ∧ u.stage = .sweep ∧ s.mem.served = true ∧ (s.ctx n).exp.shard = false ∧
      u.table.sweeps r = true ∧ group < r.groups ∧ u.groups.contains (record, group) = false
    let due := (u.step + 1) % Nat.max 1 (s.ent (Ent.damaskInterval n)) = 0
    let closing := s.mem.served = true ∧ s.ent (Ent.exportMode n) = 0 ∧ s.live = [] ∧ s.mem.refills = [] ∧
      s.evalsOf n = [] ∧ u.queued = 0 ∧ u.stage ≠ .idle ∧
      ((u.stage = .boundary ∧ u.skipped = true) ∨
        (u.stage = .sweep ∧ u.table.work ≤ u.groups.length ∧
          (s.writeGroups n (s.ent (Ent.updTable n)) u.step u.table.groups.zipIdx).fail = none)) ∧
      s.syncKey (s.ctxPart n) (s.entBits (Ent.updDone n) 0 18) = some key ∧ s.votePeers n = []
    let closed := fun (t : State) => t.ent (Ent.step n) = u.step + 1 ∧ (t.ctx n).upd.stage = .idle ∧
      t.entBit (Ent.updStatus n) 0 = false ∧ (t.word key).value = sat64 ((s.word key).value + 1)
    (todo → fails < 3 → s.ent (Ent.exportMode n) = 0 →
      s.sweepReads n len reads = .ok a → res.fail = none →
      ∃ t, exec (.upeGroup n record group fails) s = .next t ∧ t.mem = res.s.mem ∧
        (t.ctx n).upd.groups = u.groups ++ [(record, group)] ∧
        t.ent (Ent.updFlags n) = Nat.lor (s.ent (Ent.updFlags n)) w.2.toNat ∧ t.cores = s.cores ∧
        ∀ m, m ≠ n.val → t.ctx m = s.ctx m) ∧
    (∀ pa, todo → 3 ≤ fails → s.translate n (r.master + off) = some pa →
      ∃ t, exec (.upeGroup n record group fails) s = .next t ∧
        t.rel.upeOut.getLsbD (s.upeOf (paStack pa)) = true ∧ t.entBit Ent.replace 5 = true) ∧
    (closing → ¬ due → ∃ t, exec (.stepBoundary n) s = .next t ∧ closed t) ∧
    (closing → due → s.digestRecs n (BitVec.ofNat 64 (s.ent (Ent.digestKey n))) u.table.recs 0 = .ok digest →
      ∃ t, exec (.stepBoundary n) s = .next t ∧ closed t ∧ t.ent (Ent.lastDigest n) = u.step + 2 ^ 64 * digest)

/-- A digest from a peer (R319, R366): one for a step already decided is dropped and counted; one for the step at hand or a
later one is kept, and a kept one of the step at hand and one of a later step of the same peer stand beside each other. A
vote of two packages that agree verifies the step; one that differs withholds DONE and requests a rollback; one that ends
without the peer's digest is provisional (R367, R368, Table 13.4). A spilled record moves to the ring as space frees (R279).
The records of a shard export are formed with SHARD_END last and leave in order, and SHARDREQ falls after the last (R280).
-/
def Obligations.VotesAndExports : Prop :=
  ∀ (port : Fin 6) (h : MsgHeader) (n : Fin 64) (peer step digest : Nat) (s : State) (own off len : Nat) (r : List Byte)
      (tb : UpdTable) (l : List (List Byte)),
    let v := (s.ctx n).vote
    let e := (s.ctx n).exp
    let f := s.ctxPart n + 1
    let base := s.ent (Ent.exportRing n)
    let size := s.ent (Ent.exportSize n)
    let tail := s.ent (Ent.exportTail n)
    let c := h.clean
    let known := c.dcoord.toNat = s.ent Ent.pkgCoord ∧ c.dctx.toNat = n.val ∧ s.accepts c = true ∧
      s.tagOk n c.tag.toNat = true ∧ s.rel.creset = false ∧
      s.peerNo n c.scoord.toNat c.spart.toNat c.sctx.toNat = some peer
    let open_ := v.own = some (step, own) ∧ s.votePeers n = [peer] ∧ (s.ctx n).upd.queued = 0 ∧ s.evalsOf n = []
    let fits := fun (b : Nat) => s.bme f = true ∧ tail % size + b ≤ size ∧ tail + b ≤ s.ent (Ent.exportHead n) + size
    let lateEnd := exportRecord Rec.shardEnd 0 0 (s.ent (Ent.step n)) 0 l.length []
    (known → step < s.voteStep n → s.ent (Ent.voteLate n) < 2 ^ 32 - 1 →
      ∃ t, exec (.digestReceive port h step digest) s = .next t ∧ t.ent (Ent.voteLate n) = s.ent (Ent.voteLate n) + 1 ∧
        t.ctxs = s.ctxs) ∧
    (known → s.ent (Ent.step n) ≤ step → v.own = none →
      ∃ t, exec (.digestReceive port h step digest) s = .next t ∧ (t.ctx n).vote.digestOf peer step = some (digest % 2 ^ 128) ∧
        (∀ p ∈ v.kept, (p.1 ≠ peer ∨ (p.2.1 ≠ step ∧ (p.2.1 = s.ent (Ent.step n) ∨ step = s.ent (Ent.step n)))) →
          p ∈ (t.ctx n).vote.kept) ∧
        t = { s with ctxs := t.ctxs }) ∧
    (known → open_ → ∃ t, exec (.digestReceive port h step digest) s = .next t ∧ (t.ctx n).vote.own = none ∧
      (own = digest % 2 ^ 128 → t.ent (Ent.voteStatus n) = 1 ∧ t.ent (Ent.lastVerified n) = step ∧
        (t.ctx n).vote.withheld = false) ∧
      (own ≠ digest % 2 ^ 128 → t.ent (Ent.voteStatus n) = 5 + 8 ∧ (t.ctx n).vote.withheld = true ∧
        t.ent (Ent.rollbackReq n) = 1 ∧ t.entBit Ent.alertStatus 5 = true)) ∧
    (open_ → v.kept = [] → ∃ t, exec (.voteTimeout n) s = .next t ∧ (t.ctx n).vote.own = none ∧
      t.ent (Ent.voteStatus n) = 2 ∧ (t.ctx n).vote.withheld = false) ∧
    (s.mem.served = true → e.spill = [(off, len)] → e.gap = false → e.shardQ = [] → s.spillRead n off len = .ok r →
      fits r.length → size ≠ 0 →
      ∃ t, exec (.exportSpillDrain n) s = .next t ∧ (t.ctx n).exp.spill = [] ∧
        t.ent (Ent.exportTail n) = tail + r.length ∧ t.out = s.out ++ [Out.write f (base + tail % size) r] ∧ t.mem = s.mem) ∧
    (s.mem.served = true → e.shard = true → s.ent (Ent.updTable n) ≠ 0 → s.readUpdTable n = .ok tb →
      s.shardRecords n tb tb.ranges = .ok l → size = 0 →
      s.spillSize n = 0 →
      ∃ t, exec (.shardExportComplete n) s = .next t ∧ (t.ctx n).exp.shard = false ∧ (t.ctx n).exp.shardQ = l ++ [lateEnd]) ∧
    (s.mem.served = true → e.shard = false → e.shardQ = [r] → e.gap = false → e.spill = [] → fits r.length → size ≠ 0 →
      ∃ t, exec (.shardExportComplete n) s = .next t ∧ (t.ctx n).exp.shardQ = [] ∧ t.entBit (Ent.exportCtl n) 1 = false ∧
        t.out = s.out ++ [Out.write f (base + tail % size) r])

/-! ### Contexts, tasks and sequencers (10) -/

/-- A descriptor read is issued while the context has less than 8 in the package, and CQ_HEAD rises by 1 (R426). A
descriptor that arrives is issued to every core of its group at once when slots are free (R289, R426); a group that R288
rejects, and a read that fails, reset the context (R288, R435); one of an earlier tag is dropped and counted (R392). -/
def Obligations.DescriptorsAreIssued : Prop :=
  ∀ (n : Fin 64) (st : ReadStatus) (d : BitVec 512) (s : State) (tag : Nat) (l : List Nat) (keys : List Nat),
    let f := s.ctxPart n + 1
    let i := s.pg n 0x010
    let c := s.ctx n
    let q := decodeTask n d
    let desc : TaskDesc :=
      { inst := s.nextId, ctx := n, pc := q.pc, s0 := q.s0, s1 := q.s1, s2 := q.s2, s3 := q.s3, taskid := q.taskid }
    let arrives := c.cqOut = tag :: l ∧ s.ctxValid n = true ∧ s.tagOk n tag = true
    (s.ctxValid n = true → c.resetting = none → s.bme f = true → i < s.pg n 0x040 → c.cqOut = [] → c.cqRead.length < 8 →
      ∃ t, exec (.descriptorFetch n) s = .next t ∧ t.pg n 0x010 = i + 1 ∧ (t.ctx n).cqOut = [s.tag n] ∧
        t.out = s.out ++ [Out.read f (s.pg n 0x000 + 64 * (i % s.pg n 0x008)) 64] ∧ t.cores = s.cores ∧ t.mem = s.mem) ∧
    (arrives → st = .ok → c.cqRead = [] → s.mayIssue n = true → s.taskGroup q = some keys → keys.Nodup →
      s.slotsFree keys = true →
      ∃ t, exec (.descriptorReadCompletion n st d) s = .next t ∧ (t.ctx n).cqOut = l ∧ (t.ctx n).cqRead = [] ∧
        (∀ k ∈ keys, t.core k = { s.core k with tasks := (s.core k).tasks ++ [desc] }) ∧
        (∀ k, k ∉ keys → t.core k = s.core k) ∧ t.nextId = s.nextId + 1 ∧ t.mem = s.mem ∧
        (t.ctx n).tasks = c.tasks ++ [{
          id := s.nextId, started := false, left := keys.length,
          done := if q.done.testBit 31 then some (bitsAt q.done 0 18) else none, seq := none }]) ∧
    (arrives → st = .ok → c.cqRead = [] → s.mayIssue n = true → s.taskGroup q = none →
      ∃ t, exec (.descriptorReadCompletion n st d) s = .next t ∧ (t.ctx n).resetting = some 0x0108) ∧
    (arrives → st ≠ .ok → c.resetting = none → (s.part (s.ctxPart n)).resetting = false → s.rel.creset = false →
      ∃ t, exec (.descriptorReadCompletion n st d) s = .next t ∧ (t.ctx n).resetting = some 0x0901) ∧
    (c.cqOut = tag :: l → s.tagOk n tag = false → s.ent (Ent.staleDrop n) < 2 ^ 32 - 1 →
      ∃ t, exec (.descriptorReadCompletion n st d) s = .next t ∧ (t.ctx n).cqOut = l ∧ (t.ctx n).cqRead = c.cqRead ∧
        t.ent (Ent.staleDrop n) = s.ent (Ent.staleDrop n) + 1 ∧ t.cores = s.cores)

/-- A core in service that runs nothing starts the first task of its queue (R289), unless a slot of the task's context holds
it back (R296): PC and s0 to s3 come from the descriptor, every other register, predicate, flag, plane and accumulator is as
R118 says, the scratchpad and the cross-core queues keep what they hold, the commit record is that of the start (R138), and
the instruction cache is empty. A CQ_TAIL write within the ring is taken, one beyond it is refused with BAD_TAIL, and one
during a reset is held (R425, R427). -/
def Obligations.TasksStart : Prop :=
  ∀ (c : CoreId) (s : State) (d : TaskDesc) (l : List TaskDesc) (b : List Byte) (n : Fin 64) (v : Word64),
    let k := coreKey c
    let q := s.core k
    let regs : Regs := { Regs.zero with
      pc := d.pc % 2 ^ 48
      s := SMap.setAll (fun _ => 0#64) [] [(0, d.s0), (1, d.s1), (2, d.s2), (3, d.s3)] }
    let takes := s.ctxValid n = true ∧ s.hostReach (s.ctxPart n + 1) = true ∧ s.isReady = true
    let range := s.pg n 0x040 ≤ v.toNat ∧ v.toNat ≤ s.pg n 0x010 + s.pg n 0x008
    (q.run = none → q.tasks = d :: l → q.role = .inService → (s.ctx d.ctx).resetting = none → s.ctxEval d.ctx = false →
      (s.ctx d.ctx).eval = .none → d.pc % 8 = 0 → s.readVirt d.ctx (d.pc % 2 ^ 48 / 256 * 256) 256 = .ok b →
      (∀ m, (s.ctx m).cqRead = []) → (∀ p, p < 16 → s.entBit (Ent.seqCtl p) 6 = false) →
      ∃ t, exec (.taskStart c) s = .next t ∧ (∀ j, j ≠ k → t.core j = s.core j) ∧ t.mem = s.mem ∧ t.sync = s.sync ∧
        (t.core k).regs = regs ∧ (t.core k).tasks = l ∧ (t.core k).icache = [] ∧ (t.core k).sp = q.sp ∧ (t.core k).mxe = Mxe.clear ∧
        (t.core k).flags = Flags4.zero ∧ (t.core k).hq = { q.hq with loc := [] } ∧ (t.core k).post = q.post ∧
        (t.core k).crec = { CommitRec.init with pc := regs.pc, s := regs.s, dispatched := q.disp.count } ∧
        (t.core k).run = some { inst := d.inst, ctx := d.ctx, taskid := d.taskid, step := s.ent (Ent.step d.ctx),
                                key := BitVec.ofNat 64 (s.ent (Ent.gauzeKey d.ctx)) }) ∧
    ((∀ x ∈ q.tasks, s.ctxEval x.ctx = false ∧ (s.ctx x.ctx).eval ≠ .none ∧
        ∀ i ∈ (s.ctx x.ctx).tasks, i.id = x.inst → i.started = false) →
      exec (.taskStart c) s = .next s) ∧
    (takes → (s.ctx n).resetting = none → range →
      ∃ t, exec (.cqTailWrite n v) s = .next t ∧ t.pg n 0x040 = v.toNat ∧ t.ctxs = s.ctxs) ∧
    (takes → (s.ctx n).resetting = none → ¬ range →
      ∃ t, exec (.cqTailWrite n v) s = .next t ∧ t.pg n 0x040 = s.pg n 0x040 ∧ (t.pg n 0x020).testBit 1 = true) ∧
    (takes → (s.ctx n).resetting.isSome = true →
      ∃ t, exec (.cqTailWrite n v) s = .next t ∧ (t.ctx n).heldTail = some v.toNat ∧ t.pg n 0x040 = s.pg n 0x040)

/-- A pass begins with a table that reads as valid, and an invalid table clears RUN and is recorded (R291). The next entry
issues once its gate is met and its slots are free: s1 carries the microbatches, s2 the virtual stage and kind, s3 the
pass (R292). -/
def Obligations.SequencerIssues : Prop :=
  ∀ (k : Fin 16) (s : State) (inc entry : Nat) (l : List SeqEntry) (e : SeqEntry) (keys : List Nat),
    let n := s.entBits (Ent.seqCtl k) 0 6
    let q := (s.part k).seq
    let p := s.ent (Ent.seqPass k)
    let x := e.task n q.next p
    (s.passMayStart k = true → s.readSeqTable k = .ok inc l →
      ∃ t, exec (.seqPassStart k) s = .next t ∧ t.part k = { s.part k with
        seq := { table := l, inc := inc, next := 0, inPass := true, atBoundary := false, left := q.left } } ∧
        t = { s with parts := t.parts }) ∧
    (s.passMayStart k = true → s.readSeqTable k = .invalid entry →
      ∃ t, exec (.seqPassStart k) s = .next t ∧ t.entBit (Ent.seqCtl k) 6 = false ∧ (t.part k).seq.inPass = false ∧
        ∃ rec_, t.rel.log.head? = some rec_ ∧ rec_.code = 0x0406 ∧ rec_.part = k.val ∧ rec_.args = [entry]) ∧
    (q.table[q.next]? = some e → s.entBit (Ent.seqCtl k) 6 = true → q.inPass = true → s.mayIssue n = true →
      s.gateMet k q.inc p e = true → s.taskGroup x = some keys → keys.Nodup → s.slotsFree keys = true →
      ∃ t, exec (.seqEntryIssue k) s = .next t ∧ (t.part k).seq = { q with next := q.next + 1, left := q.left + 1 } ∧
        (∀ j ∈ keys, t.core j = { s.core j with tasks := (s.core j).tasks ++ [
          { inst := s.nextId, ctx := n, pc := e.pc, s0 := e.s0, s1 := BitVec.ofNat 64 e.mb,
            s2 := BitVec.ofNat 64 (e.vstage + 256 * e.kind), s3 := BitVec.ofNat 64 p, taskid := x.taskid }] }) ∧
        (∀ j, j ∉ keys → t.core j = s.core j) ∧ t.mem = s.mem)

/-- An evaluation slot (R296): the scratchpads of the bound cores are copied to their save pages word by word and zeroed,
with their window tables held aside; the evaluation context runs with the parent's STEP until nothing of it is queued, or
its budget expires; EVAL_DONE receives its post; the restore gives every bound core its words, windows and poison marks
back (R297). -/
def Obligations.EvaluationSlots : Prop :=
  ∀ (n e : Fin 64) (s : State),
    let c := s.ctx n
    let cores := s.boundCores n
    let home := fun (k : Nat) => s.page n (s.savePage n e k)
    let base := fun (p : Page) => paOf p.stack p.frame 0
    (c.eval = .saving e → s.ctxRunning n = false → s.mem.served = true → cores.Nodup →
      (∀ k ∈ cores, ∃ p, home k = some p ∧ p.ro = false ∧ p.frame < 65536) →
      (∀ j k p q, j ∈ cores → k ∈ cores → home j = some p → home k = some q → j ≠ k → (p.stack, p.frame) ≠ (q.stack, q.frame)) →
      ∃ t, exec (.evalSlotSave n) s = .next t ∧ (t.ctx n).eval = .copied e ∧
        (∀ k ∈ cores, (t.core k).sp = { Scratch.zero with
          held := some (s.core k).sp.win, heldAll := (s.core k).sp.poisonAll, heldPoison := (s.core k).sp.poison }) ∧
        ∀ k p w i, k ∈ cores → home k = some p → w < 524288 → i < 4 →
          t.memByte (base p + 4 * w + i) = ((s.core k).rd w).extractLsb' (8 * i) 8) ∧
    (c.eval = .copied e → (s.ctx e).cqRead = [] → ∃ t, exec (.evalSlotRun n) s = .next t ∧ (t.ctx n).eval = .running e false ∧
      t.ent (Ent.step e) = s.ent (Ent.step n) ∧ t.cores = s.cores ∧ t.mem = s.mem) ∧
    (c.eval = .running e false → ∃ t, exec (.evalBudgetExpiry n) s = .next t ∧
      t.ctx n = { c with eval := .running e true } ∧ t = { s with ctxs := t.ctxs }) ∧
    (∀ x key, c.eval = .running e x → s.ctxRunning e = false →
      (x = true ∨ (s.ctxQueued e = false ∧ s.ctxWaiting e = false)) →
      s.syncKey (s.ctxPart n) (s.entBits (Ent.evalDone e) 0 18) = some key →
      ∃ t, exec (.evalSlotEnd n) s = .next t ∧ (t.ctx n).eval = .restoring e ∧
        (t.word key).value = sat64 ((s.word key).value + 1) ∧ t.cores = s.cores) ∧
    (c.eval = .restoring e → s.mem.served = true → c.evalDue = [] → c.cqRead = [] → s.live = [] →
      s.mem.refills = [] → cores.Nodup →
      ∃ t, exec (.evalRestoreComplete n) s = .next t ∧ (t.ctx n).eval = .none ∧ t.mem = s.mem ∧
        ∀ k p, k ∈ cores → home k = some p → (t.core k).sp.win = (s.core k).sp.held.getD [] ∧
          (∀ w, w < 524288 → (t.core k).rd w = BitVec.ofNat 32 (leNat (s.readPhys (base p + 4 * w) 4))) ∧
          ((∀ i, i < 32768 → s.poisoned (lineNo (base p) + i) = false) → ∀ w, w < 524288 →
            (t.core k).poisonedAt w = SMap.get (fun _ => (s.core k).sp.heldAll) (s.core k).sp.heldPoison w))

/-! ### Links and collectives (11, 12) -/

/-- A port that carries traffic, behind which nothing waits, and on which n flits may leave on a virtual channel: it has
their credits, and the replay buffer their room (R308, R309). -/
def Roomy (s : State) (p vc n : Nat) : Prop :=
  (s.port p).up = true ∧ (s.port p).queue = [] ∧ (s.port p).retrain = false ∧ n ≤ (s.port p).credit vc ∧
    (s.port p).replay.length + n ≤ 2048

/-- The flits of a message left port p on a virtual channel, whole and in order, each under the next SEQ, and nothing else
left the package (R307, R317). -/
def FlitsLeave (s t : State) (p vc : Nat) (m : Msg) : Prop :=
  ∃ l : List (List Byte), t.out = s.out ++ l.map (Out.flit p) ∧ l.length = m.flits ∧
    ∀ i, i < m.flits → ∃ b, l[i]? = some b ∧ flitOk b = true ∧ (b.drop 8).take 240 = m.flitPayload i ∧
      bitsAt (fieldAt b 0 8) 0 16 = ((s.port p).txSeq + i) % 65536 ∧ bitsAt (fieldAt b 0 8) 32 3 = vc ∧
      bitsAt (fieldAt b 0 8) 36 3 = 0

/-- A flit that asks for a replay from a SEQ (Table 11.3, R308). -/
def AsksReplay (b : List Byte) (seq : Nat) : Prop :=
  flitOk b = true ∧ bitsAt (fieldAt b 0 8) 36 3 = 2 ∧ bitsAt (fieldAt b 0 8) 0 16 = seq % 65536

/-- Ports (R307 to R313): an enabled port trains; it sends its coordinate in a control flit, and comes UP when the partner
proves authentic and names the neighbour coordinate, is MISCABLED where the coordinate differs, and goes DOWN, with
PORT_ENABLE cleared and ALERT_N asked for, where the partner is not authentic, the signal is lost, or a direction falls
below 8 lanes. A dropped lane leaves the port DEGRADED and counted; it is checked in a retrain window and comes back only
when it has passed. -/
def Obligations.PortsComeUpAndGoDown : Prop :=
  ∀ (p : Fin 6) (coord : BitVec 16) (tx ok : Bool) (lane : Fin 16) (s : State),
    let x := s.port p
    let bit := BitVec.ofNat 16 (2 ^ lane.val)
    let quiet := x.queue = [] ∧ x.replay = [] ∧ ∀ m, (s.ctx m).colls = []
    let down := fun (t : State) => (t.port p).state = 6 ∧ t.ent (Ent.portEnable p) = 0 ∧ t.entBit Ent.alertStatus 1 = true
    let dropped := fun (t : State) => if tx then (t.port p).txDrop else (t.port p).rxDrop
    let left := lanesLeft ((if tx then x.txDrop else x.rxDrop) ||| bit)
    let other := lanesLeft (if tx then x.rxDrop else x.txDrop)
    let others := fun (t : State) => ∀ q, q ≠ p.val → t.port q = s.port q
    (s.linksRun = true → s.ent (Ent.portEnable p) = 1 → x.state = 1 →
      ∃ t, exec (.portTraining p) s = .next t ∧ t.port p = { x with state := 2 } ∧ others t ∧
        t.ent (Ent.portState p) = 2) ∧
    (x.state = 2 → x.queue = [] → bitsAt coord.toNat 0 11 = s.neighbour p →
      ∃ t b, exec (.portUp p coord true) s = .next t ∧ others t ∧ t.ent (Ent.portPartner p) = coord.toNat ∧
        (t.port p).state = 3 ∧ (t.port p).queue = [] ∧ (t.port p).txDrop = 0#16 ∧ (t.port p).rxDrop = 0#16 ∧
        (t.port p).txSeq = 1 ∧ (t.port p).rxSeq = 1 ∧ (t.port p).credits = [] ∧
        t.out = s.out ++ [Out.flit p b] ∧ flitOk b = true ∧ bitsAt (fieldAt b 0 8) 36 3 = 3 ∧
        fieldAt b 8 2 = s.ent Ent.pkgCoord % 65536) ∧
    (x.state = 2 → x.queue = [] → bitsAt coord.toNat 0 11 ≠ s.neighbour p →
      ∃ t, exec (.portUp p coord true) s = .next t ∧ (t.port p).state = 5 ∧ t.entBit Ent.alertStatus 1 = true) ∧
    (x.state = 2 → quiet → ∃ t, exec (.portUp p coord false) s = .next t ∧ down t) ∧
    (x.up = true → quiet → ∃ t, exec (.portDown p) s = .next t ∧ down t ∧ others t) ∧
    (x.up = true → (if tx then x.txDrop else x.rxDrop).getLsbD lane = false → 8 ≤ left → 8 ≤ other →
      s.ent (Ent.laneDrops p) < 2 ^ 32 - 1 →
      ∃ t, exec (.laneDrop p tx lane) s = .next t ∧ (t.port p).state = 4 ∧ (dropped t).getLsbD lane = true ∧
        t.ent (Ent.laneDrops p) = s.ent (Ent.laneDrops p) + 1 ∧ (t.port p).queue = x.queue ∧ others t) ∧
    (x.up = true → quiet → (if tx then x.txDrop else x.rxDrop).getLsbD lane = false → left < 8 →
      ∃ t, exec (.laneDrop p tx lane) s = .next t ∧ down t) ∧
    (∃ t, exec .retrainWindow s = .next t ∧ t.mem = s.mem ∧ t.cores = s.cores ∧
      (x.up = true → t.port p = { x with
        check := ((setBits x.txDrop.toNat 16).map fun l => (true, l)) ++ (setBits x.rxDrop.toNat 16).map fun l => (false, l) }) ∧
      (x.up = false → t.port p = x)) ∧
    (x.up = true → x.check.contains (tx, lane.val) = true →
      ∃ t, exec (.laneReadd p tx lane ok) s = .next t ∧ (t.port p).check.contains (tx, lane.val) = false ∧ others t ∧
        (ok = true → (dropped t).getLsbD lane = false) ∧
        (ok = false → (t.port p).txDrop = x.txDrop ∧ (t.port p).rxDrop = x.rxDrop) ∧
        ((t.port p).state = 3 ↔ (t.port p).txDrop = 0#16 ∧ (t.port p).rxDrop = 0#16))

/-- Flits (R307 to R309): one that fails its CRC, or whose SEQ is not the next expected, is discarded and a replay of the
SEQ expected next requested; a good control flit gives back credits and clears what it acknowledges; a good data flit joins
the message that arrives on its channel. A replay request is counted and resent from its SEQ, and the eighth in succession
retrains the port, as a flit that waits too long for a credit does (R383); a retrain that ends resends what is not
acknowledged. A flit resent is the one that was sent, with what it returns to the partner brought up to date. A request
queued too long on a training port completes with LINK_DOWN (R313). -/
def Obligations.FlitsAndReplays : Prop :=
  ∀ (p : Fin 6) (vc : Fin 6) (flit : List Byte) (seq : BitVec 16) (s : State) (m : TxMsg) (l : List TxMsg) (k : Nat) (e : Sent),
    let x := s.port p
    let h := fieldAt flit 0 8
    let asks := fun (t : State) => (∃ b, t.out = s.out ++ [Out.flit p b] ∧ AsksReplay b x.rxSeq) ∧
      (t.port p).discard = true ∧ (t.port p).rxSeq = x.rxSeq ∧ (t.port p).rx = x.rx ∧ t.mem = s.mem ∧ t.cores = s.cores
    let part := SMap.get (fun _ => []) x.rx (bitsAt h 32 3) ++ (flit.drop 8).take 240
    let run := if x.reqRun ≠ 0 ∧ x.reqSeq = seq.toNat then x.reqRun + 1 else 1
    let again := fun (f : TxFlit) => Out.flit p (sealFlit (leBytes 8 (x.flitHeader f.kind f.seq f.vc) ++ f.payload))
    let starving := x.up = true ∧ x.retrain = false ∧ (∃ m ∈ x.queue, m.vc = vc.val) ∧ x.credit vc = 0
    (x.up = true → flitOk flit = false → x.askRun < 7 → ∃ t, exec (.flitReceive p flit) s = .next t ∧ asks t) ∧
    (x.up = true → flitOk flit = true → x.queue = [] → bitsAt h 36 3 = 1 →
      ∃ t, exec (.flitReceive p flit) s = .next t ∧ t.port p = { x with
          replay := x.replay.filter fun f => seqBefore (bitsAt h 16 16) f.seq
          credits := SMap.set (fun _ => 1024) x.credits (bitsAt h 40 3)
            (Nat.min 1024 (x.credit (bitsAt h 40 3) + bitsAt h 48 16)) } ∧ t.out = s.out ∧ t.mem = s.mem) ∧
    (x.up = true → flitOk flit = true → x.queue = [] → bitsAt h 36 3 = 0 → bitsAt h 0 16 ≠ x.rxSeq → x.discard = false →
      x.askRun < 7 → ∃ t, exec (.flitReceive p flit) s = .next t ∧ asks t) ∧
    (x.up = true → flitOk flit = true → x.queue = [] → bitsAt h 36 3 = 0 → bitsAt h 0 16 = x.rxSeq → bitsAt h 32 3 < 6 →
      part.length < 32 + (decodeHeader part).2.length.toNat →
      ∃ t, exec (.flitReceive p flit) s = .next t ∧ (t.port p).rxSeq = (x.rxSeq + 1) % 65536 ∧ (t.port p).discard = false ∧
        SMap.get (fun _ => []) (t.port p).rx (bitsAt h 32 3) = part ∧ t.out = s.out ∧ t.mem = s.mem ∧ t.cores = s.cores) ∧
    (x.up = true → s.ent (Ent.linkReplays p) < 2 ^ 32 - 1 →
      ∃ t, exec (.replayRequest p seq) s = .next t ∧ t.ent (Ent.linkReplays p) = s.ent (Ent.linkReplays p) + 1 ∧
        (t.port p).reqSeq = seq.toNat ∧ (t.port p).reqRun = run ∧ (t.port p).replay = x.replay ∧
        (8 ≤ run → (t.port p).retrain = true ∧ t.out = s.out) ∧
        (run < 8 → (t.port p).retrain = x.retrain ∧ (x.owed = [] → t.out = s.out ++
          (x.replay.filter fun f => !seqBefore f.seq seq.toNat).map again))) ∧
    (x.up = true → x.retrain = true → x.queue = [] → x.owed = [] → ∃ t, exec (.portRetrainComplete p) s = .next t ∧
      t.port p = { x with retrain := false, reqRun := 0, askRun := 0 } ∧
      t.out = s.out ++ x.replay.map again) ∧
    (x.state = 2 → x.queue = m :: l → m.msg.kind = Kind.write → m.msg.h.scoord.toNat = s.ent Ent.pkgCoord →
      s.scoreCore m.msg.h = some k → s.findSent k m.msg.h.msgid.toNat = some e → s.ent (Ent.linkDrop e.ctx) < 2 ^ 32 - 1 → e.ctx < 64 →
      ∃ t, exec (.trainingQueueTimeout p) s = .next t ∧ (t.port p).queue = l ∧ e ∉ t.links.sent ∧
        t.ent (Ent.linkDrop e.ctx) = s.ent (Ent.linkDrop e.ctx) + 1) ∧
    (starving → SMap.get (fun _ => none) s.rel.starved p.val = none →
      ∃ t, exec (.creditStarved p vc) s = .next t ∧ t.port p = { x with retrain := true } ∧
        SMap.get (fun _ => none) t.rel.starved p.val = some s.now) ∧
    (∀ at_, starving → SMap.get (fun _ => none) s.rel.starved p.val = some at_ → s.now ≤ at_ + 10000000000 → x.replay = [] →
      (∀ m ∈ x.queue, m.msg.kind = Kind.token ∨ m.msg.kind = Kind.norm) → (∀ m, (s.ctx m).colls = []) →
      ∃ t, exec (.creditStarved p vc) s = .next t ∧ (t.port p).state = 6 ∧ t.ent (Ent.portEnable p) = 0)

/-- Messages between packages (R190, R319, R320, R323, R231). One that fails the checks on partition, context, source and
peer is counted in PEER_REJECT and has no other effect on memory or sync words. An accepted WRITE or VOILE goes to the
core that DADDR names; an accepted POST adds to a shared counter or barrier word. An ACK, or its timeout, completes the
message it names, and a status other than OK is counted in LINK_DROP. A message for another package leaves on its route. A
refill request is answered with the lines where the step counters agree, else with NOT_NOW; lines that arrive are written
and lose their poison, a line that the peer reads as poisoned fails, and a line refused waits for a step boundary until its
third retry has been refused. -/
def Obligations.MessagesTakeEffect : Prop :=
  ∀ (h0 : MsgHeader) (payload : List Byte) (s : State) (g key port vc : Nat) (e : Sent) (c : CoreId)
      (lines : List Nat) (step : Nat) (p : Peer) (a : LineAddr) (got : List (Option (BitVec 512))) (v : BitVec 512)
      (rf : Refill),
    let h := h0.clean
    let n := h.dctx.toNat
    let here := h.dcoord.toNat = s.ent Ent.pkgCoord
    let admitted := here ∧ s.accepts h = true ∧ s.tagOk n h.tag.toNat = true ∧ s.rel.creset = false
    let m := fun (kind : Nat) => ({ kind := kind, h := h, payload := payload } : Msg)
    let dst := bitsAt h.daddr.toNat 19 5
    let arrives := fun (t : State) (voile : Bool) => t = { s with links := t.links } ∧ t.links.ports = s.links.ports ∧
      ∃ q, t.links.packets = s.links.packets ++ [q] ∧ q.ctx = n ∧ q.tag = h.tag.toNat ∧ q.dst = some (24 * g + dst) ∧
        q.word = bitsAt h.daddr.toNat 0 19 ∧ q.own = false ∧ q.voile = voile ∧
        q.data = (List.range (payload.length / 4)).map fun i => BitVec.ofNat 32 (fieldAt payload (4 * i) 4)
    let ends := fun (t : State) (e : Sent) (bad : Bool) => e ∉ t.links.sent ∧
      t.ent (Ent.linkDrop e.ctx) = s.ent (Ent.linkDrop e.ctx) + b2n bad ∧ t.mem = s.mem
    let line := lineNo (paOf a.stack.val a.frame.val 0) + a.line.val
    (admitted → dst < 24 → s.globalCluster h.dpart.toNat (bitsAt h.daddr.toNat 24 6) = some g →
      (∃ t, exec (.writeMessage h0 payload) s = .next t ∧ arrives t false) ∧
      ∃ t, exec (.voileMessage h0 payload) s = .next t ∧ arrives t true) ∧
    (¬ here → s.hop (m Kind.write) = some (port, vc) → Roomy s port vc (m Kind.write).flits →
      ∃ t, exec (.writeMessage h0 payload) s = .next t ∧ FlitsLeave s t port vc (m Kind.write) ∧ t.cores = s.cores ∧
        (t.port port).credit vc = (s.port port).credit vc - (m Kind.write).flits ∧
        (t.port port).replay.length = (s.port port).replay.length + (m Kind.write).flits) ∧
    (here → s.accepts h = false → s.ent (Ent.peerReject n) < 2 ^ 32 - 1 → h.scoord.toNat ≠ s.ent Ent.pkgCoord →
      ∀ i ∈ [Instr.writeMessage h0 payload, .voileMessage h0 payload, .postMessage h0, .refillReqMessage h0 lines step],
        ∃ t, exec i s = .next t ∧ t.ent (Ent.peerReject n) = s.ent (Ent.peerReject n) + 1 ∧
          t.links.packets = s.links.packets ∧ t.mem = s.mem ∧ t.sync = s.sync ∧ t.cores = s.cores) ∧
    (admitted → s.restricted h.dpart.toNat = false → s.syncKey h.dpart.toNat h.daddr.toNat = some key →
      (s.word key).owner = none → (s.word key).mode < 2 →
      ∃ t, exec (.postMessage h0) s = .next t ∧ (t.word key).value = sat64 ((s.word key).value + h.aux.toNat) ∧
        (∀ j, j ≠ key → t.word j = s.word j) ∧ t.mem = s.mem) ∧
    (here → bitsAt h.score.toNat 0 5 < 24 → s.globalCluster h.dpart.toNat (bitsAt h.score.toNat 5 6) = some g →
      s.findSent (24 * g + bitsAt h.score.toNat 0 5) h.msgid.toNat = some e → s.tagOk e.ctx e.tag = true → e.ctx < 64 →
      s.ent (Ent.linkDrop e.ctx) < 2 ^ 32 - 1 →
      ∃ t, exec (.ackMessage h0) s = .next t ∧ ends t e (h.status.toNat != 0) ∧
        ((t.core e.core).disp.sends = (s.core e.core).disp.sends - b2n e.send)) ∧
    (s.findSent (coreKey c) h.msgid.toNat = some e → e.ctx < 64 → s.ent (Ent.linkDrop e.ctx) < 2 ^ 32 - 1 →
      ∃ t, exec (.ackTimeout c h.msgid) s = .next t ∧ ends t e true) ∧
    (admitted → s.sourcePeer h = some p → p.coord < 65536 → p.coord ≠ s.ent Ent.pkgCoord →
      let r := if s.ent (Ent.step n) = step ∧ (s.ctx n).upd.stage ≠ .sweep ∧ s.mem.served = true then
        s.refillLines n (lines.take 64) else (0, [])
      let answer : Msg :=
        { kind := Kind.refillResp, h := { s.ctxHeader n p Kind.refillResp r.2.length r.1 with msgid := h.msgid }, payload := r.2 }
      s.hop answer = some (port, vc) → Roomy s port vc answer.flits →
      ∃ t, exec (.refillReqMessage h0 lines step) s = .next t ∧ FlitsLeave s t port vc answer ∧ t.mem = s.mem) ∧
    (admitted → s.refillsOf h.msgid.toNat = [rf] → rf.line = line →
      (got.getD rf.idx none = some v → ∃ t, exec (.refillRespMessage h0 got false) s = .next t ∧
        (∀ i, i < 64 → t.memByte (64 * line + i) = v.extractLsb' (8 * i) 8) ∧
        (∀ b, (b < 64 * line ∨ 64 * line + 64 ≤ b) → t.memByte b = s.memByte b) ∧
        SMap.get (fun _ => false) t.mem.poison line = false ∧ (∀ r ∈ t.mem.refills, r.line ≠ line)) ∧
      (got.getD rf.idx none = none → s.mem.held = [] → ∃ t, exec (.refillRespMessage h0 got false) s = .next t ∧
        t.poisoned line = true ∧ (∀ r ∈ t.mem.refills, r.line ≠ line)) ∧
      (rf.tries < 3 → ∃ t, exec (.refillRespMessage h0 got true) s = .next t ∧
        { rf with tries := rf.tries + 1, wait := true } ∈ t.mem.refills ∧ t.mem.cells = s.mem.cells) ∧
      (3 ≤ rf.tries → s.mem.held = [] → ∃ t, exec (.refillRespMessage h0 got true) s = .next t ∧
        t.poisoned line = true ∧ (∀ r ∈ t.mem.refills, r.line ≠ line)))

/-- A ring token that comes in on IN_PORT from the position before goes on, or ends the check with OK at position 0; any
other is recorded as RING_MISMATCH and goes no further; a check that runs out of time reads BAD (R325). A package that is
not the time master exchanges TIME messages upstream, a neighbour's question is answered, and an exchange whose two ways
take the same time measures the upstream count (R326); the counter is stepped to the upstream value at the first lock and
beyond 1 µs of error, but never backward: a backward correction holds the count; otherwise its rate is steered by at most
200 parts per million (R327; by how much is free, assumption 20). -/
def Obligations.RingsAndTime : Prop :=
  ∀ (k : Fin 16) (ring : Fin 3) (inPort : BitVec 3) (position : BitVec 11) (p : Fin 6) (t1 t2 t3 delay wait : Nat) (s : State),
    let len := s.ringLen k ring
    let right := s.ringValid k ring = true ∧ inPort.toNat = s.ringIn k ring ∧
      (position.toNat + 1) % Nat.max 1 len = s.ringPos k ring
    let out := s.ringOut k ring
    let status := fun (t : State) => t.entBits (Ent.ringStatus k) (2 * ring) 2
    let v := upstreamCount t1 t2 t3 s.gtime.count
    let err := Nat.max (v - s.gtime.count) (s.gtime.count - v)
    let vc := s.linkVc k out Kind.token
    let answered := s.upstreamUp = true ∧ s.upstream = some p.val ∧ s.gtime.asked = some t1 ∧ (s.port p).up = true
    (s.partDefined k = true → right → s.ringPos k ring ≠ 0 → Roomy s out vc 1 →
      ∃ t, exec (.ringVerifyToken k ring inPort position) s = .next t ∧ status t = status s ∧
        ∃ m, FlitsLeave s t out vc m ∧ m.kind = Kind.token ∧ m.payload = [] ∧ m.h.daddr = BitVec.ofNat 32 (256 * ring) ∧
          m.h.aux = BitVec.ofNat 64 (s.ringPos k ring)) ∧
    (s.partDefined k = true → right → s.ringPos k ring = 0 → s.ringChecking k ring = true →
      ∃ t, exec (.ringVerifyToken k ring inPort position) s = .next t ∧ status t = 2 ∧ t.ringChecking k ring = false ∧
        t.out = s.out) ∧
    (s.partDefined k = true → ¬ right → ∃ t, exec (.ringVerifyToken k ring inPort position) s = .next t ∧
      status t = status s ∧ (∀ q, t.port q = s.port q) ∧
      ∃ rec_, t.rel.log.head? = some rec_ ∧ rec_.code = 0x0507 ∧ rec_.part = k.val) ∧
    (s.ringChecking k ring = true → ∃ t, exec (.ringVerifyTimeout k ring) s = .next t ∧ status t = 3 ∧
      t.ringChecking k ring = false) ∧
    (s.upstream = some p.val → Roomy s p 0 1 → ∃ t, exec .timeExchange s = .next t ∧
      t.gtime = { s.gtime with asked := some s.gtime.count } ∧
      ∃ m, FlitsLeave s t p 0 m ∧ m.kind = Kind.time ∧ m.h.aux = BitVec.ofNat 64 s.gtime.count ∧ m.payload = []) ∧
    (Roomy s p 0 1 → ∃ t, exec (.timeMessage ⟨p, .ask t1⟩) s = .next t ∧ t.gtime = s.gtime ∧
      ∃ m, FlitsLeave s t p 0 m ∧ m.kind = Kind.time ∧ m.h.aux = BitVec.ofNat 64 t1 ∧
        m.payload = leBytes 8 s.gtime.count ++ leBytes 8 s.gtime.count) ∧
    (upstreamCount t1 t2 (t2 + wait) (t1 + wait + 2 * delay) = (t2 + wait + delay) % 2 ^ 64) ∧
    (answered → s.gtime.locked = true → err ≤ 1000 →
      ∃ t r, exec (.timeMessage ⟨p, .reply t1 t2 t3⟩) s = .next t ∧ t.gtime = { s.gtime with asked := none, rate := r } ∧
        -200 ≤ r ∧ r ≤ 200 ∧ t.ent Ent.gtLocked = 1 ∧ t.rel.log = s.rel.log) ∧
    (answered → (s.gtime.locked = false ∨ 1000 < err) →
      ∃ t, exec (.timeMessage ⟨p, .reply t1 t2 t3⟩) s = .next t ∧ t.ent Ent.gtLocked = 1 ∧ t.gtime.asked = none ∧
        t.gtime.locked = true ∧
        s.gtime.count ≤ t.gtime.count ∧ (s.gtime.count ≤ v → t.gtime.count = v ∧ t.gtime.hold = none) ∧
        (v < s.gtime.count → t.gtime.count = s.gtime.count ∧ t.gtime.hold = some v) ∧
        ∃ rec_, t.rel.log.head? = some rec_ ∧ rec_.code = 0x0508) ∧
    (s.upstream = some p.val → s.upstreamUp = false → ∃ t, exec .gtHoldoverExpiry s = .next t ∧ t.ent Ent.gtLocked = 0 ∧
      t.gtime = s.gtime)

/-- Sums (R340 to R344): the exact sum of a collective does not depend on the order of its contributions. A partial sum is
40 bits on the wire, MAG in [30:0], the code in [38:31] and the sign in [39] (Table 12.4); the partials of an element whose
contributions are at most STOTAL, none with a class code above the element's, fit it: members may take them in any groups,
one partial going on to the next, and the result is that of the exact sum. -/
def CollectiveSums : Prop :=
  (∀ (xs ys : List Word32) (slots : Nat), xs.Perm ys → collSum xs slots = collSum ys slots) ∧
  (∀ q : PartSum, q.mag < 2 ^ 31 → q.code < 256 → q.bits < 2 ^ 40 ∧ wirePart q.bits = q ∧ bitsAt q.bits 0 31 = q.mag ∧
    bitsAt q.bits 31 8 = q.code ∧ q.bits.testBit 39 = q.neg) ∧
  ∀ (d : CollDesc) (code : Nat) (xs ys : List Word32), d.op = 1 → code < 256 → d.stotal ≤ 8192 →
    xs.length + ys.length ≤ d.stotal → (∀ x ∈ xs ++ ys, classCode x ≤ code) →
    let start := some (PartSum.none code).bits
    let a := d.fold .partial_ start xs
    a.1 < 2 ^ 40 ∧ (d.fold .partial_ (some a.1) ys).1 = (d.fold .partial_ start (xs ++ ys)).1 ∧
      ((xs ++ ys).map classCode).foldl Nat.max 0 ≤ code ∧
      (((xs ++ ys).map classCode).foldl Nat.max 0 = code →
        (d.finish (d.fold .partial_ start (xs ++ ys)).1).1 = (collSum (xs ++ ys) d.stotal).1)

/-- The opening lap (R331, R332, R335 to R339, R349). A descriptor that is due is read: an invalid one ends with
COLL_INVALID, a valid one opens, one that another member has aborted already ends so, and on a ring of one package it is
confirmed at once. A token for a generation not yet issued waits, up to 4 a lane; one on a wrong port, lane or position ends
the collective with COLL_RING, one whose signature differs with COLL_MISMATCH; one of another package goes on with this
package's slots and position; the last own token to come home confirms. An ABORT token ends the collective, or is kept for
one not yet issued. -/
def CollectivesOpen : Prop :=
  ∀ (n : Fin 64) (port : Fin 6) (h0 : MsgHeader) (t : OpenToken) (w : AbortToken) (s : State) (bytes : List Byte) (c : Coll)
      (m : Bool) (q : Nat),
    let k := s.ctxPart n
    let h := h0.clean
    let next := s.ent (Ent.collIssued n)
    let addr := s.ent (Ent.collQueue n) + 128 * (next % s.ent (Ent.collQsize n))
    let d := decodeColl bytes
    let due := s.collMayIssue n = true ∧ s.readVirt n addr 128 = .ok bytes ∧ (s.ctx n).tokens = [] ∧
      (∀ x ∈ (s.ctx n).colls, x.gen ≠ next) ∧ next < 2 ^ 64 - 1
    let issues := due ∧ (s.ctx n).aborted = []
    let ends := fun (u : State) (gen status : Nat) => (u.coll n gen).map (·.stage) = some (.ended status)
    let known := h.dctx.toNat = n.val ∧ s.accepts h = true ∧ s.tagOk n h.tag.toNat = true ∧ s.rel.creset = false
    let meets := known ∧ s.coll n t.gen = some c ∧ c.ended = false
    let ring := laneRing c.desc.rings t.lane.val
    let own := t.origin.toNat = s.ringPos k ring
    let same := t.signature.toNat = c.desc.signature t.gen ∧ t.root.toNat = c.desc.root ∧ t.seglen.toNat = c.desc.seglen ∧
      t.group.toNat = c.desc.group
    let vc := s.linkVc k q Kind.token
    let onward : OpenToken :=
      { t with slotSum := t.slotSum + s.ownSlots n c.desc, position := BitVec.ofNat 11 (s.ringPos k ring) }
    (issues → s.collValid k d = true → s.collPkgs k d ≠ 1 → ∃ u, exec (.collectiveIssue n) s = .next u ∧
      (u.ctx n).colls = (s.ctx n).colls ++ [Coll.issued next addr d] ∧ u.ent (Ent.collIssued n) = next + 1 ∧ u.mem = s.mem) ∧
    (issues → s.collValid k d = false → ∃ u, exec (.collectiveIssue n) s = .next u ∧ ends u next 5 ∧
      u.ent (Ent.collIssued n) = next + 1 ∧ u.mem = s.mem) ∧
    (issues → s.collValid k d = true → s.collPkgs k d = 1 → (d.op = 1 → s.ownSlots n d = d.stotal) →
      ∃ u, exec (.collectiveIssue n) s = .next u ∧ (u.coll n next).map (·.stage) = some .confirmed ∧
        u.links.order = s.links.order ++ [(n.val, next)]) ∧
    (due → (s.ctx n).aborted = [(next, m)] → s.collValid k d = true → ∃ u, exec (.collectiveIssue n) s = .next u ∧
      ends u next (if m then 1 else 2) ∧ (u.ctx n).aborted = [] ∧ u.out = s.out ∧ u.mem = s.mem) ∧
    (known → s.coll n t.gen = none → next ≤ t.gen → ((s.ctx n).tokens.filter fun p => p.2.lane == t.lane).length < 4 →
      ∃ u, exec (.openingToken port h0 t) s = .next u ∧ (u.ctx n).tokens = (s.ctx n).tokens ++ [(port, t)] ∧
        u = { s with ctxs := u.ctxs }) ∧
    (meets → s.tokenPlaced k c.desc port t = false →
      ∃ u, exec (.openingToken port h0 t) s = .next u ∧ ends u t.gen 4 ∧ u.mem = s.mem) ∧
    (meets → s.tokenPlaced k c.desc port t = true → t.signature.toNat ≠ c.desc.signature t.gen → c.gen = t.gen →
      ∃ u, exec (.openingToken port h0 t) s = .next u ∧ ends u t.gen 1 ∧ u.mem = s.mem) ∧
    (meets → s.tokenPlaced k c.desc port t = true → same → c.gen = t.gen → ¬ own → t.leg = 0 → t.position ≠ t.origin →
      s.stepPort k ring c.desc.seglen (laneUp t.lane) = some q → Roomy s q vc 1 →
      ∃ u, exec (.openingToken port h0 t) s = .next u ∧ u.coll n t.gen = some c ∧
        FlitsLeave s u q vc (s.hopMsg n q Kind.token (Token.opening + 256 * t.lane.val) t.signature.toNat (openBytes onward))) ∧
    (meets → c.stage = .opening → s.tokenPlaced k c.desc port t = true → same → c.gen = t.gen → own →
      s.tokenHome k c.desc t = true → (c.desc.op = 1 → t.slotSum = c.desc.stotal) → c.lanes.contains t.lane.val = false →
      c.lanes.length + 1 = 2 * c.desc.ringList.length →
      ∃ u, exec (.openingToken port h0 t) s = .next u ∧ (u.coll n t.gen).map (·.stage) = some .confirmed ∧
        u.links.order = s.links.order ++ [(n.val, t.gen)] ∧ u.mem = s.mem ∧ u.out = s.out) ∧
    (known → s.coll n w.gen = some c → c.ended = false → ∃ u, exec (.abortToken port h0 w) s = .next u ∧
      ends u w.gen (if w.mismatch then 1 else 2) ∧ (∀ p ∈ (u.ctx n).tokens, p.2.gen ≠ w.gen) ∧ u.mem = s.mem) ∧
    (known → s.coll n w.gen = none → next ≤ w.gen → (∀ p ∈ (s.ctx n).aborted, p.1 ≠ w.gen) →
      ∃ u, exec (.abortToken port h0 w) s = .next u ∧ (u.ctx n).aborted = (s.ctx n).aborted ++ [(w.gen, w.mismatch)] ∧
        u.mem = s.mem)

/-- The data phase (R333, R334, R343 to R348). The first confirmed collective takes 2 buffers a lane and begins; on a ring of
one package the engine combines what the members contribute and writes it at once. Elements on their way to their owner are
folded with this package's contributions and go on; results are written for the members that receive them and counted once;
a message for another chunk waits. At the end STATUS, FLAGS and GEN are written and the collective leaves the queue; a stall
ends it with COLL_TIMEOUT (R379). -/
def CollectivesMove : Prop :=
  ∀ (n : Fin 64) (port : Fin 6) (h0 : MsgHeader) (m : CollMsg) (s : State) (c : Coll) (b : Block) (l : List Coll)
      (order : List (Nat × Nat)) (xs : List (List Word32)) (st q : Nat),
    let k := s.ctxPart n
    let h := h0.clean
    let gen := c.gen
    let d := c.desc
    let need := 2 * d.laneCount
    let starts := s.coll n gen = some c ∧ c.stage = .confirmed ∧ s.links.order = (n.val, gen) :: order ∧
      need ≤ s.ent Ent.rsramFree ∧ s.mem.served = true
    let taken := State.modColl (State.setEnt { s with links := { s.links with order := order } } Ent.rsramFree
      (s.ent Ent.rsramFree - need)) n gen fun x => { x with stage := .data }
    let combined := xs.map d.combine
    let alone := s.collWrites n d 0 (combined.map (·.1)) (s.collLocal k d)
    let lane := m.lane.val
    let ring := laneRing d.rings lane
    let seat := s.seat n c lane b
    let v := d.elems m
    let piece : CollPiece := { phase := m.phase, up := laneUp lane, first := m.first, len := v.length }
    let known := h.dctx.toNat = n.val ∧ s.accepts h = true ∧ s.tagOk n h.tag.toNat = true ∧ s.rel.creset = false ∧
      ((s.ctx n).colls.find? fun c => c.gen % 2 ^ 32 == m.gen % 2 ^ 32 && !c.ended) = some c ∧ s.coll n gen = some c ∧
      d.seglen = 0 ∧ lane < d.laneCount ∧ s.stepPort k ring 0 (!laneUp lane) = some port.val
    let comes := known ∧ c.stage = .data ∧ blockAt (s.laneBlocks n c lane) m.first = some b ∧ seat.own = false ∧
      d.has m.phase = true ∧ 0 < v.length ∧ m.first + v.length ≤ b.first + b.len ∧
      (∀ p ∈ c.recv, p.phase = m.phase → p.up = laneUp lane → p.first + p.len ≤ m.first ∨ m.first + v.length ≤ p.first)
    let took := fun (fl : FFlags) => ({ c with recv := c.recv ++ [piece], flags := c.flags ||| fl } : Coll)
    let w := s.collWrites n d m.first (v.map (BitVec.ofNat 32)) ((s.collLocal k d).filter fun p => d.kind != 2 || p.2 == b.rank)
    let folded := (v.zip xs).map fun p => d.fold m.phase (some p.1) p.2
    let fl := m.flags ||| FFlags.when (folded.any (·.2)) FFlags.inexact
    let aux := m.first % 2 ^ 48 + 2 ^ 48 * lane + 2 ^ 51 * phaseNum m.phase + 2 ^ 53 * fl.toNat
    let onward := s.hopMsg n q Kind.coll (gen % 2 ^ 32) aux ((folded.map (·.1)).flatMap (leBytes (d.width m.phase)))
    let vc := s.linkVc k q Kind.coll
    let record := [BitVec.ofNat 8 st, c.flags.setWidth 8] ++ List.replicate 6 0#8 ++ leBytes 8 gen
    (starts → exec (.collDataPhaseStart n gen) s = .next (taken.collStart n gen)) ∧
    (starts → s.collPkgs k d ≠ 1 → d.op = 0 → d.kind ≠ 2 → c.recv = [] →
      (∀ i x, i < d.laneCount → x ∈ s.laneBlocks n c i → (s.seat n c i x).own = false) →
      (∃ i, i < d.laneCount ∧ s.laneBlocks n c i ≠ []) → c.inbox = [] →
      ∃ u, exec (.collDataPhaseStart n gen) s = .next u ∧ (u.coll n gen).map (·.stage) = some .data ∧
        u.links.order = order ∧ u.ent Ent.rsramFree = s.ent Ent.rsramFree - need ∧ u.mem = s.mem) ∧
    (starts → s.collPkgs k d = 1 → d.kind = 1 → d.op ≠ 0 → need ≤ 32 → s.ent Ent.rsramFree ≤ 32 →
      s.readLists n ((List.range d.count).map fun i => d.sources (s.memberDies k) 0 i) = .ok xs → alone.fail = none →
      ∃ u, exec (.collDataPhaseStart n gen) s = .next u ∧ u.mem = alone.s.mem ∧ u.ent Ent.rsramFree = s.ent Ent.rsramFree ∧
        u.coll n gen = some { c with stage := .moved, flags := c.flags ||| FFlags.all (combined.map (·.2)) }) ∧
    (comes → m.phase = .result → seat.next = true → w.fail = none → s.chunkDone n (took m.flags) lane = false →
      ∃ u, exec (.collMessage port h0 m) s = .next u ∧ u.mem = w.s.mem ∧ u.cores = s.cores ∧ u.out = s.out ∧
        u.coll n gen = some (took m.flags)) ∧
    (comes → phaseInward m.phase = true → v.length * d.width m.phase ≤ 4096 - 4096 % d.width m.phase →
      seat.inward ≠ 0 → s.readLists n ((List.range v.length).map fun i => d.sources (s.memberDies k) 0 (m.first + i)) = .ok xs →
      s.chunkDone n (took 0#4) lane = false → s.stepPort k ring 0 (laneUp lane) = some q → Roomy s q vc onward.flits →
      ∃ u, exec (.collMessage port h0 m) s = .next u ∧ FlitsLeave s u q vc onward ∧ u.mem = s.mem ∧
        u.coll n gen = some (took 0#4)) ∧
    (known → (c.stage ≠ .data ∨ blockAt (s.laneBlocks n c lane) m.first = none) →
      ∃ u, exec (.collMessage port h0 m) s = .next u ∧ u.coll n gen = some { c with inbox := c.inbox ++ [(laneUp lane, m)] } ∧
        u = { s with ctxs := u.ctxs }) ∧
    ((s.ctx n).colls = c :: l → (c.stage = .ended st ∨ (c.stage = .moved ∧ st = 0)) → s.mem.served = true →
      s.ent (Ent.collFails n) < 2 ^ 32 - 1 → (s.writeVirt n (c.addr + 112) record).fail = none → d.done.testBit 31 = false →
      ∃ u, exec (.collComplete n) s = .next u ∧ (u.ctx n).colls = l ∧
        u.mem = (s.writeVirt n (c.addr + 112) record).s.mem ∧
        u.ent (Ent.collFlags n) = Nat.lor (s.ent (Ent.collFlags n)) c.flags.toNat ∧
        u.ent (Ent.collFails n) = s.ent (Ent.collFails n) + (if st = 0 then 0 else 1)) ∧
    (s.coll n gen = some c → c.ended = false → s.scopeResetting n = false → s.escLevel 4 k = 0 →
      ∃ u, exec (.collStall n gen) s = .next u ∧ (u.coll n gen).map (·.stage) = some (.ended 3) ∧ u.mem = s.mem ∧
        u.cores = s.cores)

/-- Collectives (12): the exact sums and their wire format (R340 to R344), the opening lap (R332, R335 to R339), and the data
phase with its completion (R333, R334, R343 to R348). -/
def Obligations.CollectivesRun : Prop := CollectiveSums ∧ CollectivesOpen ∧ CollectivesMove

/-! ### Resets and the host (14, 16) -/

/-- Resets end: a context's with IDLE, RESET_COUNT raised, the record and the cause in its page, and a CQ_TAIL write that
was held (R387 step 8, R427); a partition's with its contexts, restricted signalling and the function-level reset that
asked for it (R389, R435); that of the compute dies with every partition and the stacks served again (R390, R391). A tag
advance that was delayed is made when the value may be used again (R393). -/
def Obligations.ResetsComplete : Prop :=
  ∀ (n : Fin 64) (k : Fin 16) (s : State) (cause : Nat),
    let newest := fun (t : State) (code : Nat) => ∃ rec_, t.rel.log.head? = some rec_ ∧ rec_.code = code
    let own := (s.ctx n).resetting = some cause ∧ (s.ctx n).tagDelay = false ∧ (s.part (s.ctxPart n)).resetting = false ∧
      s.rel.creset = false ∧ s.live = [] ∧ s.mem.refills = [] ∧ s.ent (Ent.resetCount n) < 2 ^ 32 - 1
    let done := fun (t : State) => (t.ctx n).resetting = none ∧ t.ent (Ent.resetCount n) = s.ent (Ent.resetCount n) + 1 ∧
      newest t 0x0708 ∧ t.pg n 0x028 = cause ∧ t.cores = s.cores ∧ t.mem = s.mem
    (own → (s.ctx n).heldTail = none → ∃ t, exec (.contextResetComplete n) s = .next t ∧ done t ∧ t.pg n 0x040 = s.pg n 0x040) ∧
    (∀ v, own → (s.ctx n).heldTail = some v → s.pg n 0x040 ≤ v → v ≤ s.pg n 0x010 + s.pg n 0x008 →
      ∃ t, exec (.contextResetComplete n) s = .next t ∧ done t ∧ t.pg n 0x040 = v ∧ (t.ctx n).heldTail = none) ∧
    ((s.part k).resetting = true → s.rel.creset = false → s.tagsDelayed k = false → s.live = [] → s.mem.refills = [] →
      ∃ t, exec (.partitionResetComplete k) s = .next t ∧ (t.part k).resetting = false ∧ newest t 0x070A ∧
        t.host.flr.contains (k.val + 1) = false ∧ (∀ m, s.ctxOf k m = true → (t.ctx m).resetting = none)) ∧
    (s.rel.creset = true → s.plat.pwrCycle = false → (List.range 16).any s.tagsDelayed = false → s.live = [] →
      s.mem.refills = [] →
      ∃ t, exec .computeResetComplete s = .next t ∧ t.rel.creset = false ∧ newest t 0x070B ∧ t.host.flr = [] ∧
        (s.plat.stage = StartStage.ready → t.mem.served = true) ∧
        ∀ j, s.partDefined j = true → (t.part j).resetting = false) ∧
    ((s.ctx n).tagDelay = true → s.live = [] → s.mem.refills = [] → ∃ t, exec (.tagAdvanceDelayExpiry n) s = .next t ∧
      t.tag n = (s.tag n + 1) % 256 ∧ (t.ctx n).tagDelay = false ∧ t.cores = s.cores ∧ t.mem = s.mem)

/-- A reset input asserted for 1 µs or more leaves the management domain alone: nothing runs, memory lists nothing,
retained and flash entries keep their values and volatile ones return to their defaults (R396, Table 17.3); a shorter
pulse does nothing. RESET_HELD shows in RESET_STATUS and clears when the last input is released (R397). A function-level
reset returns the function's registers to their defaults and resets its partition, or the compute dies (R435); with Bus
Master Enable cleared nothing is sent, and when it is set the held completions go out (R433, R434). The loss of the PCIe
link is a function-level reset of the physical function (R486). -/
def Obligations.InputsAndFunctionResets : Prop :=
  ∀ (pin : ResetPin) (ns : Nat) (f : Fin 17) (s : State),
    let mask := BitVec.ofNat 2 (2 ^ pinBit pin)
    let reaches := s.hostReach f = true ∧ s.host.cfgUp = true
    (ns < 1000 → exec (.resetInputAssert pin ns) s = .next s) ∧
    (1000 ≤ ns → s.plat.stage ≠ StartStage.off → ∃ t, exec (.resetInputAssert pin ns) s = .next t ∧
      t.plat.rst = s.plat.rst ||| mask ∧ t.plat.devReady = false ∧ t.cores = [] ∧ t.mem.cells = [] ∧ t.links = Links.init ∧
      (t.plat.stage = StartStage.booted ∨ t.plat.stage = StartStage.recovery) ∧
      (∀ key r, Catalog.row key = some r → r.pers ≠ .volatile → key / 256 ≠ 0x4013 → t.ent key = s.ent key) ∧
      ∀ key r, Catalog.row key = some r → r.pers = .volatile → t.ent key = Catalog.dflt key) ∧
    (∃ t, exec (.resetInputRelease pin) s = .next t ∧ t.plat.rst = s.plat.rst &&& ~~~ mask ∧
      (t.plat.rst = 0#2 → t.entBit Ent.resetStatus 0 = false) ∧ t.mem = s.mem ∧ t.cores = s.cores) ∧
    (s.plat.rst ≠ 0#2 → s.plat.stage ≠ StartStage.off → ∃ t, exec .resetHeld s = .next t ∧
      t.entBit Ent.resetStatus 0 = true ∧ t.entBit Ent.alertStatus 2 = true ∧ t.plat.rst = s.plat.rst) ∧
    (reaches → ∃ t, exec (.functionLevelReset f) s = .next t ∧
      (∀ off, off < 4096 → t.fn f off = fnDefault (4096 * f + off)) ∧ t.bme f = false ∧
      (f = 0 → s.powered = true → t.rel.creset = true ∧ t.host.flr = [0]) ∧
      (f ≠ 0 → s.partDefined (f - 1) = true → s.rel.creset = false →
        (t.part (f - 1)).resetting = true ∧ t.host.flr.contains f.val = true)) ∧
    (reaches → ∃ t, exec (.busMasterEnableClear f) s = .next t ∧ t.bme f = false ∧ t = { s with host := t.host } ∧
      ∀ g, g ≠ f.val → t.bme g = s.bme g) ∧
    (reaches → s.bme f = false → ∃ t, exec (.busMasterEnableSet f) s = .next t ∧ t.bme f = true ∧ (t.memq f).held = [] ∧
      t.fn f 0x068 = s.fn f 0x068 + (s.memq f).held.length ∧ t.mem = s.mem) ∧
    (s.host.pcieUp = true → ∃ t, exec .pcieLinkDown s = .next t ∧ t.host.pcieUp = false ∧
      (∀ g, g < 17 → t.bme g = false) ∧ (s.powered = true → t.rel.creset = true)) ∧
    (s.powered = true → s.plat.rst = 0#2 → exec .pcieLinkUp s = .next { s with host := { s.host with pcieUp := true } }) ∧
    (s.powered = true → exec .hostInterfaceConfigLoaded s = .next { s with host := { s.host with cfgUp := true } })

/-- An aperture read returns the bytes behind it, with EP set and every byte FF where a line is poisoned (Table 8.5); one
that may not be performed returns FF and counts (R430). An aperture write stores its bytes and no others (R429); with EP
set it stores nothing. MQ_TAIL and an idle queue's MQ_BASE take what is written (R428). EVENT_EN takes its five bits, a
reserved offset and a register access of another size count in HOST_DROP (R422, R423), and GO of the mailbox starts the
access that its word names (Table 16.5). -/
def Obligations.HostAccesses : Prop :=
  ∀ (f : Fin 17) (off len size : Nat) (data : List Byte) (v : Word64) (s : State) (l : List (Nat × Nat)) (pa : Nat),
    let up := s.hostReach f = true ∧ s.isReady = true
    let reads := up ∧ 0 < len ∧ len ≤ 4096 ∧ off + len ≤ 2 ^ 36
    let writes := up ∧ 0 < data.length ∧ data.length ≤ 512 ∧ off + data.length ≤ 2 ^ 36
    let drops := fun (t : State) => t.fn f 0x028 = s.fn f 0x028 + 1 ∧ t = { s with host := t.host }
    let m := s.mailbox f
    let key := 256 * bitsAt v.toNat 16 16 + bitsAt v.toNat 8 8
    (reads → s.aptParts f off len false = some l → (∀ p ∈ l, s.poisoned (lineNo p.1) = false) →
      exec (.apertureRead f off len) s = .next (s.emit (.complete f (l.flatMap fun p => s.readPhys p.1 p.2) false))) ∧
    (reads → s.aptParts f off len false = some l → (∃ p ∈ l, s.poisoned (lineNo p.1) = true) →
      ∃ t, exec (.apertureRead f off len) s = .next t ∧ t.mem = s.mem ∧
        t.out.getLast? = some (.complete f (List.replicate len 0xFF#8) true)) ∧
    (reads → s.aptParts f off len false = none → s.fn f 0x040 < 2 ^ 32 - 1 →
      ∃ t, exec (.apertureRead f off len) s = .next t ∧ t.mem = s.mem ∧ t.fn f 0x040 = s.fn f 0x040 + 1 ∧
        t.out.getLast? = some (.complete f (List.replicate len 0xFF#8) false)) ∧
    (writes → s.aptParts f off data.length true = some [(pa, data.length)] → s.poisoned (lineNo pa) = false →
      ∃ t, exec (.apertureWrite f off data false) s = .next t ∧
        (∀ i, i < data.length → t.memByte (pa + i) = data.getD i 0#8) ∧
        ∀ a, (a < pa ∨ pa + data.length ≤ a) → t.memByte a = s.memByte a) ∧
    (writes → exec (.apertureWrite f off data true) s = .next (s.emit (.aer f))) ∧
    (up → ∃ t, exec (.mqTailWrite f v) s = .next t ∧ t.fn f 0x080 = v.toNat ∧ t = { s with host := t.host }) ∧
    (up → v.toNat % 4096 = 0 → s.mqIdle f = true → ∃ t, exec (.mqBaseWrite f v) s = .next t ∧ t.fn f 0x048 = v.toNat ∧
      (t.memq f).error = false ∧ t = { s with host := t.host }) ∧
    (up → v.toNat % 4096 ≠ 0 → s.fn f 0x028 < 2 ^ 32 - 1 → ∃ t, exec (.mqBaseWrite f v) s = .next t ∧ drops t) ∧
    (s.hostReach f = true → ∃ t, exec (.registerWrite f 0x020 8 v) s = .next t ∧ t.fn f 0x020 = v.toNat % 32 ∧
      t = { s with host := t.host }) ∧
    (s.hostReach f = true → size ≠ 8 → s.fn f 0x028 < 2 ^ 32 - 1 →
      ∃ t, exec (.registerWrite f 0x020 size v) s = .next t ∧ drops t ∧ t.fn f 0x020 = s.fn f 0x020) ∧
    (s.hostReach f = true → s.fn f 0x028 < 2 ^ 32 - 1 → ∃ t, exec (.registerWrite f 0x0F0 8 v) s = .next t ∧ drops t) ∧
    (s.hostReach f = true → v.getLsbD 63 = true → bitsAt v.toNat 0 8 = 2 →
      exec (.registerWrite f 0x1000 8 v) s = .next (s.dictRequest (.mbx f) key
        ((List.range (bitsAt v.toNat 32 11)).map fun i => SMap.get (fun _ => 0#8) m.data i)))

/-- The sync window (R199 to R203, R182): outside restricted signalling a SET replaces the value of a word that no running
task reaches and leaves it without lock or mark; a POST adds, and is dropped and counted at a lock word; a valid CONFIG
leaves the word 0, an invalid one is dropped and counted. An arm slot that is armed fires at once where its word meets the
target (R202). In restricted signalling each is dropped and counted. -/
def Obligations.SyncWindow : Prop :=
  ∀ (f : Fin 17) (cluster : Fin 64) (index : Fin 4096) (slot : Fin 64) (field : Fin 4) (v : Word64) (s : State) (g key : Nat),
    let k := f.val - 1
    let at_ := s.hostReach f = true ∧ f ≠ 0 ∧ s.partDefined k = true
    let open_ := at_ ∧ s.restricted k = false
    let w := wordKey g index
    let reaches := open_ ∧ s.globalCluster k cluster = some g
    let others := fun (t : State) => ∀ j, j ≠ w → t.word j = s.word j
    let room := s.ent (Ent.syncHostDrop k) < 2 ^ 32 - 1
    let drops := fun (t : State) => t.ent (Ent.syncHostDrop k) = s.ent (Ent.syncHostDrop k) + 1 ∧ t.sync = s.sync ∧ t.mem = s.mem
    let badConfig := bitsAt v.toNat 0 2 = 3 ∨ (bitsAt v.toNat 0 2 = 1 ∧ bitsAt v.toNat 16 16 = 0) ∨
      (v.getLsbD 2 = true ∧ s.ctxOf k (bitsAt v.toNat 3 6) = false)
    let a := s.arm (64 * k + slot)
    (reaches → s.wordInUse k w = false → ∃ t, exec (.syncSet f cluster index v) s = .next t ∧ others t ∧
      t.word w = { value := v.toNat, config := (s.word w).config, holder := none, abandoned := false }) ∧
    (reaches → (s.word w).mode ≠ 2 → ∃ t, exec (.syncHostPost f cluster index v) s = .next t ∧ others t ∧
      t.word w = { s.word w with value := sat64 ((s.word w).value + v.toNat) }) ∧
    (reaches → (s.word w).mode = 2 → room → ∃ t, exec (.syncHostPost f cluster index v) s = .next t ∧ drops t) ∧
    (reaches → ¬ badConfig → s.wordInUse k w = false → ∃ t, exec (.syncConfigWrite f cluster index v) s = .next t ∧ others t ∧
      t.word w = { value := 0, config := v.toNat, holder := none, abandoned := false }) ∧
    (reaches → badConfig → room → ∃ t, exec (.syncConfigWrite f cluster index v) s = .next t ∧ drops t ∧
      ∃ rec_, t.rel.log.head? = some rec_ ∧ rec_.code = 0x0201 ∧ rec_.part = k) ∧
    (open_ → field = 0 → v.getLsbD 31 = true → s.syncKey k (bitsAt v.toNat 0 18) = some key →
      ∃ t, exec (.armSlotWrite f slot field v) s = .next t ∧ (t.arm (64 * k + slot)).target = a.target ∧
        (a.target ≤ (s.word key).value → (t.arm (64 * k + slot)).fired = true ∧ (t.arm (64 * k + slot)).enable = false) ∧
        ((s.word key).value < a.target → (t.arm (64 * k + slot)).fired = a.fired ∧ (t.arm (64 * k + slot)).enable = true)) ∧
    (open_ → field ≠ 0 → a.enable = false → ∃ t, exec (.armSlotWrite f slot field v) s = .next t ∧
      t.arm (64 * k + slot) = a.write field v.toNat false ∧ t.sync.words = s.sync.words) ∧
    (at_ → s.restricted k = true → room →
      ∀ i ∈ [Instr.syncSet f cluster index v, .syncHostPost f cluster index v, .syncConfigWrite f cluster index v,
          .armSlotWrite f slot field v], ∃ t, exec i s = .next t ∧ drops t)

/-! ### The Fapin dictionary (17) and the requests that have rows of their own -/

/-- Every write request on an open port is the write of one entry (R440): one that a check of Table 17.4 refuses changes
nothing and is answered with that code; one that is accepted has its effect and is answered OK (R442). A read returns the
value of the entry in its size and changes nothing; LOG_RECORD moves the reader's cursor past the record it returns, a
write of LOG_TAIL sets it, a read of LOG_TAIL returns it, and no port moves another's cursor (R377). An accepted write of
a plain entry gives it the value and no other entry another; ALERT_STATUS loses the bits that are written 1, and ALERT_N
follows (R450). -/
def Obligations.DictionaryAccess : Prop :=
  ∀ (i : Instr) (port : DictPort) (key : Nat) (data : List Byte) (index : BitVec 16) (sub : Byte) (s : State) (r : ERow),
    let at_ := 256 * index.toNat + sub.toNat
    let v := leNat data
    let special := [0x1002, 0x1010, 0x4000, 0x4002, 0x4014, 0x4030, 0x4031, 0x4032, 0x5000, 0x5002, 0x5010, 0x5011, 0x5021,
      0x5070, 0x5071, 0x5094, 0x5095, 0x6030, 0x6031, 0x6032, 0x7003, 0x7012, 0x7014, 0x7024, 0x7030, 0x8000, 0x8034, 0x9027,
      0xA000, 0xA010]
    let reads := s.dictOpen port (some (at_ / 256)) = true ∧ Catalog.row at_ = some r ∧ s.isReady = true ∧
      s.inScope port r at_ false 0 = true ∧ r.acc ≠ .wo
    let op := 1 + at_ % 256 * 256 + at_ / 256 * 65536
    let cursorOf := fun (t : State) (p : DictPort) => SMap.get (fun _ => 0) t.rel.cursors (portReader p)
    (request i = some (port, key, data) → s.dictOpen port none = true → s.dictCheck port key data ≠ 0 →
      exec i s = .next (s.dictAnswer port (writeWord key data) data (s.dictCheck port key data) [])) ∧
    (request i = some (port, key, data) → Accepted s port key data → Catalog.row key = some r →
      exec i s = .next ((s.dictApply port r key v).answerOk port key data)) ∧
    (reads → at_ ≠ Ent.logRecord → exec (.dictRead port index sub) s =
      .next (s.dictAnswer port op [] 0 (leBytes r.size (s.dictValue port at_)))) ∧
    (reads → at_ = Ent.logRecord → exec (.dictRead port index sub) s =
      .next ((s.readLog port).2.dictAnswer port op [] 0 (s.readLog port).1)) ∧
    (∀ n rec_ l, s.logFrom (portPart port) (s.cursor (portReader port)) = (n, rec_) :: l →
      (s.readLog port).1 = rec_.bytes ∧
      SMap.get (fun _ => 0) (s.readLog port).2.rel.cursors (portReader port) = n + 1) ∧
    (∀ other, portReader other ≠ portReader port → cursorOf (s.readLog port).2 other = cursorOf s other) ∧
    (at_ = Ent.logTail → data.length ≤ 1024 → Accepted s port at_ data →
      ∃ t, exec (.dictWrite port index sub data) s = .next t ∧ cursorOf t port = v ∧
        ∀ other, portReader other ≠ portReader port → cursorOf t other = cursorOf s other) ∧
    (s.dictValue port Ent.logTail = s.cursor (portReader port) ∧ ∀ p p', portReader p = portReader p' → p = p') ∧
    (at_ = key → data.length ≤ 1024 → Accepted s port key data → Catalog.row key = some r → r.acc = .rw →
      (key / 256) ∉ special →
      ∃ t, exec (.dictWrite port index sub data) s = .next t ∧ t.ent key = v ∧ (∀ k, k ≠ key → t.ent k = s.ent k) ∧
        t.cores = s.cores ∧ t.mem = s.mem ∧ t.sync = s.sync ∧ t.ctxs = s.ctxs) ∧
    (at_ = Ent.alertStatus → data.length ≤ 1024 → Accepted s port at_ data → s.entBit Ent.resetStatus 0 = false →
      ∃ t, exec (.dictWrite port index sub data) s = .next t ∧
        (∀ b, t.entBit Ent.alertStatus b = (s.entBit Ent.alertStatus b && !v.testBit b)) ∧
        (t.plat.alertN = true ↔ t.ent Ent.alertStatus &&& t.ent Ent.alertEnable ≠ 0))

/-- Accepted requests of memory, updates, export and the collectives: a reservation comes into force at the step boundary
(R240, R300); a released vote posts the DONE that it withheld (R368); EXPORT_HEAD takes its value (R276); KEYREQ and
SHARDREQ set their bits, and a shard export begins at once while no step is open (R277, R280); a MARK restarts its
watermark and judges the level, that of 0x6030 as it stands (R449); a doorbell takes its word and base while no
collective is in flight (R332, R353).
-/
def Obligations.DataRequests : Prop :=
  ∀ (port : DictPort) (n : Fin 64) (v : Word64) (d m : BitVec 32) (index : BitVec 16) (s : State) (key : Nat),
    let ok := fun (i : Instr) => ∃ r, request i = some r ∧ Accepted s r.1 r.2.1 r.2.2
    let wm := 256 * index.toNat
    let level := if index = 0x6030#16 then s.correctedRate else s.ent (wm + 1)
    let beyond := if wmFalls index.toNat then level < m.toNat else m.toNat < level
    (ok (.resvWrite port n v) → s.ctxValid n = true → s.live = [] → s.mem.refills = [] →
      ∃ t, exec (.resvWrite port n v) s = .next t ∧ t.mem = s.mem ∧
        (s.atBoundary n = true → t.ent (Ent.resv n) = v.toNat ∧ t.live = []) ∧
        (s.atBoundary n = false → t.ent (Ent.resv n) = s.ent (Ent.resv n) ∧ t.live = [(Ent.resv n, some v.toNat)])) ∧
    (ok (.voteRelease port n) → (s.ctx n).vote.withheld = true → (s.ctx n).upd.queued = 0 → s.evalsOf n = [] →
      s.syncKey (s.ctxPart n) (s.entBits (Ent.updDone n) 0 18) = some key →
      ∃ t, exec (.voteRelease port n) s = .next t ∧ (t.ctx n).vote.withheld = false ∧
        (t.word key).value = sat64 ((s.word key).value + 1)) ∧
    (ok (.exportHeadWrite port n v) → ∃ t, exec (.exportHeadWrite port n v) s = .next t ∧
      t.ent (Ent.exportHead n) = v.toNat ∧ (∀ k, k ≠ Ent.exportHead n → t.ent k = s.ent k) ∧ t.mem = s.mem) ∧
    (ok (.keyreq port n) → ∃ t, exec (.keyreq port n) s = .next t ∧ t.entBit (Ent.exportCtl n) 0 = true ∧
      t.entBit (Ent.exportCtl n) 1 = s.entBit (Ent.exportCtl n) 1 ∧ t.ctxs = s.ctxs) ∧
    (ok (.shardreq port n) → s.entBit (Ent.exportCtl n) 1 = false → ∃ t, exec (.shardreq port n) s = .next t ∧
      t.entBit (Ent.exportCtl n) 1 = true ∧ (t.ctx n).exp = if s.stepOpen n then { (s.ctx n).exp with held := true }
        else { (s.ctx n).exp with shard := true }) ∧
    (ok (.watermarkMarkWrite port index m) → ∃ t, exec (.watermarkMarkWrite port index m) s = .next t ∧
      t.ent (wm + 1) = level ∧ t.ent (wm + 2) = m.toNat ∧
      SMap.get (fun _ => false) t.rel.beyond index.toNat = decide beyond ∧
      (beyond → t.ent (wm + 3) = 1) ∧ (¬ beyond → t.ent (wm + 3) = s.ent (wm + 3) ∧ t.rel.log = s.rel.log)) ∧
    (ok (.collDoorbellWrite port n d) → (s.ctx n).colls = [] →
      s.syncKey (s.ctxPart n) (bitsAt d.toNat 0 18) = some key →
      ∃ t, exec (.collDoorbellWrite port n d) s = .next t ∧ t.ent (Ent.collDoorbell n) = d.toNat ∧
        t.ent (Ent.collDbBase n) = (s.word key).value ∧ t.mem = s.mem)

/-- Accepted requests of partitions, contexts and sequencers: a partition newly defined takes its clusters, whose sync
words read 0 with CONFIG 0 (R283, R181); a context is created with its page at its defaults and a new tag, or one that
waits (R284, R287, R393); a destroyed context is FREE and holds no page (R285); clusters that are bound anew have zeroed
scratchpads and closed windows (R286, R287); RUN starts a sequencer at pass 0, also one that runs, and its clearing stops
it (R290). -/
def Obligations.ContextRequests : Prop :=
  ∀ (port : DictPort) (k : Fin 16) (n : Fin 64) (mask : Word64) (value : BitVec 32) (s : State),
    let ok := fun (i : Instr) => ∃ r, request i = some r ∧ Accepted s r.1 r.2.1 r.2.2
    let q := (s.part k).seq
    let stopped := { Seq.stopped with left := q.left }
    let added := ((setBits mask.toNat 64).filter fun r => !(s.ent (Ent.ctxClusters n)).testBit r).filterMap
      (s.globalCluster (s.ctxPart n))
    (ok (.partClustersWrite port k mask) → ∃ t, exec (.partClustersWrite port k mask) s = .next t ∧
      t.ent (Ent.partClusters k) = mask.toNat ∧ t.mem = s.mem ∧ t.cores = s.cores ∧
      (s.ent (Ent.partClusters k) = 0 → ∀ c i, c ∈ setBits mask.toNat 64 → i < 4096 →
        t.word (wordKey c i) = SyncWord.zero)) ∧
    (ok (.ctxCreate port n value) → value.getLsbD 0 = true → ∃ t, exec (.ctxCreate port n value) s = .next t ∧
      t.ent (Ent.ctxDef n) = value.toNat ∧ t.ctxValid n = true ∧ (∀ off, off < 4096 → t.pg n off = pageDefault (4096 * n + off)) ∧
      (t.tag n = (s.tag n + 1) % 256 ∨ (t.ctx n).tagDelay = true) ∧ (t.ctx n).tasks = [] ∧ (t.ctx n).colls = [] ∧
      (t.ctx n).upd = Upd.init ∧ t.mem = s.mem) ∧
    (ok (.ctxDestroy port n value) → value.getLsbD 0 = false → ∃ t, exec (.ctxDestroy port n value) s = .next t ∧
      t.ctxValid n = false ∧ (∀ v, v < 134217728 → t.page n v = none) ∧
      ∀ off, off < 4096 → t.pg n off = pageDefault (4096 * n + off)) ∧
    (ok (.ctxClustersWrite port n mask) → ∃ t, exec (.ctxClustersWrite port n mask) s = .next t ∧
      t.ent (Ent.ctxClusters n) = mask.toNat ∧ t.mem = s.mem ∧
      (∀ c j, c ∈ added → j < 24 → t.core (24 * c + j) = { s.core (24 * c + j) with sp := Scratch.zero }) ∧
      ∀ j, j / 24 ∉ added → t.core j = s.core j) ∧
    (ok (.seqRun port k mask) → mask.getLsbD 6 = true →
      ∃ t, exec (.seqRun port k mask) s = .next t ∧ t.ent (Ent.seqCtl k) = mask.toNat ∧ t.ent (Ent.seqPass k) = 0 ∧
        t.part k = { s.part k with seq := stopped } ∧ t.cores = s.cores) ∧
    (ok (.seqStop port k mask) → mask.getLsbD 6 = false → ∃ t, exec (.seqStop port k mask) s = .next t ∧
      t.entBit (Ent.seqCtl k) 6 = false ∧ t.part k = { s.part k with seq := stopped } ∧ t.cores = s.cores)

/-- Accepted requests of links, power and tests: PORT_ENABLE lets a port train or disables it (R312); PEER_UPDATE sets the
cached tag of one entry, which messages sent from then on carry, and leaves the table in memory as it is (R316); RING_CFG
takes its value, and the check of a ring of one package succeeds at once (R325); a cap, a slope and GOV_RELEARN take
effect, the first and last by a relearn (R404, R409, R411); a self-test or a return begins, or is queued (R452, R453). -/
def Obligations.LinkPowerAndTestRequests : Prop :=
  ∀ (port : DictPort) (p : Fin 6) (v : BitVec 32) (ring : Fin 3) (k : Fin 16) (w : Word64) (x : BitVec 16)
      (cluster : Fin 64) (slot : Fin 32) (stack g u : Fin 16) (s : State) (peer : Peer),
    let ok := fun (i : Instr) => ∃ r, request i = some r ∧ Accepted s r.1 r.2.1 r.2.2
    let entry := bitsAt v.toNat 6 12
    let peersOf := fun (t : State) (n j : Nat) => SMap.get (fun _ => none) (t.ctx n).peers j
    let one := BitVec.ofNat 8 (2 ^ ring.val)
    let quiet := (s.port p).queue = [] ∧ (s.port p).replay = [] ∧ ∀ m, (s.ctx m).colls = []
    let begun := fun (t : State) (kind unit : Nat) => t.rel.rets = s.rel.rets ++ [(kind, unit)] ∧
      t.ent Ent.returnStatus = 1 + 256 * unit + 16777216 * kind ∧ t.mem = s.mem
    (ok (.portEnableWrite port p 1#8) → s.linksRun = true → (s.port p).state = 6 →
      ∃ t, exec (.portEnableWrite port p 1#8) s = .next t ∧ t.ent (Ent.portEnable p) = 1 ∧ (t.port p).state = 1) ∧
    (ok (.portEnableWrite port p 0#8) → quiet →
      ∃ t, exec (.portEnableWrite port p 0#8) s = .next t ∧ t.ent (Ent.portEnable p) = 0 ∧ (t.port p).state = 0) ∧
    (ok (.peerUpdate port v) → peersOf s (v.toNat % 64) entry = some peer →
      ∃ t, exec (.peerUpdate port v) s = .next t ∧
        peersOf t (v.toNat % 64) entry = some { peer with tag := bitsAt v.toNat 18 8 } ∧
        (∀ n j, (n, j) ≠ (v.toNat % 64, entry) → peersOf t n j = peersOf s n j) ∧ t.mem = s.mem ∧
        t.peerOf (v.toNat % 64) entry =
          (s.peerOf (v.toNat % 64) entry).map fun p => { p with tag := bitsAt v.toNat 18 8 }) ∧
    (ok (.ringCfgWrite port ring k w) → ∃ t, exec (.ringCfgWrite port ring k w) s = .next t ∧
      t.ent (Ent.ringCfg ring k) = w.toNat ∧ t.links = s.links) ∧
    (ok (.ringVerify port k one) → s.ringValid k ring = true → s.ringPos k ring = 0 → s.ringLen k ring = 1 →
      ∃ t, exec (.ringVerify port k one) s = .next t ∧ t.entBits (Ent.ringStatus k) (2 * ring) 2 = 2) ∧
    (ok (.powerCapWrite port x) → ∃ t, exec (.powerCapWrite port x) s = .next t ∧ t.ent Ent.powerCap = x.toNat ∧
      ∀ j, s.partDefined j = true → (t.part j).gov.relearn = true) ∧
    (ok (.slopeWrite port x) → ∃ t, exec (.slopeWrite port x) s = .next t ∧ t.ent Ent.slope = x.toNat ∧ t.parts = s.parts) ∧
    (ok (.govRelearn port k) → s.partDefined k = true → ∃ t, exec (.govRelearn port k) s = .next t ∧
      (t.part k).gov = { (s.part k).gov with relearn := true }) ∧
    (ok (.selftestLogic port) → ∃ t, exec (.selftestLogic port) s = .next t ∧ t.rel.selftest = some 1 ∧
      t.ent Ent.selftestStatus = 2 + 256 * 1) ∧
    (ok (.selftestMemory port) → ∃ t, exec (.selftestMemory port) s = .next t ∧ t.rel.selftest = some 2 ∧
      t.ent Ent.selftestStatus = 2 + 256 * 2) ∧
    (ok (.selftestSlot port) → ∃ t, exec (.selftestSlot port) s = .next t ∧ t.rel.selftest = s.rel.selftest ∧
      t.rel.queued = s.rel.queued ++ [{ cluster := s.entBits Ent.selftestSlot 5 6, slot := s.entBits Ent.selftestSlot 0 5,
                                        kind := .selftest, cond := 0, deferred := false }]) ∧
    (ok (.returnCoreSlot port cluster slot) → ∃ t, exec (.returnCoreSlot port cluster slot) s = .next t ∧
      begun t 1 (slot + 32 * cluster)) ∧
    (ok (.returnChannelGroup port stack g) → ∃ t, exec (.returnChannelGroup port stack g) s = .next t ∧
      begun t 2 (g + 16 * stack)) ∧
    (ok (.returnUpe port u) → ∃ t, exec (.returnUpe port u) s = .next t ∧ begun t 3 u)

/-- Resets on request. An accepted CTX_RESET takes steps 1 to 7 of R387: nothing of the context runs, is queued or waits,
its cores' scratchpads are zero, its private words read 0, and its tag advances or waits to (R393). A partition reset puts
every context of the partition through it, clears the values and locks of its sync words and disables its arm slots
(R389). A compute reset holds the stacks and clears all of sync memory (R390). Each discards the gathered rows that are
pending, together with the queue of the matrix engine (R110). -/
def Obligations.ResetRequests : Prop :=
  ∀ (port : DictPort) (n : Fin 64) (k : Fin 16) (s : State),
    let ok := fun (i : Instr) => ∃ r, request i = some r ∧ Accepted s r.1 r.2.1 r.2.2
    (ok (.ctxReset port n 1#8) → s.scopeResetting n = false →
      ∃ t, exec (.ctxReset port n 1#8) s = .next t ∧
      (t.ctx n).resetting = some 0x070C ∧ (t.ctx n).tasks = [] ∧ (t.ctx n).cqRead = [] ∧ (t.ctx n).colls = [] ∧
      (t.ctx n).upd.stage = .idle ∧ (t.ctx n).upd.queued = 0 ∧ t.pg n 0x010 = s.pg n 0x040 ∧
      (t.tag n = (s.tag n + 1) % 256 ∨ ((t.ctx n).tagDelay = true ∧ t.tag n = s.tag n)) ∧
      (∀ j ∈ s.resetCores n, (t.core j).run = none ∧ (t.core j).sp.words = [] ∧ (t.core j).sp.win = [] ∧
        (t.core j).disp.queued = [] ∧ (t.core j).disp.qM = [] ∧ (t.core j).mxe.gath = Gatherer.empty ∧
        ∀ e ∈ (t.core j).post, e.committed = true) ∧
      (∀ w, (s.word w).owner = some n.val → (s.word w).holder = none → (t.word w).value = 0) ∧
      ∀ w h, (s.word w).holder = some h → h.ctx = n.val → (t.word w).holder = none ∧ (t.word w).abandoned = true) ∧
    (ok (.partReset port k 1#8) → s.partDefined k = true → (s.part k).resetting = false → s.rel.creset = false →
      ∃ t, exec (.partReset port k 1#8) s = .next t ∧ (t.part k).resetting = true ∧ t.entBit Ent.alertStatus 2 = true ∧
        (∀ m, s.ctxOf k m = true → (t.ctx m).resetting.isSome = true) ∧
        (∀ c i, c ∈ s.partClusters k → i < 4096 → (t.word (wordKey c i)).value = 0 ∧ (t.word (wordKey c i)).holder = none) ∧
        (∀ c i, c ∈ s.partClusters k → i < 24 →
          (t.core (24 * c + i)).mxe.gath = Gatherer.empty ∧ (t.core (24 * c + i)).disp.qM = []) ∧
        ∀ i, i < 64 → (t.arm (64 * k + i)).enable = false) ∧
    (ok (.computeReset port 1#8) → s.rel.creset = false → ∃ t, exec (.computeReset port 1#8) s = .next t ∧
      t.rel.creset = true ∧ t.mem.served = false ∧ t.sync.words = [] ∧ t.sync.watches = [] ∧ t.links.packets = [] ∧
      t.ent Ent.rsramFree = 32 ∧ t.entBit Ent.alertStatus 2 = true ∧ t.mem.cells = s.mem.cells ∧
      (∀ j, (t.core j).mxe.gath = Gatherer.empty ∧ (t.core j).disp.qM = []) ∧
      ∀ j, s.partDefined j = true → (t.part j).resetting = true)

/-! ### Power, thermal and regulators (15), tests and returns (17), start-up and attestation (18), the test port (19) -/

/-- A power sample raises POWER_PEAK (Table 15.6); one below the cap clears CAP_UNMET, and one above it with every island
at point 0 sets it and its alert (R405, R406); with no partition defined the islands go one point down and LIMITING is
set, and a partition above its share is lowered alone (R407), each once the points lowered before are in force. A ramp
grid instant lets a waiting rise begin (R412). A replay keeps point 4 outside stage 3, which stands at point 0 as a compute
reset does (R357, R410, R415, R417). A reading of the sensors adds the effective offsets (R448),
puts each die at least into the stage whose entry temperature two readings reached, lets a stage go only after 10 ms, and
trips at the limit, which asserts THERMTRIP_N and takes the islands' supply (R415, R416). The first lost phase of a
regulator is absorbed and recorded; a second fences the slot, or loses the die (R401). -/
def Obligations.PowerAndThermal : Prop :=
  ∀ (r : PowerReading) (raw : List Int) (reg : Regulator) (s : State),
    let unmet := fun (t : State) => t.entBit Ent.capStatus 1
    let now := fun (i : Nat) => raw[i]?.map fun x => x + toI32 (s.ent (Ent.sensorOffsetEff i))
    let nowAll := raw.zipIdx.map fun p => p.1 + toI32 (s.ent (Ent.sensorOffsetEff p.2))
    let hit := fun (stage d : Nat) => reached stage d s.power.temps nowAll ≠ []
    let lost := SMap.get (fun _ => 0) s.rel.ivr (regulatorKey reg)
    let lowers := s.powered = true ∧ s.ent Ent.powerCap < r.package ∧ s.power.settle ≤ 1
    (s.plat.stage ≠ .off → ∃ t, exec (.powerSample r) s = .next t ∧ t.mem = s.mem ∧ t.cores = s.cores ∧ t.sync = s.sync ∧
      t.ent Ent.powerPeak = Nat.max (s.ent Ent.powerPeak) (Nat.min 65535 r.package) ∧
      (s.powered = true → r.package < s.ent Ent.powerCap → unmet t = false) ∧
      (lowers → s.allAtZero = true → unmet t = true ∧ (unmet s = false → t.entBit Ent.alertStatus 3 = true)) ∧
      (lowers → s.definedParts = [] → s.coresDown s.freeClusters = false →
        t.power.coreLow = s.power.coreLow + 1 ∧ t.power.fabLow = s.power.fabLow ∧ t.entBit Ent.capStatus 0 = true) ∧
      (∀ k, lowers → k ∈ s.definedParts → s.coresDown (s.partClusters k) = false → t.overShare k r = true →
        (t.part k).gov = { (s.part k).gov with coreLow := (s.part k).gov.coreLow + 1 } ∧ t.entBit Ent.capStatus 0 = true ∧
        t.power.coreLow = s.power.coreLow ∧ ∀ j, t.overShare j r = false → t.part j = s.part j) ∧
      (2 ≤ s.power.settle → t.parts = s.parts ∧ t.power.coreLow = s.power.coreLow ∧ t.power.fabLow = s.power.fabLow)) ∧
    (∀ c j, s.corePoint c j ≤ 6 ∧ (s.rel.creset = true ∨ s.dieStage (dieOf c) = 3 → s.corePoint c j = 0) ∧
      (s.rel.creset = false → s.testOf c j = none → s.slotFloored c j = true → 4 ≤ s.corePoint c j) ∧
      (2 ≤ s.dieStage (dieOf c) → s.fabricPoint c ≤ 2)) ∧
    exec .rampGridInstant s = .next { s with power := { s.power with rise := false } } ∧
    (raw.length = 100 → s.powered = true → s.plat.thermtrip = false → (∀ d, d < 4 → ¬ hit 4 d) →
      ∃ t, exec (.thermalSensorRead raw) s = .next t ∧ t.mem = s.mem ∧ t.sync = s.sync ∧ t.plat.thermtrip = false ∧
        (∀ i : Nat, t.power.temps[i]? = now i) ∧
        (∀ d stage, d < 4 → 1 ≤ stage → stage ≤ 3 → hit stage d → stage ≤ t.dieStage d) ∧
        (∀ d, d < 4 → t.dieStage d < s.dieStage d → 100 ≤ s.lowRun d (s.dieStage d))) ∧
    (∀ d, raw.length = 100 → s.powered = true → s.plat.thermtrip = false → d < 4 → hit 4 d →
      ∃ t, exec (.thermalSensorRead raw) s = .next t ∧ t.plat.thermtrip = true ∧ t.plat.devReady = false ∧ t.cores = [] ∧
        t.sync = Sync.zero ∧ t.mem.cells = []) ∧
    (s.powered = true → lost = 0 → ∃ t rec_, exec (.ivrPhase reg) s = .next t ∧ t.rel.log.head? = some rec_ ∧
      rec_.code = 0x0801 ∧ rec_.args = [regulatorKey reg] ∧ SMap.get (fun _ => 0) t.rel.ivr (regulatorKey reg) = 1 ∧
      t.cores = s.cores ∧ t.mem = s.mem) ∧
    (∀ (c : Fin 64) (j : Fin 25) (k : Nat), reg = .slot c j → s.powered = true → lost = 1 → s.slotHolder c j = some k →
      (s.core k).role = .inService → s.dieHasSpare (dieOf c) = true →
      ∃ t, exec (.ivrPhase reg) s = .next t ∧ (t.core k).role = .fenced ∧ t.slotFenced c j = true) ∧
    (∀ (d : Fin 4) (i : Fin 32), reg = .die d i → s.powered = true → lost = 1 →
      ∃ t, exec (.ivrPhase reg) s = .next t ∧ t.rel.dieLost.getLsbD d = true)

/-- A self-test that finds no failure reports that it passed; the logic test leaves the scratchpads zero, the memory test
every line zero and unpoisoned (R452). A return whose check passes gives the unit back and reports state 2: a group serves
again, an update engine serves again; one whose check fails leaves the unit out, with state 3 (R453). The check of a core
slot does not go on in a compute reset (R370). -/
def Obligations.TestsAndReturnsEnd : Prop :=
  ∀ (die : Fin 4) (unit kind : Nat) (s : State),
    let bits := fun (t : State) (state n : Nat) => t.ent Ent.selftestStatus = state + 256 * n
    let report := fun (t : State) (state : Nat) => t.ent Ent.returnStatus = state + 256 * unit + 16777216 * kind ∧
      (∀ r ∈ t.rel.rets, r ≠ (kind, unit))
    let mine := (s.rel.rets.find? fun x => returnDie x.1 x.2 == die.val) = some (kind, unit)
    (s.rel.selftest = some 1 → s.tap.started = none → ∃ t, exec (.selftestComplete []) s = .next t ∧ t.rel.selftest = none ∧
      bits t 3 1 ∧ t.mem = s.mem ∧ ∀ k, t.core k = { s.core k with sp := Scratch.zero }) ∧
    (s.rel.selftest = some 2 → s.tap.started = none → ∃ t, exec (.selftestComplete []) s = .next t ∧ t.rel.selftest = none ∧
      bits t 3 2 ∧ t.cores = s.cores ∧ (∀ a, t.memByte a = 0#8) ∧ ∀ line, t.poisoned line = false) ∧
    (mine → kind = 2 → unit < 256 → s.mem.pages = [] → ∃ t, exec (.returnComplete die .pass) s = .next t ∧ report t 2 ∧
      t.groupIn (unit / 16) (unit % 16) = true ∧ t.mem.cells = s.mem.cells) ∧
    (mine → kind = 3 → unit < 16 → ∃ t, exec (.returnComplete die .pass) s = .next t ∧ report t 2 ∧
      t.rel.upeOut.getLsbD unit = false ∧ t.mem = s.mem) ∧
    (mine → kind = 2 ∨ kind = 3 → ∃ t, exec (.returnComplete die .other) s = .next t ∧ report t 3 ∧ t.mem = s.mem ∧
      t.rel.upeOut = s.rel.upeOut) ∧
    (mine → kind = 1 → s.rel.creset = false → ∃ t, exec (.returnComplete die .other) s = .next t ∧ report t 3 ∧
      t.mem = s.mem ∧ t.cores = s.cores ∧ ∀ c slot, t.slotFenced c slot = s.slotFenced c slot) ∧
    (∀ result, mine → kind = 1 → s.rel.creset = true → exec (.returnComplete die result) s = .next s)

/-- The rails and start-up (Table 18.1): the auxiliary rail starts the management domain (R459), whose boot chooses an
image of each class or enters recovery (R471); the 12 V input starts the converters (R458); the start point sets global
time to 0 and applies the trims (R326, R448, R460); the flash records leave fenced cores waiting for a spare (R463);
memory initialisation leaves every byte 0 (R464); READY raises DEV_READY, and a REPLACE that is not 0 requests a drain
(R466, R375). A step that is stuck asks for a power cycle (R467). -/
def Obligations.StartUp : Prop :=
  ∀ (strap : BitVec 2) (bist : Bool) (found : StartFindings) (s : State),
    let chosen := s.plat.fwMgmt.select.isSome ∧ s.plat.fwComp.select.isSome ∧ s.plat.fwCal.select.isSome
    let nothing : StartFindings := { bistStrap := bist, channels := [], modules := [], slots := [], dies := [], ioLocked := true }
    let starts := s.plat.stage = .booted ∧ s.plat.conv = true ∧ s.plat.main = true ∧ s.plat.rst = 0#2 ∧
      s.plat.pwrCycle = false ∧ s.plat.thermtrip = false
    (s.plat.aux = false → s.plat.main = false → ∃ t, exec .auxRailRise s = .next t ∧ t.plat.aux = true ∧
      t.plat.barred = false ∧ t.plat.stage = s.plat.stage ∧ t.plat.devReady = false ∧ t.tap = Tap.init ∧ t.dict = s.dict) ∧
    (∃ t, exec .mainRailApply s = .next t ∧ t.plat.main = true ∧ t.plat.stage = s.plat.stage ∧
      (s.plat.stage = .booted → s.plat.barred = false → t.plat.conv = true) ∧ t.dict = s.dict ∧
      (s.sagging = false → t.cores = s.cores ∧ t.mem = s.mem ∧ t.sync = s.sync)) ∧
    (s.plat.aux = true → s.plat.barred = false → s.plat.stage = .off →
      ∃ t, exec (.managementBootComplete strap) s = .next t ∧ t.plat.strap = strap ∧
        (chosen → t.plat.stage = .booted ∧ t.plat.conv = s.plat.main) ∧
        (¬ chosen → t.plat.stage = .recovery ∧ t.plat.conv = false)) ∧
    (starts → ∃ t, exec (.startPoint nothing) s = .next t ∧ t.plat.stage = .calibrated ∧ t.gtime.count = 0 ∧
      t.plat.bist = bist ∧ t.plat.idle = false ∧
      (∀ i, i < 100 → t.ent (Ent.sensorOffsetEff i) =
        ofI32 (toI32 (s.ent (Ent.sensorOffset i)) + toI32 (s.ent (Ent.sensorOffsetDelta i)))) ∧
      (∀ p : Fin 6, s.ent (Ent.portEnable p) = 1 → (t.port p).state = 1) ∧ t.mem = s.mem) ∧
    (starts → found.ioLocked = false → ∃ t, exec (.startPoint found) s = .next t ∧ t.plat.stage = .noReady ∧
      t.plat.devReady = s.plat.devReady ∧ ∀ d ∈ found.dies, t.rel.dieLost.getLsbD d = true) ∧
    (s.plat.stage = .calibrated → ∃ t, exec .flashRecordsApply s = .next t ∧ t.plat.stage = .recordsApplied ∧
      t.mem.cells = s.mem.cells ∧ t.sync = s.sync ∧
      ∀ k, k < 1536 → s.coreLost k = false → s.slotFenced (s.slotOf k).1 (s.slotOf k).2 = true → (t.core k).role = .fenced) ∧
    (s.plat.stage = .recordsApplied → ∃ t, exec .memoryInitComplete s = .next t ∧ t.plat.stage = .memoryReady ∧
      (∀ a, t.memByte a = 0#8) ∧ t.mem.poison = [] ∧ t.mem.served = !s.rel.creset ∧
      (s.plat.bist = true → t.rel.selftest = some 1 ∧ t.ent Ent.selftestStatus = 2 + 256)) ∧
    (s.plat.stage = .memoryReady → s.rel.selftest = none → ∃ t, exec .devReady s = .next t ∧ t.plat.stage = .ready ∧
      t.plat.devReady = true ∧ t.mem = s.mem ∧ (s.ent Ent.replace = 0 → t.dict = s.dict) ∧
      (s.ent Ent.replace ≠ 0 → t.ent Ent.drainReq = 1)) ∧
    (s.plat.stage = .calibrated ∨ s.plat.stage = .recordsApplied ∨ s.plat.stage = .memoryReady → s.plat.pwrCycle = false →
      ∃ t, exec .startupStepStuck s = .next t ∧ t.plat.pwrCycle = true ∧ t.plat.devReady = false ∧ t.plat.stage = .noReady)

/-- What the rails take away (R413, R467, R483, R486): removal of the 12 V input ends everything on it and leaves flash
entries as they are; a rail that leaves its range while the package is READY leaves it running, with results that may be
wrong in cores, memory and sync memory alone (R403); the loss of the
auxiliary rail leaves of the dictionary what flash holds, no log and no exchange; the loss of SYS_REFCLK asks for a power
cycle. An entry that is written to flash is what the next cold start reads (R441). -/
def Obligations.RailsAreLost : Prop :=
  ∀ (index : BitVec 16) (sub : Byte) (s : State),
    let key := 256 * index.toNat + sub.toNat
    let flashRow := fun (k : Nat) => ∃ r, Catalog.row k = some r ∧ r.pers = .flash
    (∃ t, exec (.mainRailLoss .removed) s = .next t ∧ t.plat.main = false ∧ t.plat.conv = false ∧ t.plat.devReady = false ∧
      t.plat.pwrCycle = false ∧ t.plat.thermtrip = false ∧ t.cores = [] ∧ t.sync = Sync.zero ∧ t.mem.cells = [] ∧
      t.mem.pages = [] ∧ ∀ k, flashRow k → t.ent k = s.ent k) ∧
    (s.plat.main = true → s.isReady = true → ∃ t, exec (.mainRailLoss .outOfRange) s = .next t ∧ t =
      { s with plat := { s.plat with main := false }, cores := t.cores, mem := t.mem, sync := t.sync, freeCtr := t.freeCtr }) ∧
    (s.plat.aux = true → ∃ t, exec .auxRailLoss s = .next t ∧ t.plat.aux = false ∧ t.plat.stage = .off ∧
      t.dict = s.plat.flash ∧ t.rel.log = [] ∧ t.plat.spdm = [] ∧ t.cores = [] ∧ t.ctxs = [] ∧ t.mem.cells = [] ∧
      t.plat.flash = s.plat.flash) ∧
    (s.powered = true → s.plat.pwrCycle = false → ∃ t, exec .refclkLoss s = .next t ∧ t.plat.pwrCycle = true ∧
      t.plat.refLost = true ∧ t.plat.devReady = false ∧ t.plat.stage = .noReady ∧ t.ent Ent.gtLocked = 0) ∧
    (flashRow key → s.plat.stage ≠ .off → ∃ t, exec (.flashEntryWritten index sub) s = .next t ∧ t.dict = s.dict ∧
      SMap.get Catalog.dflt t.plat.flash key = s.ent key ∧
      ∀ k, k ≠ key → SMap.get Catalog.dflt t.plat.flash k = SMap.get Catalog.dflt s.plat.flash k)

/-- A firmware update over I3C writes the inactive slot; an image that is complete, signed, of an SVN from 1 to 32 and not
below the fused minimum is marked active, and the other slot runs on (R470, R472). PLDM sensors answer on both MCTP ports
(R445). The SPDM exchange goes from version to capabilities to algorithms, and only then answers digests, the chain of
slot 0, challenges and measurements (R473); block 5 holds the SVNs and the fused minimums, block 8 the test access (R474).
-/
def Obligations.FirmwareAndAttestation : Prop :=
  ∀ (port : DictPort) (cls : FwClass) (img : FwImage) (p384 sha384 : Bool) (slot : Fin 8) (nonce : BitVec 256) (block : Byte)
      (s : State),
    let fw := fun (t : State) => match cls with
      | .management => t.plat.fwMgmt
      | .compute => t.plat.fwComp
      | .calico => t.plat.fwCal
    let good := img.partOk && img.sigOk && decide (1 ≤ img.svn.val ∧ img.svn.val ≤ 32 ∧ (fw s).fused ≤ img.svn.val)
    let carries := mctpPort port = true ∧ s.plat.stage ≠ .off ∧ (port = .i3c ∨ s.host.pcieUp = true)
    let answers := fun (i : Instr) (code next : Nat) (data : List Byte) => ∃ t, exec i s = .next t ∧
      t.out = s.out ++ [.spdm port code data] ∧ t.spdmAt port = next ∧ t.dict = s.dict ∧ t.mem = s.mem ∧ t.rel = s.rel
    let svns := [s.plat.fwMgmt.runningSvn, s.plat.fwComp.runningSvn, s.plat.fwCal.runningSvn, s.plat.fwMgmt.fused,
      s.plat.fwComp.fused, s.plat.fwCal.fused].map (BitVec.ofNat 8)
    (s.plat.stage ≠ .off → ∃ t, exec (.firmwareUpdate .i3c cls img) s = .next t ∧ t.out = s.out ++ [.firmware .i3c good] ∧
      (fw t).activeB = Bool.xor (fw s).activeB good ∧ (fw t).running = (fw s).running ∧ (fw t).fused = (fw s).fused ∧
      (∃ x, (if (fw s).activeB then (fw t).a else (fw t).b) = some x ∧ x.svn = img.svn.val ∧ x.version = img.version.toNat ∧
        ((fw s).accepts x = good)) ∧
      (if (fw s).activeB then (fw t).b = (fw s).b else (fw t).a = (fw s).a) ∧ t.dict = s.dict ∧ t.cores = s.cores) ∧
    (carries → s.plat.stage ≠ .recovery →
      exec (.pldmSensorRead port .powerNow) s = .next (s.emit (.pldm port (some (s.ent Ent.powerNow : Nat)))) ∧
      exec (.pldmSensorRead port .ready) s = .next (s.emit (.pldm port (some (b2n s.plat.devReady : Nat)))) ∧
      ∀ n, s.powered = false → exec (.pldmSensorRead port (.temp n)) s = .next (s.emit (.pldm port none))) ∧
    (carries → answers (.getVersion port) 0x04 1 [0x12#8]) ∧
    (carries → 1 ≤ s.spdmAt port →
      ∃ data, answers (.getCapabilities port) 0x61 (Nat.max 2 (s.spdmAt port)) data) ∧
    (carries → s.spdmAt port = 0 → answers (.getCapabilities port) 0x7F 0 []) ∧
    (carries → 2 ≤ s.spdmAt port → (p384 && sha384) = true → answers (.negotiateAlgorithms port p384 sha384) 0x63 3 []) ∧
    (carries → (p384 && sha384) = false → answers (.negotiateAlgorithms port p384 sha384) 0x7F (s.spdmAt port) []) ∧
    (carries → s.spdmAt port = 3 →
      (∃ data, answers (.getDigests port) 0x01 3 data) ∧
      (slot = 0 → (∃ data, answers (.getCertificate port slot) 0x02 3 data) ∧
        ∃ data, answers (.challenge port slot nonce) 0x03 3 data) ∧
      (slot ≠ 0 → answers (.getCertificate port slot) 0x7F 3 [] ∧ answers (.challenge port slot nonce) 0x7F 3 []) ∧
      answers (.getMeasurements port 0#8) 0x60 3 [8#8] ∧ answers (.getMeasurements port 5#8) 0x60 3 svns ∧
      answers (.getMeasurements port 8#8) 0x60 3 [BitVec.ofNat 8 (b2n s.plat.tested)] ∧
      (1 ≤ block.toNat → block.toNat ≤ 8 → block ≠ 5#8 → block ≠ 8#8 →
        ∃ data, data.length = 48 ∧ answers (.getMeasurements port block) 0x60 3 data)) ∧
    (carries → s.spdmAt port < 3 → answers (.getDigests port) 0x7F (s.spdmAt port) [] ∧
      answers (.getCertificate port slot) 0x7F (s.spdmAt port) [] ∧
      answers (.challenge port slot nonce) 0x7F (s.spdmAt port) [] ∧
      answers (.getMeasurements port block) 0x7F (s.spdmAt port) [])

/-- The test access port (R494 to R498, Table 19.10): each instruction selects its data register, IDCODE captures
0x10A40CCB, and a code that the table does not list selects bypass; EXTEST reaches the boundary register only while a
reset input is held. A reset of the port selects IDCODE and closes every SIB. With every SIB closed the network is five
SIBs; an update opens those that may open, and a 1 for any sets measurement 8 (R496, R497). A test that is started runs as
the dictionary's would, or is refused with status 4 where that would be busy (R498). -/
def Obligations.TestPort : Prop :=
  ∀ (code : Byte) (b : Fin 4 → Bool) (io : Bool) (die : Fin 4) (stack : Fin 16) (mask : BitVec 16) (pattern : BitVec 2) (s : State),
    let rest := fun (t : State) => t.dict = s.dict ∧ t.cores = s.cores ∧ t.mem = s.mem ∧ t.plat = s.plat ∧ t.rel = s.rel
    let selects := fun (i : Instr) (ir len bits : Nat) => ∃ t, exec i s = .next t ∧ t.tap = { s.tap with ir := ir } ∧
      t.out = s.out ++ [.tdo len bits] ∧ rest t
    let at0 := fun (m : SMap Nat) (k : Nat) => SMap.get (fun _ => 0) m k
    let runs := fun (t : State) (kind x : Nat) => t.rel.selftest = some kind ∧ t.tap.started = some x ∧
      t.ent Ent.selftestStatus = 2 + 256 * kind ∧ t.mem = s.mem ∧ t.cores = s.cores
    (s.plat.aux = true →
      selects .idcode 2 32 0x10A40CCB ∧ selects .clamp 3 1 0 ∧ selects .highz 4 1 0 ∧
      (code.toNat ∉ [0, 1, 2, 3, 4, 16] → selects (.bypass code) code.toNat 1 0) ∧
      (∃ bits, bits < 65536 ∧ selects .samplePreload 1 16 bits) ∧
      (s.plat.rst = 0#2 → selects .extest 0 1 0) ∧
      (s.plat.rst ≠ 0#2 → ∃ bits, bits < 65536 ∧ selects .extest 0 16 bits) ∧
      (s.tap.sibs = [] → selects .netSel 16 5 0) ∧
      ∃ t, exec .tapReset s = .next t ∧ t.tap = { s.tap with ir := 2, sibs := [] } ∧ t.out = s.out ∧ rest t) ∧
    (s.plat.aux = true → s.tap.ir = 16 → s.tap.sibs = [] →
      ∃ t, exec (.sibUpdate [b 3, b 2, b 1, b 0, io]) s = .next t ∧ t.tap.sibOpen 0 = io ∧
        (∀ d : Fin 4, t.tap.sibOpen (1 + d) = (b d && s.plat.conv && !s.rel.dieLost.getLsbD d)) ∧
        (t.plat.tested = (s.plat.tested || io || b 0 || b 1 || b 2 || b 3)) ∧ t.mem = s.mem ∧ t.cores = s.cores) ∧
    (s.inPath [1 + die.val] = true → s.isReady = true →
      (s.testBusy 1 = false → ∃ t, exec (.lbistStart die mask) s = .next t ∧ runs t 1 die ∧ at0 t.tap.lbStat die = 1) ∧
      (s.testBusy 1 = true → ∃ t, exec (.lbistStart die mask) s = .next t ∧ at0 t.tap.lbStat die = 4 ∧ rest t)) ∧
    (s.inPath [0] = true → s.isReady = true →
      (s.testBusy 1 = false → ∃ t, exec .ioBistStart s = .next t ∧ runs t 1 4 ∧ t.tap.ioStat = 1) ∧
      (s.testBusy 1 = true → ∃ t, exec .ioBistStart s = .next t ∧ t.tap.ioStat = 4 ∧ rest t)) ∧
    (s.inPath [1 + stack.val / 4, 5 + stack.val] = true → s.isReady = true →
      (s.testBusy 2 = false → ∃ t, exec (.mbStart stack mask pattern) s = .next t ∧ runs t 2 (5 + stack.val) ∧
        at0 t.tap.mbStat stack = 1) ∧
      (s.testBusy 2 = true → ∃ t, exec (.mbStart stack mask pattern) s = .next t ∧ at0 t.tap.mbStat stack = 4 ∧ rest t))
end

