-- ==== Sys2Proof/Laws/SMap.lean ====
section
/-!
SUPPORT. The laws of sparse maps: a read after a write, writes to other keys, and that every operation keeps the
canonical form.
-/

namespace Sys2Proof.Machine

@[simp] theorem SMap.get_nil {V : Type} (d : Nat → V) (k : Nat) : SMap.get d [] k = d k := rfl

theorem SMap.get_put_same {V : Type} (d : Nat → V) (m : SMap V) (k : Nat) (v : V) : SMap.get d (SMap.put m k v) k = v := by
  induction m with
  | nil => simp [SMap.put, SMap.get]
  | cons e m ih =>
    obtain ⟨j, w⟩ := e
    simp only [SMap.put]
    split
    · simp [SMap.get]
    · split
      · simp [SMap.get]
      · simp [SMap.get, *]

theorem SMap.get_put_ne {V : Type} (d : Nat → V) (m : SMap V) {k j : Nat} (v : V) (h : j ≠ k) : SMap.get d (SMap.put m k v) j = SMap.get d m j := by
  induction m with
  | nil => simp [SMap.put, SMap.get, Ne.symm h]
  | cons e m ih =>
    obtain ⟨i, w⟩ := e
    simp only [SMap.put]
    split
    · next hi => subst hi; simp [SMap.get, Ne.symm h]
    · split
      · simp [SMap.get, Ne.symm h]
      · simp [SMap.get, ih]

theorem SMap.get_drop_same {V : Type} (d : Nat → V) (m : SMap V) (k : Nat) : SMap.get d (SMap.drop m k) k = d k := by
  induction m with
  | nil => rfl
  | cons e m ih =>
    obtain ⟨j, w⟩ := e
    by_cases h : j = k
    · simpa [SMap.drop, List.filter_cons, h] using ih
    · simpa [SMap.drop, List.filter_cons, h, SMap.get] using ih

theorem SMap.get_drop_ne {V : Type} (d : Nat → V) (m : SMap V) {k j : Nat} (h : j ≠ k) : SMap.get d (SMap.drop m k) j = SMap.get d m j := by
  induction m with
  | nil => rfl
  | cons e m ih =>
    obtain ⟨i, w⟩ := e
    by_cases hi : i = k
    · subst hi
      simpa [SMap.drop, List.filter_cons, SMap.get, Ne.symm h] using ih
    · simp only [SMap.drop, List.filter_cons, bne_iff_ne, ne_eq, hi, not_false_eq_true, if_true, SMap.get]
      split
      · rfl
      · simpa [SMap.drop] using ih

/-- A read after a write to the same key gives the value written. -/
@[simp] theorem SMap.get_set_same {V : Type} [DecidableEq V] (d : Nat → V) (m : SMap V) (k : Nat) (v : V) : SMap.get d (SMap.set d m k v) k = v := by
  unfold SMap.set
  split
  · next h => rw [SMap.get_drop_same, h]
  · exact SMap.get_put_same d m k v

/-- A write leaves every other key alone. -/
theorem SMap.get_set_ne {V : Type} [DecidableEq V] (d : Nat → V) (m : SMap V) {k j : Nat} (v : V) (h : j ≠ k) :
    SMap.get d (SMap.set d m k v) j = SMap.get d m j := by
  unfold SMap.set
  split
  · exact SMap.get_drop_ne d m h
  · exact SMap.get_put_ne d m v h

/-- A read after a write, by whether the keys agree. -/
theorem SMap.get_set {V : Type} [DecidableEq V] (d : Nat → V) (m : SMap V) (k j : Nat) (v : V) :
    SMap.get d (SMap.set d m k v) j = if j = k then v else SMap.get d m j := by
  split
  · next h => subst h; exact SMap.get_set_same d m j v
  · next h => exact SMap.get_set_ne d m v h

/-! ### The canonical form -/

theorem SMap.wfFrom_iff {V : Type} [DecidableEq V] (d : Nat → V) (m : SMap V) (b : Option Nat) :
    SMap.wfFrom d b m = true ↔
      (∀ j ∈ b, ∀ e ∈ m, j < e.1) ∧ m.Pairwise (fun x y => x.1 < y.1) ∧ ∀ e ∈ m, e.2 ≠ d e.1 := by
  induction m generalizing b with
  | nil => simp [SMap.wfFrom]
  | cons e m ih =>
    obtain ⟨k, v⟩ := e
    simp only [SMap.wfFrom, Bool.and_eq_true, decide_eq_true_eq, ih, List.pairwise_cons, List.mem_cons,
      forall_eq_or_imp, Option.mem_def, Option.some.injEq, forall_eq']
    constructor
    · rintro ⟨⟨hb, hv⟩, hk, hp, ha⟩
      refine ⟨?_, ⟨hk, hp⟩, hv, ha⟩
      rintro j rfl
      simp only [decide_eq_true_eq] at hb
      exact ⟨hb, fun e he => lt_trans hb (hk e he)⟩
    · rintro ⟨hb, ⟨hk, hp⟩, hv, ha⟩
      refine ⟨⟨?_, hv⟩, hk, hp, ha⟩
      cases b with
      | none => rfl
      | some j => simpa using (hb j rfl).1

/-- The canonical form: keys rise strictly, and no entry equals its unlisted value. -/
theorem SMap.wf_iff {V : Type} [DecidableEq V] (d : Nat → V) (m : SMap V) :
    SMap.wf d m = true ↔ m.Pairwise (fun x y => x.1 < y.1) ∧ ∀ e ∈ m, e.2 ≠ d e.1 := by
  simp [SMap.wf, SMap.wfFrom_iff]

/-- A part of a canonical map that keeps its order is canonical. -/
theorem SMap.wf_sublist {V : Type} [DecidableEq V] (d : Nat → V) {m n : SMap V} (h : n.Sublist m)
    (w : SMap.wf d m = true) : SMap.wf d n = true := by
  rw [SMap.wf_iff] at w ⊢
  exact ⟨w.1.sublist h, fun e he => w.2 e (h.subset he)⟩

theorem SMap.wf_filter {V : Type} [DecidableEq V] (d : Nat → V) (p : Nat × V → Bool) {m : SMap V}
    (w : SMap.wf d m = true) : SMap.wf d (m.filter p) = true :=
  SMap.wf_sublist d List.filter_sublist w

theorem SMap.wf_dropKeys {V : Type} [DecidableEq V] (d : Nat → V) (p : Nat → Bool) {m : SMap V}
    (w : SMap.wf d m = true) : SMap.wf d (SMap.dropKeys p m) = true :=
  SMap.wf_filter d _ w

theorem SMap.mem_put {V : Type} {m : SMap V} {k : Nat} {v : V} {e : Nat × V} (h : e ∈ SMap.put m k v) :
    e = (k, v) ∨ e ∈ m := by
  induction m with
  | nil => simpa [SMap.put] using h
  | cons x m ih =>
    obtain ⟨j, w⟩ := x
    simp only [SMap.put] at h
    split at h
    · rcases List.mem_cons.1 h with h | h
      · exact .inl h
      · exact .inr (List.mem_cons_of_mem _ h)
    · split at h
      · exact List.mem_cons.1 h
      · rcases List.mem_cons.1 h with h | h
        · exact .inr (h ▸ List.mem_cons_self)
        · exact (ih h).imp id (List.mem_cons_of_mem _)

theorem SMap.wf_put {V : Type} [DecidableEq V] (d : Nat → V) {m : SMap V} {k : Nat} {v : V} (hv : v ≠ d k)
    (w : SMap.wf d m = true) : SMap.wf d (SMap.put m k v) = true := by
  rw [SMap.wf_iff] at w ⊢
  refine ⟨?_, fun e he => (SMap.mem_put he).elim (fun h => h ▸ hv) (w.2 e)⟩
  obtain ⟨hp, -⟩ := w
  induction m with
  | nil => simp [SMap.put]
  | cons x m ih =>
    obtain ⟨j, w⟩ := x
    rw [List.pairwise_cons] at hp
    simp only [SMap.put]
    split
    · next h => subst h; exact List.pairwise_cons.2 hp
    · split
      · next h =>
        refine List.pairwise_cons.2 ⟨fun e he => ?_, List.pairwise_cons.2 hp⟩
        rcases List.mem_cons.1 he with rfl | he
        · exact h
        · exact lt_trans h (hp.1 e he)
      · next h1 h2 =>
        refine List.pairwise_cons.2 ⟨fun e he => ?_, ih hp.2⟩
        rcases SMap.mem_put he with rfl | he
        · exact lt_of_le_of_ne (not_lt.1 h2) h1
        · exact hp.1 e he

/-- A write keeps the canonical form. -/
theorem SMap.wf_set {V : Type} [DecidableEq V] (d : Nat → V) {m : SMap V} (k : Nat) (v : V)
    (w : SMap.wf d m = true) : SMap.wf d (SMap.set d m k v) = true := by
  unfold SMap.set
  split
  · exact SMap.wf_filter d _ w
  · next h => exact SMap.wf_put d h w

theorem SMap.wf_setAll {V : Type} [DecidableEq V] (d : Nat → V) (l : List (Nat × V)) {m : SMap V}
    (w : SMap.wf d m = true) : SMap.wf d (SMap.setAll d m l) = true := by
  induction l generalizing m with
  | nil => exact w
  | cons e l ih => exact ih (SMap.wf_set d _ _ w)

theorem SMap.wf_mapVals {V : Type} [DecidableEq V] (d : Nat → V) (f : Nat → V → V) (m : SMap V) :
    SMap.wf d (SMap.mapVals d f m) = true := by
  induction m with
  | nil => rfl
  | cons e m ih => exact SMap.wf_set d _ _ ih

theorem SMap.get_mapVals {V : Type} [DecidableEq V] (d : Nat → V) (f : Nat → V → V) (m : SMap V) (k : Nat) :
    SMap.get d (SMap.mapVals d f m) k = if k ∈ m.map (·.1) then f k (SMap.get d m k) else d k := by
  induction m with
  | nil => rfl
  | cons e m ih =>
    rw [show SMap.mapVals d f (e :: m) = SMap.set d (SMap.mapVals d f m) e.1 (f e.1 e.2) from rfl, SMap.get_set]
    by_cases h : k = e.1
    · subst h; simp [SMap.get]
    · rw [if_neg h, ih]; simp only [SMap.get, Ne.symm h, if_false, List.map_cons, List.mem_cons, h, false_or]

end Sys2Proof.Machine
end

