-- ==== Sys2Proof/Laws/Core.lean ====
section
/-!
SUPPORT. A read after a write of a core's registers, vector registers, scratchpad words and accumulator rows.
-/

namespace Sys2Proof.Machine

open Sys2Proof

theorem SMap.get_setAll_notin {V : Type} [DecidableEq V] (d : Nat → V) (l : List (Nat × V)) (k : Nat) :
    ∀ m : SMap V, (∀ e ∈ l, e.1 ≠ k) → SMap.get d (SMap.setAll d m l) k = SMap.get d m k := by
  induction l with
  | nil => intro m _; rfl
  | cons e l ih =>
    intro m h
    have h1 := ih (SMap.set d m e.1 e.2) fun x hx => h x (List.mem_cons_of_mem _ hx)
    simp only [SMap.setAll, List.foldl_cons] at h1 ⊢
    rw [h1, SMap.get_set_ne _ _ _ (Ne.symm (h e (List.mem_cons_self ..)))]

/-- A list written at consecutive keys from b: key b + i reads entry i. -/
theorem SMap.get_setAll_run {V : Type} [DecidableEq V] (d : Nat → V) (b : Nat) (l : List V) (n i : Nat) (m : SMap V) :
    SMap.get d (SMap.setAll d m ((l.zipIdx n).map fun p => (b + p.2, p.1))) (b + (n + i)) =
      (l[i]?).getD (SMap.get d m (b + (n + i))) := by
  induction l generalizing n i m with
  | nil => rfl
  | cons v l ih =>
    simp only [List.zipIdx_cons, List.map_cons, SMap.setAll, List.foldl_cons]
    cases i with
    | zero =>
      simp only [Nat.add_zero, List.getElem?_cons_zero, Option.getD_some]
      have := SMap.get_setAll_notin d ((l.zipIdx (n + 1)).map fun p => (b + p.2, p.1)) (b + n) (SMap.set d m (b + n) v)
        (by
          intro e he
          simp only [List.mem_map] at he
          obtain ⟨p, hp, rfl⟩ := he
          have := List.le_snd_of_mem_zipIdx hp
          simp only; omega)
      simp only [SMap.setAll] at this
      rw [this, SMap.get_set_same]
    | succ i =>
      have := ih (n + 1) i (SMap.set d m (b + n) v)
      simp only [SMap.setAll] at this
      rw [show n + (i + 1) = n + 1 + i by omega, this, List.getElem?_cons_succ, SMap.get_set_ne _ _ _ (by omega)]

@[simp] theorem Core.sreg_setS (c : Core) (n : BitVec 5) (v : Word64) : (c.setS n v).sreg n = v := SMap.get_set_same _ _ _ _

theorem Core.sreg_setS_ne (c : Core) {n m : BitVec 5} (v : Word64) (h : m ≠ n) : (c.setS n v).sreg m = c.sreg m :=
  SMap.get_set_ne _ _ _ fun e => h (BitVec.eq_of_toNat_eq e)

@[simp] theorem Core.areg_setA (c : Core) (n : BitVec 4) (v : Word64) : (c.setA n v).areg n = v := SMap.get_set_same _ _ _ _

theorem Core.areg_setA_ne (c : Core) {n m : BitVec 4} (v : Word64) (h : m ≠ n) : (c.setA n v).areg m = c.areg m :=
  SMap.get_set_ne _ _ _ fun e => h (BitVec.eq_of_toNat_eq e)

/-- A lane of a vector register just written. -/
theorem Core.vlane_setV (c : Core) (v : BitVec 5) (l : List Word32) (i : Nat) :
    (c.setV v l).vlane v i = (l[i]?).getD (c.vlane v i) := by
  have := SMap.get_setAll_run (fun _ => (0#32 : Word32)) (64 * v.toNat) l 0 i c.regs.v
  simpa [Core.vlane, Core.setV] using this

/-- The other vector registers keep their lanes when 64 lanes are written. -/
theorem Core.vlane_setV_ne (c : Core) {v w : BitVec 5} (l : List Word32) (i : Nat) (h : w ≠ v) (hi : i < 64)
    (hl : l.length ≤ 64) : (c.setV v l).vlane w i = c.vlane w i := by
  unfold Core.vlane Core.setV
  apply SMap.get_setAll_notin
  intro e he
  simp only [List.mem_map] at he
  obtain ⟨p, hp, rfl⟩ := he
  have h1 := List.snd_lt_of_mem_zipIdx hp
  have h2 : w.toNat ≠ v.toNat := fun e => h (BitVec.eq_of_toNat_eq e)
  simp only
  omega

@[simp] theorem Core.vreg_length (c : Core) (v : BitVec 5) : (c.vreg v).length = 64 := by simp [Core.vreg]

theorem Core.vreg_getElem (c : Core) (v : BitVec 5) {i : Nat} (h : i < (c.vreg v).length) : (c.vreg v)[i] = c.vlane v i := by
  simp [Core.vreg]

/-- A scratchpad word just written; addresses wrap (R85). -/
theorem Core.rd_wr (c : Core) (w j : Nat) (v : Word32) :
    (c.wr w v).rd j = if j % spSize = w % spSize then v else c.rd j := by
  unfold Core.rd Core.wr
  by_cases h : j % spSize = w % spSize
  · rw [if_pos h]; simp only [h]; exact SMap.get_set_same _ _ _ _
  · rw [if_neg h]; exact SMap.get_set_ne _ _ _ h

/-- A write clears a word's poison and leaves the other marks (R148). -/
theorem Core.poisonedAt_wr (c : Core) (w j : Nat) (v : Word32) :
    (c.wr w v).poisonedAt j = if j % spSize = w % spSize then false else c.poisonedAt j := by
  unfold Core.poisonedAt Core.wr
  by_cases h : j % spSize = w % spSize
  · rw [if_pos h]; simp only [h]; exact SMap.get_set_same _ _ _ _
  · rw [if_neg h]; exact SMap.get_set_ne _ _ _ h

/-- An accumulator row just written. -/
theorem Core.accAt_setAccRow (c : Core) (row : Nat) (l : List Word32) (col : Nat) :
    (c.setAccRow row l).accAt row col = (l[col]?).getD (c.accAt row col) := by
  have := SMap.get_setAll_run (fun _ => f32zero true) (64 * row) l 0 col c.mxe.acc
  simpa [Core.accAt, Core.setAccRow] using this

end Sys2Proof.Machine
end

