-- ==== Sys2Proof/Laws/State.lean ====
section
/-!
SUPPORT. One lemma for each field of the state and each update, and a read after each write: no later proof unfolds a
record update.
-/

namespace Sys2Proof.Machine

open Sys2Proof

/-! ### setEnt -/

@[simp] theorem State.setEnt_pending (s : State) (k v : Nat) : (s.setEnt k v).pending = s.pending := rfl
@[simp] theorem State.setEnt_freeCtr (s : State) (k v : Nat) : (s.setEnt k v).freeCtr = s.freeCtr := rfl
@[simp] theorem State.setEnt_now (s : State) (k v : Nat) : (s.setEnt k v).now = s.now := rfl
@[simp] theorem State.setEnt_out (s : State) (k v : Nat) : (s.setEnt k v).out = s.out := rfl
@[simp] theorem State.setEnt_cores (s : State) (k v : Nat) : (s.setEnt k v).cores = s.cores := rfl
@[simp] theorem State.setEnt_grants (s : State) (k v : Nat) : (s.setEnt k v).grants = s.grants := rfl
@[simp] theorem State.setEnt_sync (s : State) (k v : Nat) : (s.setEnt k v).sync = s.sync := rfl
@[simp] theorem State.setEnt_mem (s : State) (k v : Nat) : (s.setEnt k v).mem = s.mem := rfl
@[simp] theorem State.setEnt_ctxs (s : State) (k v : Nat) : (s.setEnt k v).ctxs = s.ctxs := rfl
@[simp] theorem State.setEnt_parts (s : State) (k v : Nat) : (s.setEnt k v).parts = s.parts := rfl
@[simp] theorem State.setEnt_nextId (s : State) (k v : Nat) : (s.setEnt k v).nextId = s.nextId := rfl
@[simp] theorem State.setEnt_live (s : State) (k v : Nat) : (s.setEnt k v).live = s.live := rfl
@[simp] theorem State.setEnt_host (s : State) (k v : Nat) : (s.setEnt k v).host = s.host := rfl
@[simp] theorem State.setEnt_rel (s : State) (k v : Nat) : (s.setEnt k v).rel = s.rel := rfl
@[simp] theorem State.setEnt_links (s : State) (k v : Nat) : (s.setEnt k v).links = s.links := rfl
@[simp] theorem State.setEnt_gtime (s : State) (k v : Nat) : (s.setEnt k v).gtime = s.gtime := rfl
@[simp] theorem State.setEnt_power (s : State) (k v : Nat) : (s.setEnt k v).power = s.power := rfl
@[simp] theorem State.setEnt_plat (s : State) (k v : Nat) : (s.setEnt k v).plat = s.plat := rfl
@[simp] theorem State.setEnt_tap (s : State) (k v : Nat) : (s.setEnt k v).tap = s.tap := rfl

/-! ### setEntBits -/

@[simp] theorem State.setEntBits_pending (s : State) (k lo n x : Nat) : (s.setEntBits k lo n x).pending = s.pending := rfl
@[simp] theorem State.setEntBits_freeCtr (s : State) (k lo n x : Nat) : (s.setEntBits k lo n x).freeCtr = s.freeCtr := rfl
@[simp] theorem State.setEntBits_now (s : State) (k lo n x : Nat) : (s.setEntBits k lo n x).now = s.now := rfl
@[simp] theorem State.setEntBits_out (s : State) (k lo n x : Nat) : (s.setEntBits k lo n x).out = s.out := rfl
@[simp] theorem State.setEntBits_cores (s : State) (k lo n x : Nat) : (s.setEntBits k lo n x).cores = s.cores := rfl
@[simp] theorem State.setEntBits_grants (s : State) (k lo n x : Nat) : (s.setEntBits k lo n x).grants = s.grants := rfl
@[simp] theorem State.setEntBits_sync (s : State) (k lo n x : Nat) : (s.setEntBits k lo n x).sync = s.sync := rfl
@[simp] theorem State.setEntBits_mem (s : State) (k lo n x : Nat) : (s.setEntBits k lo n x).mem = s.mem := rfl
@[simp] theorem State.setEntBits_ctxs (s : State) (k lo n x : Nat) : (s.setEntBits k lo n x).ctxs = s.ctxs := rfl
@[simp] theorem State.setEntBits_parts (s : State) (k lo n x : Nat) : (s.setEntBits k lo n x).parts = s.parts := rfl
@[simp] theorem State.setEntBits_nextId (s : State) (k lo n x : Nat) : (s.setEntBits k lo n x).nextId = s.nextId := rfl
@[simp] theorem State.setEntBits_live (s : State) (k lo n x : Nat) : (s.setEntBits k lo n x).live = s.live := rfl
@[simp] theorem State.setEntBits_host (s : State) (k lo n x : Nat) : (s.setEntBits k lo n x).host = s.host := rfl
@[simp] theorem State.setEntBits_rel (s : State) (k lo n x : Nat) : (s.setEntBits k lo n x).rel = s.rel := rfl
@[simp] theorem State.setEntBits_links (s : State) (k lo n x : Nat) : (s.setEntBits k lo n x).links = s.links := rfl
@[simp] theorem State.setEntBits_gtime (s : State) (k lo n x : Nat) : (s.setEntBits k lo n x).gtime = s.gtime := rfl
@[simp] theorem State.setEntBits_power (s : State) (k lo n x : Nat) : (s.setEntBits k lo n x).power = s.power := rfl
@[simp] theorem State.setEntBits_plat (s : State) (k lo n x : Nat) : (s.setEntBits k lo n x).plat = s.plat := rfl
@[simp] theorem State.setEntBits_tap (s : State) (k lo n x : Nat) : (s.setEntBits k lo n x).tap = s.tap := rfl

/-! ### setEntBit -/

@[simp] theorem State.setEntBit_pending (s : State) (k b : Nat) (on : Bool) : (s.setEntBit k b on).pending = s.pending := rfl
@[simp] theorem State.setEntBit_freeCtr (s : State) (k b : Nat) (on : Bool) : (s.setEntBit k b on).freeCtr = s.freeCtr := rfl
@[simp] theorem State.setEntBit_now (s : State) (k b : Nat) (on : Bool) : (s.setEntBit k b on).now = s.now := rfl
@[simp] theorem State.setEntBit_out (s : State) (k b : Nat) (on : Bool) : (s.setEntBit k b on).out = s.out := rfl
@[simp] theorem State.setEntBit_cores (s : State) (k b : Nat) (on : Bool) : (s.setEntBit k b on).cores = s.cores := rfl
@[simp] theorem State.setEntBit_grants (s : State) (k b : Nat) (on : Bool) : (s.setEntBit k b on).grants = s.grants := rfl
@[simp] theorem State.setEntBit_sync (s : State) (k b : Nat) (on : Bool) : (s.setEntBit k b on).sync = s.sync := rfl
@[simp] theorem State.setEntBit_mem (s : State) (k b : Nat) (on : Bool) : (s.setEntBit k b on).mem = s.mem := rfl
@[simp] theorem State.setEntBit_ctxs (s : State) (k b : Nat) (on : Bool) : (s.setEntBit k b on).ctxs = s.ctxs := rfl
@[simp] theorem State.setEntBit_parts (s : State) (k b : Nat) (on : Bool) : (s.setEntBit k b on).parts = s.parts := rfl
@[simp] theorem State.setEntBit_nextId (s : State) (k b : Nat) (on : Bool) : (s.setEntBit k b on).nextId = s.nextId := rfl
@[simp] theorem State.setEntBit_live (s : State) (k b : Nat) (on : Bool) : (s.setEntBit k b on).live = s.live := rfl
@[simp] theorem State.setEntBit_host (s : State) (k b : Nat) (on : Bool) : (s.setEntBit k b on).host = s.host := rfl
@[simp] theorem State.setEntBit_rel (s : State) (k b : Nat) (on : Bool) : (s.setEntBit k b on).rel = s.rel := rfl
@[simp] theorem State.setEntBit_links (s : State) (k b : Nat) (on : Bool) : (s.setEntBit k b on).links = s.links := rfl
@[simp] theorem State.setEntBit_gtime (s : State) (k b : Nat) (on : Bool) : (s.setEntBit k b on).gtime = s.gtime := rfl
@[simp] theorem State.setEntBit_power (s : State) (k b : Nat) (on : Bool) : (s.setEntBit k b on).power = s.power := rfl
@[simp] theorem State.setEntBit_plat (s : State) (k b : Nat) (on : Bool) : (s.setEntBit k b on).plat = s.plat := rfl
@[simp] theorem State.setEntBit_tap (s : State) (k b : Nat) (on : Bool) : (s.setEntBit k b on).tap = s.tap := rfl

/-! ### bumpBy -/

@[simp] theorem State.bumpBy_pending (s : State) (k n : Nat) : (s.bumpBy k n).pending = s.pending := rfl
@[simp] theorem State.bumpBy_freeCtr (s : State) (k n : Nat) : (s.bumpBy k n).freeCtr = s.freeCtr := rfl
@[simp] theorem State.bumpBy_now (s : State) (k n : Nat) : (s.bumpBy k n).now = s.now := rfl
@[simp] theorem State.bumpBy_out (s : State) (k n : Nat) : (s.bumpBy k n).out = s.out := rfl
@[simp] theorem State.bumpBy_cores (s : State) (k n : Nat) : (s.bumpBy k n).cores = s.cores := rfl
@[simp] theorem State.bumpBy_grants (s : State) (k n : Nat) : (s.bumpBy k n).grants = s.grants := rfl
@[simp] theorem State.bumpBy_sync (s : State) (k n : Nat) : (s.bumpBy k n).sync = s.sync := rfl
@[simp] theorem State.bumpBy_mem (s : State) (k n : Nat) : (s.bumpBy k n).mem = s.mem := rfl
@[simp] theorem State.bumpBy_ctxs (s : State) (k n : Nat) : (s.bumpBy k n).ctxs = s.ctxs := rfl
@[simp] theorem State.bumpBy_parts (s : State) (k n : Nat) : (s.bumpBy k n).parts = s.parts := rfl
@[simp] theorem State.bumpBy_nextId (s : State) (k n : Nat) : (s.bumpBy k n).nextId = s.nextId := rfl
@[simp] theorem State.bumpBy_live (s : State) (k n : Nat) : (s.bumpBy k n).live = s.live := rfl
@[simp] theorem State.bumpBy_host (s : State) (k n : Nat) : (s.bumpBy k n).host = s.host := rfl
@[simp] theorem State.bumpBy_rel (s : State) (k n : Nat) : (s.bumpBy k n).rel = s.rel := rfl
@[simp] theorem State.bumpBy_links (s : State) (k n : Nat) : (s.bumpBy k n).links = s.links := rfl
@[simp] theorem State.bumpBy_gtime (s : State) (k n : Nat) : (s.bumpBy k n).gtime = s.gtime := rfl
@[simp] theorem State.bumpBy_power (s : State) (k n : Nat) : (s.bumpBy k n).power = s.power := rfl
@[simp] theorem State.bumpBy_plat (s : State) (k n : Nat) : (s.bumpBy k n).plat = s.plat := rfl
@[simp] theorem State.bumpBy_tap (s : State) (k n : Nat) : (s.bumpBy k n).tap = s.tap := rfl

/-! ### bump -/

@[simp] theorem State.bump_pending (s : State) (k : Nat) : (s.bump k).pending = s.pending := rfl
@[simp] theorem State.bump_freeCtr (s : State) (k : Nat) : (s.bump k).freeCtr = s.freeCtr := rfl
@[simp] theorem State.bump_now (s : State) (k : Nat) : (s.bump k).now = s.now := rfl
@[simp] theorem State.bump_out (s : State) (k : Nat) : (s.bump k).out = s.out := rfl
@[simp] theorem State.bump_cores (s : State) (k : Nat) : (s.bump k).cores = s.cores := rfl
@[simp] theorem State.bump_grants (s : State) (k : Nat) : (s.bump k).grants = s.grants := rfl
@[simp] theorem State.bump_sync (s : State) (k : Nat) : (s.bump k).sync = s.sync := rfl
@[simp] theorem State.bump_mem (s : State) (k : Nat) : (s.bump k).mem = s.mem := rfl
@[simp] theorem State.bump_ctxs (s : State) (k : Nat) : (s.bump k).ctxs = s.ctxs := rfl
@[simp] theorem State.bump_parts (s : State) (k : Nat) : (s.bump k).parts = s.parts := rfl
@[simp] theorem State.bump_nextId (s : State) (k : Nat) : (s.bump k).nextId = s.nextId := rfl
@[simp] theorem State.bump_live (s : State) (k : Nat) : (s.bump k).live = s.live := rfl
@[simp] theorem State.bump_host (s : State) (k : Nat) : (s.bump k).host = s.host := rfl
@[simp] theorem State.bump_rel (s : State) (k : Nat) : (s.bump k).rel = s.rel := rfl
@[simp] theorem State.bump_links (s : State) (k : Nat) : (s.bump k).links = s.links := rfl
@[simp] theorem State.bump_gtime (s : State) (k : Nat) : (s.bump k).gtime = s.gtime := rfl
@[simp] theorem State.bump_power (s : State) (k : Nat) : (s.bump k).power = s.power := rfl
@[simp] theorem State.bump_plat (s : State) (k : Nat) : (s.bump k).plat = s.plat := rfl
@[simp] theorem State.bump_tap (s : State) (k : Nat) : (s.bump k).tap = s.tap := rfl

/-! ### setCtx -/

@[simp] theorem State.setCtx_pending (s : State) (n : Nat) (c : Ctx) : (s.setCtx n c).pending = s.pending := rfl
@[simp] theorem State.setCtx_freeCtr (s : State) (n : Nat) (c : Ctx) : (s.setCtx n c).freeCtr = s.freeCtr := rfl
@[simp] theorem State.setCtx_now (s : State) (n : Nat) (c : Ctx) : (s.setCtx n c).now = s.now := rfl
@[simp] theorem State.setCtx_out (s : State) (n : Nat) (c : Ctx) : (s.setCtx n c).out = s.out := rfl
@[simp] theorem State.setCtx_cores (s : State) (n : Nat) (c : Ctx) : (s.setCtx n c).cores = s.cores := rfl
@[simp] theorem State.setCtx_grants (s : State) (n : Nat) (c : Ctx) : (s.setCtx n c).grants = s.grants := rfl
@[simp] theorem State.setCtx_sync (s : State) (n : Nat) (c : Ctx) : (s.setCtx n c).sync = s.sync := rfl
@[simp] theorem State.setCtx_mem (s : State) (n : Nat) (c : Ctx) : (s.setCtx n c).mem = s.mem := rfl
@[simp] theorem State.setCtx_parts (s : State) (n : Nat) (c : Ctx) : (s.setCtx n c).parts = s.parts := rfl
@[simp] theorem State.setCtx_nextId (s : State) (n : Nat) (c : Ctx) : (s.setCtx n c).nextId = s.nextId := rfl
@[simp] theorem State.setCtx_dict (s : State) (n : Nat) (c : Ctx) : (s.setCtx n c).dict = s.dict := rfl
@[simp] theorem State.setCtx_live (s : State) (n : Nat) (c : Ctx) : (s.setCtx n c).live = s.live := rfl
@[simp] theorem State.setCtx_host (s : State) (n : Nat) (c : Ctx) : (s.setCtx n c).host = s.host := rfl
@[simp] theorem State.setCtx_rel (s : State) (n : Nat) (c : Ctx) : (s.setCtx n c).rel = s.rel := rfl
@[simp] theorem State.setCtx_links (s : State) (n : Nat) (c : Ctx) : (s.setCtx n c).links = s.links := rfl
@[simp] theorem State.setCtx_gtime (s : State) (n : Nat) (c : Ctx) : (s.setCtx n c).gtime = s.gtime := rfl
@[simp] theorem State.setCtx_power (s : State) (n : Nat) (c : Ctx) : (s.setCtx n c).power = s.power := rfl
@[simp] theorem State.setCtx_plat (s : State) (n : Nat) (c : Ctx) : (s.setCtx n c).plat = s.plat := rfl
@[simp] theorem State.setCtx_tap (s : State) (n : Nat) (c : Ctx) : (s.setCtx n c).tap = s.tap := rfl

/-! ### modCtx -/

@[simp] theorem State.modCtx_pending (s : State) (n : Nat) (f : Ctx → Ctx) : (s.modCtx n f).pending = s.pending := rfl
@[simp] theorem State.modCtx_freeCtr (s : State) (n : Nat) (f : Ctx → Ctx) : (s.modCtx n f).freeCtr = s.freeCtr := rfl
@[simp] theorem State.modCtx_now (s : State) (n : Nat) (f : Ctx → Ctx) : (s.modCtx n f).now = s.now := rfl
@[simp] theorem State.modCtx_out (s : State) (n : Nat) (f : Ctx → Ctx) : (s.modCtx n f).out = s.out := rfl
@[simp] theorem State.modCtx_cores (s : State) (n : Nat) (f : Ctx → Ctx) : (s.modCtx n f).cores = s.cores := rfl
@[simp] theorem State.modCtx_grants (s : State) (n : Nat) (f : Ctx → Ctx) : (s.modCtx n f).grants = s.grants := rfl
@[simp] theorem State.modCtx_sync (s : State) (n : Nat) (f : Ctx → Ctx) : (s.modCtx n f).sync = s.sync := rfl
@[simp] theorem State.modCtx_mem (s : State) (n : Nat) (f : Ctx → Ctx) : (s.modCtx n f).mem = s.mem := rfl
@[simp] theorem State.modCtx_parts (s : State) (n : Nat) (f : Ctx → Ctx) : (s.modCtx n f).parts = s.parts := rfl
@[simp] theorem State.modCtx_nextId (s : State) (n : Nat) (f : Ctx → Ctx) : (s.modCtx n f).nextId = s.nextId := rfl
@[simp] theorem State.modCtx_dict (s : State) (n : Nat) (f : Ctx → Ctx) : (s.modCtx n f).dict = s.dict := rfl
@[simp] theorem State.modCtx_live (s : State) (n : Nat) (f : Ctx → Ctx) : (s.modCtx n f).live = s.live := rfl
@[simp] theorem State.modCtx_host (s : State) (n : Nat) (f : Ctx → Ctx) : (s.modCtx n f).host = s.host := rfl
@[simp] theorem State.modCtx_rel (s : State) (n : Nat) (f : Ctx → Ctx) : (s.modCtx n f).rel = s.rel := rfl
@[simp] theorem State.modCtx_links (s : State) (n : Nat) (f : Ctx → Ctx) : (s.modCtx n f).links = s.links := rfl
@[simp] theorem State.modCtx_gtime (s : State) (n : Nat) (f : Ctx → Ctx) : (s.modCtx n f).gtime = s.gtime := rfl
@[simp] theorem State.modCtx_power (s : State) (n : Nat) (f : Ctx → Ctx) : (s.modCtx n f).power = s.power := rfl
@[simp] theorem State.modCtx_plat (s : State) (n : Nat) (f : Ctx → Ctx) : (s.modCtx n f).plat = s.plat := rfl
@[simp] theorem State.modCtx_tap (s : State) (n : Nat) (f : Ctx → Ctx) : (s.modCtx n f).tap = s.tap := rfl

/-! ### setPart -/

@[simp] theorem State.setPart_pending (s : State) (k : Nat) (p : Part) : (s.setPart k p).pending = s.pending := rfl
@[simp] theorem State.setPart_freeCtr (s : State) (k : Nat) (p : Part) : (s.setPart k p).freeCtr = s.freeCtr := rfl
@[simp] theorem State.setPart_now (s : State) (k : Nat) (p : Part) : (s.setPart k p).now = s.now := rfl
@[simp] theorem State.setPart_out (s : State) (k : Nat) (p : Part) : (s.setPart k p).out = s.out := rfl
@[simp] theorem State.setPart_cores (s : State) (k : Nat) (p : Part) : (s.setPart k p).cores = s.cores := rfl
@[simp] theorem State.setPart_grants (s : State) (k : Nat) (p : Part) : (s.setPart k p).grants = s.grants := rfl
@[simp] theorem State.setPart_sync (s : State) (k : Nat) (p : Part) : (s.setPart k p).sync = s.sync := rfl
@[simp] theorem State.setPart_mem (s : State) (k : Nat) (p : Part) : (s.setPart k p).mem = s.mem := rfl
@[simp] theorem State.setPart_ctxs (s : State) (k : Nat) (p : Part) : (s.setPart k p).ctxs = s.ctxs := rfl
@[simp] theorem State.setPart_nextId (s : State) (k : Nat) (p : Part) : (s.setPart k p).nextId = s.nextId := rfl
@[simp] theorem State.setPart_dict (s : State) (k : Nat) (p : Part) : (s.setPart k p).dict = s.dict := rfl
@[simp] theorem State.setPart_live (s : State) (k : Nat) (p : Part) : (s.setPart k p).live = s.live := rfl
@[simp] theorem State.setPart_host (s : State) (k : Nat) (p : Part) : (s.setPart k p).host = s.host := rfl
@[simp] theorem State.setPart_rel (s : State) (k : Nat) (p : Part) : (s.setPart k p).rel = s.rel := rfl
@[simp] theorem State.setPart_links (s : State) (k : Nat) (p : Part) : (s.setPart k p).links = s.links := rfl
@[simp] theorem State.setPart_gtime (s : State) (k : Nat) (p : Part) : (s.setPart k p).gtime = s.gtime := rfl
@[simp] theorem State.setPart_power (s : State) (k : Nat) (p : Part) : (s.setPart k p).power = s.power := rfl
@[simp] theorem State.setPart_plat (s : State) (k : Nat) (p : Part) : (s.setPart k p).plat = s.plat := rfl
@[simp] theorem State.setPart_tap (s : State) (k : Nat) (p : Part) : (s.setPart k p).tap = s.tap := rfl

/-! ### modPart -/

@[simp] theorem State.modPart_pending (s : State) (k : Nat) (f : Part → Part) : (s.modPart k f).pending = s.pending := rfl
@[simp] theorem State.modPart_freeCtr (s : State) (k : Nat) (f : Part → Part) : (s.modPart k f).freeCtr = s.freeCtr := rfl
@[simp] theorem State.modPart_now (s : State) (k : Nat) (f : Part → Part) : (s.modPart k f).now = s.now := rfl
@[simp] theorem State.modPart_out (s : State) (k : Nat) (f : Part → Part) : (s.modPart k f).out = s.out := rfl
@[simp] theorem State.modPart_cores (s : State) (k : Nat) (f : Part → Part) : (s.modPart k f).cores = s.cores := rfl
@[simp] theorem State.modPart_grants (s : State) (k : Nat) (f : Part → Part) : (s.modPart k f).grants = s.grants := rfl
@[simp] theorem State.modPart_sync (s : State) (k : Nat) (f : Part → Part) : (s.modPart k f).sync = s.sync := rfl
@[simp] theorem State.modPart_mem (s : State) (k : Nat) (f : Part → Part) : (s.modPart k f).mem = s.mem := rfl
@[simp] theorem State.modPart_ctxs (s : State) (k : Nat) (f : Part → Part) : (s.modPart k f).ctxs = s.ctxs := rfl
@[simp] theorem State.modPart_nextId (s : State) (k : Nat) (f : Part → Part) : (s.modPart k f).nextId = s.nextId := rfl
@[simp] theorem State.modPart_dict (s : State) (k : Nat) (f : Part → Part) : (s.modPart k f).dict = s.dict := rfl
@[simp] theorem State.modPart_live (s : State) (k : Nat) (f : Part → Part) : (s.modPart k f).live = s.live := rfl
@[simp] theorem State.modPart_host (s : State) (k : Nat) (f : Part → Part) : (s.modPart k f).host = s.host := rfl
@[simp] theorem State.modPart_rel (s : State) (k : Nat) (f : Part → Part) : (s.modPart k f).rel = s.rel := rfl
@[simp] theorem State.modPart_links (s : State) (k : Nat) (f : Part → Part) : (s.modPart k f).links = s.links := rfl
@[simp] theorem State.modPart_gtime (s : State) (k : Nat) (f : Part → Part) : (s.modPart k f).gtime = s.gtime := rfl
@[simp] theorem State.modPart_power (s : State) (k : Nat) (f : Part → Part) : (s.modPart k f).power = s.power := rfl
@[simp] theorem State.modPart_plat (s : State) (k : Nat) (f : Part → Part) : (s.modPart k f).plat = s.plat := rfl
@[simp] theorem State.modPart_tap (s : State) (k : Nat) (f : Part → Part) : (s.modPart k f).tap = s.tap := rfl

/-! ### setCore -/

@[simp] theorem State.setCore_pending (s : State) (k : Nat) (c : Core) : (s.setCore k c).pending = s.pending := rfl
@[simp] theorem State.setCore_freeCtr (s : State) (k : Nat) (c : Core) : (s.setCore k c).freeCtr = s.freeCtr := rfl
@[simp] theorem State.setCore_now (s : State) (k : Nat) (c : Core) : (s.setCore k c).now = s.now := rfl
@[simp] theorem State.setCore_out (s : State) (k : Nat) (c : Core) : (s.setCore k c).out = s.out := rfl
@[simp] theorem State.setCore_grants (s : State) (k : Nat) (c : Core) : (s.setCore k c).grants = s.grants := rfl
@[simp] theorem State.setCore_sync (s : State) (k : Nat) (c : Core) : (s.setCore k c).sync = s.sync := rfl
@[simp] theorem State.setCore_mem (s : State) (k : Nat) (c : Core) : (s.setCore k c).mem = s.mem := rfl
@[simp] theorem State.setCore_ctxs (s : State) (k : Nat) (c : Core) : (s.setCore k c).ctxs = s.ctxs := rfl
@[simp] theorem State.setCore_parts (s : State) (k : Nat) (c : Core) : (s.setCore k c).parts = s.parts := rfl
@[simp] theorem State.setCore_nextId (s : State) (k : Nat) (c : Core) : (s.setCore k c).nextId = s.nextId := rfl
@[simp] theorem State.setCore_dict (s : State) (k : Nat) (c : Core) : (s.setCore k c).dict = s.dict := rfl
@[simp] theorem State.setCore_live (s : State) (k : Nat) (c : Core) : (s.setCore k c).live = s.live := rfl
@[simp] theorem State.setCore_host (s : State) (k : Nat) (c : Core) : (s.setCore k c).host = s.host := rfl
@[simp] theorem State.setCore_rel (s : State) (k : Nat) (c : Core) : (s.setCore k c).rel = s.rel := rfl
@[simp] theorem State.setCore_links (s : State) (k : Nat) (c : Core) : (s.setCore k c).links = s.links := rfl
@[simp] theorem State.setCore_gtime (s : State) (k : Nat) (c : Core) : (s.setCore k c).gtime = s.gtime := rfl
@[simp] theorem State.setCore_power (s : State) (k : Nat) (c : Core) : (s.setCore k c).power = s.power := rfl
@[simp] theorem State.setCore_plat (s : State) (k : Nat) (c : Core) : (s.setCore k c).plat = s.plat := rfl
@[simp] theorem State.setCore_tap (s : State) (k : Nat) (c : Core) : (s.setCore k c).tap = s.tap := rfl

/-! ### modCore -/

@[simp] theorem State.modCore_pending (s : State) (k : Nat) (f : Core → Core) : (s.modCore k f).pending = s.pending := rfl
@[simp] theorem State.modCore_freeCtr (s : State) (k : Nat) (f : Core → Core) : (s.modCore k f).freeCtr = s.freeCtr := rfl
@[simp] theorem State.modCore_now (s : State) (k : Nat) (f : Core → Core) : (s.modCore k f).now = s.now := rfl
@[simp] theorem State.modCore_out (s : State) (k : Nat) (f : Core → Core) : (s.modCore k f).out = s.out := rfl
@[simp] theorem State.modCore_grants (s : State) (k : Nat) (f : Core → Core) : (s.modCore k f).grants = s.grants := rfl
@[simp] theorem State.modCore_sync (s : State) (k : Nat) (f : Core → Core) : (s.modCore k f).sync = s.sync := rfl
@[simp] theorem State.modCore_mem (s : State) (k : Nat) (f : Core → Core) : (s.modCore k f).mem = s.mem := rfl
@[simp] theorem State.modCore_ctxs (s : State) (k : Nat) (f : Core → Core) : (s.modCore k f).ctxs = s.ctxs := rfl
@[simp] theorem State.modCore_parts (s : State) (k : Nat) (f : Core → Core) : (s.modCore k f).parts = s.parts := rfl
@[simp] theorem State.modCore_nextId (s : State) (k : Nat) (f : Core → Core) : (s.modCore k f).nextId = s.nextId := rfl
@[simp] theorem State.modCore_dict (s : State) (k : Nat) (f : Core → Core) : (s.modCore k f).dict = s.dict := rfl
@[simp] theorem State.modCore_live (s : State) (k : Nat) (f : Core → Core) : (s.modCore k f).live = s.live := rfl
@[simp] theorem State.modCore_host (s : State) (k : Nat) (f : Core → Core) : (s.modCore k f).host = s.host := rfl
@[simp] theorem State.modCore_rel (s : State) (k : Nat) (f : Core → Core) : (s.modCore k f).rel = s.rel := rfl
@[simp] theorem State.modCore_links (s : State) (k : Nat) (f : Core → Core) : (s.modCore k f).links = s.links := rfl
@[simp] theorem State.modCore_gtime (s : State) (k : Nat) (f : Core → Core) : (s.modCore k f).gtime = s.gtime := rfl
@[simp] theorem State.modCore_power (s : State) (k : Nat) (f : Core → Core) : (s.modCore k f).power = s.power := rfl
@[simp] theorem State.modCore_plat (s : State) (k : Nat) (f : Core → Core) : (s.modCore k f).plat = s.plat := rfl
@[simp] theorem State.modCore_tap (s : State) (k : Nat) (f : Core → Core) : (s.modCore k f).tap = s.tap := rfl

/-! ### setWord -/

@[simp] theorem State.setWord_pending (s : State) (k : Nat) (w : SyncWord) : (s.setWord k w).pending = s.pending := rfl
@[simp] theorem State.setWord_freeCtr (s : State) (k : Nat) (w : SyncWord) : (s.setWord k w).freeCtr = s.freeCtr := rfl
@[simp] theorem State.setWord_now (s : State) (k : Nat) (w : SyncWord) : (s.setWord k w).now = s.now := rfl
@[simp] theorem State.setWord_out (s : State) (k : Nat) (w : SyncWord) : (s.setWord k w).out = s.out := rfl
@[simp] theorem State.setWord_cores (s : State) (k : Nat) (w : SyncWord) : (s.setWord k w).cores = s.cores := rfl
@[simp] theorem State.setWord_grants (s : State) (k : Nat) (w : SyncWord) : (s.setWord k w).grants = s.grants := rfl
@[simp] theorem State.setWord_mem (s : State) (k : Nat) (w : SyncWord) : (s.setWord k w).mem = s.mem := rfl
@[simp] theorem State.setWord_ctxs (s : State) (k : Nat) (w : SyncWord) : (s.setWord k w).ctxs = s.ctxs := rfl
@[simp] theorem State.setWord_parts (s : State) (k : Nat) (w : SyncWord) : (s.setWord k w).parts = s.parts := rfl
@[simp] theorem State.setWord_nextId (s : State) (k : Nat) (w : SyncWord) : (s.setWord k w).nextId = s.nextId := rfl
@[simp] theorem State.setWord_dict (s : State) (k : Nat) (w : SyncWord) : (s.setWord k w).dict = s.dict := rfl
@[simp] theorem State.setWord_live (s : State) (k : Nat) (w : SyncWord) : (s.setWord k w).live = s.live := rfl
@[simp] theorem State.setWord_host (s : State) (k : Nat) (w : SyncWord) : (s.setWord k w).host = s.host := rfl
@[simp] theorem State.setWord_rel (s : State) (k : Nat) (w : SyncWord) : (s.setWord k w).rel = s.rel := rfl
@[simp] theorem State.setWord_links (s : State) (k : Nat) (w : SyncWord) : (s.setWord k w).links = s.links := rfl
@[simp] theorem State.setWord_gtime (s : State) (k : Nat) (w : SyncWord) : (s.setWord k w).gtime = s.gtime := rfl
@[simp] theorem State.setWord_power (s : State) (k : Nat) (w : SyncWord) : (s.setWord k w).power = s.power := rfl
@[simp] theorem State.setWord_plat (s : State) (k : Nat) (w : SyncWord) : (s.setWord k w).plat = s.plat := rfl
@[simp] theorem State.setWord_tap (s : State) (k : Nat) (w : SyncWord) : (s.setWord k w).tap = s.tap := rfl

/-! ### setArm -/

@[simp] theorem State.setArm_pending (s : State) (k : Nat) (a : ArmSlot) : (s.setArm k a).pending = s.pending := rfl
@[simp] theorem State.setArm_freeCtr (s : State) (k : Nat) (a : ArmSlot) : (s.setArm k a).freeCtr = s.freeCtr := rfl
@[simp] theorem State.setArm_now (s : State) (k : Nat) (a : ArmSlot) : (s.setArm k a).now = s.now := rfl
@[simp] theorem State.setArm_out (s : State) (k : Nat) (a : ArmSlot) : (s.setArm k a).out = s.out := rfl
@[simp] theorem State.setArm_cores (s : State) (k : Nat) (a : ArmSlot) : (s.setArm k a).cores = s.cores := rfl
@[simp] theorem State.setArm_grants (s : State) (k : Nat) (a : ArmSlot) : (s.setArm k a).grants = s.grants := rfl
@[simp] theorem State.setArm_mem (s : State) (k : Nat) (a : ArmSlot) : (s.setArm k a).mem = s.mem := rfl
@[simp] theorem State.setArm_ctxs (s : State) (k : Nat) (a : ArmSlot) : (s.setArm k a).ctxs = s.ctxs := rfl
@[simp] theorem State.setArm_parts (s : State) (k : Nat) (a : ArmSlot) : (s.setArm k a).parts = s.parts := rfl
@[simp] theorem State.setArm_nextId (s : State) (k : Nat) (a : ArmSlot) : (s.setArm k a).nextId = s.nextId := rfl
@[simp] theorem State.setArm_dict (s : State) (k : Nat) (a : ArmSlot) : (s.setArm k a).dict = s.dict := rfl
@[simp] theorem State.setArm_live (s : State) (k : Nat) (a : ArmSlot) : (s.setArm k a).live = s.live := rfl
@[simp] theorem State.setArm_host (s : State) (k : Nat) (a : ArmSlot) : (s.setArm k a).host = s.host := rfl
@[simp] theorem State.setArm_rel (s : State) (k : Nat) (a : ArmSlot) : (s.setArm k a).rel = s.rel := rfl
@[simp] theorem State.setArm_links (s : State) (k : Nat) (a : ArmSlot) : (s.setArm k a).links = s.links := rfl
@[simp] theorem State.setArm_gtime (s : State) (k : Nat) (a : ArmSlot) : (s.setArm k a).gtime = s.gtime := rfl
@[simp] theorem State.setArm_power (s : State) (k : Nat) (a : ArmSlot) : (s.setArm k a).power = s.power := rfl
@[simp] theorem State.setArm_plat (s : State) (k : Nat) (a : ArmSlot) : (s.setArm k a).plat = s.plat := rfl
@[simp] theorem State.setArm_tap (s : State) (k : Nat) (a : ArmSlot) : (s.setArm k a).tap = s.tap := rfl

/-! ### setFn -/

@[simp] theorem State.setFn_pending (s : State) (f off v : Nat) : (s.setFn f off v).pending = s.pending := rfl
@[simp] theorem State.setFn_freeCtr (s : State) (f off v : Nat) : (s.setFn f off v).freeCtr = s.freeCtr := rfl
@[simp] theorem State.setFn_now (s : State) (f off v : Nat) : (s.setFn f off v).now = s.now := rfl
@[simp] theorem State.setFn_out (s : State) (f off v : Nat) : (s.setFn f off v).out = s.out := rfl
@[simp] theorem State.setFn_cores (s : State) (f off v : Nat) : (s.setFn f off v).cores = s.cores := rfl
@[simp] theorem State.setFn_grants (s : State) (f off v : Nat) : (s.setFn f off v).grants = s.grants := rfl
@[simp] theorem State.setFn_sync (s : State) (f off v : Nat) : (s.setFn f off v).sync = s.sync := rfl
@[simp] theorem State.setFn_mem (s : State) (f off v : Nat) : (s.setFn f off v).mem = s.mem := rfl
@[simp] theorem State.setFn_ctxs (s : State) (f off v : Nat) : (s.setFn f off v).ctxs = s.ctxs := rfl
@[simp] theorem State.setFn_parts (s : State) (f off v : Nat) : (s.setFn f off v).parts = s.parts := rfl
@[simp] theorem State.setFn_nextId (s : State) (f off v : Nat) : (s.setFn f off v).nextId = s.nextId := rfl
@[simp] theorem State.setFn_dict (s : State) (f off v : Nat) : (s.setFn f off v).dict = s.dict := rfl
@[simp] theorem State.setFn_live (s : State) (f off v : Nat) : (s.setFn f off v).live = s.live := rfl
@[simp] theorem State.setFn_rel (s : State) (f off v : Nat) : (s.setFn f off v).rel = s.rel := rfl
@[simp] theorem State.setFn_links (s : State) (f off v : Nat) : (s.setFn f off v).links = s.links := rfl
@[simp] theorem State.setFn_gtime (s : State) (f off v : Nat) : (s.setFn f off v).gtime = s.gtime := rfl
@[simp] theorem State.setFn_power (s : State) (f off v : Nat) : (s.setFn f off v).power = s.power := rfl
@[simp] theorem State.setFn_plat (s : State) (f off v : Nat) : (s.setFn f off v).plat = s.plat := rfl
@[simp] theorem State.setFn_tap (s : State) (f off v : Nat) : (s.setFn f off v).tap = s.tap := rfl

/-! ### setPg -/

@[simp] theorem State.setPg_pending (s : State) (n off v : Nat) : (s.setPg n off v).pending = s.pending := rfl
@[simp] theorem State.setPg_freeCtr (s : State) (n off v : Nat) : (s.setPg n off v).freeCtr = s.freeCtr := rfl
@[simp] theorem State.setPg_now (s : State) (n off v : Nat) : (s.setPg n off v).now = s.now := rfl
@[simp] theorem State.setPg_out (s : State) (n off v : Nat) : (s.setPg n off v).out = s.out := rfl
@[simp] theorem State.setPg_cores (s : State) (n off v : Nat) : (s.setPg n off v).cores = s.cores := rfl
@[simp] theorem State.setPg_grants (s : State) (n off v : Nat) : (s.setPg n off v).grants = s.grants := rfl
@[simp] theorem State.setPg_sync (s : State) (n off v : Nat) : (s.setPg n off v).sync = s.sync := rfl
@[simp] theorem State.setPg_mem (s : State) (n off v : Nat) : (s.setPg n off v).mem = s.mem := rfl
@[simp] theorem State.setPg_ctxs (s : State) (n off v : Nat) : (s.setPg n off v).ctxs = s.ctxs := rfl
@[simp] theorem State.setPg_parts (s : State) (n off v : Nat) : (s.setPg n off v).parts = s.parts := rfl
@[simp] theorem State.setPg_nextId (s : State) (n off v : Nat) : (s.setPg n off v).nextId = s.nextId := rfl
@[simp] theorem State.setPg_dict (s : State) (n off v : Nat) : (s.setPg n off v).dict = s.dict := rfl
@[simp] theorem State.setPg_live (s : State) (n off v : Nat) : (s.setPg n off v).live = s.live := rfl
@[simp] theorem State.setPg_rel (s : State) (n off v : Nat) : (s.setPg n off v).rel = s.rel := rfl
@[simp] theorem State.setPg_links (s : State) (n off v : Nat) : (s.setPg n off v).links = s.links := rfl
@[simp] theorem State.setPg_gtime (s : State) (n off v : Nat) : (s.setPg n off v).gtime = s.gtime := rfl
@[simp] theorem State.setPg_power (s : State) (n off v : Nat) : (s.setPg n off v).power = s.power := rfl
@[simp] theorem State.setPg_plat (s : State) (n off v : Nat) : (s.setPg n off v).plat = s.plat := rfl
@[simp] theorem State.setPg_tap (s : State) (n off v : Nat) : (s.setPg n off v).tap = s.tap := rfl

/-! ### setPba -/

@[simp] theorem State.setPba_pending (s : State) (f v : Nat) : (s.setPba f v).pending = s.pending := rfl
@[simp] theorem State.setPba_freeCtr (s : State) (f v : Nat) : (s.setPba f v).freeCtr = s.freeCtr := rfl
@[simp] theorem State.setPba_now (s : State) (f v : Nat) : (s.setPba f v).now = s.now := rfl
@[simp] theorem State.setPba_out (s : State) (f v : Nat) : (s.setPba f v).out = s.out := rfl
@[simp] theorem State.setPba_cores (s : State) (f v : Nat) : (s.setPba f v).cores = s.cores := rfl
@[simp] theorem State.setPba_grants (s : State) (f v : Nat) : (s.setPba f v).grants = s.grants := rfl
@[simp] theorem State.setPba_sync (s : State) (f v : Nat) : (s.setPba f v).sync = s.sync := rfl
@[simp] theorem State.setPba_mem (s : State) (f v : Nat) : (s.setPba f v).mem = s.mem := rfl
@[simp] theorem State.setPba_ctxs (s : State) (f v : Nat) : (s.setPba f v).ctxs = s.ctxs := rfl
@[simp] theorem State.setPba_parts (s : State) (f v : Nat) : (s.setPba f v).parts = s.parts := rfl
@[simp] theorem State.setPba_nextId (s : State) (f v : Nat) : (s.setPba f v).nextId = s.nextId := rfl
@[simp] theorem State.setPba_dict (s : State) (f v : Nat) : (s.setPba f v).dict = s.dict := rfl
@[simp] theorem State.setPba_live (s : State) (f v : Nat) : (s.setPba f v).live = s.live := rfl
@[simp] theorem State.setPba_rel (s : State) (f v : Nat) : (s.setPba f v).rel = s.rel := rfl
@[simp] theorem State.setPba_links (s : State) (f v : Nat) : (s.setPba f v).links = s.links := rfl
@[simp] theorem State.setPba_gtime (s : State) (f v : Nat) : (s.setPba f v).gtime = s.gtime := rfl
@[simp] theorem State.setPba_power (s : State) (f v : Nat) : (s.setPba f v).power = s.power := rfl
@[simp] theorem State.setPba_plat (s : State) (f v : Nat) : (s.setPba f v).plat = s.plat := rfl
@[simp] theorem State.setPba_tap (s : State) (f v : Nat) : (s.setPba f v).tap = s.tap := rfl

/-! ### emit -/

@[simp] theorem State.emit_pending (s : State) (o : Out) : (s.emit o).pending = s.pending := rfl
@[simp] theorem State.emit_freeCtr (s : State) (o : Out) : (s.emit o).freeCtr = s.freeCtr := rfl
@[simp] theorem State.emit_now (s : State) (o : Out) : (s.emit o).now = s.now := rfl
@[simp] theorem State.emit_cores (s : State) (o : Out) : (s.emit o).cores = s.cores := rfl
@[simp] theorem State.emit_grants (s : State) (o : Out) : (s.emit o).grants = s.grants := rfl
@[simp] theorem State.emit_sync (s : State) (o : Out) : (s.emit o).sync = s.sync := rfl
@[simp] theorem State.emit_mem (s : State) (o : Out) : (s.emit o).mem = s.mem := rfl
@[simp] theorem State.emit_ctxs (s : State) (o : Out) : (s.emit o).ctxs = s.ctxs := rfl
@[simp] theorem State.emit_parts (s : State) (o : Out) : (s.emit o).parts = s.parts := rfl
@[simp] theorem State.emit_nextId (s : State) (o : Out) : (s.emit o).nextId = s.nextId := rfl
@[simp] theorem State.emit_dict (s : State) (o : Out) : (s.emit o).dict = s.dict := rfl
@[simp] theorem State.emit_live (s : State) (o : Out) : (s.emit o).live = s.live := rfl
@[simp] theorem State.emit_host (s : State) (o : Out) : (s.emit o).host = s.host := rfl
@[simp] theorem State.emit_rel (s : State) (o : Out) : (s.emit o).rel = s.rel := rfl
@[simp] theorem State.emit_links (s : State) (o : Out) : (s.emit o).links = s.links := rfl
@[simp] theorem State.emit_gtime (s : State) (o : Out) : (s.emit o).gtime = s.gtime := rfl
@[simp] theorem State.emit_power (s : State) (o : Out) : (s.emit o).power = s.power := rfl
@[simp] theorem State.emit_plat (s : State) (o : Out) : (s.emit o).plat = s.plat := rfl
@[simp] theorem State.emit_tap (s : State) (o : Out) : (s.emit o).tap = s.tap := rfl

/-! ### modMem -/

@[simp] theorem State.modMem_pending (s : State) (f : Mem → Mem) : (s.modMem f).pending = s.pending := rfl
@[simp] theorem State.modMem_freeCtr (s : State) (f : Mem → Mem) : (s.modMem f).freeCtr = s.freeCtr := rfl
@[simp] theorem State.modMem_now (s : State) (f : Mem → Mem) : (s.modMem f).now = s.now := rfl
@[simp] theorem State.modMem_out (s : State) (f : Mem → Mem) : (s.modMem f).out = s.out := rfl
@[simp] theorem State.modMem_cores (s : State) (f : Mem → Mem) : (s.modMem f).cores = s.cores := rfl
@[simp] theorem State.modMem_grants (s : State) (f : Mem → Mem) : (s.modMem f).grants = s.grants := rfl
@[simp] theorem State.modMem_sync (s : State) (f : Mem → Mem) : (s.modMem f).sync = s.sync := rfl
@[simp] theorem State.modMem_ctxs (s : State) (f : Mem → Mem) : (s.modMem f).ctxs = s.ctxs := rfl
@[simp] theorem State.modMem_parts (s : State) (f : Mem → Mem) : (s.modMem f).parts = s.parts := rfl
@[simp] theorem State.modMem_nextId (s : State) (f : Mem → Mem) : (s.modMem f).nextId = s.nextId := rfl
@[simp] theorem State.modMem_dict (s : State) (f : Mem → Mem) : (s.modMem f).dict = s.dict := rfl
@[simp] theorem State.modMem_live (s : State) (f : Mem → Mem) : (s.modMem f).live = s.live := rfl
@[simp] theorem State.modMem_host (s : State) (f : Mem → Mem) : (s.modMem f).host = s.host := rfl
@[simp] theorem State.modMem_rel (s : State) (f : Mem → Mem) : (s.modMem f).rel = s.rel := rfl
@[simp] theorem State.modMem_links (s : State) (f : Mem → Mem) : (s.modMem f).links = s.links := rfl
@[simp] theorem State.modMem_gtime (s : State) (f : Mem → Mem) : (s.modMem f).gtime = s.gtime := rfl
@[simp] theorem State.modMem_power (s : State) (f : Mem → Mem) : (s.modMem f).power = s.power := rfl
@[simp] theorem State.modMem_plat (s : State) (f : Mem → Mem) : (s.modMem f).plat = s.plat := rfl
@[simp] theorem State.modMem_tap (s : State) (f : Mem → Mem) : (s.modMem f).tap = s.tap := rfl

/-! ### setMailbox -/

@[simp] theorem State.setMailbox_pending (s : State) (f : Nat) (m : Mailbox) : (s.setMailbox f m).pending = s.pending := rfl
@[simp] theorem State.setMailbox_freeCtr (s : State) (f : Nat) (m : Mailbox) : (s.setMailbox f m).freeCtr = s.freeCtr := rfl
@[simp] theorem State.setMailbox_now (s : State) (f : Nat) (m : Mailbox) : (s.setMailbox f m).now = s.now := rfl
@[simp] theorem State.setMailbox_out (s : State) (f : Nat) (m : Mailbox) : (s.setMailbox f m).out = s.out := rfl
@[simp] theorem State.setMailbox_cores (s : State) (f : Nat) (m : Mailbox) : (s.setMailbox f m).cores = s.cores := rfl
@[simp] theorem State.setMailbox_grants (s : State) (f : Nat) (m : Mailbox) : (s.setMailbox f m).grants = s.grants := rfl
@[simp] theorem State.setMailbox_sync (s : State) (f : Nat) (m : Mailbox) : (s.setMailbox f m).sync = s.sync := rfl
@[simp] theorem State.setMailbox_mem (s : State) (f : Nat) (m : Mailbox) : (s.setMailbox f m).mem = s.mem := rfl
@[simp] theorem State.setMailbox_ctxs (s : State) (f : Nat) (m : Mailbox) : (s.setMailbox f m).ctxs = s.ctxs := rfl
@[simp] theorem State.setMailbox_parts (s : State) (f : Nat) (m : Mailbox) : (s.setMailbox f m).parts = s.parts := rfl
@[simp] theorem State.setMailbox_nextId (s : State) (f : Nat) (m : Mailbox) : (s.setMailbox f m).nextId = s.nextId := rfl
@[simp] theorem State.setMailbox_dict (s : State) (f : Nat) (m : Mailbox) : (s.setMailbox f m).dict = s.dict := rfl
@[simp] theorem State.setMailbox_live (s : State) (f : Nat) (m : Mailbox) : (s.setMailbox f m).live = s.live := rfl
@[simp] theorem State.setMailbox_rel (s : State) (f : Nat) (m : Mailbox) : (s.setMailbox f m).rel = s.rel := rfl
@[simp] theorem State.setMailbox_links (s : State) (f : Nat) (m : Mailbox) : (s.setMailbox f m).links = s.links := rfl
@[simp] theorem State.setMailbox_gtime (s : State) (f : Nat) (m : Mailbox) : (s.setMailbox f m).gtime = s.gtime := rfl
@[simp] theorem State.setMailbox_power (s : State) (f : Nat) (m : Mailbox) : (s.setMailbox f m).power = s.power := rfl
@[simp] theorem State.setMailbox_plat (s : State) (f : Nat) (m : Mailbox) : (s.setMailbox f m).plat = s.plat := rfl
@[simp] theorem State.setMailbox_tap (s : State) (f : Nat) (m : Mailbox) : (s.setMailbox f m).tap = s.tap := rfl

/-! ### setMemq -/

@[simp] theorem State.setMemq_pending (s : State) (f : Nat) (q : MemQ) : (s.setMemq f q).pending = s.pending := rfl
@[simp] theorem State.setMemq_freeCtr (s : State) (f : Nat) (q : MemQ) : (s.setMemq f q).freeCtr = s.freeCtr := rfl
@[simp] theorem State.setMemq_now (s : State) (f : Nat) (q : MemQ) : (s.setMemq f q).now = s.now := rfl
@[simp] theorem State.setMemq_out (s : State) (f : Nat) (q : MemQ) : (s.setMemq f q).out = s.out := rfl
@[simp] theorem State.setMemq_cores (s : State) (f : Nat) (q : MemQ) : (s.setMemq f q).cores = s.cores := rfl
@[simp] theorem State.setMemq_grants (s : State) (f : Nat) (q : MemQ) : (s.setMemq f q).grants = s.grants := rfl
@[simp] theorem State.setMemq_sync (s : State) (f : Nat) (q : MemQ) : (s.setMemq f q).sync = s.sync := rfl
@[simp] theorem State.setMemq_mem (s : State) (f : Nat) (q : MemQ) : (s.setMemq f q).mem = s.mem := rfl
@[simp] theorem State.setMemq_ctxs (s : State) (f : Nat) (q : MemQ) : (s.setMemq f q).ctxs = s.ctxs := rfl
@[simp] theorem State.setMemq_parts (s : State) (f : Nat) (q : MemQ) : (s.setMemq f q).parts = s.parts := rfl
@[simp] theorem State.setMemq_nextId (s : State) (f : Nat) (q : MemQ) : (s.setMemq f q).nextId = s.nextId := rfl
@[simp] theorem State.setMemq_dict (s : State) (f : Nat) (q : MemQ) : (s.setMemq f q).dict = s.dict := rfl
@[simp] theorem State.setMemq_live (s : State) (f : Nat) (q : MemQ) : (s.setMemq f q).live = s.live := rfl
@[simp] theorem State.setMemq_rel (s : State) (f : Nat) (q : MemQ) : (s.setMemq f q).rel = s.rel := rfl
@[simp] theorem State.setMemq_links (s : State) (f : Nat) (q : MemQ) : (s.setMemq f q).links = s.links := rfl
@[simp] theorem State.setMemq_gtime (s : State) (f : Nat) (q : MemQ) : (s.setMemq f q).gtime = s.gtime := rfl
@[simp] theorem State.setMemq_power (s : State) (f : Nat) (q : MemQ) : (s.setMemq f q).power = s.power := rfl
@[simp] theorem State.setMemq_plat (s : State) (f : Nat) (q : MemQ) : (s.setMemq f q).plat = s.plat := rfl
@[simp] theorem State.setMemq_tap (s : State) (f : Nat) (q : MemQ) : (s.setMemq f q).tap = s.tap := rfl

/-! ### setVisit -/

@[simp] theorem State.setVisit_pending (s : State) (d : Nat) (v : Option Visit) : (s.setVisit d v).pending = s.pending := rfl
@[simp] theorem State.setVisit_freeCtr (s : State) (d : Nat) (v : Option Visit) : (s.setVisit d v).freeCtr = s.freeCtr := rfl
@[simp] theorem State.setVisit_now (s : State) (d : Nat) (v : Option Visit) : (s.setVisit d v).now = s.now := rfl
@[simp] theorem State.setVisit_out (s : State) (d : Nat) (v : Option Visit) : (s.setVisit d v).out = s.out := rfl
@[simp] theorem State.setVisit_cores (s : State) (d : Nat) (v : Option Visit) : (s.setVisit d v).cores = s.cores := rfl
@[simp] theorem State.setVisit_grants (s : State) (d : Nat) (v : Option Visit) : (s.setVisit d v).grants = s.grants := rfl
@[simp] theorem State.setVisit_sync (s : State) (d : Nat) (v : Option Visit) : (s.setVisit d v).sync = s.sync := rfl
@[simp] theorem State.setVisit_mem (s : State) (d : Nat) (v : Option Visit) : (s.setVisit d v).mem = s.mem := rfl
@[simp] theorem State.setVisit_ctxs (s : State) (d : Nat) (v : Option Visit) : (s.setVisit d v).ctxs = s.ctxs := rfl
@[simp] theorem State.setVisit_parts (s : State) (d : Nat) (v : Option Visit) : (s.setVisit d v).parts = s.parts := rfl
@[simp] theorem State.setVisit_nextId (s : State) (d : Nat) (v : Option Visit) : (s.setVisit d v).nextId = s.nextId := rfl
@[simp] theorem State.setVisit_dict (s : State) (d : Nat) (v : Option Visit) : (s.setVisit d v).dict = s.dict := rfl
@[simp] theorem State.setVisit_live (s : State) (d : Nat) (v : Option Visit) : (s.setVisit d v).live = s.live := rfl
@[simp] theorem State.setVisit_host (s : State) (d : Nat) (v : Option Visit) : (s.setVisit d v).host = s.host := rfl
@[simp] theorem State.setVisit_links (s : State) (d : Nat) (v : Option Visit) : (s.setVisit d v).links = s.links := rfl
@[simp] theorem State.setVisit_gtime (s : State) (d : Nat) (v : Option Visit) : (s.setVisit d v).gtime = s.gtime := rfl
@[simp] theorem State.setVisit_power (s : State) (d : Nat) (v : Option Visit) : (s.setVisit d v).power = s.power := rfl
@[simp] theorem State.setVisit_plat (s : State) (d : Nat) (v : Option Visit) : (s.setVisit d v).plat = s.plat := rfl
@[simp] theorem State.setVisit_tap (s : State) (d : Nat) (v : Option Visit) : (s.setVisit d v).tap = s.tap := rfl

/-! ### setEdgeModule -/

@[simp] theorem State.setEdgeModule_pending (s : State) (e m v : Nat) : (s.setEdgeModule e m v).pending = s.pending := rfl
@[simp] theorem State.setEdgeModule_freeCtr (s : State) (e m v : Nat) : (s.setEdgeModule e m v).freeCtr = s.freeCtr := rfl
@[simp] theorem State.setEdgeModule_now (s : State) (e m v : Nat) : (s.setEdgeModule e m v).now = s.now := rfl
@[simp] theorem State.setEdgeModule_out (s : State) (e m v : Nat) : (s.setEdgeModule e m v).out = s.out := rfl
@[simp] theorem State.setEdgeModule_cores (s : State) (e m v : Nat) : (s.setEdgeModule e m v).cores = s.cores := rfl
@[simp] theorem State.setEdgeModule_grants (s : State) (e m v : Nat) : (s.setEdgeModule e m v).grants = s.grants := rfl
@[simp] theorem State.setEdgeModule_sync (s : State) (e m v : Nat) : (s.setEdgeModule e m v).sync = s.sync := rfl
@[simp] theorem State.setEdgeModule_mem (s : State) (e m v : Nat) : (s.setEdgeModule e m v).mem = s.mem := rfl
@[simp] theorem State.setEdgeModule_ctxs (s : State) (e m v : Nat) : (s.setEdgeModule e m v).ctxs = s.ctxs := rfl
@[simp] theorem State.setEdgeModule_parts (s : State) (e m v : Nat) : (s.setEdgeModule e m v).parts = s.parts := rfl
@[simp] theorem State.setEdgeModule_nextId (s : State) (e m v : Nat) : (s.setEdgeModule e m v).nextId = s.nextId := rfl
@[simp] theorem State.setEdgeModule_dict (s : State) (e m v : Nat) : (s.setEdgeModule e m v).dict = s.dict := rfl
@[simp] theorem State.setEdgeModule_live (s : State) (e m v : Nat) : (s.setEdgeModule e m v).live = s.live := rfl
@[simp] theorem State.setEdgeModule_host (s : State) (e m v : Nat) : (s.setEdgeModule e m v).host = s.host := rfl
@[simp] theorem State.setEdgeModule_links (s : State) (e m v : Nat) : (s.setEdgeModule e m v).links = s.links := rfl
@[simp] theorem State.setEdgeModule_gtime (s : State) (e m v : Nat) : (s.setEdgeModule e m v).gtime = s.gtime := rfl
@[simp] theorem State.setEdgeModule_power (s : State) (e m v : Nat) : (s.setEdgeModule e m v).power = s.power := rfl
@[simp] theorem State.setEdgeModule_plat (s : State) (e m v : Nat) : (s.setEdgeModule e m v).plat = s.plat := rfl
@[simp] theorem State.setEdgeModule_tap (s : State) (e m v : Nat) : (s.setEdgeModule e m v).tap = s.tap := rfl

/-! ### setBme -/

@[simp] theorem State.setBme_pending (s : State) (f : Nat) (on : Bool) : (s.setBme f on).pending = s.pending := rfl
@[simp] theorem State.setBme_freeCtr (s : State) (f : Nat) (on : Bool) : (s.setBme f on).freeCtr = s.freeCtr := rfl
@[simp] theorem State.setBme_now (s : State) (f : Nat) (on : Bool) : (s.setBme f on).now = s.now := rfl
@[simp] theorem State.setBme_out (s : State) (f : Nat) (on : Bool) : (s.setBme f on).out = s.out := rfl
@[simp] theorem State.setBme_cores (s : State) (f : Nat) (on : Bool) : (s.setBme f on).cores = s.cores := rfl
@[simp] theorem State.setBme_grants (s : State) (f : Nat) (on : Bool) : (s.setBme f on).grants = s.grants := rfl
@[simp] theorem State.setBme_sync (s : State) (f : Nat) (on : Bool) : (s.setBme f on).sync = s.sync := rfl
@[simp] theorem State.setBme_mem (s : State) (f : Nat) (on : Bool) : (s.setBme f on).mem = s.mem := rfl
@[simp] theorem State.setBme_ctxs (s : State) (f : Nat) (on : Bool) : (s.setBme f on).ctxs = s.ctxs := rfl
@[simp] theorem State.setBme_parts (s : State) (f : Nat) (on : Bool) : (s.setBme f on).parts = s.parts := rfl
@[simp] theorem State.setBme_nextId (s : State) (f : Nat) (on : Bool) : (s.setBme f on).nextId = s.nextId := rfl
@[simp] theorem State.setBme_dict (s : State) (f : Nat) (on : Bool) : (s.setBme f on).dict = s.dict := rfl
@[simp] theorem State.setBme_live (s : State) (f : Nat) (on : Bool) : (s.setBme f on).live = s.live := rfl
@[simp] theorem State.setBme_rel (s : State) (f : Nat) (on : Bool) : (s.setBme f on).rel = s.rel := rfl
@[simp] theorem State.setBme_links (s : State) (f : Nat) (on : Bool) : (s.setBme f on).links = s.links := rfl
@[simp] theorem State.setBme_gtime (s : State) (f : Nat) (on : Bool) : (s.setBme f on).gtime = s.gtime := rfl
@[simp] theorem State.setBme_power (s : State) (f : Nat) (on : Bool) : (s.setBme f on).power = s.power := rfl
@[simp] theorem State.setBme_plat (s : State) (f : Nat) (on : Bool) : (s.setBme f on).plat = s.plat := rfl
@[simp] theorem State.setBme_tap (s : State) (f : Nat) (on : Bool) : (s.setBme f on).tap = s.tap := rfl

/-! ### Free values -/

@[simp] theorem State.freeNat_pending (s : State) : s.freeNat.2.pending = s.pending := rfl
@[simp] theorem State.freeNat_now (s : State) : s.freeNat.2.now = s.now := rfl
@[simp] theorem State.freeNat_out (s : State) : s.freeNat.2.out = s.out := rfl
@[simp] theorem State.freeNat_cores (s : State) : s.freeNat.2.cores = s.cores := rfl
@[simp] theorem State.freeNat_grants (s : State) : s.freeNat.2.grants = s.grants := rfl
@[simp] theorem State.freeNat_sync (s : State) : s.freeNat.2.sync = s.sync := rfl
@[simp] theorem State.freeNat_mem (s : State) : s.freeNat.2.mem = s.mem := rfl
@[simp] theorem State.freeNat_ctxs (s : State) : s.freeNat.2.ctxs = s.ctxs := rfl
@[simp] theorem State.freeNat_parts (s : State) : s.freeNat.2.parts = s.parts := rfl
@[simp] theorem State.freeNat_nextId (s : State) : s.freeNat.2.nextId = s.nextId := rfl
@[simp] theorem State.freeNat_dict (s : State) : s.freeNat.2.dict = s.dict := rfl
@[simp] theorem State.freeNat_live (s : State) : s.freeNat.2.live = s.live := rfl
@[simp] theorem State.freeNat_host (s : State) : s.freeNat.2.host = s.host := rfl
@[simp] theorem State.freeNat_rel (s : State) : s.freeNat.2.rel = s.rel := rfl
@[simp] theorem State.freeNat_links (s : State) : s.freeNat.2.links = s.links := rfl
@[simp] theorem State.freeNat_gtime (s : State) : s.freeNat.2.gtime = s.gtime := rfl
@[simp] theorem State.freeNat_power (s : State) : s.freeNat.2.power = s.power := rfl
@[simp] theorem State.freeNat_plat (s : State) : s.freeNat.2.plat = s.plat := rfl
@[simp] theorem State.freeNat_tap (s : State) : s.freeNat.2.tap = s.tap := rfl

@[simp] theorem State.freeBool_pending (s : State) : s.freeBool.2.pending = s.pending := rfl
@[simp] theorem State.freeBool_now (s : State) : s.freeBool.2.now = s.now := rfl
@[simp] theorem State.freeBool_out (s : State) : s.freeBool.2.out = s.out := rfl
@[simp] theorem State.freeBool_cores (s : State) : s.freeBool.2.cores = s.cores := rfl
@[simp] theorem State.freeBool_grants (s : State) : s.freeBool.2.grants = s.grants := rfl
@[simp] theorem State.freeBool_sync (s : State) : s.freeBool.2.sync = s.sync := rfl
@[simp] theorem State.freeBool_mem (s : State) : s.freeBool.2.mem = s.mem := rfl
@[simp] theorem State.freeBool_ctxs (s : State) : s.freeBool.2.ctxs = s.ctxs := rfl
@[simp] theorem State.freeBool_parts (s : State) : s.freeBool.2.parts = s.parts := rfl
@[simp] theorem State.freeBool_nextId (s : State) : s.freeBool.2.nextId = s.nextId := rfl
@[simp] theorem State.freeBool_dict (s : State) : s.freeBool.2.dict = s.dict := rfl
@[simp] theorem State.freeBool_live (s : State) : s.freeBool.2.live = s.live := rfl
@[simp] theorem State.freeBool_host (s : State) : s.freeBool.2.host = s.host := rfl
@[simp] theorem State.freeBool_rel (s : State) : s.freeBool.2.rel = s.rel := rfl
@[simp] theorem State.freeBool_links (s : State) : s.freeBool.2.links = s.links := rfl
@[simp] theorem State.freeBool_gtime (s : State) : s.freeBool.2.gtime = s.gtime := rfl
@[simp] theorem State.freeBool_power (s : State) : s.freeBool.2.power = s.power := rfl
@[simp] theorem State.freeBool_plat (s : State) : s.freeBool.2.plat = s.plat := rfl
@[simp] theorem State.freeBool_tap (s : State) : s.freeBool.2.tap = s.tap := rfl

/-! ### A read after a write -/

@[simp] theorem State.ent_setEnt (s : State) (k v : Nat) : (s.setEnt k v).ent k = v := SMap.get_set_same _ _ _ _

theorem State.ent_setEnt_ne (s : State) {k j : Nat} (v : Nat) (h : j ≠ k) : (s.setEnt k v).ent j = s.ent j :=
  SMap.get_set_ne _ _ _ h

@[simp] theorem State.core_setCore (s : State) (k : Nat) (c : Core) : (s.setCore k c).core k = c := SMap.get_set_same _ _ _ _

theorem State.core_setCore_ne (s : State) {k j : Nat} (c : Core) (h : j ≠ k) : (s.setCore k c).core j = s.core j :=
  SMap.get_set_ne _ _ _ h

@[simp] theorem State.core_modCore (s : State) (k : Nat) (f : Core → Core) : (s.modCore k f).core k = f (s.core k) :=
  SMap.get_set_same _ _ _ _

theorem State.core_modCore_ne (s : State) {k j : Nat} (f : Core → Core) (h : j ≠ k) : (s.modCore k f).core j = s.core j :=
  SMap.get_set_ne _ _ _ h

@[simp] theorem State.ctx_setCtx (s : State) (n : Nat) (c : Ctx) : (s.setCtx n c).ctx n = c := SMap.get_set_same _ _ _ _

@[simp] theorem State.ctx_modCtx (s : State) (n : Nat) (f : Ctx → Ctx) : (s.modCtx n f).ctx n = f (s.ctx n) :=
  SMap.get_set_same _ _ _ _

theorem State.ctx_modCtx_ne (s : State) {n j : Nat} (f : Ctx → Ctx) (h : j ≠ n) : (s.modCtx n f).ctx j = s.ctx j :=
  SMap.get_set_ne _ _ _ h

@[simp] theorem State.part_modPart (s : State) (k : Nat) (f : Part → Part) : (s.modPart k f).part k = f (s.part k) :=
  SMap.get_set_same _ _ _ _

theorem State.part_modPart_ne (s : State) {k j : Nat} (f : Part → Part) (h : j ≠ k) : (s.modPart k f).part j = s.part j :=
  SMap.get_set_ne _ _ _ h

@[simp] theorem State.word_setWord (s : State) (k : Nat) (w : SyncWord) : (s.setWord k w).word k = w :=
  SMap.get_set_same _ _ _ _

theorem State.word_setWord_ne (s : State) {k j : Nat} (w : SyncWord) (h : j ≠ k) : (s.setWord k w).word j = s.word j :=
  SMap.get_set_ne _ _ _ h

@[simp] theorem State.arm_setArm (s : State) (k : Nat) (a : ArmSlot) : (s.setArm k a).arm k = a := SMap.get_set_same _ _ _ _

theorem State.arm_setArm_ne (s : State) {k j : Nat} (a : ArmSlot) (h : j ≠ k) : (s.setArm k a).arm j = s.arm j :=
  SMap.get_set_ne _ _ _ h

@[simp] theorem State.fn_setFn (s : State) (f off v : Nat) : (s.setFn f off v).fn f off = v := SMap.get_set_same _ _ _ _

@[simp] theorem State.pg_setPg (s : State) (n off v : Nat) : (s.setPg n off v).pg n off = v := SMap.get_set_same _ _ _ _

/-- Which entries a saturating count leaves alone. -/
theorem State.ent_bumpBy_ne (s : State) {k j : Nat} (n : Nat) (h : j ≠ k) : (s.bumpBy k n).ent j = s.ent j :=
  SMap.get_set_ne _ _ _ h

end Sys2Proof.Machine
end

