-- ==== Sys2Proof/Laws/Dispatch.lean ====
section
/-!
SUPPORT. What dispatch, the queues and an instruction at the head can do, said once.
-/

namespace Sys2Proof.Machine

open Sys2Proof

variable {s : State} {k : Nat} {g : BitVec 4} {rd wr : List RegName} {r : RunTask} {op : EngOp}

theorem Core.ready_run {c : Core} (h : c.ready = some r) : c.run = some r := by
  unfold Core.ready at h
  split at h
  · next r' hr => split at h <;> simp_all
  · simp at h

theorem Core.ready_role {c : Core} (h : c.ready = some r) : c.role = .inService := by
  unfold Core.ready at h
  split at h
  · split at h
    · next hc => simp at hc; exact hc.1
    · simp at h
  · simp at h

theorem Core.ready_hold {c : Core} (h : c.ready = some r) : c.disp.hold = .none := by
  unfold Core.ready at h
  split at h
  · split at h
    · next hc => simp at hc; exact hc.2
    · simp at h
  · simp at h

/-- An instruction that the sequencer dispatches takes its effect. -/
theorem Dispatches.dispatch (h : Dispatches s k g rd wr r) (f : RunTask → State → State) :
    s.dispatch k g rd wr f = f r s := by
  simp [State.dispatch, State.fetch, h.ready, h.aligned, h.cached, h.guard, h.free]

/-- An instruction that the sequencer executes at dispatch changes its core and nothing else. -/
theorem Dispatches.scalar (h : Dispatches s k g rd wr r) (f : Core → Core) :
    s.scalar k g rd wr f = s.modCore k fun c => (f c).next := by
  unfold State.scalar
  rw [h.dispatch]

/-- A fetch answers the state as it is from the cache; a miss fills a line; anything else is a fault (R114). -/
theorem State.fetch_cases (s : State) (k n pc : Nat) :
    (∃ e, s.fetch k n pc = .error e) ∨ (pc % 8 = 0 ∧ (s.core k).cached pc = true ∧ s.fetch k n pc = .ok s) ∨
      (pc % 8 = 0 ∧ (s.core k).cached pc = false ∧ (∃ b, s.readVirt n (pc / 256 * 256) 256 = .ok b) ∧
        s.fetch k n pc = .ok ((s.countLines n (pc / 256 * 256) 256 (s.coreDie k)).fillCache k (pc / 256))) := by
  by_cases ha : pc % 8 = 0
  · cases hc : (s.core k).cached pc
    · cases hv : s.readVirt n (pc / 256 * 256) 256 with
      | ok b => exact .inr (.inr ⟨ha, rfl, ⟨b, rfl⟩, by simp [State.fetch, ha, hc, hv]⟩)
      | fail code va => exact .inl ⟨_, by simp [State.fetch, ha, hc, hv]; rfl⟩
    · exact .inr (.inl ⟨ha, rfl, by simp [State.fetch, ha, hc]⟩)
  · exact .inl ⟨_, by simp [State.fetch, ha]; rfl⟩

/-- Dispatch does one of five things: nothing while the core cannot dispatch; the fault of a fetch that R114 forbids, or of a
poisoned line; and, fetched, a false guard goes on, an interlock holds the instruction, or it takes its effect. -/
theorem State.dispatch_cases (s : State) (k : Nat) (g : BitVec 4) (rd wr : List RegName) (f : RunTask → State → State) :
    s.dispatch k g rd wr f = s ∨
      ∃ r, (s.core k).ready = some r ∧
        ((∃ e, s.fetch k r.ctx (s.core k).regs.pc = .error e ∧
            s.dispatch k g rd wr f = s.coreFault k r.ctx e.1 (s.core k).regs.pc [e.2]) ∨
          ∃ s1, s.fetch k r.ctx (s.core k).regs.pc = .ok s1 ∧
            (((s.core k).guard g = false ∧ s.dispatch k g rd wr f = s1.modCore k Core.next) ∨
              ((s.core k).guard g = true ∧ (s.core k).interlocked rd wr = true ∧ s.dispatch k g rd wr f = s1) ∨
              ((s.core k).guard g = true ∧ (s.core k).interlocked rd wr = false ∧ s.dispatch k g rd wr f = f r s1))) := by
  generalize hd : s.dispatch k g rd wr f = d
  dsimp only [State.dispatch] at hd
  split at hd
  · exact .inl hd.symm
  · next r hr =>
    refine .inr ⟨r, hr, ?_⟩
    split at hd
    · next e he => exact .inl ⟨e, he, hd.symm⟩
    · next s1 he =>
      refine .inr ⟨s1, he, ?_⟩
      cases hg : (s.core k).guard g
      · exact .inl ⟨rfl, by simp_all⟩
      · cases hi : (s.core k).interlocked rd wr
        · exact .inr (.inr ⟨rfl, rfl, by simp_all⟩)
        · exact .inr (.inl ⟨rfl, rfl, by simp_all⟩)

@[simp] theorem Core.enqueue_run (c : Core) (op : EngOp) : (c.enqueue op).run = c.run := rfl
@[simp] theorem Core.enqueue_role (c : Core) (op : EngOp) : (c.enqueue op).role = c.role := rfl

@[simp] theorem QEntry.new_op (c : Core) (op : EngOp) : (QEntry.new c op).op = op := rfl
@[simp] theorem QEntry.new_pc (c : Core) (op : EngOp) : (QEntry.new c op).pc = c.regs.pc := rfl
@[simp] theorem QEntry.new_seq (c : Core) (op : EngOp) : (QEntry.new c op).seq = c.disp.count := rfl
@[simp] theorem QEntry.new_waiting (c : Core) (op : EngOp) : (QEntry.new c op).waiting = false := rfl

/-- The queue that an instruction enters, with it alone. -/
theorem Core.enqueue_queue (c : Core) (op : EngOp) (hu : op.unit ≠ .seq) (h : c.disp.queue op.unit = []) :
    (c.enqueue op).disp.queue op.unit = [QEntry.new c op] := by
  simp only [Core.enqueue, Core.next, Core.setPc]
  generalize op.unit = u at hu h ⊢
  cases u <;> simp_all [Disp.queue, Disp.setQueue]

/-- An engine instruction that is issued stands at the head of its queue, and runs. -/
theorem Issues.issue (h : Issues s k g op r) (hu : op.unit ≠ .seq) :
    s.issue k g op = (s.modCore k (Core.enqueue · op)).pump k op.unit := by
  obtain ⟨he, ha⟩ := h.place.resolve_left hu
  unfold State.issue
  rw [h.goes.dispatch]
  simp [h.open_, hu, ha, he]

/-- An engine instruction that is issued and is done at the head leaves the queue; the transfer engine then settles its
grant. -/
theorem Issues.done (h : Issues s k g op r) (hu : op.unit ≠ .seq) {s1 : State}
    (hd : (s.modCore k (Core.enqueue · op)).runHead k op.unit r (QEntry.new (s.core k) op) = .done s1) :
    s.issue k g op =
      if op.unit = .txe then (s1.modCore k (Core.pop · op.unit)).settleGrant k else s1.modCore k (Core.pop · op.unit) := by
  rw [h.issue hu]
  unfold State.pump
  have hq := Core.enqueue_queue (s.core k) op hu (h.place.resolve_left hu).1
  simp [Core.ready_role h.goes.ready, hq, State.pumpQueue, Core.ready_run h.goes.ready, hd]

/-- An engine instruction that is issued and waits at the head stays there. -/
theorem Issues.wait (h : Issues s k g op r) (hu : op.unit ≠ .seq) {s1 : State} {e : QEntry}
    (hd : (s.modCore k (Core.enqueue · op)).runHead k op.unit r (QEntry.new (s.core k) op) = .wait s1 e) :
    s.issue k g op =
      if op.unit = .txe then (s1.modCore k (Core.setHead · op.unit e)).settleGrant k
      else s1.modCore k (Core.setHead · op.unit e) := by
  rw [h.issue hu]
  unfold State.pump
  have hq := Core.enqueue_queue (s.core k) op hu (h.place.resolve_left hu).1
  simp [Core.ready_role h.goes.ready, hq, State.pumpQueue, Core.ready_run h.goes.ready, hd]

/-- A synchronisation instruction with Q = 0 acts at dispatch. -/
theorem Issues.atDispatch (h : Issues s k g op r) (hu : op.unit = .seq) :
    s.issue k g op = s.runAtDispatch k r (QEntry.new (s.core k) op) := by
  unfold State.issue
  rw [h.goes.dispatch]
  have := h.open_
  simp_all

theorem Disp.setQueue_nil (d : Disp) (u : CoreUnit) (h : u ≠ .seq → d.queue u = []) : d.setQueue u [] = d := by
  cases u <;> simp_all [Disp.queue, Disp.setQueue]
  all_goals (obtain ⟨h, -⟩ : _ ∧ True := ⟨h, trivial⟩; cases d; simp_all)

/-- A core changed several times is the core changed once. -/
theorem State.modCore_cores (s : State) (k : Nat) (f : Core → Core) : s.modCore k f = { s with cores := (s.modCore k f).cores } := rfl

theorem State.settleGrant_cases (s : State) (k : Nat) : s.settleGrant k = s ∨
    s.settleGrant k = s.modCore k fun c => { c with disp := { c.disp with grant := false } } :=
  (ite_eq_or_eq _ _ _).symm

theorem State.settleGrant_spec (s : State) (k : Nat) :
    s.settleGrant k = { s with cores := (s.settleGrant k).cores } ∧ (∀ j, j ≠ k → (s.settleGrant k).core j = s.core j) ∧
      ∃ b, (s.settleGrant k).core k = { s.core k with disp := { (s.core k).disp with grant := b } } := by
  rcases s.settleGrant_cases k with h | h <;> rw [h]
  · exact ⟨rfl, fun _ _ => rfl, _, rfl⟩
  · exact ⟨rfl, fun j hj => State.core_modCore_ne _ _ hj, false, by simp⟩

/-- From s to t core k becomes what f makes of it, and nothing else changes. -/
def Touches (s t : State) (k : Nat) (f : Core → Core) : Prop :=
  t = { s with cores := t.cores } ∧ (∀ j, j ≠ k → t.core j = s.core j) ∧ t.core k = f (s.core k)

theorem Touches.modCore (s : State) (k : Nat) (f : Core → Core) : Touches s (s.modCore k f) k f :=
  ⟨rfl, fun _ hj => State.core_modCore_ne _ _ hj, State.core_modCore _ _ _⟩

theorem Touches.setCore (s : State) (k : Nat) (c : Core) : Touches s (s.setCore k c) k fun _ => c :=
  ⟨rfl, fun _ hj => State.core_setCore_ne _ _ hj, State.core_setCore _ _ _⟩

theorem Touches.rfl (s : State) (k : Nat) : Touches s s k id := ⟨by cases s; constructor, fun _ _ => Eq.refl _, Eq.refl _⟩

theorem Touches.trans {s t u : State} {f f' : Core → Core} (h : Touches s t k f) (h' : Touches t u k f') :
    Touches s u k fun c => f' (f c) := by
  obtain ⟨h1, h2, h3⟩ := h
  obtain ⟨h4, h5, h6⟩ := h'
  refine ⟨?_, fun j hj => (h5 j hj).trans (h2 j hj), by rw [h6, h3]⟩
  rw [h4, h1]

theorem Touches.settleGrant (s : State) (k : Nat) :
    ∃ b, Touches s (s.settleGrant k) k fun c => { c with disp := { c.disp with grant := b } } := by
  obtain ⟨h1, h2, b, h3⟩ := s.settleGrant_spec k
  exact ⟨b, h1, h2, h3⟩

@[simp] theorem Core.enqueue_sreg (c : Core) (op : EngOp) (n : BitVec 5) : (c.enqueue op).sreg n = c.sreg n := rfl
@[simp] theorem Core.enqueue_areg (c : Core) (op : EngOp) (n : BitVec 4) : (c.enqueue op).areg n = c.areg n := rfl
@[simp] theorem Core.enqueue_vlane (c : Core) (op : EngOp) (v : BitVec 5) (l : Nat) :
    (c.enqueue op).vlane v l = c.vlane v l := rfl
@[simp] theorem Core.enqueue_opA (c : Core) (op : EngOp) (x : YArgs) : (c.enqueue op).opA x = c.opA x := rfl
@[simp] theorem Core.enqueue_opB (c : Core) (op : EngOp) (x : YArgs) : (c.enqueue op).opB x = c.opB x := rfl
@[simp] theorem Core.enqueue_lctr (c : Core) (op : EngOp) (n : Nat) : (c.enqueue op).lctr n = c.lctr n := rfl
@[simp] theorem Core.enqueue_local (c : Core) (op : EngOp) (q : Nat) : (c.enqueue op).local q = c.local q := rfl
@[simp] theorem Core.enqueue_post (c : Core) (op : EngOp) : (c.enqueue op).post = c.post := rfl
@[simp] theorem Core.enqueue_hq (c : Core) (op : EngOp) : (c.enqueue op).hq = c.hq := rfl
@[simp] theorem Core.enqueue_mxe (c : Core) (op : EngOp) : (c.enqueue op).mxe = c.mxe := rfl
@[simp] theorem Core.enqueue_sp (c : Core) (op : EngOp) : (c.enqueue op).sp = c.sp := rfl
@[simp] theorem Core.enqueue_flags (c : Core) (op : EngOp) : (c.enqueue op).flags = c.flags := rfl

@[simp] theorem Core.enqueue_races (c : Core) (op : EngOp) : (c.enqueue op).disp.races = c.disp.races := by
  unfold Core.enqueue Core.next Core.setPc
  generalize op.unit = w
  cases w <;> rfl

/-- Entering a queue leaves what is in flight as it is. -/
theorem Core.enqueue_earlierRetired (c : Core) (op : EngOp) (u : CoreUnit) :
    (c.enqueue op).earlierRetired u = c.earlierRetired u := by
  unfold Core.earlierRetired Core.enqueue Core.next Core.setPc
  generalize op.unit = w
  cases u <;> cases w <;> rfl

/-- A change of a core that neither reads nor changes its program counter, its queues and its dispatch. -/
def Quiet (G : Core → Core) : Prop :=
  ∀ (c : Core) (pc : Nat) (d : Disp), G { c with regs := { c.regs with pc := pc }, disp := d } =
    { G c with regs := { (G c).regs with pc := pc }, disp := d }

theorem Quiet.pc {G : Core → Core} (h : Quiet G) (c : Core) : (G c).regs.pc = c.regs.pc := by
  have := h c c.regs.pc c.disp
  exact congrArg (fun q => q.regs.pc) this

theorem Quiet.disp {G : Core → Core} (h : Quiet G) (c : Core) : (G c).disp = c.disp := by
  have := h c c.regs.pc c.disp
  exact congrArg (fun q => q.disp) this

/-- A quiet change on the one entry of a queue, and the entry leaves. -/
theorem Quiet.pop_enqueue {G : Core → Core} (h : Quiet G) (c : Core) (op : EngOp) (hu : op.unit ≠ .seq)
    (he : c.disp.queue op.unit = []) :
    (G (c.enqueue op)).pop op.unit = { G c with
      regs := { (G c).regs with pc := (c.regs.pc + 8) % 2 ^ 48 }
      disp := { (G c).disp with drain := false, count := c.disp.count + 1, period := some (unitPeriod op.unit) } } := by
  have h1 := h c ((c.regs.pc + 8) % 2 ^ 48) (c.enqueue op).disp
  have h2 : c.enqueue op = { c with regs := { c.regs with pc := (c.regs.pc + 8) % 2 ^ 48 }, disp := (c.enqueue op).disp } := by
    rfl
  have h3 : (c.enqueue op).disp.setQueue op.unit (((c.enqueue op).disp.queue op.unit).drop 1) =
      { c.disp with drain := false, count := c.disp.count + 1, period := some (unitPeriod op.unit) } := by
    unfold Core.enqueue Core.next Core.setPc
    revert he hu
    generalize op.unit = u
    generalize c.disp = d
    obtain ⟨qM, qV, qT⟩ := d
    intro hu he
    cases u
    · exact absurd rfl hu
    all_goals (simp only [Disp.queue] at he; subst he; rfl)
  unfold Core.pop
  rw [h.disp c, h2, h1]
  dsimp only
  rw [h3]

@[simp] theorem Core.modRaces_races (c : Core) (f : Races → Races) : (c.modRaces f).disp.races = f c.disp.races := rfl
@[simp] theorem Core.modRaces_regs (c : Core) (f : Races → Races) : (c.modRaces f).regs = c.regs := rfl

theorem Core.pop_modRaces (c : Core) (u : CoreUnit) (z : Races → Races) : (c.modRaces z).pop u = (c.pop u).modRaces z := by
  cases u <;> rfl

/-! ### Detectors and unordered accesses -/

/-- What stands unordered as a write stands unordered as an access. -/
theorem Races.unordered_writes {z : Races} {u : CoreUnit} (h : z.unordered u false = []) : z.unordered u true = [] := by
  unfold Races.unordered at h ⊢
  generalize z.touches.drop (z.known u) = l at h ⊢
  induction l with
  | nil => rfl
  | cons a l ih =>
    rw [List.filter_cons] at h ⊢
    by_cases h1 : a.unit = u
    · simp [h1] at h ih ⊢
      exact ih h
    · simp [h1] at h ih ⊢
      cases a.write <;> simp [h.1] <;> exact ih h.2

theorem Core.racedReads_alone {c : Core} {u : CoreUnit} (h : c.disp.races.unordered u false = []) (words : List Nat) :
    c.racedReads u words = [] := by
  simp [Core.racedReads, Races.unordered_writes h]

/-- The words that an instruction wrote, alone, hold what it wrote: only the period's record of accesses grows. -/
theorem State.noteAccess_alone {s t : State} {u : CoreUnit} (h : (s.core k).disp.races.unordered u false = [])
    (words : List Nat) : ∃ z, t.noteAccess k u s words = t.modCore k fun c => c.modRaces z := by
  refine ⟨fun r => (r.touch u false (words.map (· % spSize))).touch u true
    (SMap.changed ((s.core k).sp.words.length + (t.core k).sp.words.length) (s.core k).sp.words (t.core k).sp.words), ?_⟩
  have h1 (l : List Nat) : l.filter ([] : List Nat).contains = [] := by
    rw [List.filter_eq_nil_iff]
    simp
  simp [State.noteAccess, h, h1]

/-- An engine instruction with no fault, no poisoned word and no unordered access does what it does, and its accesses are
recorded. -/
theorem State.guarded_alone {s : State} {u : CoreUnit} (h : (s.core k).disp.races.unordered u false = []) (n pc : Nat)
    (words : List Nat) (hp : (s.core k).anyPoison words = false) (f : State → HeadRes) :
    s.guarded k n pc u .none words f = (f s).onward fun t => t.noteAccess k u s words := by
  simp [State.guarded, hp, Core.racedReads_alone h, State.misread, State.reread, State.corrupt]
  cases f s <;> rfl

/-- An instruction that is done wherever it acts, with a quiet change of its core and a record of its accesses, retires
with that change. -/
theorem Issues.acts (h : Issues s k g op r) {G : Core → Core} (hG : Quiet G)
    (hd : ∀ s' : State, s' = s ∨ s' = s.modCore k (Core.enqueue · op) →
      ∃ s1 z, s'.runHead k op.unit r (QEntry.new (s.core k) op) = .done s1 ∧
        Touches s' s1 k fun c => (G c).modRaces z) :
    Retires s (s.issue k g op) k op.unit G := by
  unfold Retires
  dsimp only
  by_cases hu : op.unit = .seq
  · obtain ⟨s1, z, h1, h2⟩ := hd s (.inl rfl)
    rw [h.atDispatch hu]
    unfold State.runAtDispatch
    rw [← hu, h1]
    dsimp only
    obtain ⟨h3, h4, h5⟩ := h2.trans (Touches.modCore s1 k fun c => Core.next { c with disp := { c.disp with hold := .none } })
    refine ⟨h3, h4, ?_⟩
    rw [h5]
    have hold := Core.ready_hold h.goes.ready
    simp only [Core.next, Core.setPc, Core.modRaces, hG.pc, hG.disp, hu, ← hold]
    simp
  · obtain ⟨s1, z, h1, h2⟩ := hd _ (.inr rfl)
    have h3 := h2.trans (Touches.modCore s1 k (Core.pop · op.unit))
    have h4 := (Touches.modCore s k (Core.enqueue · op)).trans h3
    have hq := hG.pop_enqueue (s.core k) op hu (h.place.resolve_left hu).1
    rw [h.done hu h1]
    split
    · next ht =>
      obtain ⟨b, h5⟩ := Touches.settleGrant (s1.modCore k (Core.pop · op.unit)) k
      obtain ⟨h6, h7, h8⟩ := h4.trans h5
      refine ⟨h6, h7, ?_⟩
      rw [h8]; dsimp only; rw [Core.pop_modRaces, hq]; rfl
    · next ht =>
      obtain ⟨h6, h7, h8⟩ := h4
      refine ⟨h6, h7, ?_⟩
      rw [h8]; dsimp only; rw [Core.pop_modRaces, hq]; rfl

end Sys2Proof.Machine
end

