-- ==== Sys2Proof/Laws/Reports.lean ====
section
/-!
SUPPORT. What counting, recording and telling can do, said once: a log record, an alert, a notification, a watermark and an
interrupt change the dictionary, what was sent, the host interface's registers and pending bits, the log, and ALERT_N. No later
proof unfolds them.
-/

namespace Sys2Proof.Machine

open Sys2Proof

/-- From s to t only reports were made: nothing but what was sent, the dictionary, registers and pending bits of the host
interface, the log and watermark memory, and ALERT_N differs. -/
structure Reports (s t : State) : Prop where
  eq : t = { s with out := t.out, dict := t.dict, host := t.host, rel := t.rel, plat := t.plat }
  host : t.host = { s.host with regs := t.host.regs, pba := t.host.pba, pages := t.host.pages }
  rel : t.rel = { s.rel with log := t.rel.log, beyond := t.rel.beyond }
  plat : t.plat = { s.plat with alertN := t.plat.alertN }

namespace Reports

variable {s t u : State}

theorem refl (s : State) : Reports s s := ⟨rfl, rfl, rfl, rfl⟩

theorem trans (h : Reports s t) (h' : Reports t u) : Reports s u := by
  refine ⟨?_, ?_, ?_, ?_⟩
  · rw [h'.eq]; rw [h.eq]
  · rw [h'.host]; rw [h.host]
  · rw [h'.rel]; rw [h.rel]
  · rw [h'.plat]; rw [h.plat]

theorem cores (h : Reports s t) : t.cores = s.cores := by rw [h.eq]
theorem grants (h : Reports s t) : t.grants = s.grants := by rw [h.eq]
theorem sync (h : Reports s t) : t.sync = s.sync := by rw [h.eq]
theorem mem (h : Reports s t) : t.mem = s.mem := by rw [h.eq]
theorem ctxs (h : Reports s t) : t.ctxs = s.ctxs := by rw [h.eq]
theorem parts (h : Reports s t) : t.parts = s.parts := by rw [h.eq]
theorem links (h : Reports s t) : t.links = s.links := by rw [h.eq]
theorem live (h : Reports s t) : t.live = s.live := by rw [h.eq]
theorem gtime (h : Reports s t) : t.gtime = s.gtime := by rw [h.eq]
theorem power (h : Reports s t) : t.power = s.power := by rw [h.eq]
theorem tap (h : Reports s t) : t.tap = s.tap := by rw [h.eq]
theorem pending (h : Reports s t) : t.pending = s.pending := by rw [h.eq]
theorem freeCtr (h : Reports s t) : t.freeCtr = s.freeCtr := by rw [h.eq]

theorem core (h : Reports s t) (k : Nat) : t.core k = s.core k := by simp [State.core, h.cores]
theorem ctx (h : Reports s t) (n : Nat) : t.ctx n = s.ctx n := by simp [State.ctx, h.ctxs]
theorem part (h : Reports s t) (k : Nat) : t.part k = s.part k := by simp [State.part, h.parts]
theorem stage (h : Reports s t) : t.plat.stage = s.plat.stage := by rw [h.plat]
theorem ite {p : Prop} [Decidable p] (h : p → Reports s t) (h' : ¬ p → Reports s u) : Reports s (if p then t else u) := by
  split
  · next hp => exact h hp
  · next hp => exact h' hp

theorem foldl {α : Type} {f : State → α → State} (hf : ∀ s a, Reports s (f s a)) (l : List α) (s : State) :
    Reports s (l.foldl f s) := by
  induction l generalizing s with
  | nil => exact refl s
  | cons a l ih => exact (hf s a).trans (ih _)

/-! ### Entries and counters -/

theorem setEnt (s : State) (k v : Nat) : Reports s (s.setEnt k v) := ⟨rfl, rfl, rfl, rfl⟩
theorem setEntBits (s : State) (k lo n x : Nat) : Reports s (s.setEntBits k lo n x) := setEnt s _ _
theorem setEntBit (s : State) (k b : Nat) (on : Bool) : Reports s (s.setEntBit k b on) := setEnt s _ _

theorem bumpBy (s : State) (k n : Nat) : Reports s (s.bumpBy k n) := by
  unfold State.bumpBy
  split <;> exact setEnt s _ _

theorem bump (s : State) (k : Nat) : Reports s (s.bump k) := bumpBy s k 1

/-! ### Host registers and interrupts -/

theorem emit (s : State) (o : Out) : Reports s (s.emit o) := ⟨rfl, rfl, rfl, rfl⟩
theorem setFn (s : State) (f off v : Nat) : Reports s (s.setFn f off v) := ⟨rfl, rfl, rfl, rfl⟩
theorem setPg (s : State) (n off v : Nat) : Reports s (s.setPg n off v) := ⟨rfl, rfl, rfl, rfl⟩
theorem setPba (s : State) (f v : Nat) : Reports s (s.setPba f v) := ⟨rfl, rfl, rfl, rfl⟩

theorem msix (s : State) (f v : Nat) : Reports s (s.msix f v) := by
  unfold State.msix
  split
  · exact refl s
  · split
    · exact emit s _
    · exact setPba s _ _

theorem cause (s : State) (f b : Nat) : Reports s (s.cause f b) := by
  unfold State.cause
  split
  · exact refl s
  · split
    · exact (setFn s _ _ _).trans (msix _ _ _)
    · exact setFn s _ _ _

theorem cqEvent (s : State) (n b : Nat) : Reports s (s.cqEvent n b) := (setPg s _ _ _).trans (cause _ _ _)

/-! ### The log -/

theorem logRec (s : State) (r : LogRec) : Reports s (s.logRec r) := by
  have h1 : Reports s { s with rel := { s.rel with log := (r :: s.rel.log).take logCap } } := ⟨rfl, rfl, rfl, rfl⟩
  have h2 := h1.trans (bump _ Ent.logHead)
  unfold State.logRec
  have h3 : Reports s (if Nat.ble logCap s.rel.log.length then
      ({ s with rel := { s.rel with log := (r :: s.rel.log).take logCap } } : State).bump Ent.logHead |>.bump Ent.logLost
      else ({ s with rel := { s.rel with log := (r :: s.rel.log).take logCap } } : State).bump Ent.logHead) :=
    ite (fun _ => h2.trans (bump _ _)) fun _ => h2
  exact ite (fun _ => (h3.trans (cause _ _ _)).trans (cause _ _ _)) fun _ => h3.trans (cause _ _ _)

theorem log (s : State) (code : Nat) (args : List Nat) : Reports s (s.log code args) := logRec s _
theorem logSlot (s : State) (code c slot : Nat) (args : List Nat) : Reports s (s.logSlot code c slot args) := logRec s _
theorem logCtx (s : State) (code n : Nat) (args : List Nat) : Reports s (s.logCtx code n args) := logRec s _
theorem logPart (s : State) (code k : Nat) (args : List Nat) : Reports s (s.logPart code k args) := logRec s _
theorem logTested (s : State) (code c slot : Nat) (args : List Nat) : Reports s (s.logTested code c slot args) := logRec s _
theorem logCore (s : State) (code n k : Nat) (args : List Nat) : Reports s (s.logCore code n k args) := logRec s _

theorem logAgent (s : State) (code : Nat) (who : LineReader) (args : List Nat) : Reports s (s.logAgent code who args) := by
  cases who with
  | core c fetch =>
    dsimp only [State.logAgent]
    generalize (s.core (coreKey c)).run = run
    cases run with
    | none => exact log s _ _
    | some r => exact logCore s _ _ _ _
  | context n => exact logCtx s _ _ _
  | host f => exact ite (fun _ => log s _ _) fun _ => logPart s _ _ _
  | exporter => exact log s _ _
  | peer => exact log s _ _
  | manager => exact log s _ _
  | copier => exact log s _ _

theorem logHeld (s : State) (code k : Nat) (args : List Nat) : Reports s (s.logHeld code k args) := logRec s _

/-! ### Notifications, alerts and watermarks -/

theorem notify (s : State) (code key : Nat) (votePart : Option Nat) : Reports s (s.notify code key votePart) := by
  unfold State.notify
  refine Reports.trans (t := _) ?_ (log _ _ _)
  have h1 : Reports s (if s.ent Ent.notifyEn = 0 then s
    else s.emit (.notify (key / 256) (key % 256) s.gtime.count (s.ent Ent.alertStatus))) :=
    ite (fun _ => refl s) fun _ => emit s _
  have h2 := h1.trans (cause _ 0 2)
  cases votePart with
  | none => exact h2
  | some k => exact h2.trans (cause _ _ _)

theorem updateAlertN (s : State) : Reports s s.updateAlertN := by
  have h1 (b : Bool) : Reports s { s with plat := { s.plat with alertN := b } } := ⟨rfl, rfl, rfl, rfl⟩
  exact ite (fun _ => (h1 _).trans (cause _ _ _)) fun _ => h1 _

theorem alertFor (s : State) (b : Nat) (votePart : Option Nat) : Reports s (s.alertFor b votePart) :=
  ite (fun _ => refl s) fun _ => ((setEntBit s _ _ _).trans (updateAlertN _)).trans (notify _ _ _ _)

theorem alert (s : State) (b : Nat) : Reports s (s.alert b) := alertFor s b none

theorem wmJudge (s : State) (index : Nat) : Reports s (s.wmJudge index) := by
  have h1 (m : SMap Bool) : Reports s { s with rel := { s.rel with beyond := m } } := ⟨rfl, rfl, rfl, rfl⟩
  have h2 (m : SMap Bool) := (((h1 m).trans (setEnt _ (256 * index + 3) 1)).trans (bump _ (256 * index + 4))).trans
    (notify _ Code.watermark (256 * index + 3) none)
  exact ite (fun _ => ite (fun _ => (h2 _).trans (alert _ _)) fun _ => h2 _) fun _ => h1 _

theorem wmLevel (s : State) (index lvl : Nat) : Reports s (s.wmLevel index lvl) := (setEnt s _ _).trans (wmJudge _ _)

theorem wmMark (s : State) (index mark : Nat) : Reports s (s.wmMark index mark) := by
  have h1 : Reports s { (s.setEnt (256 * index + 2) mark) with
    rel := { s.rel with beyond := SMap.set (fun _ => false) s.rel.beyond index false } } := ⟨rfl, rfl, rfl, rfl⟩
  exact h1.trans (wmJudge _ _)

theorem drain (s : State) : Reports s s.drain := (setEnt s _ _).trans (alert _ _)
theorem setReplace (s : State) (b : Nat) : Reports s (s.setReplace b) := (setEntBit s _ _ _).trans (drain _)

end Reports

end Sys2Proof.Machine
end

