-- ==== Sys2Proof/Laws/Memory.lean ====
section
/-!
SUPPORT. Stacked memory: a read after a write, writes elsewhere, and that every operation on its bytes keeps the canonical
form.
-/

namespace Sys2Proof.Machine

open Sys2Proof

/-! ### Reads and writes -/

/-- A byte outside those written reads as before. -/
theorem get_memWrite_out (l : List Byte) (cells : List Host.Cell) (pa a : Nat) (h : a < pa ∨ pa + l.length ≤ a) :
    SMap.get (fun _ => (0#8 : Byte)) (memWrite cells pa l) a = SMap.get (fun _ => 0#8) cells a := by
  induction l generalizing cells pa with
  | nil => rfl
  | cons b l ih =>
    have hl : a < pa + 1 ∨ pa + 1 + l.length ≤ a := by simp at h; omega
    have hne : a ≠ pa := by simp at h; omega
    rw [memWrite, ih _ _ hl, SMap.get_set_ne _ _ _ hne]

/-- Byte i of what is written stands at the i-th address. -/
theorem get_memWrite_in (l : List Byte) (cells : List Host.Cell) (pa i : Nat) (h : i < l.length) :
    SMap.get (fun _ => (0#8 : Byte)) (memWrite cells pa l) (pa + i) = l[i] := by
  induction l generalizing cells pa i with
  | nil => simp at h
  | cons b l ih =>
    cases i with
    | zero =>
      rw [memWrite, get_memWrite_out _ _ _ _ (Or.inl (by omega))]
      exact SMap.get_set_same _ _ _ _
    | succ i =>
      have := ih (SMap.set (fun _ => (0#8 : Byte)) cells pa b) (pa + 1) i (by simpa using h)
      rw [memWrite]
      simpa [Nat.add_assoc, Nat.add_comm 1 i] using this

theorem State.memByte_writePhys_out (s : State) (pa a : Nat) (l : List Byte) (h : a < pa ∨ pa + l.length ≤ a) :
    (s.writePhys pa l).memByte a = s.memByte a := get_memWrite_out l _ _ _ h

theorem State.memByte_writePhys_in (s : State) (pa i : Nat) (l : List Byte) (h : i < l.length) :
    (s.writePhys pa l).memByte (pa + i) = l[i] := get_memWrite_in l _ _ _ h

@[simp] theorem State.memByte_congr {s t : State} (h : t.mem.cells = s.mem.cells) (a : Nat) : t.memByte a = s.memByte a := by
  simp [State.memByte, h]

/-! ### The canonical form -/

theorem wf_memWrite (l : List Byte) {cells : List Host.Cell} (pa : Nat) (h : SMap.wf (fun _ => (0#8 : Byte)) cells = true) :
    SMap.wf (fun _ => (0#8 : Byte)) (memWrite cells pa l) = true := by
  induction l generalizing cells pa with
  | nil => exact h
  | cons b l ih => exact ih _ (SMap.wf_set _ _ _ h)

theorem State.writePhys_wf (s : State) (pa : Nat) (l : List Byte) (h : Memory.wf s.mem = true) :
    Memory.wf (s.writePhys pa l).mem = true := wf_memWrite l pa h

theorem State.zeroFrame_wf (s : State) (stack frame : Nat) (h : Memory.wf s.mem = true) :
    Memory.wf (s.zeroFrame stack frame).mem = true := by
  exact SMap.wf_dropKeys _ (fun a => Nat.ble (paOf stack frame 0) a && Nat.blt a (paOf stack frame 0 + 2 ^ 21)) h

theorem Mem.moveFrame_wf (m : Mem) (a b room : Nat) (h : Memory.wf m = true) : Memory.wf (m.moveFrame a b room) = true :=
  by
  unfold Memory.wf Mem.moveFrame
  exact SMap.wf_setAll _ _ (SMap.wf_dropKeys _ _ h)

theorem Mem.lost_wf (m : Mem) : Memory.wf m.lost = true := rfl

/-- An operation that leaves the cells alone keeps their form. -/
theorem Memory.wf_congr {m n : Mem} (h : n.cells = m.cells) (hm : Memory.wf m = true) : Memory.wf n = true := by
  unfold Memory.wf at *
  rw [h]
  exact hm

/-- Reports keep the form. -/
theorem Reports.wf {s t : State} (h : Reports s t) (hm : Memory.wf s.mem = true) : Memory.wf t.mem = true :=
  Memory.wf_congr (by rw [h.mem]) hm

theorem State.reset_wf : Memory.wf State.reset.mem = true := rfl

end Sys2Proof.Machine
end

