-- ==== Sys2Proof/Laws/PerInstr.lean ====
section
/-!
SUPPORT. The family RequestsAndWords, instruction by instruction: a command that a word of a core spells belongs to that
core and is no request of the dictionary; a request names an entry by index and subindex and fits in a mailbox.
-/

namespace Sys2Proof.Laws.RequestsAndWords

open Sys2Proof Sys2Proof.Machine

/-- A command with an encoding belongs to a core (R120); a write request of the dictionary names an index of 16 bits and a
subindex of 8, and carries at most 1,024 bytes (R440, Table 17.5). -/
def Statement (i : Instr) : Prop :=
  ((encodePlovmi i).isSome = true → i.core?.isSome = true) ∧
    ∀ p k d, request i = some (p, k, d) → k < 2 ^ 24 ∧ d.length ≤ 1024

theorem of_core {i : Instr} {c : CoreId} (h : i.core? = some c) (hr : request i = none) : Statement i :=
  ⟨fun _ => by rw [h]; rfl, fun _ _ _ h' => by rw [hr] at h'; exact (nomatch h')⟩

theorem neither {i : Instr} (h : encodePlovmi i = none) (hr : request i = none) : Statement i :=
  ⟨fun h' => by rw [h] at h'; exact (nomatch h'), fun _ _ _ h' => by rw [hr] at h'; exact (nomatch h')⟩

theorem of_request {i : Instr} {p : DictPort} {k : Nat} {d : List Byte} (h : encodePlovmi i = none)
    (hr : request i = some (p, k, d)) (hk : k < 2 ^ 24) (hd : d.length ≤ 1024) : Statement i :=
  ⟨fun h' => by rw [h] at h'; exact (nomatch h'), fun _ _ _ h' => by rw [hr] at h'; cases h'; exact ⟨hk, hd⟩⟩

theorem leBytes_length (n v : Nat) : (leBytes n v).length = n := by simp [leBytes]

theorem mload (c : CoreId) (x : MLoadArgs) (hw : HwFault) : Statement (.mload c x hw) := of_core rfl rfl

theorem mswap (c : CoreId) : Statement (.mswap c) := of_core rfl rfl

theorem mstream (c : CoreId) (x : MStreamArgs) (hw : HwFault) : Statement (.mstream c x hw) := of_core rfl rfl

theorem gatheredSubmission (c : CoreId) (x : MStreamArgs) (hw : HwFault) : Statement (.gatheredSubmission c x hw) :=
  of_core rfl rfl

theorem rowGathererFire (c : CoreId) (hw : HwFault) : Statement (.rowGathererFire c hw) := neither rfl rfl

theorem gatherTimeout (c : CoreId) : Statement (.gatherTimeout c) := neither rfl rfl

theorem mdrain (c : CoreId) (x : MDrainArgs) (hw : HwFault) : Statement (.mdrain c x hw) := of_core rfl rfl

theorem add (c : CoreId) (x : SArgs) : Statement (.add c x) := of_core rfl rfl

theorem sub (c : CoreId) (x : SArgs) : Statement (.sub c x) := of_core rfl rfl

theorem mul (c : CoreId) (x : SArgs) : Statement (.mul c x) := of_core rfl rfl

theorem and (c : CoreId) (x : SArgs) : Statement (.and c x) := of_core rfl rfl

theorem or (c : CoreId) (x : SArgs) : Statement (.or c x) := of_core rfl rfl

theorem xor (c : CoreId) (x : SArgs) : Statement (.xor c x) := of_core rfl rfl

theorem shl (c : CoreId) (x : SArgs) : Statement (.shl c x) := of_core rfl rfl

theorem shr (c : CoreId) (x : SArgs) : Statement (.shr c x) := of_core rfl rfl

theorem sra (c : CoreId) (x : SArgs) : Statement (.sra c x) := of_core rfl rfl

theorem min (c : CoreId) (x : SArgs) : Statement (.min c x) := of_core rfl rfl

theorem max (c : CoreId) (x : SArgs) : Statement (.max c x) := of_core rfl rfl

theorem minu (c : CoreId) (x : SArgs) : Statement (.minu c x) := of_core rfl rfl

theorem maxu (c : CoreId) (x : SArgs) : Statement (.maxu c x) := of_core rfl rfl

theorem ceq (c : CoreId) (x : SArgs) : Statement (.ceq c x) := of_core rfl rfl

theorem cne (c : CoreId) (x : SArgs) : Statement (.cne c x) := of_core rfl rfl

theorem clt (c : CoreId) (x : SArgs) : Statement (.clt c x) := of_core rfl rfl

theorem cltu (c : CoreId) (x : SArgs) : Statement (.cltu c x) := of_core rfl rfl

theorem cle (c : CoreId) (x : SArgs) : Statement (.cle c x) := of_core rfl rfl

theorem cleu (c : CoreId) (x : SArgs) : Statement (.cleu c x) := of_core rfl rfl

theorem li (c : CoreId) (x : SArgs) : Statement (.li c x) := of_core rfl rfl

theorem lih (c : CoreId) (x : SArgs) : Statement (.lih c x) := of_core rfl rfl

theorem adda (c : CoreId) (x : SArgs) : Statement (.adda c x) := of_core rfl rfl

theorem movas (c : CoreId) (x : SArgs) : Statement (.movas c x) := of_core rfl rfl

theorem movsa (c : CoreId) (x : SArgs) : Statement (.movsa c x) := of_core rfl rfl

theorem pand (c : CoreId) (x : SArgs) : Statement (.pand c x) := of_core rfl rfl

theorem por (c : CoreId) (x : SArgs) : Statement (.por c x) := of_core rfl rfl

theorem pxor (c : CoreId) (x : SArgs) : Statement (.pxor c x) := of_core rfl rfl

theorem pnot (c : CoreId) (x : SArgs) : Statement (.pnot c x) := of_core rfl rfl

theorem pset (c : CoreId) (x : SArgs) : Statement (.pset c x) := of_core rfl rfl

theorem br (c : CoreId) (x : SArgs) : Statement (.br c x) := of_core rfl rfl

theorem loop (c : CoreId) (x : SArgs) : Statement (.loop c x) := of_core rfl rfl

theorem endTask (c : CoreId) (x : SArgs) : Statement (.endTask c x) := of_core rfl rfl

theorem nop (c : CoreId) (x : SArgs) : Statement (.nop c x) := of_core rfl rfl

theorem flagrd (c : CoreId) (x : SArgs) : Statement (.flagrd c x) := of_core rfl rfl

theorem flagclr (c : CoreId) (x : SArgs) : Statement (.flagclr c x) := of_core rfl rfl

theorem phase (c : CoreId) (x : SArgs) : Statement (.phase c x) := of_core rfl rfl

theorem csrrd (c : CoreId) (x : SArgs) : Statement (.csrrd c x) := of_core rfl rfl

theorem drain (c : CoreId) (x : SArgs) : Statement (.drain c x) := of_core rfl rfl

theorem illegalInstruction (c : CoreId) (w : Word64) : Statement (.illegalInstruction c w) := neither rfl rfl

theorem periodChange (c : CoreId) : Statement (.periodChange c) := neither rfl rfl

theorem spost (c : CoreId) (x : YArgs) : Statement (.spost c x) := of_core rfl rfl

theorem spostLocal (c : CoreId) (x : YArgs) : Statement (.spostLocal c x) := of_core rfl rfl

theorem swait (c : CoreId) (x : YArgs) : Statement (.swait c x) := of_core rfl rfl

theorem swaitLocal (c : CoreId) (x : YArgs) : Statement (.swaitLocal c x) := of_core rfl rfl

theorem sbar (c : CoreId) (x : YArgs) : Statement (.sbar c x) := of_core rfl rfl

theorem slock (c : CoreId) (x : YArgs) : Statement (.slock c x) := of_core rfl rfl

theorem sunlock (c : CoreId) (x : YArgs) : Statement (.sunlock c x) := of_core rfl rfl

theorem hpush (c : CoreId) (x : YArgs) : Statement (.hpush c x) := of_core rfl rfl

theorem hpushLocal (c : CoreId) (x : YArgs) : Statement (.hpushLocal c x) := of_core rfl rfl

theorem hpop (c : CoreId) (x : YArgs) : Statement (.hpop c x) := of_core rfl rfl

theorem hpopLocal (c : CoreId) (x : YArgs) : Statement (.hpopLocal c x) := of_core rfl rfl

theorem scommit (c : CoreId) (x : YArgs) : Statement (.scommit c x) := of_core rfl rfl

theorem segmentCommit (c : CoreId) : Statement (.segmentCommit c) := neither rfl rfl

theorem postBufferRelease (c : CoreId) : Statement (.postBufferRelease c) := neither rfl rfl

theorem syncWaitSatisfied (c : CoreId) (u : CoreUnit) : Statement (.syncWaitSatisfied c u) := neither rfl rfl

theorem slockGrant (cluster : Fin 64) (index : Fin 4096) : Statement (.slockGrant cluster index) := neither rfl rfl

theorem handleWaitSatisfied (c : CoreId) (u : CoreUnit) : Statement (.handleWaitSatisfied c u) := neither rfl rfl

theorem vadd (c : CoreId) (x : VArgs) : Statement (.vadd c x) := of_core rfl rfl

theorem vsub (c : CoreId) (x : VArgs) : Statement (.vsub c x) := of_core rfl rfl

theorem vmul (c : CoreId) (x : VArgs) : Statement (.vmul c x) := of_core rfl rfl

theorem vfma (c : CoreId) (x : VArgs) : Statement (.vfma c x) := of_core rfl rfl

theorem vmin (c : CoreId) (x : VArgs) : Statement (.vmin c x) := of_core rfl rfl

theorem vmax (c : CoreId) (x : VArgs) : Statement (.vmax c x) := of_core rfl rfl

theorem vabs (c : CoreId) (x : VArgs) : Statement (.vabs c x) := of_core rfl rfl

theorem vneg (c : CoreId) (x : VArgs) : Statement (.vneg c x) := of_core rfl rfl

theorem vsel (c : CoreId) (x : VArgs) : Statement (.vsel c x) := of_core rfl rfl

theorem vceq (c : CoreId) (x : VArgs) : Statement (.vceq c x) := of_core rfl rfl

theorem vcne (c : CoreId) (x : VArgs) : Statement (.vcne c x) := of_core rfl rfl

theorem vclt (c : CoreId) (x : VArgs) : Statement (.vclt c x) := of_core rfl rfl

theorem vcle (c : CoreId) (x : VArgs) : Statement (.vcle c x) := of_core rfl rfl

theorem viadd (c : CoreId) (x : VArgs) : Statement (.viadd c x) := of_core rfl rfl

theorem vand (c : CoreId) (x : VArgs) : Statement (.vand c x) := of_core rfl rfl

theorem vor (c : CoreId) (x : VArgs) : Statement (.vor c x) := of_core rfl rfl

theorem vxor (c : CoreId) (x : VArgs) : Statement (.vxor c x) := of_core rfl rfl

theorem vshl (c : CoreId) (x : VArgs) : Statement (.vshl c x) := of_core rfl rfl

theorem vshr (c : CoreId) (x : VArgs) : Statement (.vshr c x) := of_core rfl rfl

theorem vbcast (c : CoreId) (x : VArgs) : Statement (.vbcast c x) := of_core rfl rfl

theorem vlane (c : CoreId) (x : VArgs) : Statement (.vlane c x) := of_core rfl rfl

theorem vredsum (c : CoreId) (x : VArgs) : Statement (.vredsum c x) := of_core rfl rfl

theorem vredmax (c : CoreId) (x : VArgs) : Statement (.vredmax c x) := of_core rfl rfl

theorem vrcp (c : CoreId) (x : VArgs) : Statement (.vrcp c x) := of_core rfl rfl

theorem vrsqrt (c : CoreId) (x : VArgs) : Statement (.vrsqrt c x) := of_core rfl rfl

theorem vsqrt (c : CoreId) (x : VArgs) : Statement (.vsqrt c x) := of_core rfl rfl

theorem vexp2 (c : CoreId) (x : VArgs) : Statement (.vexp2 c x) := of_core rfl rfl

theorem vlog2 (c : CoreId) (x : VArgs) : Statement (.vlog2 c x) := of_core rfl rfl

theorem vexp (c : CoreId) (x : VArgs) : Statement (.vexp c x) := of_core rfl rfl

theorem vln (c : CoreId) (x : VArgs) : Statement (.vln c x) := of_core rfl rfl

theorem vsigm (c : CoreId) (x : VArgs) : Statement (.vsigm c x) := of_core rfl rfl

theorem vtanh (c : CoreId) (x : VArgs) : Statement (.vtanh c x) := of_core rfl rfl

theorem vsilu (c : CoreId) (x : VArgs) : Statement (.vsilu c x) := of_core rfl rfl

theorem vcvt (c : CoreId) (x : VArgs) : Statement (.vcvt c x) := of_core rfl rfl

theorem vcvtfi (c : CoreId) (x : VArgs) : Statement (.vcvtfi c x) := of_core rfl rfl

theorem vcvtif (c : CoreId) (x : VArgs) : Statement (.vcvtif c x) := of_core rfl rfl

theorem vrand (c : CoreId) (x : VArgs) : Statement (.vrand c x) := of_core rfl rfl

theorem vdrop (c : CoreId) (x : VArgs) : Statement (.vdrop c x) := of_core rfl rfl

theorem vld (c : CoreId) (x : EArgs) (hw : HwFault) : Statement (.vld c x hw) := of_core rfl rfl

theorem vst (c : CoreId) (x : EArgs) : Statement (.vst c x) := of_core rfl rfl

theorem sld (c : CoreId) (x : EArgs) (hw : HwFault) : Statement (.sld c x hw) := of_core rfl rfl

theorem sldd (c : CoreId) (x : EArgs) (hw : HwFault) : Statement (.sldd c x hw) := of_core rfl rfl

theorem sst (c : CoreId) (x : EArgs) : Statement (.sst c x) := of_core rfl rfl

theorem sstd (c : CoreId) (x : EArgs) : Statement (.sstd c x) := of_core rfl rfl

theorem tload (c : CoreId) (x : TMoveArgs) : Statement (.tload c x) := of_core rfl rfl

theorem tstore (c : CoreId) (x : TMoveArgs) (hw : HwFault) : Statement (.tstore c x hw) := of_core rfl rfl

theorem tsend (c : CoreId) (x : TSendArgs) (hw : HwFault) : Statement (.tsend c x hw) := of_core rfl rfl

theorem tsendVoile (c : CoreId) (x : TSendArgs) (hw : HwFault) : Statement (.tsendVoile c x hw) := of_core rfl rfl

theorem wopen (c : CoreId) (x : WinArgs) : Statement (.wopen c x) := of_core rfl rfl

theorem wclose (c : CoreId) (x : WinArgs) : Statement (.wclose c x) := of_core rfl rfl

theorem transferGrant (cluster : Fin 64) : Statement (.transferGrant cluster) := neither rfl rfl

theorem tloadComplete (c : CoreId) : Statement (.tloadComplete c) := neither rfl rfl

theorem tstoreAcknowledged (c : CoreId) : Statement (.tstoreAcknowledged c) := neither rfl rfl

theorem tsendAcknowledged (c : CoreId) : Statement (.tsendAcknowledged c) := neither rfl rfl

theorem remoteWriteArrival (a : Arrival) : Statement (.remoteWriteArrival a) := neither rfl rfl

theorem seqStall (c : CoreId) : Statement (.seqStall c) := neither rfl rfl

theorem qheadStall (c : CoreId) (u : CoreUnit) : Statement (.qheadStall c u) := neither rfl rfl

theorem waitTimeout (c : CoreId) (u : CoreUnit) : Statement (.waitTimeout c u) := neither rfl rfl

theorem heartbeat (n : Fin 64) : Statement (.heartbeat n) := neither rfl rfl

theorem creditStarved (port : Fin 6) (vc : Fin 6) : Statement (.creditStarved port vc) := neither rfl rfl

theorem collStall (n : Fin 64) (gen : Nat) : Statement (.collStall n gen) := neither rfl rfl

theorem resetStuck (scope : ResetScope) : Statement (.resetStuck scope) := neither rfl rfl

theorem segmentLong (c : CoreId) : Statement (.segmentLong c) := neither rfl rfl

theorem spareSubstitution (c : CoreId) (deliverable : Bool) (badWords : List (Fin 524288)) : Statement (.spareSubstitution c deliverable badWords) :=
  neither rfl rfl

theorem replayStart (c : CoreId) : Statement (.replayStart c) := neither rfl rfl

theorem calicoVisitStart (cluster : Fin 64) (slot : Fin 25) : Statement (.calicoVisitStart cluster slot) :=
  neither rfl rfl

theorem calicoConditionEnd (die : Fin 4) (r : KernelResult) (kernel : BitVec 32) : Statement (.calicoConditionEnd die r kernel) :=
  neither rfl rfl

theorem diagnosisVisit (cluster : Fin 64) (slot : Fin 25) (r : KernelResult) : Statement (.diagnosisVisit cluster slot r) :=
  neither rfl rfl

theorem edgeModuleLaneLoss (edge : Fin 8) (module : Fin 32) (trainsX8 : Bool) : Statement (.edgeModuleLaneLoss edge module trainsX8) :=
  neither rfl rfl

theorem edgeRetrainComplete (edge : Fin 8) (module : Fin 32) : Statement (.edgeRetrainComplete edge module) :=
  neither rfl rfl

theorem memoryLineRead (at_ : LineAddr) (errs : List SymErr) (who : LineReader) : Statement (.memoryLineRead at_ errs who) :=
  neither rfl rfl

theorem memoryLineWrite (at_ : LineAddr) (mask : Word64) (data : BitVec 512) (errs : List SymErr) (who : LineReader) : Statement (.memoryLineWrite at_ mask data errs who) :=
  neither rfl rfl

theorem scrubRead (stack : Fin 16) (errs : List SymErr) : Statement (.scrubRead stack errs) := neither rfl rfl

theorem refillHoldTimeout (at_ : LineAddr) : Statement (.refillHoldTimeout at_) := neither rfl rfl

theorem migrationWindowEnd : Statement .migrationWindowEnd := neither rfl rfl

theorem pageMigrationComplete (n : Fin 64) (vpage : Nat) : Statement (.pageMigrationComplete n vpage) :=
  neither rfl rfl

theorem mqFetch (f : Fin 17) (st : ReadStatus) (cmd : MemCmd) : Statement (.mqFetch f st cmd) := neither rfl rfl

theorem alloc (f : Fin 17) (cmd : MemCmd) : Statement (.alloc f cmd) := neither rfl rfl

theorem free (f : Fin 17) (cmd : MemCmd) : Statement (.free f cmd) := neither rfl rfl

theorem shareRo (f : Fin 17) (cmd : MemCmd) : Statement (.shareRo f cmd) := neither rfl rfl

theorem replReg (f : Fin 17) (cmd : MemCmd) : Statement (.replReg f cmd) := neither rfl rfl

theorem replUnreg (f : Fin 17) (cmd : MemCmd) : Statement (.replUnreg f cmd) := neither rfl rfl

theorem migrate (f : Fin 17) (cmd : MemCmd) : Statement (.migrate f cmd) := neither rfl rfl

theorem resvWrite (port : DictPort) (n : Fin 64) (value : Word64) : Statement (.resvWrite port n value) :=
  of_request rfl rfl (by simp only [Ent.resv]; omega) (by simp [leBytes])

theorem updateTrigger (n : Fin 64) : Statement (.updateTrigger n) := neither rfl rfl

theorem prePassEnd (n : Fin 64) : Statement (.prePassEnd n) := neither rfl rfl

theorem normReceive (port : Fin 6) (h : MsgHeader) (step sum : Nat) (nonfinite : Bool) :
    Statement (.normReceive port h step sum nonfinite) :=
  neither rfl rfl

theorem normTimeout (n : Fin 64) : Statement (.normTimeout n) := neither rfl rfl

theorem upeGroup (n : Fin 64) (record : Nat) (group : Nat) (residueFails : Nat) : Statement (.upeGroup n record group residueFails) :=
  neither rfl rfl

theorem stepBoundary (n : Fin 64) : Statement (.stepBoundary n) := neither rfl rfl

theorem digestReceive (port : Fin 6) (h : MsgHeader) (step digest : Nat) : Statement (.digestReceive port h step digest) :=
  neither rfl rfl

theorem voteTimeout (n : Fin 64) : Statement (.voteTimeout n) := neither rfl rfl

theorem voteRelease (port : DictPort) (n : Fin 64) : Statement (.voteRelease port n) :=
  of_request rfl rfl (by simp only [Ent.voteRelease]; omega) (by simp)

theorem exportHeadWrite (port : DictPort) (n : Fin 64) (value : Word64) : Statement (.exportHeadWrite port n value) :=
  of_request rfl rfl (by simp only [Ent.exportHead]; omega) (by simp [leBytes])

theorem exportSpillDrain (n : Fin 64) : Statement (.exportSpillDrain n) := neither rfl rfl

theorem keyreq (port : DictPort) (n : Fin 64) : Statement (.keyreq port n) :=
  of_request rfl rfl (by simp only [Ent.exportCtl]; omega) (by simp)

theorem shardreq (port : DictPort) (n : Fin 64) : Statement (.shardreq port n) :=
  of_request rfl rfl (by simp only [Ent.exportCtl]; omega) (by simp)

theorem shardExportComplete (n : Fin 64) : Statement (.shardExportComplete n) := neither rfl rfl

theorem partClustersWrite (port : DictPort) (k : Fin 16) (mask : Word64) : Statement (.partClustersWrite port k mask) :=
  of_request rfl rfl (by simp only [Ent.partClusters]; omega) (by simp [leBytes])

theorem ctxCreate (port : DictPort) (n : Fin 64) (value : BitVec 32) : Statement (.ctxCreate port n value) := by
  by_cases h : value.getLsbD 0 = true
  · exact of_request rfl (if_pos h) (by simp only [Ent.ctxDef]; omega) (by simp [leBytes])
  · exact neither rfl (if_neg h)

theorem ctxDestroy (port : DictPort) (n : Fin 64) (value : BitVec 32) : Statement (.ctxDestroy port n value) := by
  by_cases h : value.getLsbD 0 = true
  · exact neither rfl (if_pos h)
  · exact of_request rfl (if_neg h) (by simp only [Ent.ctxDef]; omega) (by simp [leBytes])

theorem ctxClustersWrite (port : DictPort) (n : Fin 64) (mask : Word64) : Statement (.ctxClustersWrite port n mask) :=
  of_request rfl rfl (by simp only [Ent.ctxClusters]; omega) (by simp [leBytes])

theorem cqTailWrite (n : Fin 64) (value : Word64) : Statement (.cqTailWrite n value) := neither rfl rfl

theorem descriptorFetch (n : Fin 64) : Statement (.descriptorFetch n) := neither rfl rfl

theorem descriptorReadCompletion (n : Fin 64) (st : ReadStatus) (d : BitVec 512) : Statement (.descriptorReadCompletion n st d) :=
  neither rfl rfl

theorem taskStart (c : CoreId) : Statement (.taskStart c) := neither rfl rfl

theorem seqRun (port : DictPort) (k : Fin 16) (value : Word64) : Statement (.seqRun port k value) := by
  by_cases h : value.getLsbD 6 = true
  · exact of_request rfl (if_pos h) (by simp only [Ent.seqCtl]; omega) (by simp [leBytes])
  · exact neither rfl (if_neg h)

theorem seqStop (port : DictPort) (k : Fin 16) (value : Word64) : Statement (.seqStop port k value) := by
  by_cases h : value.getLsbD 6 = true
  · exact neither rfl (if_pos h)
  · exact of_request rfl (if_neg h) (by simp only [Ent.seqCtl]; omega) (by simp [leBytes])

theorem seqPassStart (k : Fin 16) : Statement (.seqPassStart k) := neither rfl rfl

theorem seqEntryIssue (k : Fin 16) : Statement (.seqEntryIssue k) := neither rfl rfl

theorem evalSlotSave (n : Fin 64) : Statement (.evalSlotSave n) := neither rfl rfl

theorem evalSlotRun (n : Fin 64) : Statement (.evalSlotRun n) := neither rfl rfl

theorem evalBudgetExpiry (n : Fin 64) : Statement (.evalBudgetExpiry n) := neither rfl rfl

theorem evalSlotEnd (n : Fin 64) : Statement (.evalSlotEnd n) := neither rfl rfl

theorem evalRestoreComplete (n : Fin 64) : Statement (.evalRestoreComplete n) := neither rfl rfl

theorem portUp (port : Fin 6) (coord : BitVec 16) (authentic : Bool) : Statement (.portUp port coord authentic) :=
  neither rfl rfl

theorem portDown (port : Fin 6) : Statement (.portDown port) := neither rfl rfl

theorem portEnableWrite (from_ : DictPort) (port : Fin 6) (value : Byte) : Statement (.portEnableWrite from_ port value) :=
  of_request rfl rfl (by simp only [Ent.portEnable]; omega) (by simp)

theorem laneDrop (port : Fin 6) (tx : Bool) (lane : Fin 16) : Statement (.laneDrop port tx lane) := neither rfl rfl

theorem retrainWindow : Statement .retrainWindow := neither rfl rfl

theorem laneReadd (port : Fin 6) (tx : Bool) (lane : Fin 16) (passed : Bool) : Statement (.laneReadd port tx lane passed) :=
  neither rfl rfl

theorem flitReceive (port : Fin 6) (flit : List Byte) : Statement (.flitReceive port flit) := neither rfl rfl

theorem replayRequest (port : Fin 6) (seq : BitVec 16) : Statement (.replayRequest port seq) := neither rfl rfl

theorem trainingQueueTimeout (port : Fin 6) : Statement (.trainingQueueTimeout port) := neither rfl rfl

theorem writeMessage (h : MsgHeader) (payload : List Byte) : Statement (.writeMessage h payload) := neither rfl rfl

theorem voileMessage (h : MsgHeader) (payload : List Byte) : Statement (.voileMessage h payload) := neither rfl rfl

theorem postMessage (h : MsgHeader) : Statement (.postMessage h) := neither rfl rfl

theorem ackMessage (h : MsgHeader) : Statement (.ackMessage h) := neither rfl rfl

theorem ackTimeout (c : CoreId) (msgid : BitVec 32) : Statement (.ackTimeout c msgid) := neither rfl rfl

theorem refillReqMessage (h : MsgHeader) (lines : List Nat) (step : Nat) : Statement (.refillReqMessage h lines step) :=
  neither rfl rfl

theorem refillRespMessage (h : MsgHeader) (lines : List (Option (BitVec 512))) (notNow : Bool) : Statement (.refillRespMessage h lines notNow) :=
  neither rfl rfl

theorem peerUpdate (port : DictPort) (value : BitVec 32) : Statement (.peerUpdate port value) :=
  of_request rfl rfl (by decide) (by simp [leBytes])

theorem ringCfgWrite (port : DictPort) (ring : Fin 3) (k : Fin 16) (value : Word64) : Statement (.ringCfgWrite port ring k value) :=
  of_request rfl rfl (by simp only [Ent.ringCfg]; omega) (by simp [leBytes])

theorem ringVerify (port : DictPort) (k : Fin 16) (rings : Byte) : Statement (.ringVerify port k rings) :=
  of_request rfl rfl (by simp only [Ent.ringVerify]; omega) (by simp)

theorem ringVerifyToken (k : Fin 16) (ring : Fin 3) (inPort : BitVec 3) (position : BitVec 11) : Statement (.ringVerifyToken k ring inPort position) :=
  neither rfl rfl

theorem ringVerifyTimeout (k : Fin 16) (ring : Fin 3) : Statement (.ringVerifyTimeout k ring) := neither rfl rfl

theorem timeExchange : Statement .timeExchange := neither rfl rfl

theorem timeMessage (a : TimeArrival) : Statement (.timeMessage a) := neither rfl rfl

theorem gtHoldoverExpiry : Statement .gtHoldoverExpiry := neither rfl rfl

theorem collDoorbellWrite (port : DictPort) (n : Fin 64) (value : BitVec 32) : Statement (.collDoorbellWrite port n value) :=
  of_request rfl rfl (by simp only [Ent.collDoorbell]; omega) (by simp [leBytes])

theorem collectiveIssue (n : Fin 64) : Statement (.collectiveIssue n) := neither rfl rfl

theorem openingToken (port : Fin 6) (h : MsgHeader) (t : OpenToken) : Statement (.openingToken port h t) := neither rfl rfl

theorem abortToken (port : Fin 6) (h : MsgHeader) (t : AbortToken) : Statement (.abortToken port h t) :=
  neither rfl rfl

theorem collDataPhaseStart (n : Fin 64) (gen : Nat) : Statement (.collDataPhaseStart n gen) := neither rfl rfl

theorem collMessage (port : Fin 6) (h : MsgHeader) (m : CollMsg) : Statement (.collMessage port h m) := neither rfl rfl

theorem collComplete (n : Fin 64) : Statement (.collComplete n) := neither rfl rfl

theorem ctxReset (port : DictPort) (n : Fin 64) (value : Byte) : Statement (.ctxReset port n value) :=
  of_request rfl rfl (by simp only [Ent.ctxReset]; omega) (by simp)

theorem contextResetComplete (n : Fin 64) : Statement (.contextResetComplete n) := neither rfl rfl

theorem partReset (port : DictPort) (k : Fin 16) (value : Byte) : Statement (.partReset port k value) :=
  of_request rfl rfl (by simp only [Ent.partReset]; omega) (by simp)

theorem partitionResetComplete (k : Fin 16) : Statement (.partitionResetComplete k) := neither rfl rfl

theorem computeReset (port : DictPort) (value : Byte) : Statement (.computeReset port value) :=
  of_request rfl rfl (by decide) (by simp)

theorem computeResetComplete : Statement .computeResetComplete := neither rfl rfl

theorem tagAdvanceDelayExpiry (n : Fin 64) : Statement (.tagAdvanceDelayExpiry n) := neither rfl rfl

theorem resetInputAssert (pin : ResetPin) (ns : Nat) : Statement (.resetInputAssert pin ns) := neither rfl rfl

theorem resetHeld : Statement .resetHeld := neither rfl rfl

theorem functionLevelReset (f : Fin 17) : Statement (.functionLevelReset f) := neither rfl rfl

theorem busMasterEnableClear (f : Fin 17) : Statement (.busMasterEnableClear f) := neither rfl rfl

theorem busMasterEnableSet (f : Fin 17) : Statement (.busMasterEnableSet f) := neither rfl rfl

theorem pcieLinkDown : Statement .pcieLinkDown := neither rfl rfl

theorem apertureRead (f : Fin 17) (offset : Nat) (length : Nat) : Statement (.apertureRead f offset length) :=
  neither rfl rfl

theorem apertureWrite (f : Fin 17) (offset : Nat) (data : List Byte) (ep : Bool) : Statement (.apertureWrite f offset data ep) :=
  neither rfl rfl

theorem mqTailWrite (f : Fin 17) (value : Word64) : Statement (.mqTailWrite f value) := neither rfl rfl

theorem mqBaseWrite (f : Fin 17) (value : Word64) : Statement (.mqBaseWrite f value) := neither rfl rfl

theorem syncSet (f : Fin 17) (cluster : Fin 64) (index : Fin 4096) (value : Word64) : Statement (.syncSet f cluster index value) :=
  neither rfl rfl

theorem syncHostPost (f : Fin 17) (cluster : Fin 64) (index : Fin 4096) (value : Word64) : Statement (.syncHostPost f cluster index value) :=
  neither rfl rfl

theorem syncConfigWrite (f : Fin 17) (cluster : Fin 64) (index : Fin 4096) (value : Word64) : Statement (.syncConfigWrite f cluster index value) :=
  neither rfl rfl

theorem armSlotWrite (f : Fin 17) (slot : Fin 64) (field : Fin 4) (value : Word64) : Statement (.armSlotWrite f slot field value) :=
  neither rfl rfl

theorem dictRead (port : DictPort) (index : BitVec 16) (sub : Byte) : Statement (.dictRead port index sub) :=
  neither rfl rfl

theorem dictWrite (port : DictPort) (index : BitVec 16) (sub : Byte) (data : List Byte) : Statement (.dictWrite port index sub data) := by
  by_cases h : data.length ≤ 1024
  · exact of_request rfl (if_pos h) (by omega) h
  · exact neither rfl (if_neg h)

theorem registerWrite (f : Fin 17) (offset : BitVec 26) (size : Nat) (value : Word64) : Statement (.registerWrite f offset size value) :=
  neither rfl rfl

theorem watermarkMarkWrite (port : DictPort) (index : BitVec 16) (value : BitVec 32) :
    Statement (.watermarkMarkWrite port index value) := by
  by_cases h : [0x4030, 0x4031, 0x4032, 0x6030, 0x6031, 0x6032].contains index.toNat = true
  · exact of_request rfl (if_pos h) (by omega) (by simp [leBytes])
  · exact neither rfl (if_neg h)

theorem selftestLogic (port : DictPort) : Statement (.selftestLogic port) := of_request rfl rfl (by decide) (by simp)

theorem selftestMemory (port : DictPort) : Statement (.selftestMemory port) :=
  of_request rfl rfl (by decide) (by simp)

theorem selftestSlot (port : DictPort) : Statement (.selftestSlot port) := of_request rfl rfl (by decide) (by simp)

theorem selftestComplete (fails : List FailUnit) : Statement (.selftestComplete fails) := neither rfl rfl

theorem returnCoreSlot (port : DictPort) (cluster : Fin 64) (slot : Fin 32) : Statement (.returnCoreSlot port cluster slot) :=
  of_request rfl rfl (by decide) (by simp [leBytes])

theorem returnChannelGroup (port : DictPort) (stack : Fin 16) (group : Fin 16) : Statement (.returnChannelGroup port stack group) :=
  of_request rfl rfl (by decide) (by simp [leBytes])

theorem returnUpe (port : DictPort) (engine : Fin 16) : Statement (.returnUpe port engine) :=
  of_request rfl rfl (by decide) (by simp [leBytes])

theorem returnComplete (die : Fin 4) (r : KernelResult) : Statement (.returnComplete die r) := neither rfl rfl

theorem powerSample (r : PowerReading) : Statement (.powerSample r) := neither rfl rfl

theorem powerCapWrite (port : DictPort) (value : BitVec 16) : Statement (.powerCapWrite port value) :=
  of_request rfl rfl (by decide) (by simp [leBytes])

theorem slopeWrite (port : DictPort) (value : BitVec 16) : Statement (.slopeWrite port value) :=
  of_request rfl rfl (by decide) (by simp [leBytes])

theorem govRelearn (port : DictPort) (k : Fin 16) : Statement (.govRelearn port k) :=
  of_request rfl rfl (by simp only [Ent.govRelearn]; omega) (by simp)

theorem rampGridInstant : Statement .rampGridInstant := neither rfl rfl

theorem thermalSensorRead (raw : List Int) : Statement (.thermalSensorRead raw) := neither rfl rfl

theorem ivrPhase (r : Regulator) : Statement (.ivrPhase r) := neither rfl rfl

theorem mainRailApply : Statement .mainRailApply := neither rfl rfl

theorem mainRailLoss (how : RailLoss) : Statement (.mainRailLoss how) := neither rfl rfl

theorem auxRailRise : Statement .auxRailRise := neither rfl rfl

theorem auxRailLoss : Statement .auxRailLoss := neither rfl rfl

theorem refclkLoss : Statement .refclkLoss := neither rfl rfl

theorem managementBootComplete (strapAddr : BitVec 2) : Statement (.managementBootComplete strapAddr) :=
  neither rfl rfl

theorem startPoint (found : StartFindings) : Statement (.startPoint found) := neither rfl rfl

theorem flashRecordsApply : Statement .flashRecordsApply := neither rfl rfl

theorem memoryInitComplete : Statement .memoryInitComplete := neither rfl rfl

theorem devReady : Statement .devReady := neither rfl rfl

theorem startupStepStuck : Statement .startupStepStuck := neither rfl rfl

theorem firmwareUpdate (port : DictPort) (cls : FwClass) (img : FwImage) : Statement (.firmwareUpdate port cls img) :=
  neither rfl rfl

theorem pldmSensorRead (port : DictPort) (sensor : PldmSensor) : Statement (.pldmSensorRead port sensor) :=
  neither rfl rfl

theorem getVersion (port : DictPort) : Statement (.getVersion port) := neither rfl rfl

theorem getCapabilities (port : DictPort) : Statement (.getCapabilities port) := neither rfl rfl

theorem negotiateAlgorithms (port : DictPort) (p384 : Bool) (sha384 : Bool) : Statement (.negotiateAlgorithms port p384 sha384) :=
  neither rfl rfl

theorem getDigests (port : DictPort) : Statement (.getDigests port) := neither rfl rfl

theorem getCertificate (port : DictPort) (slot : Fin 8) : Statement (.getCertificate port slot) := neither rfl rfl

theorem challenge (port : DictPort) (slot : Fin 8) (nonce : BitVec 256) : Statement (.challenge port slot nonce) :=
  neither rfl rfl

theorem getMeasurements (port : DictPort) (block : Byte) : Statement (.getMeasurements port block) := neither rfl rfl

theorem extest : Statement .extest := neither rfl rfl

theorem samplePreload : Statement .samplePreload := neither rfl rfl

theorem idcode : Statement .idcode := neither rfl rfl

theorem clamp : Statement .clamp := neither rfl rfl

theorem highz : Statement .highz := neither rfl rfl

theorem netSel : Statement .netSel := neither rfl rfl

theorem bypass (code : Byte) : Statement (.bypass code) := neither rfl rfl

theorem tapReset : Statement .tapReset := neither rfl rfl

theorem sibUpdate (bits : List Bool) : Statement (.sibUpdate bits) := neither rfl rfl

theorem lbistStart (die : Fin 4) (cmask : BitVec 16) : Statement (.lbistStart die cmask) := neither rfl rfl

theorem ioBistStart : Statement .ioBistStart := neither rfl rfl

theorem mbStart (stack : Fin 16) (gmask : BitVec 16) (pattern : BitVec 2) : Statement (.mbStart stack gmask pattern) :=
  neither rfl rfl

theorem resetInputRelease (pin : ResetPin) : Statement (.resetInputRelease pin) := neither rfl rfl

theorem portTraining (port : Fin 6) : Statement (.portTraining port) := neither rfl rfl

theorem portRetrainComplete (port : Fin 6) : Statement (.portRetrainComplete port) := neither rfl rfl

theorem pcieLinkUp : Statement .pcieLinkUp := neither rfl rfl

theorem hostInterfaceConfigLoaded : Statement .hostInterfaceConfigLoaded := neither rfl rfl

theorem spareRowCopyComplete (stack : Fin 16) (channel : Fin 128) (bank : Fin 32) (row : Fin 12288) : Statement (.spareRowCopyComplete stack channel bank row) :=
  neither rfl rfl

theorem flashEntryWritten (index : BitVec 16) (sub : Byte) : Statement (.flashEntryWritten index sub) :=
  neither rfl rfl

end Sys2Proof.Laws.RequestsAndWords
end

