-- ==== Sys2Proof/Tests/Slice0.lean ====
section
/-!
SUPPORT. Tests of the model on fixed values: each check of WellFormed refuses an ill-formed term, words written out from
the tables decode to their instructions, examples of the manual come out as it says, and every statement that has hypotheses
has a state and operands that meet them.
-/

namespace Sys2Proof.Tests

set_option Elab.async false

open Sys2Proof Sys2Proof.Machine

/-! ### States -/

/-- A package in READY with its links to the host up and its stacks served. -/
def base : State :=
  { State.reset with
    plat := { Plat.cold with aux := true, main := true, conv := true, stage := .ready, devReady := true, idle := false }
    mem := { Mem.cold with served := true }
    host := { HostIf.init with pcieUp := true, cfgUp := true } }

/-- Some entries of the dictionary set. -/
def put (s : State) (l : List (Nat × Nat)) : State := l.foldl (fun s p => s.setEnt p.1 p.2) s

/-- The page that holds the code of context 0, and one for its data. -/
def page (frame v : Nat) : Page :=
  { stack := 0, frame := frame, owner := 0, opage := v, ro := false, pin := false, repl := none }

/-- Partition 0 holds cluster 0; context 0 is a training context of it, bound to the cluster, with pages 1 and 2 mapped. -/
def one : State :=
  { put base [(Ent.partClusters 0, 1), (Ent.ctxDef 0, 1), (Ent.ctxClusters 0, 1)] with
    mem := { base.mem with pages := [(1, some (page 16 1)), (2, some (page 32 2))] } }

/-- The task that core 0 runs. -/
def task : RunTask := { inst := 0, ctx := 0, taskid := 0, step := 0, key := 0#64 }

/-- Core 0 with a task, at the start of page 1, whose first line its instruction cache holds. -/
def worker : Core := { Core.init with run := some task, regs := { Regs.zero with pc := 0x200000 }, icache := [8192] }

/-- Context 0 with core 0 as given. -/
def at0 (c : Core) : State := { one with cores := [(0, c)] }

/-- Core 0 of cluster 0. -/
def core0 : CoreId := { cluster := 0, core := 0 }

/-- Operands of layout S, all zero. -/
def xs : SArgs := { d := 0, a := 0, b := 0, i := false, imm := 0, guard := 0 }

/-- Operands of layout Y, all zero. -/
def xy : YArgs := { q := 0, a := 0, b := 0, i := false, imm := 0, tsel := 0, d := 0, guard := 0 }

/-- Operands of layout V, all zero. -/
def xv : VArgs :=
  { vd := 0, va := 0, vb := 0, vc := 0, fmt := 0, sat := false, rnd := false, trunc := false, sI := 0, sT := 0, sX := 0,
    lane := 0, guard := 0 }

/-- Operands of layout M, all zero. -/
def xe : EArgs := { d := 0, aE := 0, aS := 0, fmt := 0, sat := false, rnd := false, sI := 0, sT := 0, imm := 0, guard := 0 }

/-- Whether core k dispatches an instruction, as a truth value. -/
def goes (s : State) (k : Nat) (g : BitVec 4) (rd wr : List RegName) (r : RunTask) : Bool :=
  let q := s.core k
  decide (q.ready = some r) && q.regs.pc % 8 == 0 && q.cached q.regs.pc && q.guard g && !q.interlocked rd wr

/-- Whether core k dispatches an engine or synchronisation instruction, as a truth value. -/
def issues (s : State) (k : Nat) (g : BitVec 4) (op : EngOp) (r : RunTask) : Bool :=
  let q := s.core k
  goes s k g op.reads op.writes r && (op.unit == .seq || ((q.disp.queue op.unit).isEmpty && q.admits op.unit)) &&
    !(op.crossCore && s.restricted (s.ctxPart r.ctx)) && (q.disp.races.unordered op.unit false).isEmpty

theorem dispatches_of {s : State} {k : Nat} {g : BitVec 4} {rd wr : List RegName} {r : RunTask}
    (h : goes s k g rd wr r = true) : Dispatches s k g rd wr r := by
  simp only [goes, Bool.and_eq_true, decide_eq_true_eq, beq_iff_eq, Bool.not_eq_true'] at h
  exact ⟨h.1.1.1.1, h.1.1.1.2, h.1.1.2, h.1.2, h.2⟩

theorem issues_of {s : State} {k : Nat} {g : BitVec 4} {op : EngOp} {r : RunTask} (h : issues s k g op r = true) :
    Issues s k g op r := by
  simp only [issues, Bool.and_eq_true, Bool.or_eq_true, beq_iff_eq, Bool.not_eq_true', List.isEmpty_iff] at h
  exact ⟨dispatches_of h.1.1.1, h.1.1.2, h.1.2, h.2⟩

/-! ### Ill-formed commands are refused -/

/-- A message header, all zero but its LENGTH. -/
def header (len : BitVec 16) : MsgHeader :=
  { status := 0, length := len, dcoord := 0, dpart := 0, dctx := 0, tag := 0, sctx := 0, scoord := 0, spart := 0, score := 0,
    msgid := 0, daddr := 0, aux := 0 }

/-- A line of stack 0. -/
def line0 : LineAddr := { stack := 0, frame := 16, line := 0 }

/-- A memory command with no opcode. -/
def cmd0 : MemCmd := { w0 := 0, w1 := 0, w2 := 0, w3 := 0 }

/-- An opening token, an ABORT token and a data message of five bytes, all zero. -/
def opening0 : OpenToken :=
  { gen := 0, lane := 0, signature := 0, root := 0, seglen := 0, group := 0, slotSum := 0, position := 0, origin := 0, rank := 0,
    leg := 0 }
def abort0 : AbortToken := { gen := 0, lane := 0, rings := 0, seglen := 0, origin := 0, mismatch := false }
def part0 : CollMsg := { gen := 0, lane := 0, phase := .partial_, first := 0, flags := 0, data := List.replicate 5 0 }

/-- A power reading of the package alone. -/
def sample0 (w : Nat) : PowerReading :=
  { package := w, partitions := List.replicate 16 0, extra := List.replicate 17 0, others := 0, vin12mV := 12000 }

/-- Each of these breaks one check. -/
theorem test_illFormed_refused : ([.csrrd core0 { xs with imm := 6 }, .illegalInstruction core0 0x0411841000000640#64, .sbar core0 { xy with q := 1 },
   .scommit core0 { xy with q := 3 }, .spareSubstitution core0 true [5, 5], .calicoConditionEnd 0 (.columns []) 0,
   .diagnosisVisit 0 0 (.columns [1, 1]), .memoryLineRead line0 [⟨3, 1⟩, ⟨3, 2⟩] .exporter,
   .memoryLineWrite line0 0 0 [⟨3, 0⟩] .exporter, .scrubRead 0 [⟨71, 0⟩], .pageMigrationComplete 0 (2 ^ 27), .alloc 0 cmd0,
   .free 0 cmd0, .shareRo 0 cmd0, .replReg 0 cmd0, .replUnreg 0 cmd0, .migrate 0 { cmd0 with w0 := 5 },
   .normReceive 0 (header 20) (2 ^ 64) 0 false, .normReceive 0 (header 20) 0 (2 ^ 96) false, .upeGroup 0 0 0 4,
   .digestReceive 0 (header 24) (2 ^ 64) 0, .digestReceive 0 (header 24) 0 (2 ^ 128), .ctxCreate .i3c 0 2,
   .ctxDestroy .i3c 0 1, .seqRun .i3c 0 0x3F, .seqStop .i3c 0 0x40, .flitReceive 0 [], .writeMessage (header 4) [0],
   .writeMessage (header 4097) (List.replicate 4097 0), .voileMessage (header 257) (List.replicate 257 0),
   .postMessage (header 1), .ackMessage (header 8), .refillReqMessage (header 0) (List.replicate 65 0) 0,
   .refillReqMessage (header 0) [32] 0, .refillReqMessage (header 0) [64] (2 ^ 64),
   .refillRespMessage (header 0) (List.replicate 65 none) false, .timeMessage ⟨0, .ask (2 ^ 64)⟩,
   .openingToken 0 (header 0) { opening0 with slotSum := 2 ^ 32 }, .abortToken 0 (header 0) { abort0 with gen := 2 ^ 64 },
   .collMessage 0 (header 4) part0, .collMessage 0 (header 5) { part0 with first := 2 ^ 48 }, .apertureRead 0 0 0,
   .apertureRead 0 0 4097,
   .apertureRead 0 (2 ^ 36 - 1) 2, .apertureWrite 0 0 [] false, .apertureWrite 0 0 (List.replicate 513 0) false,
   .apertureWrite 0 (2 ^ 36) [0] false, .dictWrite .i3c 0 0 (List.replicate 1025 0), .registerWrite 0 0 3 0,
   .registerWrite 0 0 1 256, .watermarkMarkWrite .i3c 0x4033 0, .selftestComplete [.slot 0 0 .pass],
   .returnComplete 0 (.columns []), .powerSample { sample0 0 with partitions := List.replicate 15 0 },
   .powerSample { sample0 0 with extra := List.replicate 16 0 },
   .thermalSensorRead (List.replicate 99 0), .bypass 0x10] : List Instr).all (fun i => !i.wellFormed) = true := by decide +kernel

/-- The same commands mended. -/
theorem test_wellFormed : ([.csrrd core0 { xs with imm := 5 }, .illegalInstruction core0 0, .sbar core0 xy,
    .spareSubstitution core0 true [5, 6], .calicoConditionEnd 0 (.columns [1]) 0,
    .memoryLineRead line0 [⟨3, 1⟩, ⟨4, 2⟩] .exporter, .pageMigrationComplete 0 (2 ^ 27 - 1), .alloc 0 { cmd0 with w0 := 1 },
    .ctxCreate .i3c 0 1, .seqRun .i3c 0 0x40, .flitReceive 0 (List.replicate 256 0), .writeMessage (header 1) [0],
    .openingToken 0 (header 0) opening0, .abortToken 0 (header 0) abort0, .collMessage 0 (header 5) part0, .powerSample (sample0 0),
    .apertureRead 0 (2 ^ 36 - 1) 1, .registerWrite 0 0 1 255, .watermarkMarkWrite .i3c 0x4032 0,
    .thermalSensorRead (List.replicate 100 0), .bypass 0xFF] : List Instr).all Instr.wellFormed = true := by decide +kernel

/-! ### Words written out from the tables -/

/-- The example of Table 5.4: ADD s3, s1, 100. -/
theorem test_word_add : decodePlovmi core0 0x0411841000000640#64 =
    some (.add core0 { d := 3, a := 1, b := 0, i := true, imm := 100, guard := 0 }) := by decide +kernel

/-- CLT p1, s2, s3 and LI s31, -1 under guard 5 (class 0x01), PNOT p1, p2 (class 0x02), BR back by two under guard 9 (class 0x03),
FLAGRD s4 (class 0x04). -/
theorem test_words_sequencer :
    decodePlovmi core0 (0b000001#6 ++ 0b010010#6 ++ 0b00001#5 ++ 0b00010#5 ++ 0b00011#5 ++ 0b0#1 ++ 0#32 ++ 0#4) =
      some (.clt core0 { d := 1, a := 2, b := 3, i := false, imm := 0, guard := 0 }) ∧
    decodePlovmi core0 (0b000001#6 ++ 0b011000#6 ++ 0b11111#5 ++ 0#5 ++ 0#5 ++ 0b1#1 ++ 0xFFFFFFFF#32 ++ 0b0101#4) =
      some (.li core0 { d := 31, a := 0, b := 0, i := true, imm := 0xFFFFFFFF, guard := 5 }) ∧
    decodePlovmi core0 (0b000010#6 ++ 0b001011#6 ++ 0b00001#5 ++ 0b00010#5 ++ 0#5 ++ 0b0#1 ++ 0#32 ++ 0#4) =
      some (.pnot core0 { d := 1, a := 2, b := 0, i := false, imm := 0, guard := 0 }) ∧
    decodePlovmi core0 (0b000011#6 ++ 0b000001#6 ++ 0#5 ++ 0#5 ++ 0#5 ++ 0b1#1 ++ 0xFFFFFFFE#32 ++ 0b1001#4) =
      some (.br core0 { d := 0, a := 0, b := 0, i := true, imm := 0xFFFFFFFE, guard := 9 }) ∧
    decodePlovmi core0 (0b000100#6 ++ 0b000010#6 ++ 0b00100#5 ++ 0#47) = some (.flagrd core0 { xs with d := 4 }) := by decide +kernel

/-- SWAIT in the TXE queue with L = 1, TSEL 7 and IMM16 (class 0x08); MLOAD, MSTREAM with GATH and MDRAIN with CLR (class 0x10);
VRCP (0x19), VLD (0x1A); TLOAD, TSEND with V = 1 and WOPEN (0x20). -/
theorem test_words_engines :
    decodePlovmi core0 (0b001000#6 ++ 0b000010#6 ++ 0b11#2 ++ 0b1#1 ++ 0#2 ++ 0b00100#5 ++ 0#5 ++ 0b1#1 ++ 0x0018#16 ++ 0b0111#4 ++
        0#5 ++ 0#7 ++ 0#4) = some (.swaitLocal core0 { xy with q := 3, a := 4, i := true, imm := 0x18, tsel := 7 }) ∧
    decodePlovmi core0 (0b010000#6 ++ 0b000001#6 ++ 0b0001#4 ++ 0b0010#4 ++ 0b0011#4 ++ 0b00100#5 ++ 0#35) =
      some (.mload core0 { fmt := 1, aE := 2, aS := 3, sG := 4 } .none) ∧
    decodePlovmi core0 (0b010000#6 ++ 0b000011#6 ++ 0b0001#4 ++ 0b0010#4 ++ 0b0011#4 ++ 0b00100#5 ++ 0b00101#5 ++ 0b100000001#9 ++
        0b0#1 ++ 0b1#1 ++ 0b1#1 ++ 0b0110#4 ++ 0#14) =
      some (.gatheredSubmission core0 { fmt := 1, aE := 2, aS := 3, sM := 4, sG := 5, accBase := 257, dest := false, acc := true,
                                        aO := 6 } .none) ∧
    decodePlovmi core0 (0b010000#6 ++ 0b000100#6 ++ 0b0001#4 ++ 0b0010#4 ++ 0b0011#4 ++ 0b00100#5 ++ 0b00101#5 ++ 0b100000001#9 ++
        0b00110#5 ++ 0b00111#5 ++ 0b0#1 ++ 0b1#1 ++ 0b1#1 ++ 0#8) =
      some (.mdrain core0 { fmt := 1, aO := 2, aS := 3, sM := 4, sG := 5, accBase := 257, sI := 6, sT := 7, rnd := false,
                            sat := true, clr := true } .none) ∧
    decodePlovmi core0 (0b100000#6 ++ 0b000011#6 ++ 0b0001#4 ++ 0#4 ++ 0b00010#5 ++ 0b00011#5 ++ 0b0001#4 ++ 0b0001#4 ++ 0b0#1 ++
        0b1#1 ++ 0b00100#5 ++ 0b00101#5 ++ 0b1#1 ++ 0#9 ++ 0b0001#4) =
      some (.tsendVoile core0 { aL := 1, sN := 2, sR := 3, sfmt := 1, dfmt := 1, rnd := false, sat := true, sI := 4, sT := 5,
                                guard := 1 } .none) := by decide +kernel

/-- Reserved bits of a defined instruction are ignored (R123): bit 48 of layout Y. A reserved class, a reserved opcode, a CSR number
beyond Table 5.2, SBAR with L = 1 and SCOMMIT with Q = 1 are illegal (R122). -/
theorem test_words_reserved :
    decodePlovmi core0 (0b001000#6 ++ 0b000010#6 ++ 0b11#2 ++ 0b1#1 ++ 0b10#2 ++ 0#47) = some (.swaitLocal core0 { xy with q := 3 }) ∧
    decodePlovmi core0 (0b000101#6 ++ 0#58) = none ∧ decodePlovmi core0 (0b000001#6 ++ 0b001110#6 ++ 0#52) = none ∧
    decodePlovmi core0 (0b000100#6 ++ 0b000101#6 ++ 0#15 ++ 0b1#1 ++ 6#32 ++ 0#4) = none ∧
    decodePlovmi core0 (0b001000#6 ++ 0b000011#6 ++ 0b00#2 ++ 0b1#1 ++ 0#49) = none ∧
    decodePlovmi core0 (0b001000#6 ++ 0b001000#6 ++ 0b01#2 ++ 0#50) = none := by decide +kernel

/-! ### Worked examples of the manual -/

/-- fp32 to B16 and F16 and E4M3 ("Worked bit patterns", after R58). -/
theorem test_conversions :
    convertTo .b16 0x3F800001#32 .rne false = (0x3F80, FFlags.inexact) ∧
    convertTo .b16 0x3F818000#32 .rne false = (0x3F82, FFlags.inexact) ∧
    convertTo .b16 0x7F7FC000#32 .rne false = (0x7F80, FFlags.overflow ||| FFlags.inexact) ∧
    convertTo .b16 0x7F7FC000#32 .rne true = (0x7F7F, FFlags.overflow ||| FFlags.inexact) ∧
    convertTo .b16 0x3F804000#32 (.sr 49443) false = (0x3F81, FFlags.inexact) ∧
    convertTo .b16 0x3F804000#32 (.sr 0x2000) false = (0x3F80, FFlags.inexact) ∧
    convertTo .f16 0x3DCCCCCD#32 .rne false = (0x2E66, FFlags.inexact) ∧
    convertTo .f16 0x33400000#32 .rne false = (0x0001, FFlags.inexact ||| FFlags.underflow) ∧
    convertTo .e4m3 0x43E80000#32 .rne false = (0x7E, FFlags.inexact) ∧
    convertTo .e4m3 0x43EB0000#32 .rne false = (0x7F, FFlags.overflow ||| FFlags.inexact ||| FFlags.invalid) := by decide +kernel

/-- One MXFP4 block: 3.0, -0.75, 10.0, 0.1 give scale byte 0x80 and elements 3, 9, 6, 0. -/
theorem test_mxfp4_block :
    encodeMx .e2m1 ([0x40400000#32, 0xBF400000#32, 0x41200000#32, 0x3DCCCCCD#32] ++ List.replicate 28 0#32) (fun _ => .rne) =
      (0x80, [3, 9, 6, 0] ++ List.replicate 28 0, FFlags.inexact ||| FFlags.underflow) := by decide +kernel

/-- exp(1.0) is 0x402D_F854, inexact (after R60); rcp(2^-149) overflows. -/
theorem test_exp : f32exp 0x3F800000#32 = (0x402DF854#32, FFlags.inexact) ∧
    f32rcp 1#32 = (0x7F800000#32, FFlags.overflow ||| FFlags.inexact) := by decide +kernel

/-- B16, where small products are lost ("Worked examples" of section 3). -/
theorem test_blockSum : blockSum .b16 ((operand .b16 0x3F80 0, operand .b16 0x3F80 0) ::
    List.replicate 63 (operand .b16 0x3200 0, operand .b16 0x3F80 0)) = (0x3F800000#32, FFlags.inexact) := by decide +kernel

/-- The device physical address 0xE0_7D00_1A40 (after R208). -/
theorem test_address : paStack 0xE07D001A40 = 7 ∧ paFrame 0xE07D001A40 = 1000 ∧ lineChannel 1000 105 = 69 ∧
    lineColumn 105 = 13 ∧ lineBank 1000 105 = 30 ∧ lineRow 1000 105 = 248 := by decide +kernel

/-- Gradients 3.0 and 4.0 with a clip norm of 1.0 (after R260). -/
theorem test_clip : (normAdd true (normAdd true (0, false) 0x40400000#32) 0x40800000#32) = (25 * 2 ^ 64, false) ∧
    clipScale 0x3F800000#32 (normOf (25 * 2 ^ 64)) = 0x3E4CCCCD#32 := by decide +kernel

/-- The adaptive-moment group of the example after R268. -/
def group0 : UpdGroup :=
  { kind := 2, nest := false, clip := false, sched := 0, lrMax := 0x3A800000#32, lrMin := 0#32, warmup := 0, total := 0,
    beta1 := 0x3F600000#32, beta2 := 0x3F7FC000#32, eps := 0x35800000#32, lambda := 0#32, k := 0, b1p := 0x3F800000#32,
    b2p := 0x3F800000#32 }

theorem test_update :
    (updateElem group0 (scalarsOf group0 0) f32one true { w := 0x3F800000#32, m := 0#32, v := 0#32, g := 0x3F000000#32 }).1.w =
      0x3F7FC000#32 ∧ (scalarsOf group0 0).b1p = 0x3F600000#32 ∧ (scalarsOf group0 0).b2p = 0x3F7FC000#32 := by decide +kernel

/-- The XOR bytes of the example after R278. -/
theorem test_zeroRuns : zeroRunCode ((List.replicate 5 0#8 ++ [0xC0#8, 0xFF#8]) ++ List.replicate 9 0#8) =
    [0x84#8, 0x01#8, 0xC0#8, 0xFF#8, 0x88#8] := by decide +kernel

/-- The exact sum of 3.0, -1.25, 2^-27 (1 + 2^-23) and 0.5 over four slots is 2.25 (after R343). -/
theorem test_collSum : collSum [0x40400000#32, 0xBFA00000#32, 0x32000001#32, 0x3F000000#32] 4 = (0x40100000#32, FFlags.inexact) := by decide +kernel

/-! ### States and operands that meet the statements' premises: the cores -/

/-- worker with scalar registers as given. -/
def withS (l : SMap Word64) : Core := { worker with regs := { worker.regs with s := l } }

/-- Sync words of cluster 0: a count at index 0, a barrier of two at 1, a free lock at 2, a lock of core 0 at 3, and one
that context 0 holds from a committed segment at 4. -/
def someWords : SMap SyncWord :=
  [(0, { value := 7, config := 0, holder := none, abandoned := false }),
   (1, { value := 0, config := 131073, holder := none, abandoned := false }),
   (2, { value := 0, config := 2, holder := none, abandoned := true }),
   (3, { value := 0, config := 2, abandoned := false,
         holder := some { ctx := 0, cluster := 0, core := 0, tag := 0, status := 1, committed := false } }),
   (4, { value := 0, config := 2, abandoned := false,
         holder := some { ctx := 0, cluster := 0, core := 0, tag := 0, status := 0, committed := true } })]

/-- Core 0 as given, with the sync words and watches. -/
def sync0 (c : Core) (w : List Watch) : State :=
  { at0 c with sync := { Sync.zero with words := someWords, watches := w } }

theorem witness_ResetAndIdle :
    base.pending = [] ∧ base.plat.stage = StartStage.ready ∧ base.plat.refLost = false ∧ base.gtime.hold = none := by decide +kernel

theorem witness_MemoryStaysCanonical :
    Memory.wf base.mem = true ∧ step base = .next base.tick ∧ ∃ t, step { base with pending := [.retrainWindow] } = .next t :=
  ⟨by decide +kernel, rfl, _, rfl⟩

theorem witness_DecodeInvertsEncode :
    ∀ i ∈ [Instr.add core0 xs, .vadd core0 xv, .spost core0 xy, .mswap core0, .wclose core0 { aB := 0, sN := 0, w := 7, guard := 15 },
        .mload core0 { fmt := 8, aE := 15, aS := 15, sG := 31 } .none, .sst core0 xe],
      i.wellFormed = true ∧ i.faultless = true ∧ i.core? = some core0 ∧ (encodePlovmi i).isSome = true := by decide +kernel

/-- Every register set and form of the sequencer, at both ends of the guard that is true. -/
theorem witness_scalar : Dispatches (at0 worker) (coreKey core0) 0#4 [.s 31, .a 15] [.s 31, .a 15] task :=
  dispatches_of (by decide +kernel)

theorem witness_AluAndMoveResults :
    Dispatches (at0 worker) (coreKey core0) xs.guard (readsAB xs) [.s xs.d] task ∧
    Dispatches (at0 worker) (coreKey core0) xs.guard [] [.s xs.d] task ∧
    Dispatches (at0 worker) (coreKey core0) xs.guard [.s xs.d] [.s xs.d] task ∧
    Dispatches (at0 worker) (coreKey core0) xs.guard [.a 0, .s xs.b] [.a 0] task ∧
    Dispatches (at0 worker) (coreKey core0) xs.guard [.s xs.a] [.a 0] task ∧
    Dispatches (at0 worker) (coreKey core0) xs.guard [.a 0] [.s xs.d] task := by
  refine ⟨?_, ?_, ?_, ?_, ?_, ?_⟩ <;> exact dispatches_of (by decide +kernel)

theorem witness_CompareAndPredicateResults :
    Dispatches (at0 worker) (coreKey core0) xs.guard (readsAB xs) [] task ∧
    Dispatches (at0 worker) (coreKey core0) xs.guard [] [] task := by
  refine ⟨?_, ?_⟩ <;> exact dispatches_of (by decide +kernel)

/-- CSRRD at the last number that names a value of the core, and DRAIN with an engine at work and without. -/
theorem witness_ControlResults :
    Dispatches (at0 worker) (coreKey core0) xs.guard [] [.s xs.d] task ∧
    (5#32).toNat % 4096 < 6 ∧ ¬ (6#32).toNat % 4096 < 6 ∧ worker.retired = true ∧
    (let busy : Core := { worker with disp := { worker.disp with loads := [{ lo := 0, hi := 1, pc := 0, flags := 0#4 }] } }
     Dispatches (at0 busy) (coreKey core0) xs.guard [] [] task ∧ busy.retired = false) :=
  ⟨dispatches_of (by decide +kernel), by decide, by decide, by decide +kernel, dispatches_of (by decide +kernel),
    by decide +kernel⟩

theorem witness_ScalarFrame : ∀ p ∈ scalarForms core0 xs, goes (at0 worker) (coreKey core0) xs.guard p.2.1 p.2.2 task = true := by decide +kernel

/-- The guard of p0 negated is false; a number that no CSR has, and a Q of a commit; a PC that is no multiple of 8, one in a
page that is not mapped, and one whose line the cache does not hold. -/
theorem witness_FalseGuardsAndFetchFaults :
    (worker.ready = some task ∧ worker.regs.pc % 8 = 0 ∧ worker.cached worker.regs.pc = true ∧ worker.guard 8#4 = false) ∧
    (decodePlovmi core0 0#64 = none ∧ Dispatches (at0 worker) (coreKey core0) 0#4 [] [] task) ∧
    (6 ≤ (6#32).toNat % 4096 ∧ (encodePlovmi (.csrrd core0 { xs with imm := 6 })).isSome = true ∧
      (encodePlovmi (.scommit core0 { xy with q := 1 })).isSome = true ∧ (encodePlovmi (.sbar core0 { xy with q := 3 })).isSome = true) ∧
    (let odd : Core := { worker with regs := { worker.regs with pc := 0x200004 } }
     let far : Core := { worker with regs := { worker.regs with pc := 0x600000 } }
     odd.ready = some task ∧ odd.regs.pc % 8 ≠ 0 ∧ far.ready = some task ∧ far.cached far.regs.pc = false ∧
       (at0 far).translate 0 far.regs.pc = none) ∧
    (let cold : Core := { worker with regs := { worker.regs with pc := 0x2000F8 }, icache := [] }
     cold.ready = some task ∧ cold.regs.pc % 8 = 0 ∧ cold.cached cold.regs.pc = false ∧ cold.guard 0#4 = true ∧
       cold.interlocked [] [.s 31] = false ∧
       (match (at0 cold).readVirt 0 (cold.regs.pc / 256 * 256) 256 with
        | .ok b => b.length == 256
        | .fail _ _ => false) = true) :=
  ⟨by decide +kernel, ⟨by decide +kernel, dispatches_of (by decide +kernel)⟩, by decide +kernel, by decide +kernel,
    by decide +kernel⟩

/-- A post entry of context 0. -/
def entry (kind : PostKind) : PostEntry := { kind := kind, committed := true, ctx := 0, tag := 0, pc := 0, seq := 0 }

/-- Posts to the own partition, to peer 4095 and to a lock; the buffer with room for one more, and with an entry that takes
the post in although it is full; an entry of each kind at the front of the buffer. -/
theorem witness_PostsAreHeldAndReleased :
    (let s := sync0 (withS [(1, 4095), (3, 0xFFF00000000)]) []
     let own : YArgs := { xy with a := 1 }
     let far : YArgs := { xy with a := 3 }
     (Issues s 0 own.guard (.spost false own) task ∧ opPeer 4095 = 0 ∧ s.target 0 4095 anyMode = .word 4095 ∧
       (s.core 0).earlierRetired .seq = true ∧ (s.core 0).post.length < 256) ∧
     (Issues (s.modCtx 0 fun c => { c with peers := [(4095, some { coord := 0, part := 0, ctx := 0, tag := 0, valid := true })] })
         0 far.guard (.spost false far) task ∧ opPeer 0xFFF00000000 = 4095 ∧
       (s.modCtx 0 fun c => { c with peers := [(4095, some { coord := 0, part := 0, ctx := 0, tag := 0, valid := true })] }).peerOf
           0 4095 = some { coord := 0, part := 0, ctx := 0, tag := 0, valid := true })) ∧
    (let s := sync0 (withS [(1, 3)]) []
     let x : YArgs := { xy with a := 1 }
     Issues s 0 x.guard (.sunlock x) task ∧ opPeer 3 = 0 ∧ s.target 0 3 [2] = .word 3) ∧
    (combinePost { entry (.add 0 5 1) with committed := false }
      (List.replicate 256 { entry (.add 0 5 1) with committed := false })).isSome = true ∧
    (∀ e ∈ [entry (.add 0 0 1), entry (.arrive 0 1), entry (.unlock 0 3), entry (.push 1 7 15 0), entry (.adv 7 1)],
      let s := sync0 { worker with post := [e] } []
      (s.core 0).post = [e] ∧ e.committed = true ∧ (s.core 0).disp.queued = [] ∧ (s.core 0).disp.hold = .none ∧
        (match e.kind with
          | .peerAdd _ _ _ => false
          | _ => true) = true ∧
        s.tagOk e.ctx e.tag = true ∧ (s.word 0).owner = none ∧ (s.word 0).admitsCtx 0 = true ∧ (s.word 1).admitsCtx 0 = true ∧ (s.word 1).mode = 1 ∧
        (s.word 3).admitsCtx 0 = true ∧ (s.word 3).mode = 2 ∧
        ∀ h ∈ (s.word 3).holder, s.holds h 0 0 = true ∧ h.tag = e.tag) ∧
    (let e := entry (.peerAdd 4095 7 5)
     let s := (at0 { worker with post := [e] }).modCtx 0 fun c => { c with peers :=
       [(4095, some { coord := 0, part := 0, ctx := 0, tag := 0, valid := true })] }
     (s.core 0).post = [e] ∧ e.committed = true ∧ e.kind = .peerAdd 4095 7 5 ∧ (s.peerOf e.ctx 4095).isSome = true) := by
  refine ⟨⟨⟨issues_of ?_, ?_⟩, issues_of ?_, ?_⟩, ⟨issues_of ?_, ?_⟩, ?_, ?_, ?_⟩ <;> decide +kernel

/-- Local counters below 2^64, a local queue with 15 entries and one with an entry; room in queue 7 of a core, and an entry
to take in it. -/
theorem witness_LocalSyncAndHandleQueues :
    (let c : Core := { withS [(1, 7), (2, 1)] with
       regs := { (withS [(1, 7), (2, 1)]).regs with lctr := [(7, 0xFFFFFFFFFFFFFFFE)] }
       hq := { Handles.empty with loc := [(7, List.replicate 15 1#64)] } }
     let x : YArgs := { xy with a := 1, b := 2 }
     Issues (at0 c) 0 x.guard (.spost true x) task ∧ c.earlierRetired (qUnit x.q) = true ∧ c.lctr 7 + 1 < 2 ^ 64 ∧
     Issues (at0 c) 0 x.guard (.swait true x) task ∧ 1 ≤ c.lctr 7 ∧
     Issues (at0 c) 0 x.guard (.hpush true x) task ∧ (c.local 7).length < 16 ∧
     Issues (at0 c) 0 x.guard (.hpop true x) task ∧ c.local 7 = 1#64 :: List.replicate 14 1#64) ∧
    (let c : Core := { withS [(1, 0xF00000000), (2, 1)] with hq := { Handles.empty with pc := [(0, 15)] } }
     let x : YArgs := { xy with a := 1, b := 2 }
     Issues (at0 c) 0 x.guard (.hpush false x) task ∧ (at0 c).handle 0 0xF00000000 = some (0, 0) ∧
     c.pcount 0 + c.pushesTo 0 0 ≤ c.ccount 0 + bitsAt 0xF00000000 32 4 ∧
     c.earlierRetired (qUnit x.q) = true ∧ c.post.length < 256 ∧
     Issues (at0 c) 0 x.guard (.hpop false x) task ∧ c.view 0 < c.pcount 0 ∧ (c.poppedBy 0 0).shared 0 = false) := by
  refine ⟨⟨issues_of ?_, ?_, ?_, issues_of ?_, ?_, issues_of ?_, ?_, issues_of ?_, ?_⟩,
    ⟨issues_of ?_, ?_, ?_, ?_, ?_, issues_of ?_, ?_⟩⟩ <;> decide +kernel

/-- A word that has just reached the target; a free lock, and locks that the core holds. -/
theorem witness_WaitsAndLocks :
    (let s := sync0 (withS [(2, 7)]) []
     let x : YArgs := { xy with b := 2 }
     Issues s 0 x.guard (.swait false x) task ∧ (s.core 0).earlierRetired (qUnit x.q) = true ∧ opPeer 0 = 0 ∧
       s.target 0 0 anyMode = .word 0 ∧ 7 ≤ (s.word 0).value) ∧
    (let s := sync0 (withS [(1, 2)]) []
     let x : YArgs := { xy with a := 1 }
     Issues s 0 x.guard (.slock x) task ∧ s.target 0 2 [2] = .word 2 ∧ (s.word 2).holder = none ∧ s.lockQueued 2 = false ∧
       s.target 0 3 [2] = .word 3 ∧ (∀ h ∈ (s.word 3).holder, s.holds h 0 0 = true) ∧ (s.word 3).holder.isSome = true ∧
       s.target 0 4 [2] = .word 4 ∧ (∀ h ∈ (s.word 4).holder, s.holds h 0 0 = true) ∧ (s.word 4).holder.isSome = true) := by
  refine ⟨⟨issues_of ?_, ?_⟩, issues_of ?_, ?_⟩ <;> decide +kernel

/-- An entry at PC 0x200000 that waits. -/
def waits (op : EngOp) : QEntry := { op := op, pc := 0x200000, seq := 0, waiting := true, prog := 0 }

/-- A core held at dispatch. -/
def held (h : SeqHold) (c : Core) : Core := { c with disp := { c.disp with hold := h } }

/-- A barrier and a wait whose words have reached their targets; the first request on a free lock; a local pop whose entry
has come; a period due. -/
theorem witness_WaitsEnd :
    (let b : BarRef := { cluster := 0, index := 0, target := 7, tsel := 0 }
     let s := sync0 (held (.barWait b) worker) [{ core := 0, unit := .seq, cluster := 0, index := 0, target := 7, isLock := false }]
     (s.core 0).run = some task ∧ (s.core 0).role = .inService ∧ (s.core 0).disp.hold = .barWait b ∧ s.waitMet 0 .seq = true) ∧
    (let x : YArgs := { xy with i := true, imm := 7 }
     let e := waits (.swait false x)
     let s := sync0 (held (.op e) worker) [{ core := 0, unit := .seq, cluster := 0, index := 0, target := 7, isLock := false }]
     (s.core 0).disp.hold = .op e ∧ e.waiting = true ∧ s.waitMet 0 .seq = true ∧ opPeer ((s.core 0).opA x) = 0 ∧
       s.target 0 ((s.core 0).opA x) anyMode = .word 0 ∧ (s.core 0).opB x ≤ (s.word 0).value) ∧
    (let x : YArgs := { xy with a := 1, i := true, imm := 7 }
     let e := waits (.swait true x)
     let c : Core := held (.op e) { withS [(1, 23)] with regs := { (withS [(1, 23)]).regs with lctr := [(7, 7)] } }
     c.disp.hold = .op e ∧ e.waiting = true ∧ c.opB x ≤ c.lctr (c.opA x % 16)) ∧
    (let e := waits (.slock { xy with a := 1 })
     let w : Watch := { core := 0, unit := .seq, cluster := 0, index := 2, target := 0, isLock := true }
     let s := sync0 (held (.op e) (withS [(1, 2)])) [w]
     (s.core 0).disp.hold = .op e ∧ (s.word 2).mode = 2 ∧ (s.word 2).holder = none ∧
       (s.sync.watches.find? fun w => w.isLock && w.cluster == 0 && w.index == 2) = some w) ∧
    (let x : YArgs := { xy with a := 1 }
     let e := waits (.hpop true x)
     let c : Core := held (.op e) { withS [(1, 7)] with hq := { Handles.empty with loc := [(7, [5#64])] } }
     c.disp.hold = .op e ∧ e.waiting = true ∧ c.local (c.opA x % 8) = [5#64]) ∧
    (let c : Core := { worker with disp := { worker.disp with awaited := some .transfer, period := some .compute } }
     c.disp.awaited = some .transfer ∧ c.disp.period = some .compute ∧ c.kindRetired .compute = true) := by decide +kernel

/-- Commits of each kind, the barrier at its target and below it; the last core of a group ends. -/
theorem witness_CommitsEndSegments :
    (let s := sync0 (withS [(1, 1)]) []
     let y : YArgs := { xy with a := 1 }
     Dispatches s 0 y.guard [] [] task ∧ y.q = 0#2 ∧ s.restricted (s.ctxPart 0) = false ∧
     Dispatches s 0 y.guard [.s y.a, .s y.b] [] task ∧ opPeer 1 = 0 ∧ s.target 0 1 [1] = .word 1) ∧
    (∀ h ∈ [SeqHold.commit, .commitBar { cluster := 0, index := 0, target := 7, tsel := 0 },
        .commitBar { cluster := 0, index := 0, target := 8, tsel := 0 }, .commitEnd],
      let s := (sync0 (held h worker) []).modCtx 0 fun c =>
        { c with tasks := [{ id := 0, started := true, left := 1, done := none, seq := none }] }
      (s.core 0).run = some task ∧ (s.core 0).role = .inService ∧ (s.core 0).drained = true ∧ (s.core 0).disp.hold = h ∧
        s.slotWidth (s.slotOf 0).1 (s.slotOf 0).2 = 64 ∧ (s.core 0).post.length < 256 ∧ s.live = [] ∧
        s.mem.refills = [] ∧ (s.ctx 0).tasks = [{ id := 0, started := true, left := 1, done := none, seq := none }] ∧ s.ent (Ent.ctxTasks 0) + 1 < 2 ^ 64) := by
  refine ⟨⟨dispatches_of ?_, ?_, ?_, dispatches_of ?_, ?_, ?_⟩, ?_⟩ <;> decide +kernel

/-! ### States and operands: the engines and transfers -/

/-- A core whose planes hold E4M3 and whose scalar register 1 holds 1. -/
def loaded : Core :=
  { withS [(1, 1)] with mxe := { Mxe.clear with planeA := { Plane.empty with fmt := some .e4m3 } } }

/-- Operands of an MSTREAM and an MDRAIN of one row. -/
def xm (dest : Bool) : MStreamArgs :=
  { fmt := 3, aE := 0, aS := 0, sM := 1, sG := 0, accBase := 511, dest := dest, acc := true, aO := 0 }
def xd (clr : Bool) : MDrainArgs :=
  { fmt := 0, aO := 0, aS := 0, sM := 1, sG := 0, accBase := 511, sI := 0, sT := 0, rnd := false, sat := false, clr := clr }

/-- A core with one row of a submission in the gatherer, whose time is up. -/
def gathering (dest : Bool) : Core :=
  { loaded with mxe := { loaded.mxe with gath :=
      { rows := [{ sub := 0, r := 0, elems := List.replicate 64 0, scales := [127, 127] }]
        subs := [{ dest := dest, acc := true, accBase := 0, aO := 0, ostride := 64, rows := 1, written := 0, flags := 0 }]
        first := 0, timeout := true } } }

/-- A load in the first and the last format code that has a plane, and one behind writes of a submission with DEST = 1; one row
streamed to either destination. -/
theorem witness_PlanesAndStreams :
    (Issues (at0 (gathering true)) 0 0#4 (.mload { fmt := 1, aE := 0, aS := 0, sG := 0 } .none) task ∧
      (gathering true).destPending = true) ∧
    (∀ code ∈ [1#4, 8#4], ∃ f, Fmt.ofCode code = some f ∧ f ≠ .fp32 ∧
      (let x : MLoadArgs := { fmt := code, aE := 0, aS := 0, sG := 0 }
       issues (at0 worker) 0 0#4 (.mload x .none) task = true ∧ worker.destPending = false ∧
         worker.anyPoison ((worker.geom f 0 0 0).words f 0 64) = false)) ∧
    (Issues (at0 worker) 0 0#4 .mswap task ∧ worker.mxe.gath.rows = []) ∧
    (∀ dest, Issues (at0 loaded) 0 0#4 (.mstream (xm dest) false .none) task ∧ loaded.mxe.gath.rows = [] ∧
      Fmt.ofCode (xm dest).fmt = some .e4m3 ∧ loaded.active.fmt = some .e4m3 ∧
      loaded.anyPoison ((loaded.geom .e4m3 0 0 0).words .e4m3 0 1) = false ∧ (loaded.sreg (xm dest).sM).toNat % 2 ^ 32 = 1) := by
  refine ⟨⟨issues_of (by decide +kernel), by decide +kernel⟩, fun code h => ?_, ⟨issues_of (by decide +kernel), rfl⟩,
    fun dest => ⟨issues_of ?_, ?_⟩⟩
  · rcases List.mem_cons.1 h with h | h
    · subst h; exact ⟨.b16, by decide +kernel⟩
    · cases List.mem_singleton.1 h; exact ⟨.mxint8, by decide +kernel⟩
  · cases dest <;> decide +kernel
  · cases dest <;> decide +kernel

theorem witness_DrainsAndTheGatherer :
    (∀ clr, Issues (at0 loaded) 0 0#4 (.mdrain (xd clr) .none) task ∧ loaded.mxe.gath.rows = [] ∧ Fmt.ofCode 0#4 = some .fp32 ∧
      (loaded.sreg (xd clr).sM).toNat % 2 ^ 32 = 1) ∧
    (let c := gathering false
     Issues (at0 c) 0 0#4 (.mstream (xm true) true .none) task ∧ c.active.fmt = some .e4m3 ∧
      c.mxe.gath.rows.length + 63 ≤ 64 ∧ c.mxe.gath.subs.length < 16 ∧ c.destPending = false ∧
      c.anyPoison ((c.geom .e4m3 0 0 0).words .e4m3 0 1) = false) ∧
    (let c := gathering true
     c.run = some task ∧ c.role = .inService ∧ c.disp.qM = [] ∧ c.active.fmt = some .e4m3 ∧ c.fires false = true ∧
      c.mxe.gath.rows ≠ []) := by
  refine ⟨fun clr => ⟨issues_of ?_, ?_⟩, ⟨issues_of ?_, ?_⟩, ?_⟩
  · cases clr <;> decide +kernel
  · cases clr <;> decide +kernel
  all_goals decide +kernel

/-- A detector's fault with a spare on the die; the first format code that is reserved, and the last. -/
theorem witness_EngineFaults :
    (Issues (at0 loaded) 0 0#4 (.mdrain (xd true) .parity) task ∧
      (at0 loaded).dieHasSpare (dieOf ((at0 loaded).slotOf 0).1) = true) ∧
    ∀ code ∈ [9#4, 15#4], 9 ≤ code.toNat ∧ code ≠ 0#4 ∧
      issues (at0 worker) 0 0#4 (.vec .vcvt { xv with fmt := code }) task = true ∧
      issues (at0 worker) 0 0#4 (.vmem .vld { xe with fmt := code } .none) task = true ∧
      issues (at0 worker) 0 0#4 (.vmem .sst { xe with fmt := code } .none) task = true ∧
      issues (at0 worker) 0 0#4 (.mload { fmt := code, aE := 0, aS := 0, sG := 0 } .none) task = true ∧
      worker.destPending = false :=
  ⟨⟨issues_of (by decide +kernel), by decide +kernel⟩, by decide +kernel⟩

theorem witness_VectorResults :
    (∀ p ∈ laneForms core0 xv worker task false, issues (at0 worker) 0 xv.guard (.vec p.2.1 xv) task = true) ∧
    (∀ op ∈ [VOp.vlane, .vredsum, .vredmax, .vcvt], issues (at0 worker) 0 xv.guard (.vec op xv) task = true) ∧
    Fmt.ofCode xv.fmt = some .fp32 ∧ Fmt.ofCode 8#4 = some .mxint8 := by decide +kernel

/-- Memory operations at the first word, at the last one of the scratchpad, and with a displacement that wraps. -/
theorem witness_ScalarMovesAndVectorMemory :
    (∀ op ∈ [MOp.sld, .sldd, .sst, .sstd, .vld, .vst], issues (at0 worker) 0 xe.guard (.vmem op xe .none) task = true) ∧
    xe.fmt = 0#4 ∧
    (((worker.areg xe.aE).toNat + (0xFFFE#16).toInt : Int) % 524288).toNat = 524286 ∧
    worker.anyPoison [524286, 524287] = false ∧ worker.anyPoison (rowWords .fp32 0 ++ scaleWords .fp32 0) = false ∧
    worker.anyPoison (rowWords .mxint8 0 ++ scaleWords .mxint8 0) = false := by decide +kernel

theorem witness_WindowsOpenAndClose :
    (let x : WinArgs := { aB := 0, sN := 1, w := 7, guard := 0 }
     Issues (at0 worker) 0 x.guard (.wopen x) task ∧ Issues (at0 worker) 0 x.guard (.wclose x) task ∧
     (0xFFFFF : Nat) % 2 ^ 20 ≠ 0 ∧ (0x300000000 : Nat) / 2 ^ 32 % 4 = 3 ∧ (0x200000000 : Nat) / 2 ^ 32 % 4 < 3) :=
  ⟨issues_of (by decide +kernel), issues_of (by decide +kernel), by decide⟩

/-- Operands of a transfer of 64 bytes without a conversion between words 0 and the start of page 2, and of the last line
of that page. -/
def xt : TMoveArgs :=
  { aL := 0, aV := 1, sN := 1, sG := 0, sfmt := 0, dfmt := 0, rnd := false, sat := false, sI := 0, sT := 0, guard := 0 }

/-- A core with the transfer grant, 64 in s1 and an address in a1. -/
def mover (va : Nat) : Core :=
  { worker with
    regs := { worker.regs with s := [(1, 64)], a := [(1, BitVec.ofNat 64 va)] }
    disp := { worker.disp with grant := true } }

/-- A core with four loads in flight waits with each kind of transfer. -/
theorem witness_LoadsAndStoresMoveRows_full :
    (let c : Core := { mover 0x400000 with disp := { (mover 0x400000).disp with
       loads := List.replicate 4 { lo := 0, hi := 1, pc := 0, flags := 0#4 } } }
     Issues (at0 c) 0 xt.guard (.tload xt) task ∧ Issues (at0 c) 0 xt.guard (.tstore xt .none) task ∧ c.granted = true ∧
       4 ≤ c.disp.loads.length ∧ 0 < (c.sreg xt.sN).toNat % 2 ^ 32) :=
  ⟨issues_of (by decide +kernel), issues_of (by decide +kernel), by decide +kernel⟩

theorem witness_LoadsAndStoresMoveRows :
    ∀ va ∈ [0x400000, 0x5FFFC0],
      let s := at0 (mover va)
      let q := s.core 0
      issues s 0 xt.guard (.tload xt) task = true ∧ issues s 0 xt.guard (.tstore xt .none) task = true ∧ q.granted = true ∧
      q.disp.loads = [] ∧ q.disp.stores = [] ∧ transferShape xt.sfmt xt.dfmt = some .plain ∧ 0 < 64 ∧
      (q.sreg xt.sN).toNat % 2 ^ 32 = 64 ∧ (q.sreg xt.sN).toNat / 2 ^ 32 ≤ 1 ∧ (q.areg xt.aV).toNat = va ∧ va % 4 = 0 ∧
      (q.sreg xt.sG).toNat % 2 ^ 32 = 0 ∧ TShape.plain.srcBytes 64 % 4 = 0 ∧ fillsWords .plain false 64 = true ∧
      fillsWords .plain true 64 = true ∧
      s.readVirt 0 va 64 = .ok (List.replicate 64 0#8) ∧ q.anyPoison (wordRun 0 16) = false ∧ va % 64 + 64 ≤ 64 ∧
      s.page 0 (va / 2 ^ 21) = some (page 32 2) ∧ (page 32 2).ro = false ∧
      (match s.translate 0 va with
        | some pa => !s.poisoned (lineNo pa)
        | none => false) = true := by decide +kernel

/-- With one core listed no other core's store can race. -/
theorem witness_LoadsAndStoresMoveRows_alone (line : Nat) : (at0 (mover 0x400000)).lineRaced 0 0 line = false := by
  simp [State.lineRaced, at0, mover, worker]

/-- A TSEND to the last core of the partition's only cluster. -/
theorem witness_SendsLeaveAsPackets :
    let x : TSendArgs := { aL := 0, sN := 1, sR := 2, sfmt := 0, dfmt := 0, rnd := false, sat := false, sI := 0, sT := 0, guard := 0 }
    let c : Core := { mover 0 with regs := { (mover 0).regs with s := [(1, 64), (2, 0xBFFFFF)] } }
    ∀ v, Issues (at0 c) 0 x.guard (.tsend x v .none) task ∧ c.granted = true ∧ c.disp.loads = [] ∧
      transferShape x.sfmt x.dfmt = some .plain ∧ fillsWords .plain true 64 = true ∧ fillsWords .plain false 64 = true ∧
      c.anyPoison (wordRun 0 16) = false ∧ bitsAt 0xBFFFFF 32 12 = 0 ∧ bitsAt 0xBFFFFF 19 5 = 23 ∧
      (at0 c).globalCluster ((at0 c).ctxPart 0) (bitsAt 0xBFFFFF 24 6) = some 0 := by
  intro x c v
  refine ⟨issues_of ?_, ?_⟩ <;> cases v <;> decide +kernel

/-- Transfers from an address that is no multiple of 4, of 62 bytes, and of none; the largest odd address of the page. -/
theorem witness_MisalignedTransfersFault :
    let y : TSendArgs := { aL := 0, sN := 1, sR := 2, sfmt := 0, dfmt := 0, rnd := false, sat := false, sI := 0, sT := 0, guard := 0 }
    let short (va len : Nat) : Core :=
      { mover va with regs := { (mover va).regs with s := if len = 0 then [] else [(1, BitVec.ofNat 64 len)] } }
    ∀ p ∈ [(0x200001, 64), (0x3FFFFF, 64), (0x200000, 62), (0x200000, 0)], let c := short p.1 p.2
      issues (at0 c) 0 xt.guard (.tload xt) task = true ∧ issues (at0 c) 0 xt.guard (.tstore xt .none) task = true ∧
      issues (at0 c) 0 y.guard (.tsend y false .none) task = true ∧ issues (at0 c) 0 y.guard (.tsend y true .none) task = true ∧
      c.granted = true ∧ c.disp.loads.length < 4 ∧ transferShape xt.sfmt xt.dfmt = some .plain ∧
      (c.sreg xt.sN).toNat % 2 ^ 32 = p.2 ∧ ((c.areg xt.aV).toNat % 4 ≠ 0 ∨ p.2 % 4 ≠ 0 ∨ p.2 = 0) ∧
      fillsWords .plain true 62 = false ∧ fillsWords .plain false 62 = false := by decide +kernel

/-- A packet of one word for core 0 from core 1. -/
def packet : Packet :=
  { ctx := 0, tag := 0, score := 1, scluster := 0, own := true, part := 0, dst := some 0, word := 0x7FFFF, data := [5#32],
    sender := some 1, reply := none, voile := false, raced := [] }

/-- core 0 as given, with the packet in the crossings, and one of the same writer on the other path before it. -/
def arriving (c : Core) : State :=
  { at0 c with links := { Links.init with packets := [{ packet with voile := true }, packet] } }

theorem witness_TransfersComplete :
    (let open_ : Core := { worker with sp := { Scratch.zero with
       win := [(7, { isOpen := true, base := 0x7FFFF, bound := 0x7FFFF, filter := 0, fcore := 0, fcluster := 0 })] } }
     ∀ c ∈ [worker, open_], let s := arriving c
       (s.core 0).run = some task ∧ (s.ctx 0).eval = .none ∧ (s.core 0).role = .inService ∧
       (s.packetHeads 0)[1]? = some packet ∧ packet.raced = [] ∧
       (∀ q ∈ s.links.packets.erase packet, q.dst = packet.dst → q.sameWriter packet = true) ∧ packet.sender = some 1 ∧
       s.tagOk 0 0 = true ∧ packet.data.length ≤ 524288 ∧
       s.ent (Ent.winDropRx 0) + packet.data.length < 2 ^ 32 ∧ (∀ w ∈ List.range 8, (windowAt worker.sp.win w).isOpen = false) ∧
       windowAdmits open_.sp.win packet (packet.word % 524288) = some true) ∧
    (let a : SendAck := { ctx := 0, tag := 0, dropped := 0xFFFFFFFF, recorded := false, dst := 0 }
     let f : Flight := { lo := 0, hi := 1, pc := 0, flags := 0#4 }
     let c : Core := { worker with disp := { worker.disp with loads := [f], stores := [f], sends := 1, acks := [a] } }
     let s : State := { at0 c with grants := [(0, [0])] }
     (s.core 0).disp.qT = [] ∧ SMap.get (fun _ => []) s.grants 0 = [0] ∧ s.clusterPart 0 = some 0 ∧
       s.granted 0 < s.ent (Ent.transferGrants 0) ∧ (s.core 0).disp.loads ≠ [] ∧ (s.core 0).disp.lateLoads = [] ∧
       (s.core 0).disp.lateStores = [] ∧ (s.core 0).disp.acks = [a] ∧ s.tagOk a.ctx a.tag = true ∧
       s.ent (Ent.winDropTx 0) + a.dropped < 2 ^ 32) := by decide +kernel

/-! ### States and operands: watchdogs, spares and stacked memory -/

/-- Every source at policy level 0. -/
def quiet (s : State) : State := put s [(Ent.escPolicy 0, 0), (Ent.escPolicy 1, 0), (Ent.escPolicy 2, 0)]

/-- The head of the matrix queue that does not retire; a wait with TSEL = 15; a heartbeat due in RUNNING; and resets in
progress in each scope. -/
theorem witness_WatchdogsRecordAndEscalate :
    (let e : QEntry := { waits (.swait false { xy with tsel := 15 }) with waiting := false }
     let stalled : Core := { worker with disp := { worker.disp with qM := [e] } }
     let waiting : Core := held (.op { e with waiting := true }) worker
     (at0 worker).scopeResetting 0 = false ∧ worker.ready = some task ∧
       (at0 worker).dieHasSpare (dieOf ((at0 worker).slotOf 0).1) = true ∧ worker.run = some task ∧ worker.segLong = false ∧
     stalled.stalledPc .mxe = some 0x200000 ∧ stalled.role = .inService ∧ (quiet (at0 stalled)).escLevel 1 0 = 0 ∧
     waiting.waitSel .seq = some 15 ∧
       (quiet (at0 waiting)).entBits (Ent.waitTimeouts 0) (32 * 15) 32 ≠ 0xFFFFFFFF ∧
       (quiet (at0 waiting)).escLevel 2 0 = 0 ∧
     (let s := put (quiet (one.modCtx 0 fun c =>
          { c with tasks := [{ id := 0, started := true, left := 1, done := none, seq := none }] })) [(Ent.heartbeat 0, 1)]
      s.ctxState 0 = 2 ∧ s.ent (Ent.heartbeat 0) ≠ 0 ∧ s.scopeResetting 0 = false ∧ s.escLevel 3 0 = 0)) ∧
    (let s := one.modCtx 0 fun c => { c with resetting := some 0x0102 }
     (s.ctx 0).resetting.isSome = true ∧ (s.ctx 0).tagDelay = false ∧ (s.part (s.ctxPart 0)).resetting = false ∧
       s.rel.creset = false ∧ s.partDefined (s.ctxPart 0) = true) ∧
    (let s := one.modPart 15 fun p => { p with resetting := true }
     (s.part 15).resetting = true ∧ s.rel.creset = false ∧ s.tagsDelayed 15 = false) ∧
    (let s : State := { one with rel := { one.rel with creset := true } }
     s.rel.creset = true ∧ s.plat.pwrCycle = false ∧ ∀ k ∈ List.range 16, s.tagsDelayed k = false) := by decide +kernel

/-- A fenced core with a spare in its cluster; one on a die without any; a spare that holds the scratchpad. -/
theorem witness_SubstitutionAndReplay :
    (let s := at0 { worker with role := .fenced }
     (s.core 0).role = .fenced ∧ s.goesAfter 0 = false ∧ s.spareOf 0 ≠ 31 ∧ s.visitOn (dieOf 0) = none ∧
       (s.rel.reserve.find? fun p => p.1 == 0) = none) ∧
    (let s := (List.range 16).foldl (fun s c => s.setEntBits (Ent.coreMap c) 384 5 31)
       { base with cores := [(0, { Core.init with role := .fenced })] }
     (s.core 0).role = .fenced ∧ s.goesAfter 0 = false ∧ s.spareFor 0 = none ∧ s.coreOwner 0 = none) ∧
    (let s := at0 { worker with role := .copying, post := [entry (.add 0 0 1)] }
     (s.core 0).role = .copying ∧ (s.core 0).run = some task ∧ (s.core 0).crec.bar = none ∧
       (s.core 0).disp.count = (s.core 0).crec.dispatched) ∧
    (let s := at0 { worker with role := .copying, disp := { worker.disp with count := 1 } }
     (s.core 0).role = .copying ∧ (s.core 0).run = some task ∧ (s.core 0).crec.bar = none ∧
       (s.core 0).disp.count ≠ (s.core 0).crec.dispatched) := by decide +kernel

/-- The rotation of die 0 at the standby spare of cluster 0, in conditions 0 and 3; a diagnosis queued; an edge with its
last module that keeps it in service. -/
theorem witness_CalicoAndEdges :
    (let s : State := { put base [(Ent.calicoPeriod, 1)] with rel := { Rel.init with next := [(0, 24)] } }
     s.testsMayRun 0 = true ∧ s.visitable 0 24 = true ∧ s.visitDue 0 24 = some .rotation ∧ s.slotHolder 0 24 = none) ∧
    (∀ cond ∈ [0, 2, 3],
      let v : Visit := { cluster := 0, slot := 24, kind := .rotation, cond := cond, deferred := false }
      let s : State := { put base [(Ent.calicoPeriod, 1)] with rel := { Rel.init with visits := [(0, some v)] } }
      s.visitOn 0 = some v ∧ dieOf v.cluster = 0 ∧ v.kind = .rotation ∧ s.ent Ent.calicoPeriod ≠ 0 ∧ s.rel.creset = false ∧
        s.testShows v .pass = .pass ∧ s.testShows v .other = .other ∧ s.testShows v .deferred = .deferred) ∧
    (let v : Visit := { cluster := 63, slot := 24, kind := .diagnosis, cond := 0, deferred := false }
     let s : State := { base with rel := { Rel.init with queued := [v] } }
     s.testsMayRun (dieOf 63) = true ∧ s.slotHolder 63 24 = none ∧ (s.addBadCols 63 24 [0]).slotWorks 63 24 = true ∧
       (s.rel.queued.any fun v => v.kind == .diagnosis && v.cluster == 63 && v.slot == 24) = true) ∧
    (base.powered = true ∧ base.edgeModule 7 31 % 4 ≠ 2 ∧ base.rel.edgeOut = 0#8 ∧
      1536 ≤ (base.setEdgeModule 7 31 5).edgeCapacity 7 ∧
      (let s := (List.range 8).foldl (fun s m => s.setEdgeModule 7 m 2) base
       s.edgeModule 7 31 % 4 ≠ 2 ∧ (s.setEdgeModule 7 31 5).edgeCapacity 7 < 1536)) := by decide +kernel

/-- The last line of stack 15's first frame, clean, poisoned, and read with errors in five symbols. -/
theorem witness_LinesAreReadAndWritten :
    (let line := lineNo (paOf 15 0 (64 * 32767))
     let errs : List SymErr := [⟨0, 1⟩, ⟨1, 1⟩, ⟨2, 1⟩, ⟨3, 1⟩, ⟨4, 1⟩]
     let s : State := { put base [(Ent.scrubPeriod, 1)] with mem := { base.mem with scrubAt := [(15, 32767)] } }
     s.lineServed 15 0 32767 = true ∧ s.poisoned line = false ∧ s.decodeLine 15 0 32767 [] = some [] ∧
       s.decodeLine 15 0 32767 errs = none ∧ s.replica line = none ∧
       SMap.get (fun _ => []) s.mem.ues (128 * 15 + lineChannel 0 32767) = [] ∧ (1#64 ≠ BitVec.allOnes 64) ∧
       s.mem.served = true ∧ s.ent Ent.scrubPeriod ≠ 0 ∧ s.rel.selftest ≠ some 1 ∧ s.rel.selftest ≠ some 2 ∧
       (s.mem.rescan.find? fun r => r.stack == 15) = none ∧
       s.scrubFrom 15 (s.scrubPos 15) 17 = some 32767 ∧
       s.mem.copying.contains (rowKey 15 (32767 / 32768) (32767 % 32768)) = false ∧
       s.poisoned (15 * 2147483648 + 32767) = false ∧ s.replica (15 * 2147483648 + 32767) = none ∧
       SMap.get (fun _ => 0) s.mem.spare (rowKey 15 (32767 / 32768) (32767 % 32768) / 12288) < 16) ∧
    (let bad : State := { base with mem := { base.mem with poison := [(lineNo (paOf 15 0 (64 * 32767)), true)] } }
     bad.lineServed 15 0 32767 = true ∧ bad.poisoned (lineNo (paOf 15 0 (64 * 32767))) = true) ∧
    (let s : State := { put base [(Ent.scrubPeriod, 1)] with mem := { base.mem with scrubAt := [(15, 1610612735)] } }
     s.scrubFrom 15 (s.scrubPos 15) 17 = some 1610612735 ∧
       s.mem.copying.contains (rowKey 15 (1610612735 / 32768) (1610612735 % 32768)) = false ∧
       s.poisoned (15 * 2147483648 + 1610612735) = false ∧
       s.decodeLine 15 (1610612735 / 32768) (1610612735 % 32768) [] = some []) ∧
    (let r : Rescan := { stack := 15, frame := 49151, next := 32767, left := 2 }
     let s : State := { put base [(Ent.scrubPeriod, 1)] with mem := { base.mem with rescan := [r] } }
     (s.mem.rescan.find? fun r => r.stack == 15) = some r ∧ 1610612735 = 32768 * r.frame + r.next ∧
       1610612735 / 32768 = r.frame ∧ 1 < r.left ∧ s.poisoned (15 * 2147483648 + 1610612735) = false) ∧
    (let p : Page := { stack := 0, frame := 16, owner := 0, opage := 1, ro := false, pin := false, repl := some (4095, 7) }
     let s : State := { put one [(Ent.scrubPeriod, 1)] with mem := { one.mem with pages := [(1, some p)], scrubAt := [(0, 524289)] } }
     s.scrubFrom 0 (s.scrubPos 0) 17 = some 524289 ∧ (s.replica 524289).isSome = true ∧
       s.decodeLine 0 (524289 / 32768) (524289 % 32768) [⟨0, 1⟩, ⟨1, 1⟩, ⟨2, 1⟩, ⟨3, 1⟩, ⟨4, 1⟩] = none) := by decide +kernel

/-- One of a list of frames is picked. -/
theorem pick_isSome (s : State) (l : List Nat) (h : l.isEmpty = false) : (s.pickFrame l).isSome = true := by
  have hl : 0 < l.length := by cases l <;> simp_all
  simp [State.pickFrame, h, List.getElem?_eq_getElem (Nat.mod_lt _ hl)]

/-- A stack with a free frame takes a page. -/
theorem placeStack_isSome (s : State) (st : Nat)
    (h : (((List.range 16).map fun i => (s.groupMark st + 1 + i) % 16).find? fun g =>
      !(s.freeIn st g 0 3008).isEmpty).isSome = true) : (s.placeStack st).isSome = true := by
  unfold State.placeStack
  cases hg : (((List.range 16).map fun i => (s.groupMark st + 1 + i) % 16).find? fun g => !(s.freeIn st g 0 3008).isEmpty) with
  | none => rw [hg] at h; cases h
  | some g =>
    have := List.find?_some hg
    simp only [Bool.not_eq_true'] at this
    simp only [hg, Option.isSome_map]
    exact pick_isSome s _ this

/-- A list of stacks of which the first has a free frame takes a page. -/
theorem placeOn_isSome (s : State) (st : Nat) (l : List Nat) (h : (s.placeStack st).isSome = true) :
    (s.placeOn (st :: l)).isSome = true := by
  unfold State.placeOn
  cases hp : s.placeStack st with
  | none => rw [hp] at h; cases h
  | some r => rfl

/-- A page that stands on die 0 and that die 3 used in two windows. -/
def wandering : State :=
  { put base [(Ent.migrateEn, 1)] with
    mem := { base.mem with pages := [(1, some (page 16 1))], accesses := [(7, 3)], prevWin := [(1, 3)] } }

/-- A memory command of context 0: w2 holds the count of pages, w3 what the opcode gives. -/
def command (w0 w1 w2 w3 : Nat) : MemCmd := { w0 := BitVec.ofNat 64 w0, w1 := BitVec.ofNat 64 w1, w2 := BitVec.ofNat 64 w2, w3 := BitVec.ofNat 64 w3 }

/-- Contexts 0 and 1 of partition 0, a valid peer 4095 of context 0, and the commands waiting in the queue of the physical
function, of which more are to be fetched. -/
def queued (l : List MemCmd) : State :=
  let s := put (one.modCtx 0 fun c => { c with peers :=
    [(4095, some { coord := 0, part := 0, ctx := 0, tag := 0, valid := true })] }) [(Ent.ctxDef 1, 1), (Ent.memQuota 0, 0)]
  { s with host := { s.host with mq := [(0, { MemQ.init with cmds := l })], bme := [(0, true)], regs := [(0x80, 1)] } }

theorem witness_PagesMoveAndRefusals :
    (let line := lineNo (paOf 15 0 0)
     let s : State := { base with mem := { base.mem with held := [(line, .exporter)] } }
     (s.mem.held.any fun h => h.1 == line) = true ∧ ∀ h ∈ s.mem.held, h.1 = line → h.2 = .exporter) ∧
    (wandering.ent Ent.migrateEn ≠ 0 ∧ ownMapping (1, some (page 16 1)) = true ∧ wandering.mainDie 1 = 3 ∧
      SMap.get (fun _ => 4) wandering.mem.prevWin 1 = 3 ∧ (page 16 1).stack / 4 ≠ 3 ∧ (page 16 1).pin = false ∧
      (page 16 1).ro = false ∧ wandering.mem.migr = [] ∧
      ∃ st fr s1, wandering.placeOn (dieStacks 3 0) = some (st, fr, s1)) ∧
    (let g : Migr := { ctx := 0, vpage := 1, stack := 15, frame := 49151 }
     let s : State := { one with mem := { one.mem with migr := [g], cells := [(paOf 0 16 5, 7)] } }
     (s.mem.migr.find? fun g => g.ctx == 0 && g.vpage == 1) = some g ∧ s.mem.served = true ∧ s.page 0 1 = some (page 16 1) ∧
       (page 16 1).frame < 65536 ∧ g.frame < 65536 ∧ Memory.wf s.mem = true) ∧
    (∀ p ∈ [(command 0x107 0 1 0, 7), (command 0x3F01 0 1 0, 5), (command 0x40001 0x7FFFFFF 2 0, 2)],
      let s := queued [p.1]
      (s.memq 0).cmds = [p.1] ∧ s.rel.creset = false ∧ s.cmdCheck 0 p.1 = some p.2 ∧ (s.memq 0).stale = 0 ∧
        s.bme 0 = true ∧ (s.memq 0).held = []) := by
  refine ⟨?_, ⟨?_, ?_, ?_, ?_, ?_, ?_, ?_, ?_, ?_⟩, ?_, ?_⟩ <;> try decide +kernel
  obtain ⟨r, h⟩ := Option.isSome_iff_exists.1
    (placeOn_isSome wandering 12 [13, 14, 15] (placeStack_isSome wandering 12 (by decide +kernel)))
  exact ⟨r.1, r.2.1, r.2.2, h⟩

theorem witness_MemoryCommands :
    (let s := queued [command 0x40001 0 1 0]
     (s.memq 0).error = false ∧ s.bme 0 = true ∧ s.fn 0 0x060 < s.fn 0 0x080 ∧ s.fn 0 0x060 < s.fn 0 0x088 + s.fn 0 0x050 ∧
       (s.memq 0).cmds ≠ []) ∧
    (let c := command 0x40001 3 1 0
     let s := queued [c]
     s.cmdCheck 0 c = none ∧ c.op = 1 ∧ s.anyMapped c.ctx c.vpage c.count = false ∧
       s.ent (Ent.memQuota (s.ctxPart c.ctx)) = 0 ∧ c.count ≤ s.ent Ent.freeFrames) ∧
    (∀ c ∈ [command 2 1 2 0, command 3 1 2 0x100000001, command 4 1 2 0xFFF00000001, command 5 1 2 0, command 6 1 2 0],
      let s := queued [c]
      (s.memq 0).cmds.head? = some c ∧ s.rel.creset = false ∧ s.cmdCheck 0 c = none ∧ s.allOwned c = true) ∧
    (let c := command 3 1 2 0x100000001
     c.op = 3 ∧ c.dctx = 1 ∧ (queued [c]).anyMapped c.dctx c.aux c.count = false) ∧
    (let c := command 4 1 2 0xFFF00000001
     c.op = 4 ∧ ((queued [c]).peerOf c.ctx c.peer).isSome = true) ∧
    (let c := command 6 1 2 0
     c.op = 6 ∧ ((queued [c]).migratePages c (List.range c.count)).isSome = true) := by decide +kernel

/-- A free page is found for an ALLOC of one page, and for a MIGRATE to another die. -/
theorem witness_MemoryCommands_placed :
    ((queued []).allocPages (command 0x40001 3 1 0) 0 [0] 0).isSome = true ∧
    ((queued []).migratePages (command 6 1 1 0x300000000000) [0]).isSome = true := by
  constructor
  · obtain ⟨r, h⟩ := Option.isSome_iff_exists.1
      (placeOn_isSome (queued []) 0 _ (placeStack_isSome (queued []) 0 (by decide +kernel)))
    have h2 : (queued []).placePage 0 0 = some r := h
    simp only [State.allocPages, h2, Option.isSome_some]
  · obtain ⟨r, h⟩ := Option.isSome_iff_exists.1
      (placeOn_isSome (queued []) 12 _ (placeStack_isSome (queued []) 12 (by decide +kernel)))
    have h1 : (queued []).page (command 6 1 1 0x300000000000).ctx ((command 6 1 1 0x300000000000).vpage + 0) =
      some (page 16 1) := by decide +kernel
    have h2 : (queued []).placeOn (dieStacks (command 6 1 1 0x300000000000).tdie 0) = some r := h
    have h3 : (page 16 1).stack / 4 ≠ (command 6 1 1 0x300000000000).tdie := by decide +kernel
    simp only [State.migratePages, h1, h2, h3, if_false, Option.isSome_some]

/-! ### States and operands: updates, contexts and tasks -/

/-- Bytes of page 2 of context 0: (offset, byte). -/
def inPage2 (l : List (Nat × Byte)) : List Host.Cell := l.map fun p => (paOf 0 32 0 + p.1, p.2)

/-- A tensor record of one element at the start of page 2, in group 0. -/
def tensor : TensorRec :=
  { master := 0x400000, mom1 := 0, mom2 := 0, grad := 0x400000, work := 0, wscale := 0, count := 1, tensor := 0, group := 0,
    wfmt := 0, wrnd := false, wsat := false, dig := 0, exp := 0, lcols := 1, fullCols := 0, row0 := 0, col0 := 0, coord := [] }

/-- A table of that record, whose group is updated by KIND 1 without moments; its norm peers as given. -/
def tableOf (peers : List Nat) : UpdTable :=
  { clipNorm := 0x3F800000, ceiling := 0x3F800000, peers := peers, groups := [{ parseGroup [] with kind := 1 }],
    recs := [tensor] }

/-- Context 0 with a table in page 2 that its trigger on word 0 reads: one record, thresholds of 1. -/
def training : State :=
  { put one [(Ent.updTable 0, 0x400000), (Ent.updTrigger 0, 0x100000000)] with
    mem := { one.mem with
      cells := inPage2 [(0, 1), (4, 1), (10, 0x80), (11, 0x3F), (14, 0x80), (15, 0x3F), (1136, 1), (1152, 1)] } }

/-- Context 0 with its step where u says. -/
def stepping (u : Upd) : State := training.modCtx 0 fun c => { c with upd := u }

/-- A valid peer 4095 of context 0. -/
def peered (s : State) : State :=
  s.modCtx 0 fun c => { c with peers := [(4095, some { coord := 0, part := 0, ctx := 0, tag := 0, valid := true })] }

theorem witness_StepsBeginAndDecide :
    (training.syncKey (training.ctxPart 0) (training.entBits (Ent.updTrigger 0) 0 18) = some 0 ∧ training.ctxValid 0 = true ∧
      training.ent (Ent.updTable 0) ≠ 0 ∧ training.entBits (Ent.updTrigger 0) 32 32 ≠ 0 ∧ training.mem.served = true ∧
      (training.ctx 0).upd.target ≤ (training.word 0).value ∧ training.stepOpen 0 = false ∧
      (match training.readUpdTable 0 with
        | .ok _ => true
        | _ => false) = true) ∧
    (stepping { Upd.init with stage := .sweep }).stepOpen 0 = true ∧
    (let u : Upd := { Upd.init with stage := .prePass, table := tableOf [] }
     (match (stepping u).prePass 0 u.table u.table.recs (0, false) with
        | .ok (_, nonfin) => !nonfin
        | .error _ => false) = true ∧
       (stepping u).ent (Ent.skipCount 0) < 2 ^ 32 - 1) ∧
    (let u : Upd := { Upd.init with stage := .prePass, table := tableOf [4095] }
     (∃ p ∈ u.table.peers, u.partialOf p = none) ∧ (stepping u).peerOf 0 4095 = none) := by decide +kernel

/-- A message of the peer for context 0, and one of a package that its table does not name. -/
def fromPeer : MsgHeader := header 20
def stranger : MsgHeader := { header 20 with scoord := 1 }

/-- Whether a message of a peer is taken. -/
def knows (s : State) (h : MsgHeader) (peer : Nat) : Bool :=
  let c := h.clean
  c.dcoord.toNat == s.ent Ent.pkgCoord && c.dctx.toNat == 0 && s.accepts c && s.tagOk 0 c.tag.toNat && !s.rel.creset &&
    s.peerNo 0 c.scoord.toNat c.spart.toNat c.sctx.toNat == some peer

/-- Partials of the step before, of this one and of a later one; the last peer's when the norm is awaited. -/
theorem witness_PartialsAreGathered :
    (let s := put (peered (stepping { Upd.init with stage := .norm, step := 1, table := tableOf [4095] })) [(Ent.step 0, 1)]
     0 < s.ent (Ent.step 0) ∧ knows s fromPeer 4095 = true ∧ s.ent (Ent.step 0) ≤ 1 ∧
       (s.ctx 0).upd.stage = .norm ∧ (s.ctx 0).upd.table.peers = [4095] ∧ (s.ctx 0).upd.step = 1 ∧ (s.ctx 0).upd.queued = 0 ∧
       stranger.clean.dcoord.toNat = s.ent Ent.pkgCoord ∧ stranger.clean.dctx.toNat = 0 ∧ s.accepts stranger.clean = false ∧
       stranger.clean.scoord.toNat ≠ s.ent Ent.pkgCoord ∧ s.ent (Ent.peerReject 0) < 2 ^ 32 - 1) ∧
    (knows (peered training) fromPeer 4095 = true ∧ ((peered training).ctx 0).upd.stage ≠ .norm) := by decide +kernel

/-- The one group of the table, its engine's check failing twice and three times; a step that was skipped, and one swept,
whose digest is due and is not. -/
theorem witness_SweepsAndBoundaries :
    (let s := stepping { Upd.init with stage := .sweep, table := tableOf [] }
     let u := (s.ctx 0).upd
     u.table.recs[0]? = some tensor ∧ u.stage = .sweep ∧ s.mem.served = true ∧ (s.ctx 0).exp.shard = false ∧
       u.table.sweeps tensor = true ∧ 0 < tensor.groups ∧ u.groups.contains (0, 0) = false ∧ s.ent (Ent.exportMode 0) = 0 ∧
       s.translate 0 (tensor.master + 0) = some (paOf 0 32 0) ∧
       (match s.sweepReads 0 1 (u.table.reads tensor 0) with
        | .ok a =>
          let w := sweepGroup u.table tensor u.step 0 1 0 u.scale false a
          let counted := s.countUpe 0 (fun _ => s.upeAt 0 tensor.master)
            ((u.table.reads tensor 0).filterMap (fun va => va.map fun x => (x, 4)) ++ w.1.map fun x => (x.va, x.bytes.length))
          (counted.sweepWrites 0 w.1).fail.isNone
        | .error _ => false) = true) ∧
    (∀ u ∈ [{ Upd.init with stage := .boundary, skipped := true, table := tableOf [] },
        { Upd.init with stage := .sweep, groups := [(0, 0)], table := tableOf [] }], ∀ i ∈ [1, 2],
      let s := put (stepping u) [(Ent.damaskInterval 0, i)]
      s.live = [] ∧ s.mem.refills = [] ∧ s.evalsOf 0 = [] ∧ u.queued = 0 ∧ u.stage ≠ .idle ∧
        ((u.stage = .boundary ∧ u.skipped = true) ∨
          (u.stage = .sweep ∧ u.table.work ≤ u.groups.length ∧
            (s.writeGroups 0 (s.ent (Ent.updTable 0)) u.step u.table.groups.zipIdx).fail = none)) ∧
        s.syncKey (s.ctxPart 0) (s.entBits (Ent.updDone 0) 0 18) = some 0 ∧ s.votePeers 0 = [] ∧
        ((u.step + 1) % Nat.max 1 (s.ent (Ent.damaskInterval 0)) = 0 ↔ i = 1) ∧
        (match s.digestRecs 0 (BitVec.ofNat 64 (s.ent (Ent.digestKey 0))) u.table.recs 0 with
          | .ok _ => true
          | .error _ => false) = true) := by decide +kernel

/-- A vote open with one peer; a spilled record that fills the ring's space to the last byte; a shard export at its start and
at its last record. -/
theorem witness_VotesAndExports :
    (let s := put (peered training) [(Ent.step 0, 1)]
     knows s fromPeer 4095 = true ∧ 0 < s.voteStep 0 ∧ s.ent (Ent.step 0) ≤ 1 ∧ (s.ctx 0).vote.own = none ∧
       s.ent (Ent.voteLate 0) < 2 ^ 32 - 1) ∧
    (let s := put ((peered training).modCtx 0 fun c => { c with vote := { Vote.init with own := some (0, 5) } })
       [(Ent.votePeers 0, 0xFFF0001)]
     (s.ctx 0).vote.own = some (0, 5) ∧ s.votePeers 0 = [4095] ∧ (s.ctx 0).upd.queued = 0 ∧ s.evalsOf 0 = [] ∧
       (s.ctx 0).vote.kept = [] ∧ knows s fromPeer 4095 = true) ∧
    (let s : State := { put (training.modCtx 0 fun c => { c with exp := { Export.init with spill := [(0, 32)] } })
         [(Ent.exportRing 0, 4096), (Ent.exportSize 0, 4096), (Ent.exportTail 0, 4064), (Ent.exportSpill 0, 0x100000002)] with
       host := { training.host with bme := [(1, true)] } }
     s.mem.served = true ∧ (s.ctx 0).exp.spill = [(0, 32)] ∧ (s.ctx 0).exp.gap = false ∧ (s.ctx 0).exp.shardQ = [] ∧
       (match s.spillRead 0 0 32 with
        | .ok r => r.length == 32
        | .fail _ _ => false) = true ∧
       s.bme (s.ctxPart 0 + 1) = true ∧ s.ent (Ent.exportSize 0) ≠ 0 ∧
       s.ent (Ent.exportTail 0) % s.ent (Ent.exportSize 0) + 32 ≤ s.ent (Ent.exportSize 0) ∧
       s.ent (Ent.exportTail 0) + 32 ≤ s.ent (Ent.exportHead 0) + s.ent (Ent.exportSize 0)) ∧
    (let s := training.modCtx 0 fun c => { c with exp := { Export.init with shard := true } }
     (s.ctx 0).exp.shard = true ∧ s.ent (Ent.updTable 0) ≠ 0 ∧ s.ent (Ent.exportSize 0) = 0 ∧ s.spillSize 0 = 0 ∧
       (match s.readUpdTable 0 with
        | .ok tb => (match s.shardRecords 0 tb tb.ranges with
          | .ok _ => true
          | .error _ => false)
        | _ => false) = true) ∧
    (let r := exportRecord Rec.shardEnd 0 0 0 0 0 []
     let s : State := { put (training.modCtx 0 fun c => { c with exp := { Export.init with shardQ := [r] } })
         [(Ent.exportRing 0, 4096), (Ent.exportSize 0, 4096), (Ent.exportTail 0, 4064)] with
       host := { training.host with bme := [(1, true)] } }
     (s.ctx 0).exp.shard = false ∧ (s.ctx 0).exp.shardQ = [r] ∧ (s.ctx 0).exp.gap = false ∧ (s.ctx 0).exp.spill = [] ∧
       r.length = 32) := by decide +kernel

/-- A descriptor of a task at page 1 on every core of cluster 0, and one that names a core above 23. -/
def descriptor (cores : Nat) : BitVec 512 := BitVec.ofNat 512 (0x200000 + 2 ^ 360 + cores * 2 ^ 384)

/-- Context 0 with the reads outstanding that l lists, bus mastering on and CQ_TAIL at 1. -/
def reading (l : List Nat) : State :=
  let s := (one.modCtx 0 fun c => { c with cqOut := l }).setPg 0 0x040 1
  { s with host := { s.host with bme := [(1, true)] } }

theorem witness_DescriptorsAreIssued :
    (let s := (reading []).modCtx 0 fun c => { c with cqRead := List.replicate 7 (descriptor 1) }
     s.ctxValid 0 = true ∧ (s.ctx 0).resetting = none ∧ s.bme (s.ctxPart 0 + 1) = true ∧ s.pg 0 0x010 < s.pg 0 0x040 ∧
       (s.ctx 0).cqOut = [] ∧ (s.ctx 0).cqRead.length < 8) ∧
    (let s := reading [0, 0]
     (s.ctx 0).cqOut = [0, 0] ∧ s.ctxValid 0 = true ∧ s.tagOk 0 0 = true ∧ (s.ctx 0).cqRead = [] ∧ s.mayIssue 0 = true ∧
       s.taskGroup (decodeTask 0 (descriptor 0xFFFFFF)) = some (List.range 24) ∧ (List.range 24).Nodup ∧
       s.slotsFree (List.range 24) = true ∧ s.taskGroup (decodeTask 0 (descriptor 0x1000000)) = none ∧
       s.taskGroup (decodeTask 0 (descriptor 0)) = none ∧ (s.ctx 0).resetting = none ∧
       (s.part (s.ctxPart 0)).resetting = false ∧ s.rel.creset = false) ∧
    ((reading [1]).ctx 0).cqOut = [1] ∧ (reading [1]).tagOk 0 1 = false ∧
    (reading [1]).ent (Ent.staleDrop 0) < 2 ^ 32 - 1 := by decide +kernel

/-- CQ_TAIL at both ends of the ring, one beyond it, and during a reset. -/
theorem witness_TasksStart :
    (let d : TaskDesc := { inst := 0, ctx := 0, pc := 0x200000, s0 := 0, s1 := 0, s2 := 0, s3 := 0, taskid := 0 }
     let s := at0 { Core.init with tasks := [d] }
     (s.core 0).run = none ∧ (s.core 0).tasks = [d] ∧ (s.core 0).role = .inService ∧ (s.ctx 0).resetting = none ∧
       s.ctxEval 0 = false ∧ (s.ctx 0).eval = .none ∧ d.pc % 8 = 0 ∧
       (match s.readVirt 0 (d.pc % 2 ^ 48 / 256 * 256) 256 with
        | .ok b => b.length == 256
        | .fail _ _ => false) = true ∧
       s.ctxs = [] ∧ ∀ p ∈ List.range 16, s.entBit (Ent.seqCtl p) 6 = false) ∧
    (let d : TaskDesc := { inst := 3, ctx := 0, pc := 0x200000, s0 := 0, s1 := 0, s2 := 0, s3 := 0, taskid := 0 }
     let s := (at0 { Core.init with tasks := [d] }).modCtx 0 fun c => { c with
       eval := .saving 1, tasks := [{ id := 3, started := false, left := 1, done := none, seq := none }] }
     ∀ x ∈ (s.core 0).tasks, s.ctxEval x.ctx = false ∧ (s.ctx x.ctx).eval ≠ .none ∧
       ∀ i ∈ (s.ctx x.ctx).tasks, i.id = x.inst → i.started = false) ∧
    (let s := reading []
     s.ctxValid 0 = true ∧ s.hostReach (s.ctxPart 0 + 1) = true ∧ s.isReady = true ∧ (s.ctx 0).resetting = none ∧
       s.pg 0 0x040 = 1 ∧ s.pg 0 0x010 + s.pg 0 0x008 = 64) ∧
    ((one.modCtx 0 fun c => { c with resetting := some 0x0708 }).ctx 0).resetting.isSome = true := by decide +kernel

/-- An entry for core 0 of cluster 0 whose gate, word 0, has just reached its target of 7. -/
def entry0 : SeqEntry :=
  { kind := 0, vstage := 7, mb := 255, gateEn := true, gate := 0, target := 7, pc := 0x200000, s0 := 0, done := 0, clus0 := 0,
    ncl := 1, cores := 1 }

theorem witness_SequencerIssues :
    (let s : State := { put one [(Ent.seqCtl 0, 0x40), (Ent.seqTable 0, 0x400000)] with
       mem := { one.mem with cells := inPage2 [(0, 1), (4, 1), (6, 1), (7, 1), (8, 1), (10, 1)] } }
     s.passMayStart 0 = true ∧
       (match s.readSeqTable 0 with
        | .ok _ l => l.length == 1
        | _ => false) = true) ∧
    (let s := put one [(Ent.seqCtl 0, 0x40), (Ent.seqTable 0, 0x400000)]
     s.passMayStart 0 = true ∧
       (match s.readSeqTable 0 with
        | .invalid i => i == 0
        | _ => false) = true) ∧
    (let s : State := { put one [(Ent.seqCtl 0, 0x40)] with
       sync := { Sync.zero with words := someWords }
       parts := [(0, { Part.init with seq := { Seq.stopped with table := [entry0], inPass := true } })] }
     let q := (s.part 0).seq
     q.table[q.next]? = some entry0 ∧ s.entBit (Ent.seqCtl 0) 6 = true ∧ q.inPass = true ∧ s.mayIssue 0 = true ∧
       s.gateMet 0 q.inc (s.ent (Ent.seqPass 0)) entry0 = true ∧
       s.taskGroup (entry0.task 0 q.next (s.ent (Ent.seqPass 0))) = some [0] ∧ s.slotsFree [0] = true) := by decide +kernel

/-- Context 0 with evaluation context 1, whose slot is at the stage given; the save pages of core k stand at 100 + k. -/
def evaluating (e : EvalStage) : State :=
  let s := put one [(Ent.ctxDef 1, 3), (Ent.evalSave 1, 100)]
  State.modCtx { s with mem := { s.mem with
      pages := s.mem.pages ++ (List.range 24).map fun k => (100 + k, some (page (100 + k) (100 + k))) } } 0
    fun c => { c with eval := e }

theorem witness_EvaluationSlots :
    (let s := evaluating (.saving 1)
     (s.ctx 0).eval = .saving 1 ∧ s.ctxRunning 0 = false ∧ s.mem.served = true ∧ s.boundCores 0 = List.range 24 ∧
       (List.range 24).Nodup ∧
       (∀ k ∈ List.range 24, s.page 0 (s.savePage 0 1 k) = some (page (100 + k) (100 + k)) ∧ (page (100 + k) (100 + k)).ro = false ∧
         (page (100 + k) (100 + k)).frame < 65536) ∧
       ∀ j ∈ List.range 24, ∀ k ∈ List.range 24, j ≠ k → (page (100 + j) (100 + j)).frame ≠ (page (100 + k) (100 + k)).frame) ∧
    ((evaluating (.copied 1)).ctx 0).eval = .copied 1 ∧ ((evaluating (.copied 1)).ctx 1).cqRead = [] ∧
    (let s := evaluating (.running 1 false)
     (s.ctx 0).eval = .running 1 false ∧ s.ctxRunning 1 = false ∧ s.ctxQueued 1 = false ∧ s.ctxWaiting 1 = false ∧
       s.syncKey (s.ctxPart 0) (s.entBits (Ent.evalDone 1) 0 18) = some 0) ∧
    (let s := evaluating (.running 1 true)
     (s.ctx 0).eval = .running 1 true ∧ s.ctxRunning 1 = false) ∧
    (let s := evaluating (.restoring 1)
     (s.ctx 0).eval = .restoring 1 ∧ s.mem.served = true ∧ (s.ctx 0).evalDue = [] ∧ (s.ctx 0).cqRead = [] ∧ s.live = [] ∧
       s.mem.refills = [] ∧ s.boundCores 0 = List.range 24) := by decide +kernel

/-! ### States and operands: links and collectives -/

/-- A machine of four packages along x, this one at 0, whose port 0 has the link to package 1, given as x; context 0 has the
context 0 of package 1 as its peer. -/
def linked (x : Port) : State :=
  let s := put one [(Ent.machineDims, 3), (Ent.partBlock 0, 0x30000)]
  State.modCtx { s with links := { s.links with ports := [(0, x)] } } 0 fun c => { c with peers :=
    [(4095, some { coord := 1, part := 0, ctx := 0, tag := 0, valid := true })] }

/-- A port that is up. -/
def upPort : Port := { Port.init with state := 3 }

/-- A port up, or degraded; training; with the lanes of a direction dropped to 9 and to 8 left; one lane in checking. -/
theorem witness_PortsComeUpAndGoDown :
    (let s := put (linked { Port.init with state := 1 }) [(Ent.portEnable 0, 1)]
     s.linksRun = true ∧ s.ent (Ent.portEnable 0) = 1 ∧ (s.port 0).state = 1) ∧
    (let s := linked { Port.init with state := 2 }
     (s.port 0).state = 2 ∧ (s.port 0).queue = [] ∧ s.neighbour 0 = 1 ∧ (s.port 0).replay = [] ∧ ∀ m, (s.ctx m).colls = []) ∧
    (let s := linked upPort
     (s.port 0).up = true ∧ (s.port 0).queue = [] ∧ (s.port 0).replay = [] ∧ (∀ m, (s.ctx m).colls = []) ∧
       (s.port 0).txDrop.getLsbD 15 = false ∧ 8 ≤ lanesLeft ((s.port 0).txDrop ||| 0x8000#16) ∧
       8 ≤ lanesLeft (s.port 0).rxDrop ∧ s.ent (Ent.laneDrops 0) < 2 ^ 32 - 1) ∧
    (let x : Port := { upPort with state := 4, rxDrop := 0x7F#16 }
     x.up = true ∧ x.rxDrop.getLsbD 15 = false ∧ lanesLeft (x.rxDrop ||| 0x8000#16) = 8) ∧
    (let x : Port := { upPort with state := 4, rxDrop := 0xFF#16 }
     x.up = true ∧ x.rxDrop.getLsbD 15 = false ∧ lanesLeft (x.rxDrop ||| 0x8000#16) < 8) ∧
    (let x : Port := { upPort with state := 4, txDrop := 1#16, check := [(true, 0)] }
     x.up = true ∧ x.check.contains (true, 0) = true) := by
  refine ⟨?_, ⟨?_, ?_, ?_, ?_, fun m => ?_⟩, ⟨?_, ?_, ?_, fun m => ?_, ?_⟩, ?_, ?_, ?_⟩ <;> try decide +kernel
  all_goals
    show (SMap.get (fun _ => Ctx.init) [(0, _)] m).colls = []
    unfold SMap.get
    split <;> rfl

/-- A flit with its CRC. -/
def flitOf (h : Nat) : List Byte :=
  let b := leBytes 8 h ++ List.replicate 240 0#8
  b ++ leBytes 8 (flitCrc b).toNat

/-- The CRC of 248 bytes holds behind them. -/
theorem flitOk_of_crc (b : List Byte) (hl : b.length = 248) : flitOk (b ++ leBytes 8 (flitCrc b).toNat) = true := by
  have h8 : ∀ v, (leBytes 8 v).length = 8 := fun v => by rw [leBytes, List.length_map, List.length_range]
  have hc : flitCrc (b ++ leBytes 8 (flitCrc b).toNat) = flitCrc b := by
    unfold flitCrc
    rw [List.take_append_of_le_length (by omega)]
  have hf : fieldAt (b ++ leBytes 8 (flitCrc b).toNat) 248 8 = (flitCrc b).toNat := by
    have hv := (flitCrc b).isLt
    unfold fieldAt
    rw [List.drop_append_of_le_length (by omega), List.drop_eq_nil_of_le (by omega), List.nil_append]
    generalize (flitCrc b).toNat = v at hv ⊢
    simp only [leBytes, List.range_eq_range', List.range', List.map, List.take, leNat, BitVec.toNat_ofNat]
    omega
  have hn : (b ++ leBytes 8 (flitCrc b).toNat).length = 256 := by rw [List.length_append, hl, h8]
  simp only [flitOk, hn, hf, hc, beq_self_eq_true, Bool.and_self]

theorem flitOf_ok (h : Nat) : flitOk (flitOf h) = true :=
  flitOk_of_crc _ (by rw [List.length_append, List.length_replicate, leBytes, List.length_map, List.length_range])

/-- A header between packages, from package src to dst. -/
def headerOf (src dst : Nat) : MsgHeader :=
  { status := 0, length := 0, dcoord := BitVec.ofNat 16 dst, dpart := 0, dctx := 0, tag := 0, sctx := 0,
    scoord := BitVec.ofNat 16 src, spart := 0, score := 0, msgid := 7, daddr := 0, aux := 0 }

/-- A message that core 0 sent. -/
def sentMsg : Sent := { core := 0, msgid := 7, ctx := 0, tag := 0, peer := 4095, send := true, daddr := 0, recorded := false }

/-- A message of package 0 that waits at a port, and the flit of it that has left. -/
def waiting (kind : Nat) : TxMsg :=
  { id := 0, vc := 0, sent := 0, msg := { kind := kind, h := headerOf 0 1, payload := [] } }
def gone : TxFlit := { seq := 0, kind := 0, vc := 0, payload := List.replicate 240 0#8, id := 0, msg := none }

theorem witness_FlitsAndReplays :
    (upPort.up = true ∧ flitOk [] = false ∧ { upPort with askRun := 6 }.askRun < 7) ∧
    (bitsAt (1 * 2 ^ 36 + 5 * 2 ^ 40 + 0xFFFF * 2 ^ 48) 36 3 = 1 ∧ upPort.queue = [] ∧
      fieldAt (leBytes 8 (1 * 2 ^ 36 + 5 * 2 ^ 40 + 0xFFFF * 2 ^ 48)) 0 8 = 1 * 2 ^ 36 + 5 * 2 ^ 40 + 0xFFFF * 2 ^ 48) ∧
    (bitsAt 0xFFFF 36 3 = 0 ∧ bitsAt 0xFFFF 0 16 ≠ upPort.rxSeq ∧ upPort.discard = false) ∧
    (let p : Port := { upPort with rx := [(5, [1#8, 0#8, 0xD4#8])] }
     let part := SMap.get (fun _ => []) p.rx 5 ++ List.replicate 240 0#8
     bitsAt (5 * 2 ^ 32) 36 3 = 0 ∧ bitsAt (5 * 2 ^ 32) 0 16 = p.rxSeq ∧ bitsAt (5 * 2 ^ 32) 32 3 < 6 ∧
       part.length < 32 + (decodeHeader part).2.length.toNat) ∧
    (∀ n ∈ [6, 7], let x : Port := { upPort with replay := [gone], reqRun := n, reqSeq := 0 }
      (linked x).ent (Ent.linkReplays 0) < 2 ^ 32 - 1 ∧ x.up = true ∧ x.reqRun ≠ 0 ∧ x.reqSeq = (0#16).toNat ∧ x.owed = []) ∧
    (let x : Port := { upPort with retrain := true, replay := [gone] }
     x.up = true ∧ x.retrain = true ∧ x.queue = [] ∧ x.owed = []) ∧
    (let m := waiting Kind.write
     let s : State := linked { Port.init with state := 2, queue := [m] }
     let t : State := { s with links := { s.links with sent := [sentMsg] } }
     (t.port 0).state = 2 ∧ (t.port 0).queue = [m] ∧ m.msg.kind = Kind.write ∧ m.msg.h.scoord.toNat = t.ent Ent.pkgCoord ∧
       t.scoreCore m.msg.h = some 0 ∧ t.findSent 0 m.msg.h.msgid.toNat = some sentMsg ∧ t.ent (Ent.linkDrop 0) < 2 ^ 32 - 1) ∧
    (let s := linked { upPort with queue := [waiting Kind.norm], credits := [(0, 0)] }
     (s.port 0).up = true ∧ (s.port 0).retrain = false ∧ (∃ m ∈ (s.port 0).queue, m.vc = (0 : Fin 6).val) ∧
       (s.port 0).credit 0 = 0 ∧ SMap.get (fun _ => none) s.rel.starved 0 = none ∧
       (let t : State := { s with now := 10000000000, rel := { s.rel with starved := [(0, some 0)] } }
        SMap.get (fun _ => none) t.rel.starved 0 = some 0 ∧ t.now ≤ 0 + 10000000000) ∧ (s.port 0).replay = [] ∧
       ∀ m ∈ (s.port 0).queue, m.msg.kind = Kind.token ∨ m.msg.kind = Kind.norm) := by decide +kernel

/-- A refill of the first line of page 2, asked for by message 7, has been refused so many times. -/
def refilling (tries : Nat) : State :=
  { linked upPort with mem := { one.mem with refills :=
      [{ line := lineNo (paOf 0 32 0), tries := tries, wait := false, req := 7, idx := 0 }] } }

theorem witness_MessagesTakeEffect :
    (let s := linked upPort
     let h := headerOf 1 0
     h.clean = h ∧ h.dcoord.toNat = s.ent Ent.pkgCoord ∧ s.accepts h = true ∧ s.tagOk 0 h.tag.toNat = true ∧
       s.rel.creset = false ∧ bitsAt 0xB80000 19 5 = 23 ∧ bitsAt 0xC00000 19 5 = 24 ∧ s.globalCluster 0 0 = some 0 ∧
       s.restricted 0 = false ∧ s.syncKey 0 4095 = some 4095 ∧ (s.word 4095).owner = none ∧ (s.word 4095).mode < 2 ∧
       s.sourcePeer h = some { coord := 1, part := 0, ctx := 0, tag := 0, valid := true } ∧ s.ent Ent.pkgCoord ≠ 1 ∧
       (let answer : Msg := { kind := Kind.refillResp, payload := []
                              h := { s.ctxHeader 0 { coord := 1, part := 0, ctx := 0, tag := 0, valid := true } Kind.refillResp 0
                                       0 with msgid := h.msgid } }
        s.hop answer = some (0, 4) ∧ Roomy s 0 4 answer.flits ∧ s.refillLines 0 [] = (0, []) ∧ s.ent (Ent.step 0) = 0)) ∧
    (let s := linked upPort
     let m : Msg := { kind := Kind.write, h := (headerOf 0 1).clean, payload := [] }
     m.h.dcoord.toNat ≠ s.ent Ent.pkgCoord ∧ s.hop m = some (0, 4) ∧ Roomy s 0 4 m.flits) ∧
    (let s := linked upPort
     s.accepts (headerOf 2 0) = false ∧ s.ent (Ent.peerReject 0) < 2 ^ 32 - 1 ∧ (headerOf 2 0).scoord.toNat ≠ s.ent Ent.pkgCoord) ∧
    (let s : State := { linked upPort with links := { (linked upPort).links with sent := [sentMsg] } }
     bitsAt (headerOf 1 0).score.toNat 0 5 < 24 ∧ s.globalCluster 0 0 = some 0 ∧ s.findSent 0 7 = some sentMsg ∧
       s.tagOk 0 0 = true ∧ s.ent (Ent.linkDrop 0) < 2 ^ 32 - 1) ∧
    (∀ tries ∈ [0, 3], (refilling tries).refillsOf 7 =
        [{ line := lineNo (paOf 0 32 0), tries := tries, wait := false, req := 7, idx := 0 }] ∧
      (refilling tries).mem.held = [] ∧ (refilling tries).accepts (headerOf 1 0) = true ∧
      (refilling tries).rel.creset = false ∧ [some 5#512].getD 0 none = some 5#512 ∧
      ([] : List (Option (BitVec 512))).getD 0 none = none) := by
  delta Roomy
  decide +kernel

/-- This package at position 1 of a ring of two, and at position 0 with the check running; a token on a wrong port; exchanges
with the package upstream, with no error and with one of more than 1 µs. -/
theorem witness_RingsAndTime :
    (let s := put (linked upPort) [(Ent.ringCfg 0 0, 1 + 64 + 256 + 2 * 2 ^ 32)]
     s.partDefined 0 = true ∧ s.ringValid 0 0 = true ∧ s.ringIn 0 0 = 1 ∧ s.ringLen 0 0 = 2 ∧ s.ringPos 0 0 = 1 ∧
       (0 + 1) % Nat.max 1 (s.ringLen 0 0) = s.ringPos 0 0 ∧ s.ringOut 0 0 = 0 ∧
       Roomy s 0 (s.linkVc 0 0 Kind.token) 1 ∧ 5 ≠ s.ringIn 0 0) ∧
    (let s : State := put { linked upPort with links := { (linked upPort).links with checks := [(0, 0)] } }
       [(Ent.ringCfg 0 0, 1 + 64 + 2 * 2 ^ 32)]
     s.ringPos 0 0 = 0 ∧ (1 + 1) % Nat.max 1 (s.ringLen 0 0) = s.ringPos 0 0 ∧ s.ringChecking 0 0 = true) ∧
    (let s : State := { put (linked upPort) [(Ent.gtLocked, 1)] with
       gtime := { GTime.init with count := 1000, asked := some 1000, locked := true } }
     s.upstream = some 0 ∧ Roomy s 0 0 1 ∧ s.upstreamUp = true ∧ s.gtime.asked = some 1000 ∧ s.gtime.locked = true ∧
       (let v := upstreamCount 1000 1500 1500 s.gtime.count
        Nat.max (v - s.gtime.count) (s.gtime.count - v) ≤ 1000) ∧
       (let v := upstreamCount 1000 9000 9000 s.gtime.count
        1000 < Nat.max (v - s.gtime.count) (s.gtime.count - v))) ∧
    (linked Port.init).upstream = some 0 ∧ (linked Port.init).upstreamUp = false := by
  delta Roomy
  decide +kernel

/-- A sum over one ring of one slot a member, of 16 elements at the start of page 2. -/
def sumDesc (stotal : Nat) : CollDesc :=
  { kind := 1, op := 1, type := 0, rings := 1, root := 0, count := 16, nslot := 1, stotal := stotal, seglen := 0, stride := 0,
    src := [0x400000, 0, 0, 0], dst := [0x400040, 0, 0, 0], done := 0, group := 0, resv := false }

/-- Generation 0 of a collective at a stage, its descriptor at 0x401000; the neighbours on its lanes are packages 3 and 1. -/
def collAt (d : CollDesc) (stage : CollStage) : Coll :=
  { Coll.issued 0 0x401000 d with stage := stage, lanes := [0], before := [(0, 3), (1, 1)] }

/-- Context 0 with its collectives as given, on a ring of len packages; word 0 is its doorbell, and the descriptor of a sum of
stotal slots stands in its queue. -/
def reducing (len stotal : Nat) (l : List Coll) : State :=
  let s := put (linked upPort) [(Ent.ringCfg 0 0, 1 + 64 + len * 2 ^ 32), (Ent.collQueue 0, 0x401000), (Ent.collQsize 0, 4),
    (Ent.collDoorbell 0, 0x80000000), (Ent.rsramFree, 4), (Ent.escPolicy 3, 0)]
  State.modCtx { s with
    sync := { Sync.zero with words := someWords }
    mem := { s.mem with cells := inPage2 [(0x1000, 1), (0x1001, 1), (0x1003, 1), (0x1008, 16), (0x1010, 1),
      (0x1012, BitVec.ofNat 8 stotal), (0x1022, 0x40), (0x1040, 0x40), (0x1042, 0x40)] }
    links := { s.links with order := [(0, 0)] } } 0 fun c => { c with colls := l }

/-- The opening token of generation 0 of a collective, of the package at position `origin`, that the one at `position` sent
on. -/
def token (lane : Fin 6) (signature slotSum : Nat) (origin position : BitVec 11) : OpenToken :=
  { opening0 with lane := lane, signature := BitVec.ofNat 64 signature, slotSum := slotSum, origin := origin,
                  position := position }

/-- The header of a message of package 1 to context 0 passes the checks there. -/
def collKnown (s : State) : Bool :=
  let h := (headerOf 1 0).clean
  h.dctx.toNat == 0 && s.accepts h && s.tagOk 0 h.tag.toNat && !s.rel.creset

/-- Two groups of contributions to one element, none above its code. -/
theorem witness_CollectiveSums :
    (let q : PartSum := { code := 127, neg := true, mag := 5 }
     q.mag < 2 ^ 31 ∧ q.code < 256) ∧
    (sumDesc 4).op = 1 ∧ (sumDesc 4).stotal = 4 ∧
    ([0x40400000#32, 0xBFA00000#32, 0x32000001#32, 0x3F000000#32].map classCode) = [128, 127, 100, 126] := by decide +kernel

/-- Descriptors that are due: valid on rings of two packages and of one, and invalid; one aborted already; tokens held, placed
wrongly, of another signature, of another package, and come home; ABORT tokens. -/
theorem witness_CollectivesOpen :
    (∀ p ∈ [(2, 2, true, 2), (1, 1, true, 1), (2, 0, false, 2)],
      let s := reducing p.1 p.2.1 []
      s.collMayIssue 0 = true ∧ (s.ctx 0).tokens = [] ∧ (s.ctx 0).colls = [] ∧ (s.ctx 0).aborted = [] ∧
        s.ent (Ent.collIssued 0) = 0 ∧
        (match s.readVirt 0 0x401000 128 with
          | .ok b => s.collValid 0 (decodeColl b) == p.2.2.1 && s.collPkgs 0 (decodeColl b) == p.2.2.2 &&
              (p.1 != 1 || s.ownSlots 0 (decodeColl b) == (decodeColl b).stotal)
          | .fail _ _ => false) = true ∧
        (s.modCtx 0 fun c => { c with aborted := [(0, true)] }).collMayIssue 0 = true) ∧
    (let s := (reducing 2 2 []).modCtx 0 fun c => { c with tokens := List.replicate 3 (5, token 0 0 0 0 0) }
     collKnown s = true ∧ s.coll 0 5 = none ∧ s.ent (Ent.collIssued 0) ≤ 5 ∧
       ((s.ctx 0).tokens.filter fun p => p.2.lane == (token 0 0 0 0 0).lane).length < 4 ∧
       (∀ p ∈ (s.ctx 0).aborted, p.1 ≠ 5)) ∧
    (let c := collAt (sumDesc 2) .opening
     let s := reducing 2 2 [c]
     let t := token 1 ((sumDesc 2).signature 0) 2 0 1
     collKnown s = true ∧ s.coll 0 0 = some c ∧ c.ended = false ∧ s.tokenPlaced 0 c.desc 5 t = false ∧
       s.tokenPlaced 0 c.desc 0 t = true ∧ s.tokenPlaced 0 c.desc 0 (token 1 0 2 0 1) = true ∧
       (token 1 0 2 0 1).signature.toNat ≠ c.desc.signature 0 ∧ t.signature.toNat = c.desc.signature 0 ∧
       t.root.toNat = c.desc.root ∧ t.seglen.toNat = c.desc.seglen ∧ t.group.toNat = c.desc.group ∧
       t.origin.toNat = s.ringPos 0 0 ∧ s.tokenHome 0 c.desc t = true ∧ t.slotSum = c.desc.stotal ∧
       c.lanes.contains t.lane.val = false ∧ c.lanes.length + 1 = 2 * c.desc.ringList.length) ∧
    (let c := collAt (sumDesc 4) .opening
     let s := reducing 4 4 [c]
     let t := token 0 ((sumDesc 4).signature 0) 2 2 3
     collKnown s = true ∧ s.coll 0 0 = some c ∧ s.tokenPlaced 0 c.desc 1 t = true ∧ t.origin.toNat ≠ s.ringPos 0 0 ∧
       t.leg = 0 ∧ t.position ≠ t.origin ∧ s.stepPort 0 0 c.desc.seglen (laneUp t.lane) = some 0 ∧
       Roomy s 0 (s.linkVc 0 0 Kind.token) 1) := by
  delta Roomy
  decide +kernel

/-- Elements of this package's collective, on lane 0 from package 3. -/
def bring (phase : CollPhase) (first bytes : Nat) : CollMsg :=
  { part0 with phase := phase, first := first, data := List.replicate bytes 0 }

/-- A collective that starts: among four packages, a broadcast that another package begins, and alone; results and codes of
block 1, whose owner is package 1; messages that wait; and ends. -/
theorem witness_CollectivesMove :
    (let bcast : CollDesc := { sumDesc 1 with kind := 4, op := 0, root := 1 }
     ∀ p ∈ [(4, 4, sumDesc 4), (2, 1, bcast), (1, 1, sumDesc 1)],
      let c := collAt p.2.2 .confirmed
      let s := reducing p.1 p.2.1 [c]
      s.coll 0 0 = some c ∧ c.stage = .confirmed ∧ s.links.order = [(0, 0)] ∧ 2 * c.desc.laneCount ≤ s.ent Ent.rsramFree ∧
        s.mem.served = true ∧ c.recv = [] ∧ c.inbox = [] ∧ s.collPkgs 0 c.desc = p.1 ∧ s.laneBlocks 0 c 0 ≠ [] ∧
        s.ent Ent.rsramFree ≤ 32 ∧
        (c.desc.op = 0 → ∀ i, i < c.desc.laneCount → ∀ x ∈ s.laneBlocks 0 c i, (s.seat 0 c i x).own = false) ∧
        (p.1 = 1 → (match s.readLists 0 ((List.range 16).map fun i => c.desc.sources (s.memberDies 0) 0 i) with
          | .ok xs => (s.collWrites 0 c.desc 0 ((xs.map c.desc.combine).map (·.1)) (s.collLocal 0 c.desc)).fail.isNone
          | .error _ => false) = true)) ∧
    (let c := collAt (sumDesc 4) .data
     let s := reducing 4 4 [c]
     let b : Block := { rank := 1, first := 2, len := 2 }
     let x := s.seat 0 c 0 b
     let went := fun (ph : CollPhase) => { c with recv := [{ phase := ph, up := true, first := 2, len := 1 : CollPiece }] }
     collKnown s = true ∧ s.coll 0 0 = some c ∧ ((s.ctx 0).colls.find? fun c => c.gen % 2 ^ 32 == 0 && !c.ended) = some c ∧
       c.desc.seglen = 0 ∧ 0 < c.desc.laneCount ∧ s.stepPort 0 0 0 (!laneUp 0) = some 1 ∧
       blockAt (s.laneBlocks 0 c 0) 2 = some b ∧ x.own = false ∧ c.desc.has .result = true ∧ c.desc.has .code = true ∧
       c.desc.elems (bring .result 2 4) = [0] ∧ c.desc.elems (bring .code 2 1) = [0] ∧ c.recv = [] ∧ x.next = true ∧
       x.inward ≠ 0 ∧ (s.collWrites 0 c.desc 2 [0#32] (s.collLocal 0 c.desc)).fail = none ∧
       s.chunkDone 0 (went .result) 0 = false ∧ s.chunkDone 0 (went .code) 0 = false ∧
       (match s.readLists 0 [c.desc.sources (s.memberDies 0) 0 2] with
         | .ok l => l.length == 1
         | .error _ => false) = true ∧
       s.stepPort 0 0 0 true = some 0 ∧ Roomy s 0 (s.linkVc 0 0 Kind.coll) 1 ∧
       blockAt (s.laneBlocks 0 c 0) 100 = none) ∧
    (∀ stage ∈ [CollStage.ended 0, .ended 3, .moved],
      let c := collAt (sumDesc 2) stage
      let s := reducing 2 2 [c]
      (s.ctx 0).colls = [c] ∧ s.mem.served = true ∧ s.ent (Ent.collFails 0) < 2 ^ 32 - 1 ∧
        (s.writeVirt 0 (c.addr + 112) (List.replicate 16 0#8)).fail = none ∧ c.desc.done.testBit 31 = false) ∧
    (let c := collAt (sumDesc 2) .data
     let s := reducing 2 2 [c]
     s.coll 0 0 = some c ∧ c.ended = false ∧ s.scopeResetting 0 = false ∧ s.escLevel 4 0 = 0) := by
  delta Roomy
  decide +kernel

/-- R345: the partial on the wire after each of ranks 1, 2, 3 and 0 has added its contribution, and the result. -/
theorem test_collWire :
    let d := sumDesc 4
    let step := fun (w : Nat) (x : Word32) => (d.fold .partial_ (some w) [x]).1
    let a := step (PartSum.none 128).bits 0xBFA00000#32
    let b := step a 0x32000001#32
    let c := step b 0x3F000000#32
    let e := step c 0x40400000#32
    (a, b, c, e, (d.finish e).1) =
      (0xC00A000000, 0xC009FFFFFF, 0xC005FFFFFF, 0x4012000001, 0x40100000#32) := by decide +kernel

/-! ### States and operands: resets, the host, the dictionary and the platform -/

theorem witness_ResetsComplete :
    (∀ held ∈ [none, some 1, some 64],
      let s := (reading []).modCtx 0 fun c => { c with resetting := some 0x0102, heldTail := held }
      (s.ctx 0).resetting = some 0x0102 ∧ (s.ctx 0).heldTail = held ∧ (s.ctx 0).tagDelay = false ∧
        (s.part (s.ctxPart 0)).resetting = false ∧ s.rel.creset = false ∧ s.live = [] ∧ s.mem.refills = [] ∧
        s.ent (Ent.resetCount 0) < 2 ^ 32 - 1 ∧ s.pg 0 0x040 = 1 ∧ s.pg 0 0x010 + s.pg 0 0x008 = 64) ∧
    (let s := one.modPart 0 fun p => { p with resetting := true }
     (s.part 0).resetting = true ∧ s.rel.creset = false ∧ s.tagsDelayed 0 = false ∧ s.live = [] ∧ s.mem.refills = []) ∧
    (let s : State := { one with rel := { one.rel with creset := true } }
     s.rel.creset = true ∧ s.plat.pwrCycle = false ∧ (List.range 16).any s.tagsDelayed = false ∧ s.live = [] ∧
       s.mem.refills = [] ∧ s.plat.stage = StartStage.ready) ∧
    (let s := one.modCtx 0 fun c => { c with tagDelay := true }
     (s.ctx 0).tagDelay = true ∧ s.live = [] ∧ s.mem.refills = []) := by decide +kernel

/-- A pulse one nanosecond too short and one long enough; a held input; functions of the package and of a partition. -/
theorem witness_InputsAndFunctionResets :
    (999 < 1000 ∧ one.plat.stage ≠ StartStage.off) ∧ ({ one.plat with rst := 2#2 } : Plat).rst ≠ 0#2 ∧
    one.hostReach 0 = true ∧ one.hostReach 16 = true ∧ one.hostReach 1 = true ∧ one.host.cfgUp = true ∧ one.powered = true ∧
    one.partDefined 0 = true ∧ one.rel.creset = false ∧ one.bme 1 = false ∧ one.host.pcieUp = true ∧ one.plat.rst = 0#2 := by decide +kernel

/-- The aperture of the package at its first line, readable, poisoned, and with the stacks held; a write of the line's last byte. -/
theorem witness_HostAccesses :
    one.hostReach 0 = true ∧ one.isReady = true ∧
    (let s : State := { one with rel := { one.rel with creset := true } }
     s.hostReach 0 = true ∧ s.isReady = true ∧ s.aptParts 0 0 4096 false = none ∧ s.fn 0 0x040 < 2 ^ 32 - 1) ∧
    (let l := one.aptParts 0 0 64 false
     l = some [(0, 64)] ∧ one.poisoned (lineNo 0) = false ∧ one.aptParts 0 63 1 true = some [(63, 1)]) ∧
    (let s : State := { one with mem := { one.mem with poison := [(0, true)] } }
     s.aptParts 0 0 64 false = some [(0, 64)] ∧ s.poisoned (lineNo 0) = true) ∧
    (0x1000#64).toNat % 4096 = 0 ∧ one.mqIdle 0 = true ∧ (0xFFF#64).toNat % 4096 ≠ 0 ∧ one.fn 0 0x028 < 2 ^ 32 - 1 ∧
    (let v : Word64 := BitVec.ofNat 64 (2 ^ 63 + 2)
     v.getLsbD 63 = true ∧ bitsAt v.toNat 0 8 = 2) := by decide +kernel

/-- The sync window of function 1 at a count and a lock word of its partition, with valid and invalid configurations of
both kinds, an arm slot armed below and at its word, and a partition in restricted signalling. -/
theorem witness_SyncWindow :
    (let s := sync0 worker []
     let w := sync0 Core.init []
     s.hostReach 1 = true ∧ s.partDefined 0 = true ∧ s.restricted 0 = false ∧ s.globalCluster 0 0 = some 0 ∧
       w.wordInUse 0 0 = false ∧ (s.word 0).mode ≠ 2 ∧ (s.word 2).mode = 2 ∧ s.ent (Ent.syncHostDrop 0) < 2 ^ 32 - 1 ∧
       bitsAt 3 0 2 = 3 ∧ (bitsAt 1 0 2 = 1 ∧ bitsAt 1 16 16 = 0) ∧ ((0x1FC#64).getLsbD 2 = true ∧ s.ctxOf 0 63 = false) ∧
       ¬ (bitsAt 0x10001 0 2 = 3 ∨ (bitsAt 0x10001 0 2 = 1 ∧ bitsAt 0x10001 16 16 = 0) ∨
         ((0x10001#64).getLsbD 2 = true ∧ s.ctxOf 0 (bitsAt 0x10001 3 6) = false)) ∧
       (0x80000000#64).getLsbD 31 = true ∧ s.syncKey 0 (bitsAt 0x80000000 0 18) = some 0 ∧ (s.word 0).value = 7 ∧
       (s.arm 63).enable = false) ∧
    (let s := one.modPart 0 fun p => { p with resetting := true }
     s.hostReach 1 = true ∧ s.partDefined 0 = true ∧ s.restricted 0 = true ∧ s.ent (Ent.syncHostDrop 0) < 2 ^ 32 - 1) := by decide +kernel

/-- Whether a write request is accepted, as a truth value. -/
def taken (s : State) (port : DictPort) (key : Nat) (data : List Byte) : Bool :=
  s.dictOpen port none && s.dictCheck port key data == Dr.ok

theorem accepted_of {s : State} {port : DictPort} {key : Nat} {data : List Byte} (h : taken s port key data = true) :
    Accepted s port key data := by
  simp only [taken, Bool.and_eq_true, beq_iff_eq] at h
  exact h

/-- A refused write, an accepted one of a plain entry, reads of an entry and of the log, and a write of ALERT_STATUS. -/
theorem witness_DictionaryAccess :
    (request (.dictWrite .i3c 0x1001 1 [1#8]) = some (.i3c, 256 * 0x1001 + 1, [1#8]) ∧ base.dictOpen .i3c none = true ∧
      base.dictCheck .i3c (256 * 0x1001 + 1) [1#8] ≠ 0) ∧
    (∃ r, Accepted base .i3c Ent.calicoPeriod [1#8, 0#8] ∧ Catalog.row Ent.calicoPeriod = some r ∧ r.acc = .rw ∧
      Ent.calicoPeriod / 256 = 0x8040) ∧
    (∃ r, base.dictOpen .i3c (some 0x8040) = true ∧ Catalog.row Ent.calicoPeriod = some r ∧ base.isReady = true ∧
      base.inScope .i3c r Ent.calicoPeriod false 0 = true ∧ r.acc ≠ .wo) ∧
    (∃ r, base.dictOpen .i3c (some 0x8000) = true ∧ Catalog.row Ent.logRecord = some r ∧
      base.inScope .i3c r Ent.logRecord false 0 = true ∧ r.acc ≠ .wo) ∧
    (let s := base.log 0x0904 []
     s.logFrom none (s.cursor 0) ≠ []) ∧
    Accepted (base.log 0x0904 []) (.mbx 16) Ent.logTail (leBytes 8 1) ∧ portReader .i3c ≠ portReader (.mbx 16) ∧
    (Accepted base .i3c Ent.alertStatus (leBytes 4 1) ∧ base.entBit Ent.resetStatus 0 = false) := by
  refine ⟨⟨rfl, by decide +kernel, by decide +kernel⟩, ?_, ?_, ?_, by decide +kernel, accepted_of (by decide +kernel),
    by decide, accepted_of (by decide +kernel), by decide +kernel⟩
  · obtain ⟨r, h⟩ := Option.isSome_iff_exists.1 (by decide +kernel : (Catalog.row Ent.calicoPeriod).isSome = true)
    refine ⟨r, accepted_of (by decide +kernel), h, ?_, by decide +kernel⟩
    have : (Catalog.row Ent.calicoPeriod).map (·.acc) = some .rw := by decide +kernel
    rw [h] at this; exact Option.some.inj this
  · obtain ⟨r, h⟩ := Option.isSome_iff_exists.1 (by decide +kernel : (Catalog.row Ent.calicoPeriod).isSome = true)
    refine ⟨r, by decide +kernel, h, by decide +kernel, rfl, ?_⟩
    have : (Catalog.row Ent.calicoPeriod).map (·.acc) = some .rw := by decide +kernel
    rw [h] at this
    have hr : r.acc = .rw := Option.some.inj this
    rw [hr]; decide
  · obtain ⟨r, h⟩ := Option.isSome_iff_exists.1 (by decide +kernel : (Catalog.row Ent.logRecord).isSome = true)
    refine ⟨r, by decide +kernel, h, rfl, ?_⟩
    have : (Catalog.row Ent.logRecord).map (fun r => r.acc == .wo) = some false := by decide +kernel
    rw [h] at this
    intro hr
    simp [hr] at this

/-- Whether a command is a write request that is accepted, as a truth value. -/
def asks (s : State) (i : Instr) : Bool :=
  match request i with
  | some r => taken s r.1 r.2.1 r.2.2
  | none => false

theorem accepted_of_asks {s : State} {i : Instr} (h : asks s i = true) :
    ∃ r, request i = some r ∧ Accepted s r.1 r.2.1 r.2.2 := by
  unfold asks at h
  split at h
  · exact ⟨_, ‹_›, accepted_of h⟩
  · cases h

theorem witness_DataRequests :
    (asks one (.resvWrite (.mbx 0) 0 1) = true ∧ one.ctxValid 0 = true ∧ one.live = [] ∧ one.mem.refills = [] ∧
      one.atBoundary 0 = true ∧
      asks (put one [(Ent.updTable 0, 0x400000)]) (.resvWrite (.mbx 0) 0 1) = true ∧
      (put one [(Ent.updTable 0, 0x400000)]).atBoundary 0 = false ∧ (put one [(Ent.updTable 0, 0x400000)]).live = [] ∧
      (put one [(Ent.updTable 0, 0x400000)]).mem.refills = []) ∧
    (let s := one.modCtx 0 fun c => { c with vote := { Vote.init with withheld := true } }
     asks s (.voteRelease (.mbx 0) 0) = true ∧ (s.ctx 0).vote.withheld = true ∧ (s.ctx 0).upd.queued = 0 ∧ s.evalsOf 0 = [] ∧
       s.syncKey (s.ctxPart 0) (s.entBits (Ent.updDone 0) 0 18) = some 0) ∧
    asks one (.exportHeadWrite (.mbx 0) 0 0) = true ∧ asks one (.keyreq (.mbx 0) 0) = true ∧ asks one (.shardreq (.mbx 0) 0) = true ∧
    one.entBit (Ent.exportCtl 0) 1 = false ∧ asks one (.watermarkMarkWrite .i3c 0x4030 0) = true ∧
    asks one (.watermarkMarkWrite .i3c 0x6032 0) = true ∧ asks one (.collDoorbellWrite (.mbx 0) 0 0x80000000) = true ∧
    (one.ctx 0).colls = [] ∧ one.syncKey (one.ctxPart 0) (bitsAt 0x80000000 0 18) = some 0 := by decide +kernel

theorem witness_ContextRequests :
    asks base (.partClustersWrite (.mbx 0) 15 0x8000000000000000) = true ∧ base.ent (Ent.partClusters 15) = 0 ∧
    asks one (.ctxCreate (.mbx 0) 63 1) = true ∧ asks one (.ctxDestroy (.mbx 0) 0 0) = true ∧
    asks (put one [(Ent.ctxClusters 0, 0)]) (.ctxClustersWrite (.mbx 0) 0 1) = true ∧
    asks one (.seqRun (.mbx 0) 0 0x40) = true ∧ asks (put one [(Ent.seqCtl 0, 0x40)]) (.seqRun (.mbx 0) 0 0x40) = true ∧
    asks (put one [(Ent.seqCtl 0, 0x40)]) (.seqStop (.mbx 0) 0 0) = true := by decide +kernel

/-- A package with the last slot of cluster 63, the last group and the last update engine out of service. -/
def worn : State :=
  { (base.setEntBit (Ent.fenced 63) 24 true).setEntBit (Ent.groupsInService 15) 15 false with
    rel := { base.rel with upeOut := 0x8000 } }

theorem witness_LinkPowerAndTestRequests :
    (let s : State := { one with links := { one.links with ports := [(5, { Port.init with state := 6 })] } }
     asks s (.portEnableWrite .i3c 5 1#8) = true ∧ s.linksRun = true ∧ (s.port 5).state = 6) ∧
    (asks one (.portEnableWrite .i3c 5 0#8) = true ∧ (one.port 5).queue = [] ∧ (one.port 5).replay = [] ∧
      ∀ m, (one.ctx m).colls = []) ∧
    (asks (peered one) (.peerUpdate .i3c 0x3FFC0) = true ∧ 0x3FFC0 % 64 = 0 ∧
      SMap.get (fun _ => none) ((peered one).ctx (0x3FFC0 % 64)).peers (bitsAt 0x3FFC0 6 12) =
        some { coord := 0, part := 0, ctx := 0, tag := 0, valid := true }) ∧
    asks one (.ringCfgWrite .i3c 2 0 0x100000048) = true ∧
    (let s := put one [(Ent.ringCfg 0 0, 0x100000048)]
     asks s (.ringVerify .i3c 0 1) = true ∧ s.ringValid 0 0 = true ∧ s.ringPos 0 0 = 0 ∧ s.ringLen 0 0 = 1) ∧
    asks one (.powerCapWrite .i3c 1500) = true ∧ asks one (.slopeWrite .i3c 100) = true ∧ asks one (.govRelearn (.mbx 0) 0) = true ∧
    one.partDefined 0 = true ∧ asks base (.selftestLogic .i3c) = true ∧ asks base (.selftestMemory .i3c) = true ∧
    asks base (.selftestSlot .i3c) = true ∧ asks worn (.returnCoreSlot .i3c 63 24) = true ∧ asks worn (.returnChannelGroup .i3c 15 15) = true ∧
    asks worn (.returnUpe .i3c 15) = true := by
  refine ⟨?_, ⟨?_, ?_, ?_, fun m => rfl⟩, ?_⟩ <;> decide +kernel

theorem witness_ResetRequests :
    asks (sync0 worker []) (.ctxReset .i3c 0 1#8) = true ∧ (sync0 worker []).scopeResetting 0 = false ∧
    asks one (.partReset .i3c 0 1#8) = true ∧ one.partDefined 0 = true ∧ (one.part 0).resetting = false ∧ one.rel.creset = false ∧
    asks one (.computeReset .i3c 1#8) = true := by decide +kernel

/-- A sample of 7,000 W, of which partition 0 draws what it is given. -/
def draws (w : Nat) : PowerReading := { sample0 7000 with partitions := w :: List.replicate 15 0 }

/-- A die in throttling stage 2. -/
def throttled : State := put one [(Ent.thermStage, 2)]

/-- A sample below the cap and one above it: with the islands at point 0, with no partition, with one above its share, and while
points lowered are not yet in force; a replay; sensors below every limit and at the trip point twice; the first and the
second lost phase of each kind of regulator. -/
theorem witness_PowerAndThermal :
    one.plat.stage ≠ StartStage.off ∧ one.powered = true ∧ 100 < one.ent Ent.powerCap ∧ one.ent Ent.powerCap < 7000 ∧
    one.power.settle ≤ 1 ∧ ({ one with rel := { one.rel with creset := true } } : State).allAtZero = true ∧
    base.definedParts = [] ∧ base.coresDown base.freeClusters = false ∧ base.powered = true ∧ base.power.settle ≤ 1 ∧
    base.ent Ent.powerCap < 7000 ∧
    (let s := put one [(Ent.updTable 0, 0x400000)]
     s.powered = true ∧ s.ent Ent.powerCap < 7000 ∧ s.power.settle ≤ 1 ∧ 0 ∈ s.definedParts ∧
       s.coresDown (s.partClusters 0) = false ∧
       (match execPowerSample (draws 1500) s with
         | .next t => t.overShare 0 (draws 1500)
         | _ => false) = true) ∧
    2 ≤ ({ one with power := { one.power with settle := 2 } } : State).power.settle ∧
    (let s := at0 { worker with replay := true }
     s.rel.creset = false ∧ s.testOf 0 0 = none ∧ s.slotFloored 0 0 = true) ∧
    2 ≤ throttled.dieStage (dieOf 0) ∧
    (let cool := List.replicate 100 (0 : Int)
     cool.length = 100 ∧ one.plat.thermtrip = false ∧ ∀ d ∈ List.range 4, reached 4 d one.power.temps cool = []) ∧
    (let hot := List.replicate 100 (5000 : Int)
     hot.length = 100 ∧ reached 4 3 hot hot ≠ []) ∧
    SMap.get (fun _ => 0) one.rel.ivr (regulatorKey (.io 15)) = 0 ∧
    (let s : State := { one with rel := { one.rel with ivr := [(regulatorKey (.slot 0 0), 1), (regulatorKey (.die 3 31), 1)] } }
     SMap.get (fun _ => 0) s.rel.ivr (regulatorKey (.slot 0 0)) = 1 ∧ s.slotHolder 0 0 = some 0 ∧
       (s.core 0).role = .inService ∧ s.dieHasSpare (dieOf 0) = true ∧
       SMap.get (fun _ => 0) s.rel.ivr (regulatorKey (.die 3 31)) = 1) := by decide +kernel

theorem witness_TestsAndReturnsEnd :
    (∀ kind ∈ [1, 2], let s : State := { base with rel := { base.rel with selftest := some kind } }
      s.rel.selftest = some kind ∧ s.tap.started = none) ∧
    (∀ p ∈ [(1, 24 + 32 * 63), (2, 255), (3, 15)],
      let s : State := { worn with rel := { worn.rel with rets := [p] } }
      (s.rel.rets.find? fun x => returnDie x.1 x.2 == 3) = some p ∧ s.mem.pages = [] ∧ s.rel.creset = false ∧
        ({ s.rel with creset := true }.rets.find? fun x => returnDie x.1 x.2 == 3) = some p) := by decide +kernel

theorem witness_StartUp :
    (State.reset.plat.aux = false ∧ State.reset.plat.main = false ∧ base.sagging = false) ∧
    (let p : Plat := { Plat.cold with aux := true }
     p.aux = true ∧ p.barred = false ∧ p.stage = .off ∧ p.fwMgmt.select.isSome = true ∧ p.fwComp.select.isSome = true ∧
       p.fwCal.select.isSome = true ∧ ({ p.fwMgmt with a := none } : Fw).select.isSome = false) ∧
    (let p : Plat := { Plat.cold with aux := true, main := true, conv := true, stage := .booted }
     p.stage = .booted ∧ p.conv = true ∧ p.main = true ∧ p.rst = 0#2 ∧ p.pwrCycle = false ∧ p.thermtrip = false) ∧
    (∀ stage ∈ [StartStage.calibrated, .recordsApplied, .memoryReady],
      let s : State := { base with plat := { base.plat with stage := stage } }
      s.plat.stage = stage ∧ s.rel.selftest = none ∧ s.plat.pwrCycle = false) ∧
    (let s := put base [(Ent.replace, 1)]
     s.ent Ent.replace ≠ 0 ∧ base.ent Ent.replace = 0) := by decide +kernel

theorem witness_RailsAreLost :
    base.plat.main = true ∧ base.isReady = true ∧ base.plat.aux = true ∧ base.powered = true ∧ base.plat.pwrCycle = false ∧
    base.plat.stage ≠ StartStage.off ∧ ∃ r, Catalog.row (256 * 0x1010 + 2) = some r ∧ r.pers = .flash := by
  refine ⟨?_, ?_, ?_, ?_, ?_, ?_, ?_⟩
  iterate 6 decide +kernel
  obtain ⟨r, h⟩ := Option.isSome_iff_exists.1 (by decide +kernel : (Catalog.row (256 * 0x1010 + 2)).isSome = true)
  refine ⟨r, h, ?_⟩
  have : (Catalog.row (256 * 0x1010 + 2)).map (·.pers) = some .flash := by decide +kernel
  rw [h] at this; exact Option.some.inj this

theorem witness_FirmwareAndAttestation :
    base.plat.stage ≠ StartStage.off ∧ mctpPort .i3c = true ∧ mctpPort .vdm = true ∧ base.host.pcieUp = true ∧
    base.plat.stage ≠ StartStage.recovery ∧ base.spdmAt .vdm = 0 ∧
    (∀ at_ ∈ [1, 2, 3], ({ base with plat := { base.plat with spdm := [(1, at_)] } } : State).spdmAt .vdm = at_) ∧
    ({ base with plat := { base.plat with stage := .booted } } : State).powered = false := by decide +kernel

theorem witness_TestPort :
    base.plat.aux = true ∧ base.plat.rst = 0#2 ∧ base.tap.sibs = [] ∧ 255 ∉ [0, 1, 2, 3, 4, 16] ∧ 5 ∉ [0, 1, 2, 3, 4, 16] ∧
    ({ base.tap with ir := 16 } : Tap).ir = 16 ∧
    (let s : State := { base with tap := { base.tap with ir := 16, sibs := [(0, true), (4, true), (20, true)] } }
     s.inPath [4] = true ∧ s.inPath [0] = true ∧ s.inPath [1 + 15 / 4, 5 + 15] = true ∧ s.isReady = true ∧ s.testBusy 1 = false ∧
       s.testBusy 2 = false) ∧
    (let s : State := { one with tap := { one.tap with ir := 16, sibs := [(0, true), (4, true), (20, true)] } }
     s.inPath [4] = true ∧ s.isReady = true ∧ s.testBusy 1 = true ∧ s.testBusy 2 = true) := by decide +kernel

end Sys2Proof.Tests
end

section
/-!
PROOF. The scope of the model: every command has a meaning, and each meaning answers a next state.
-/

namespace Sys2Proof.Machine

/-- Settles O3, by cases on the command: the manual states every outcome (R6), and what goes wrong is recorded in the
state (R376, R379), so the meaning of each command is a `.next` with every test of the state inside it; the next state is
read off the arm of `exec`. -/
theorem everyCommandCompletes : Obligations.EveryCommandCompletes := by
  unfold Obligations.EveryCommandCompletes Completes
  intro i s
  cases i
  all_goals exact ⟨_, rfl⟩

end Sys2Proof.Machine
end

section
/-!
SUPPORT. The matrix engine, said once: what its operations read and change, and how an instruction of it retires.
-/

namespace Sys2Proof.Machine

open Sys2Proof

variable {s t : State} {k : Nat} {g : BitVec 4} {r : RunTask} {op : EngOp} {u : CoreUnit}

/-! ### Runs of keys and of words -/

theorem SMap.get_filterMap_idx {V : Type} [DecidableEq V] (d : Nat → V) (b i : Nat) (f : Nat → V) (l : List Nat) :
    SMap.get d (l.filterMap fun j => if f (b + j) = d (b + j) then none else some (b + j, f (b + j))) (b + i) =
      if i ∈ l then f (b + i) else d (b + i) := by
  induction l with
  | nil => rfl
  | cons j l ih =>
    by_cases hj : f (b + j) = d (b + j)
    · rw [List.filterMap_cons_none (by simp [hj]), ih]
      by_cases hi : i = j
      · simp [hi, hj]
      · simp [hi]
    · rw [List.filterMap_cons_some (b := (b + j, f (b + j))) (by simp [hj]), SMap.get, ih]
      by_cases hi : i = j
      · simp [hi]
      · simp [hi, Ne.symm hi]

/-- A map made from a function reads as the function over its range. -/
theorem SMap.get_ofRange {V : Type} [DecidableEq V] (d : Nat → V) (b : Nat) {n i : Nat} (f : Nat → V) (h : i < n) :
    SMap.get d (SMap.ofRange d b n f) (b + i) = f (b + i) := by
  rw [SMap.ofRange, SMap.get_filterMap_idx, if_pos (List.mem_range.2 h)]

/-- A word that no written word shares its place with reads as before. -/
theorem Core.rd_wrWords_out (l : List Word32) (c : Core) {w j : Nat}
    (h : ∀ i < l.length, j % spSize ≠ (w + i) % spSize) : (c.wrWords w l).rd j = c.rd j := by
  induction l generalizing c w with
  | nil => rfl
  | cons v l ih =>
    have h0 : j % spSize ≠ w % spSize := h 0 (by simp)
    rw [Core.wrWords, ih, Core.rd_wr, if_neg h0]
    intro i hi
    have := h (i + 1) (by simpa using hi)
    rwa [show w + (i + 1) = w + 1 + i by omega] at this

/-- Word i of what is written upward from w; what is written is no longer than the scratchpad, and addresses wrap (R85). -/
theorem Core.rd_wrWords (l : List Word32) (c : Core) (w : Nat) {i : Nat} (hi : i < l.length) (hl : l.length ≤ spSize) :
    (c.wrWords w l).rd (w + i) = l[i] := by
  induction l generalizing c w i with
  | nil => simp at hi
  | cons v l ih =>
    rw [Core.wrWords]
    cases i with
    | zero =>
      rw [Core.rd_wrWords_out, Core.rd_wr]
      · simp
      · intro i hi
        simp only [spSize, List.length_cons] at hl ⊢
        omega
    | succ i =>
      rw [show w + (i + 1) = w + 1 + i by omega, ih _ _ (by simpa using hi) (by simp at hl; omega)]
      rfl

/-! ### Operations that leave the program counter and dispatch alone -/

/-- A core with another program counter and dispatch. -/
def Core.placed (c : Core) (pc : Nat) (d : Disp) : Core := { c with regs := { c.regs with pc := pc }, disp := d }

theorem quiet_iff_placed {G : Core → Core} : Quiet G ↔ ∀ c pc d, G (c.placed pc d) = (G c).placed pc d := Iff.rfl

/-- A quiet change of the scratchpad alone. -/
structure SpOp (G : Core → Core) : Prop where
  quiet : Quiet G
  frame : ∀ c, G c = { c with sp := (G c).sp }

theorem SpOp.id : SpOp id := ⟨fun _ _ _ => rfl, fun _ => rfl⟩

theorem SpOp.comp {G H : Core → Core} (hH : SpOp H) (hG : SpOp G) : SpOp fun c => H (G c) := by
  refine ⟨quiet_iff_placed.2 fun c pc d => ?_, fun c => ?_⟩
  · rw [quiet_iff_placed.1 hG.quiet, quiet_iff_placed.1 hH.quiet]
  · rw [hH.frame, hG.frame]

theorem SpOp.foldl {α : Type} {f : Core → α → Core} (hf : ∀ a, SpOp (f · a)) (l : List α) : SpOp fun c => l.foldl f c := by
  induction l with
  | nil => exact SpOp.id
  | cons a l ih => exact ih.comp (hf a)

theorem SpOp.mxe {G : Core → Core} (hG : SpOp G) (c : Core) : (G c).mxe = c.mxe := by rw [hG.frame]

theorem Core.wr_spOp (w : Nat) (v : Word32) : SpOp fun c => c.wr w v := ⟨fun _ _ _ => rfl, fun _ => rfl⟩

theorem Core.wrWords_spOp (w : Nat) (l : List Word32) : SpOp fun c => c.wrWords w l := by
  induction l generalizing w with
  | nil => exact SpOp.id
  | cons v l ih => exact (ih (w + 1)).comp (Core.wr_spOp w v)

theorem Core.wrByte_spOp (b v : Nat) : SpOp fun c => c.wrByte b v := ⟨fun _ _ _ => rfl, fun _ => rfl⟩

theorem Core.writeRow_spOp (w b : Nat) (x : List Word32 × List Nat × FFlags) : SpOp fun c => c.writeRow w b x := by
  have h := SpOp.foldl (f := fun (c : Core) (p : Nat × Nat) => c.wrByte (b + p.2) p.1) (fun p => Core.wrByte_spOp _ _)
    x.2.1.zipIdx
  exact h.comp (Core.wrWords_spOp w x.1)

/-- A change of the scratchpad and the accumulator alone, with the flags that it raises; it neither reads nor changes the
program counter and dispatch. -/
structure MatrixOp (F : Core → Core × FFlags) : Prop where
  quiet : ∀ c pc d, F (c.placed pc d) = ((F c).1.placed pc d, (F c).2)
  frame : ∀ c, (F c).1 = { c with sp := (F c).1.sp, mxe := { c.mxe with acc := (F c).1.mxe.acc } }

/-- Operations one after another, their flags together. -/
def foldFlags {α : Type} (f : α → Core → Core × FFlags) (l : List α) (a : Core × FFlags) : Core × FFlags :=
  l.foldl (fun a x => ((f x a.1).1, a.2 ||| (f x a.1).2)) a

theorem foldFlags_cons {α : Type} (f : α → Core → Core × FFlags) (x : α) (l : List α) (a : Core × FFlags) :
    foldFlags f (x :: l) a = foldFlags f l ((f x a.1).1, a.2 ||| (f x a.1).2) := rfl

/-- What every operation keeps stays. -/
theorem foldFlags_keeps {α β : Type} (p : Core → β) {f : α → Core → Core × FFlags} (h : ∀ x c, p (f x c).1 = p c)
    (l : List α) (a : Core × FFlags) : p (foldFlags f l a).1 = p a.1 := by
  induction l generalizing a with
  | nil => rfl
  | cons x l ih => rw [foldFlags_cons, ih, h]

theorem foldFlags_placed {α : Type} {f : α → Core → Core × FFlags} (hf : ∀ x, MatrixOp (f x)) (l : List α) (c : Core)
    (b : FFlags) (pc : Nat) (d : Disp) :
    foldFlags f l (c.placed pc d, b) = ((foldFlags f l (c, b)).1.placed pc d, (foldFlags f l (c, b)).2) := by
  induction l generalizing c b with
  | nil => rfl
  | cons x l ih => rw [foldFlags_cons, foldFlags_cons, (hf x).quiet, ih]

theorem foldFlags_frame {α : Type} {f : α → Core → Core × FFlags} (hf : ∀ x, MatrixOp (f x)) (l : List α) (a : Core × FFlags) :
    (foldFlags f l a).1 =
      { a.1 with sp := (foldFlags f l a).1.sp, mxe := { a.1.mxe with acc := (foldFlags f l a).1.mxe.acc } } := by
  induction l generalizing a with
  | nil => rfl
  | cons x l ih => rw [foldFlags_cons, ih, (hf x).frame]

/-- Operations one after another that were all set up from the core at the start. -/
theorem MatrixOp.foldFlags {α : Type} {f : Core → α → Core → Core × FFlags} (hf : ∀ c x, MatrixOp (f c x))
    (hs : ∀ c pc d, f (c.placed pc d) = f c) (l : List α) : MatrixOp fun c => foldFlags (f c) l (c, 0#4) :=
  ⟨fun c pc d => by rw [hs, foldFlags_placed (hf c)], fun c => foldFlags_frame (hf c) l _⟩

theorem MatrixOp.raise_quiet {F : Core → Core × FFlags} (hF : MatrixOp F) :
    Quiet fun c => (F c).1.raise .mxe (F c).2 := by
  rw [quiet_iff_placed]
  intro c pc d
  rw [hF.quiet]
  rfl

theorem MatrixOp.raise_v {F : Core → Core × FFlags} (hF : MatrixOp F) {c : Core} :
    ((F c).1.raise .mxe (F c).2).flags.v = c.flags.v := by
  unfold Core.raise
  rw [hF.frame]
  rfl

theorem MatrixOp.raise_t {F : Core → Core × FFlags} (hF : MatrixOp F) {c : Core} :
    ((F c).1.raise .mxe (F c).2).flags.t = c.flags.t := by
  unfold Core.raise
  rw [hF.frame]
  rfl

/-! ### Streaming and draining -/

theorem Core.rd_setAccRow (c : Core) (row : Nat) (l : List Word32) (w : Nat) : (c.setAccRow row l).rd w = c.rd w := rfl

theorem Core.deliver_true (c : Core) (acc : Bool) (accBase aO ostride i : Nat) (sums : List (Word32 × FFlags)) :
    c.deliver true acc accBase aO ostride i sums =
      (c.wrWords (aO + i * ostride) (sums.map (·.1)), FFlags.all (sums.map (·.2))) := rfl

theorem Core.deliver_matrixOp (dest acc : Bool) (accBase aO ostride i : Nat) (sums : List (Word32 × FFlags)) :
    MatrixOp fun c => c.deliver dest acc accBase aO ostride i sums := by
  cases dest
  · exact ⟨fun _ _ _ => rfl, fun _ => rfl⟩
  · have h := Core.wrWords_spOp (aO + i * ostride) (sums.map (·.1))
    simp only [Core.deliver_true]
    exact ⟨fun c pc d => by rw [quiet_iff_placed.1 h.quiet], fun c => by rw [h.mxe]; exact h.frame c⟩

theorem Core.deliver_sp (c : Core) (acc : Bool) (accBase aO ostride i : Nat) (sums : List (Word32 × FFlags)) :
    (c.deliver false acc accBase aO ostride i sums).1.sp = c.sp := rfl

theorem Core.deliver_mxe (c : Core) (acc : Bool) (accBase aO ostride i : Nat) (sums : List (Word32 × FFlags)) :
    (c.deliver true acc accBase aO ostride i sums).1.mxe = c.mxe := by
  rw [Core.deliver_true]
  exact (Core.wrWords_spOp _ _).mxe c

/-- The block sums of row i of a streamed operand in the columns of the active plane (R90). -/
def Core.sumsOf (c : Core) (f : Fmt) (g : RowGeom) (i : Nat) : List (Word32 × FFlags) :=
  rowSums f c.active (c.rowElems f (g.base + i * g.stride)) (c.rowScales f (g.sbase + i * g.sstride))

theorem Core.sumsOf_placed (c : Core) (pc : Nat) (d : Disp) (f : Fmt) (g : RowGeom) (i : Nat) :
    (c.placed pc d).sumsOf f g i = c.sumsOf f g i := rfl

theorem Core.stream_eq (c : Core) (f : Fmt) (g : RowGeom) (dest acc : Bool) (accBase aO ostride m : Nat) :
    c.stream f g dest acc accBase aO ostride m =
      foldFlags (fun i x => x.deliver dest acc accBase aO ostride i (c.sumsOf f g i)) (List.range m) (c, 0#4) := rfl

theorem Core.stream_matrixOp (f : Fmt) (g : RowGeom) (dest acc : Bool) (accBase : Nat) (aO : BitVec 4) (ostride m : Nat) :
    MatrixOp fun c => c.stream f g dest acc accBase (c.wordAddr aO) ostride m := by
  simp only [Core.stream_eq]
  exact MatrixOp.foldFlags
    (f := fun c i x => x.deliver dest acc accBase (c.wordAddr aO) ostride i (c.sumsOf f g i))
    (fun c i => Core.deliver_matrixOp ..) (fun c pc d => by simp only [Core.sumsOf_placed]; rfl) _

theorem Core.stream_sp (c : Core) (f : Fmt) (g : RowGeom) (acc : Bool) (accBase aO ostride m : Nat) :
    (c.stream f g false acc accBase aO ostride m).1.sp = c.sp := by
  rw [Core.stream_eq]
  exact foldFlags_keeps (·.sp) (fun _ _ => Core.deliver_sp ..) _ _

theorem Core.stream_mxe (c : Core) (f : Fmt) (g : RowGeom) (acc : Bool) (accBase aO ostride m : Nat) :
    (c.stream f g true acc accBase aO ostride m).1.mxe = c.mxe := by
  rw [Core.stream_eq]
  exact foldFlags_keeps (·.mxe) (fun _ _ => Core.deliver_mxe ..) _ _

@[simp] theorem rowSums_length (f : Fmt) (p : Plane) (elems scales : List Nat) : (rowSums f p elems scales).length = 64 := by
  simp [rowSums]

/-- The result of a column of a row delivered to the accumulator (R91). -/
theorem Core.deliver_accAt (c : Core) (acc : Bool) (accBase aO ostride : Nat) {i n : Nat} (sums : List (Word32 × FFlags))
    (hi : i < 512) (hn : n < sums.length) :
    (c.deliver false acc accBase aO ostride i sums).1.accAt ((accBase + i) % 512) n =
      (accumulate (if acc then c.accAt ((accBase + i) % 512) n else f32zero true) sums[n]).1 := by
  simp only [Core.deliver, Bool.false_eq_true, if_false]
  rw [Core.accAt_setAccRow]
  cases acc <;> simp [hn, hi]

/-- The result of a column of a row delivered to the scratchpad (R91). -/
theorem Core.deliver_rd (c : Core) (acc : Bool) (accBase aO ostride i : Nat) {n : Nat} (sums : List (Word32 × FFlags))
    (hl : sums.length ≤ spSize) (hn : n < sums.length) :
    (c.deliver true acc accBase aO ostride i sums).1.rd (aO + i * ostride + n) = sums[n].1 := by
  rw [Core.deliver_true, Core.rd_wrWords _ _ _ (by simpa using hn) (by simpa using hl), List.getElem_map]

theorem Core.drainRow_matrixOp (f : Fmt) (row w b : Nat) (mode : Nat → RoundMode) (sat clr : Bool) :
    MatrixOp fun c => c.drainRow f row w b mode sat clr := by
  have h (c : Core) := Core.writeRow_spOp w b (convertRow f ((List.range 64).map (c.accAt row)) mode sat)
  refine ⟨fun c pc d => ?_, fun c => ?_⟩
  · have ha : (c.placed pc d).accAt row = c.accAt row := rfl
    simp only [Core.drainRow, ha, quiet_iff_placed.1 (h c).quiet c pc d]
    cases clr <;> rfl
  · have hf := (h c).frame c
    simp only [Core.drainRow]
    generalize c.writeRow w b _ = x at hf
    generalize x.sp = sp at hf
    generalize List.replicate 64 (f32zero true) = l
    subst hf
    cases clr <;> rfl

theorem Core.drainRow_mxe (c : Core) (f : Fmt) (row w b : Nat) (mode : Nat → RoundMode) (sat : Bool) :
    (c.drainRow f row w b mode sat false).1.mxe = c.mxe :=
  (Core.writeRow_spOp w b (convertRow f ((List.range 64).map (c.accAt row)) mode sat)).mxe c

/-- The rounding of the elements of row i of a drain by core c (R55, R96). -/
def Core.drainMode (c : Core) (r : RunTask) (x : MDrainArgs) (pitch i n : Nat) : RoundMode :=
  roundOf r x.rnd ((c.sreg x.sT).toNat % 2 ^ 32) ((c.sreg x.sI).toNat + i * pitch + n)

theorem Core.drainMode_placed (c : Core) (pc : Nat) (d : Disp) (r : RunTask) (x : MDrainArgs) (pitch i : Nat) :
    (c.placed pc d).drainMode r x pitch i = c.drainMode r x pitch i := rfl

theorem Core.drainRows_eq (c : Core) (r : RunTask) (f : Fmt) (g : RowGeom) (x : MDrainArgs) (pitch m : Nat) :
    c.drainRows r f g x pitch m =
      foldFlags (fun i y => y.drainRow f ((x.accBase.toNat + i) % 512) (g.base + i * g.stride) (g.sbase + i * g.sstride)
        (c.drainMode r x pitch i) x.sat x.clr) (List.range m) (c, 0#4) := rfl

theorem Core.drainRows_matrixOp (r : RunTask) (f : Fmt) (g : RowGeom) (x : MDrainArgs) (pitch m : Nat) :
    MatrixOp fun c => c.drainRows r f g x pitch m := by
  simp only [Core.drainRows_eq]
  exact MatrixOp.foldFlags
    (f := fun c i y => y.drainRow f ((x.accBase.toNat + i) % 512) (g.base + i * g.stride) (g.sbase + i * g.sstride)
      (c.drainMode r x pitch i) x.sat x.clr)
    (fun c i => Core.drainRow_matrixOp ..) (fun c pc d => by simp only [Core.drainMode_placed]) _

theorem Core.drainRows_mxe (c : Core) (r : RunTask) (f : Fmt) (g : RowGeom) (x : MDrainArgs) (pitch m : Nat)
    (h : x.clr = false) : (c.drainRows r f g x pitch m).1.mxe = c.mxe := by
  rw [Core.drainRows_eq, h]
  exact foldFlags_keeps (·.mxe) (fun _ _ => Core.drainRow_mxe ..) _ _

theorem Core.drainRow_fp32_eq (c : Core) (row w b : Nat) (mode : Nat → RoundMode) (sat clr : Bool) :
    c.drainRow .fp32 row w b mode sat clr =
      let d := c.wrWords w ((List.range 64).map (c.accAt row))
      (if clr then d.setAccRow row (List.replicate 64 (f32zero true)) else d, 0#4) := by
  simp only [Core.drainRow, convertRow, if_true, Core.writeRow, List.zipIdx_nil, List.foldl_nil]

/-- A drain to fp32 writes the accumulator elements as they are, and raises no flag (R95). -/
theorem Core.drainRow_fp32 (c : Core) (row w b : Nat) (mode : Nat → RoundMode) (sat clr : Bool) {n : Nat} (hn : n < 64) :
    let d := c.drainRow .fp32 row w b mode sat clr
    d.1.rd (w + n) = c.accAt row n ∧ d.2 = 0#4 ∧ d.1.accAt row n = if clr then f32zero true else c.accAt row n := by
  rw [Core.drainRow_fp32_eq]
  have hw : (c.wrWords w ((List.range 64).map (c.accAt row))).rd (w + n) = c.accAt row n := by
    rw [Core.rd_wrWords _ _ _ (by simpa using hn) (by simp [spSize])]
    simp
  have hm : (c.wrWords w ((List.range 64).map (c.accAt row))).accAt row n = c.accAt row n := by
    rw [Core.accAt, (Core.wrWords_spOp w _).mxe c, Core.accAt]
  generalize c.wrWords w ((List.range 64).map (c.accAt row)) = d at hw hm
  cases clr
  · simp [hw, hm]
  · simp only [Core.rd_setAccRow, hw, Core.accAt_setAccRow, List.getElem?_replicate_of_lt hn, Option.getD_some, if_true,
      and_self]

/-! ### How an instruction retires -/

@[simp] theorem Core.enqueue_geom (c : Core) (op : EngOp) (f : Fmt) (aE aS : BitVec 4) (sG : BitVec 5) :
    (c.enqueue op).geom f aE aS sG = c.geom f aE aS sG := rfl
@[simp] theorem Core.enqueue_anyPoison (c : Core) (op : EngOp) (l : List Nat) : (c.enqueue op).anyPoison l = c.anyPoison l := rfl
@[simp] theorem Core.enqueue_destPending (c : Core) (op : EngOp) : (c.enqueue op).destPending = c.destPending := rfl
@[simp] theorem Core.enqueue_streamFmt (c : Core) (op : EngOp) (fmt : BitVec 4) :
    (c.enqueue op).streamFmt fmt = c.streamFmt fmt := rfl
@[simp] theorem Core.enqueue_wordAddr (c : Core) (op : EngOp) (a : BitVec 4) : (c.enqueue op).wordAddr a = c.wordAddr a := rfl

/-- The queue of an engine whose head is replaced. -/
theorem Core.setHead_queue (c : Core) (hu : u ≠ .seq) (e : QEntry) :
    (c.setHead u e).disp.queue u = e :: (c.disp.queue u).drop 1 := by
  cases u
  · exact absurd rfl hu
  all_goals rfl

theorem Retires.congr {f f' : Core → Core} (h : Retires s t k u f) (hf : f' (s.core k) = f (s.core k)) :
    Retires s t k u f' := by
  unfold Retires at h ⊢
  rw [hf]
  exact h

theorem Retires.mxe {f : Core → Core} (h : Retires s t k u f) : (t.core k).mxe = (f (s.core k)).mxe := by rw [h.2.2]
theorem Retires.sp {f : Core → Core} (h : Retires s t k u f) : (t.core k).sp = (f (s.core k)).sp := by rw [h.2.2]
theorem Retires.flags {f : Core → Core} (h : Retires s t k u f) : (t.core k).flags = (f (s.core k)).flags := by rw [h.2.2]

theorem Retires.accAt {f : Core → Core} (h : Retires s t k u f) (row col : Nat) :
    (t.core k).accAt row col = (f (s.core k)).accAt row col := by
  unfold Core.accAt
  rw [h.mxe]

theorem Retires.rd {f : Core → Core} (h : Retires s t k u f) (w : Nat) : (t.core k).rd w = (f (s.core k)).rd w := by
  unfold Core.rd
  rw [h.sp]

/-- A core after an operation of the matrix engine: only the scratchpad, the flags and the accumulator differ. -/
theorem Retires.results {F : Core → Core × FFlags} (hF : MatrixOp F)
    (h : Retires s t k u fun c => (F c).1.raise .mxe (F c).2) :
    Retires s t k u fun q => { q with
      sp := (t.core k).sp, flags := (t.core k).flags, mxe := { q.mxe with acc := (t.core k).mxe.acc } } := by
  refine h.congr ?_
  rw [h.sp, h.flags, h.mxe]
  unfold Core.raise
  dsimp only
  rw [hF.frame]

/-- An engine instruction that runs under its detectors with no fault, no poisoned word and no unordered access, and is done,
retires with its change of the core. -/
theorem Issues.actsGuarded (h : Issues s k g op r) {G : Core → Core} (hG : Quiet G) {words : List Nat}
    (hp : (s.core k).anyPoison words = false)
    (hd : ∀ s' : State, s' = s ∨ s' = s.modCore k (Core.enqueue · op) →
      ∃ f s1, s'.runHead k op.unit r (QEntry.new (s.core k) op) =
          s'.guarded k r.ctx (s.core k).regs.pc op.unit .none words f ∧ f s' = .done s1 ∧ Touches s' s1 k G) :
    Retires s (s.issue k g op) k op.unit G := by
  refine h.acts hG fun s' hs => ?_
  obtain ⟨f, s1, hrun, hf, ht⟩ := hd s' hs
  have hr : (s'.core k).disp.races.unordered op.unit false = [] := by
    rcases hs with rfl | rfl <;> simp [h.alone]
  have hp' : (s'.core k).anyPoison words = false := by
    rcases hs with rfl | rfl <;> simp [hp]
  obtain ⟨z, hz⟩ := State.noteAccess_alone (t := s1) hr words
  refine ⟨s1.noteAccess k op.unit s' words, z, ?_, ?_⟩
  · rw [hrun, State.guarded_alone hr _ _ _ hp', hf]
    rfl
  · rw [hz]
    exact ht.trans (Touches.modCore s1 k _)

/-- The same for an instruction that is a change of its core. -/
theorem Issues.actsModCore (h : Issues s k g op r) {G : Core → Core} (hG : Quiet G) {words : List Nat}
    (hp : (s.core k).anyPoison words = false)
    (hd : ∀ s' : State, s' = s ∨ s' = s.modCore k (Core.enqueue · op) →
      s'.runHead k op.unit r (QEntry.new (s.core k) op) =
        s'.guarded k r.ctx (s.core k).regs.pc op.unit .none words fun t => .done (t.modCore k G)) :
    Retires s (s.issue k g op) k op.unit G :=
  h.actsGuarded hG hp fun s' hs => ⟨_, _, hd s' hs, rfl, Touches.modCore s' k G⟩

end Sys2Proof.Machine
end

section
/-!
PROOF. MLOAD, MSWAP and MSTREAM (R88 to R91).
-/

namespace Sys2Proof.Machine

open Sys2Proof

variable {s : State} {k : Nat} {g : BitVec 4} {r : RunTask}

/-- The plane that an MLOAD loads (R87, R88). -/
def Core.shadow (c : Core) : Plane := if c.mxe.activeB then c.mxe.planeA else c.mxe.planeB

theorem Retires.active {t : State} {u : CoreUnit} {f : Core → Core} (h : Retires s t k u f) :
    (t.core k).active = (f (s.core k)).active := by
  unfold Core.active
  rw [h.mxe]

theorem Retires.shadow {t : State} {u : CoreUnit} {f : Core → Core} (h : Retires s t k u f) :
    (t.core k).shadow = (f (s.core k)).shadow := by
  unfold Core.shadow
  rw [h.mxe]

theorem Core.loadShadow_quiet (f : Fmt) (g : RowGeom) : Quiet fun c => c.loadShadow f g := by
  intro c pc d
  rfl

/-- A load of the shadow plane leaves everything else (R88). -/
theorem Core.loadShadow_frame (c : Core) (f : Fmt) (g : RowGeom) :
    c.loadShadow f g = { c with mxe := (c.loadShadow f g).mxe } ∧ (c.loadShadow f g).mxe.activeB = c.mxe.activeB ∧
      (c.loadShadow f g).active = c.active ∧ (c.loadShadow f g).mxe.acc = c.mxe.acc ∧
      (c.loadShadow f g).mxe.gath = c.mxe.gath := by
  cases h : c.mxe.activeB <;> simp [Core.loadShadow, Core.active, h]

theorem Core.shadow_loadShadow (c : Core) (f : Fmt) (g : RowGeom) : (c.loadShadow f g).shadow =
    { fmt := some f
      elems := SMap.ofRange (fun _ => 0) 0 4096 fun i => unpackElem f (fun w => c.rd (g.base + i / 64 * g.stride + w)) (i % 64)
      scales := if f.isMx then SMap.ofRange (fun _ => 0) 0 128 fun i => c.rdByte (g.sbase + i / 2 * g.sstride + i % 2)
        else [] } := by
  unfold Core.loadShadow Core.shadow
  cases h : c.mxe.activeB <;> simp [h]

theorem Core.elem_loadShadow (c : Core) (f : Fmt) (g : RowGeom) {n e : Nat} (hn : n < 64) (he : e < 64) :
    (c.loadShadow f g).shadow.elem n e = unpackElem f (fun w => c.rd (g.base + n * g.stride + w)) e := by
  rw [Core.shadow_loadShadow, Plane.elem]
  have := SMap.get_ofRange (fun _ => 0) 0 (n := 4096) (i := 64 * n + e)
    (fun i => unpackElem f (fun w => c.rd (g.base + i / 64 * g.stride + w)) (i % 64)) (by omega)
  rw [Nat.zero_add] at this
  rw [this, show (64 * n + e) / 64 = n by omega, show (64 * n + e) % 64 = e by omega]

theorem Core.scale_loadShadow (c : Core) (f : Fmt) (g : RowGeom) {n j : Nat} (hn : n < 64) (hj : j < 2) :
    (c.loadShadow f g).shadow.scale n j = if f.isMx then c.rdByte (g.sbase + n * g.sstride + j) else 0 := by
  rw [Core.shadow_loadShadow, Plane.scale]
  cases f.isMx
  · rfl
  · have := SMap.get_ofRange (fun _ => 0) 0 (n := 128) (i := 2 * n + j)
      (fun i => c.rdByte (g.sbase + i / 2 * g.sstride + i % 2)) (by omega)
    rw [Nat.zero_add] at this
    simp only [if_true]
    rw [this, show (2 * n + j) / 2 = n by omega, show (2 * n + j) % 2 = j by omega]

/-- An MLOAD behind writes of a gathered submission waits at the head of its queue (R97). -/
theorem Issues.mload_waits {x : MLoadArgs} (h : Issues s k g (.mload x .none) r) (hd : (s.core k).destPending = true) :
    ((s.issue k g (.mload x .none)).core k).mxe = (s.core k).mxe ∧
      ((s.issue k g (.mload x .none)).core k).disp.queue .mxe = [QEntry.new (s.core k) (.mload x .none)] := by
  have hw : (s.modCore k (Core.enqueue · (.mload x .none))).runHead k .mxe r (QEntry.new (s.core k) (.mload x .none)) =
      .wait (s.modCore k (Core.enqueue · (.mload x .none))) (QEntry.new (s.core k) (.mload x .none)) := by
    simp [State.runHead, State.headMload, hd]
  have hq := Core.enqueue_queue (s.core k) (.mload x .none) (by nofun) (h.place.resolve_left (by nofun)).1
  rw [h.wait (by nofun) hw, if_neg (by nofun), State.core_modCore, State.core_modCore]
  refine ⟨rfl, (Core.setHead_queue _ (by nofun) _).trans ?_⟩
  rw [hq]
  rfl

theorem State.headMload_eq (s : State) (k pc : Nat) (r : RunTask) (x : MLoadArgs) (hw : HwFault) (e : QEntry) {f : Fmt}
    (hd : (s.core k).destPending = false) (hf : Fmt.ofCode x.fmt = some f) (hne : f ≠ .fp32) :
    s.headMload k pc r x hw e =
      s.guarded k r.ctx pc .mxe hw (((s.core k).geom f x.aE x.aS x.sG).words f 0 64) fun t =>
        .done (t.modCore k fun c => c.loadShadow f ((s.core k).geom f x.aE x.aS x.sG)) := by
  simp only [State.headMload, hd, hf]
  cases f with
  | fp32 => exact absurd rfl hne
  | _ => rfl

/-- An MLOAD that reads no poisoned word loads the shadow plane (R88). -/
theorem Issues.mload_retires {x : MLoadArgs} {f : Fmt} (h : Issues s k g (.mload x .none) r)
    (hd : (s.core k).destPending = false) (hf : Fmt.ofCode x.fmt = some f) (hne : f ≠ .fp32)
    (hp : (s.core k).anyPoison (((s.core k).geom f x.aE x.aS x.sG).words f 0 64) = false) :
    Retires s (s.issue k g (.mload x .none)) k .mxe fun c => c.loadShadow f ((s.core k).geom f x.aE x.aS x.sG) := by
  refine h.actsModCore (Core.loadShadow_quiet _ _) hp fun s' hs => ?_
  have hd' : (s'.core k).destPending = false := by rcases hs with rfl | rfl <;> simp [hd]
  refine (State.headMload_eq s' k _ r x .none _ hd' hf hne).trans ?_
  rcases hs with rfl | rfl <;> simp [EngOp.unit]

theorem Issues.mswap_retires (h : Issues s k g .mswap r) (hg : (s.core k).mxe.gath.rows = []) :
    Retires s (s.issue k g .mswap) k .mxe fun q => { q with mxe := { q.mxe with activeB := !q.mxe.activeB } } := by
  refine h.acts (fun _ _ _ => rfl) fun s' hs => ⟨s'.modCore k fun q =>
    { q with mxe := { q.mxe with activeB := !q.mxe.activeB } }, id, ?_, Touches.modCore s' k _⟩
  rcases hs with rfl | rfl <;> simp [State.runHead, State.headMswap, hg]

/-- What an MSTREAM does whose operands core q holds (R90, R91). -/
def Core.mstreamOp (q : Core) (f : Fmt) (x : MStreamArgs) (c : Core) : Core × FFlags :=
  c.stream f (q.geom f x.aE x.aS x.sG) x.dest x.acc x.accBase.toNat (c.wordAddr x.aO)
    (strideOr (bitsAt (q.sreg x.sG).toNat 32 16) 64) ((q.sreg x.sM).toNat % 2 ^ 32)

theorem Core.mstreamOp_matrixOp (q : Core) (f : Fmt) (x : MStreamArgs) : MatrixOp (q.mstreamOp f x) :=
  Core.stream_matrixOp ..

/-- An MSTREAM whose results go out at once (R90, R91). -/
theorem Issues.mstream_retires {x : MStreamArgs} {f : Fmt} (h : Issues s k g (.mstream x false .none) r)
    (hg : (s.core k).mxe.gath.rows = []) (hf : (s.core k).streamFmt x.fmt = some f)
    (hp : (s.core k).anyPoison (((s.core k).geom f x.aE x.aS x.sG).words f 0 (((s.core k).sreg x.sM).toNat % 2 ^ 32)) = false) :
    Retires s (s.issue k g (.mstream x false .none)) k .mxe fun c =>
      ((s.core k).mstreamOp f x c).1.raise .mxe ((s.core k).mstreamOp f x c).2 := by
  refine h.actsModCore (Core.mstreamOp_matrixOp ..).raise_quiet hp fun s' hs => ?_
  rcases hs with rfl | rfl <;> simp [State.runHead, State.headMstream, hg, hf, EngOp.unit, Core.mstreamOp]

theorem Core.mstreamOp_sp (q : Core) (f : Fmt) (x : MStreamArgs) (c : Core) (hd : x.dest = false) :
    (q.mstreamOp f x c).1.sp = c.sp := by
  rw [Core.mstreamOp, hd, Core.stream_sp]

theorem Core.mstreamOp_mxe (q : Core) (f : Fmt) (x : MStreamArgs) (c : Core) (hd : x.dest = true) :
    (q.mstreamOp f x c).1.mxe = c.mxe := by
  rw [Core.mstreamOp, hd, Core.stream_mxe]

theorem Core.raise_accAt (c : Core) (e : Engine) (f : FFlags) (row col : Nat) :
    (c.raise e f).accAt row col = c.accAt row col := rfl

theorem Core.raise_rd (c : Core) (e : Engine) (f : FFlags) (w : Nat) : (c.raise e f).rd w = c.rd w := rfl

/-- The block sum of row 0 of an operand with column n of the active plane (R75, R90). -/
def Core.rowSum (c : Core) (f : Fmt) (g : RowGeom) (n : Nat) : Word32 × FFlags :=
  let row := ((c.rowElems f g.base).zipIdx).map fun e => operand f e.1 ((c.rowScales f g.sbase).getD (e.2 / 32) 0)
  blockSum f (row.zipIdx.map fun e => (e.1, operand f (c.active.elem n e.2) (c.active.scale n (e.2 / 32))))

theorem Core.sumsOf_length (c : Core) (f : Fmt) (g : RowGeom) (i : Nat) : (c.sumsOf f g i).length = 64 := rowSums_length ..

theorem Core.sumsOf_getElem (c : Core) (f : Fmt) (g : RowGeom) {n : Nat} (h : n < (c.sumsOf f g 0).length) :
    (c.sumsOf f g 0)[n] = c.rowSum f g n := by
  simp [Core.sumsOf, rowSums, Core.rowSum]

/-- A stream of one row adds its sums to an accumulator row, or to -0 (R91). -/
theorem Core.mstreamOp_accAt (q : Core) (f : Fmt) (x : MStreamArgs) (hm : (q.sreg x.sM).toNat % 2 ^ 32 = 1)
    (hd : x.dest = false) {n : Nat} (hn : n < 64) :
    (q.mstreamOp f x q).1.accAt (x.accBase.toNat % 512) n =
      (accumulate (if x.acc then q.accAt (x.accBase.toNat % 512) n else f32zero true)
        (q.rowSum f (q.geom f x.aE x.aS x.sG) n)).1 := by
  have h := Core.deliver_accAt q x.acc x.accBase.toNat (q.wordAddr x.aO) (strideOr (bitsAt (q.sreg x.sG).toNat 32 16) 64)
    (i := 0) (q.sumsOf f (q.geom f x.aE x.aS x.sG) 0) (by decide) (by rwa [Core.sumsOf_length])
  rw [Nat.add_zero, Core.sumsOf_getElem] at h
  rw [Core.mstreamOp, hm, hd, Core.stream_eq]
  exact h

/-- A stream of one row writes its sums to the scratchpad (R91). -/
theorem Core.mstreamOp_rd (q : Core) (f : Fmt) (x : MStreamArgs) (hm : (q.sreg x.sM).toNat % 2 ^ 32 = 1)
    (hd : x.dest = true) {n : Nat} (hn : n < 64) :
    (q.mstreamOp f x q).1.rd (q.wordAddr x.aO + n) = (q.rowSum f (q.geom f x.aE x.aS x.sG) n).1 := by
  have h := Core.deliver_rd q x.acc x.accBase.toNat (q.wordAddr x.aO) (strideOr (bitsAt (q.sreg x.sG).toNat 32 16) 64) 0
    (q.sumsOf f (q.geom f x.aE x.aS x.sG) 0) (by rw [Core.sumsOf_length]; decide) (by rwa [Core.sumsOf_length])
  rw [Nat.zero_mul, Nat.add_zero, Core.sumsOf_getElem] at h
  rw [Core.mstreamOp, hm, hd, Core.stream_eq]
  exact h

/-- Settles O17: MLOAD and MSTREAM run under their detectors alone, so the core that retires is the one that the load of the
shadow plane, or the stream, makes of it; what those leave is `Core.loadShadow_frame` and `Core.stream_matrixOp`. -/
theorem planesAndStreams : Obligations.PlanesAndStreams := by
  unfold Obligations.PlanesAndStreams
  refine ⟨fun c x s r f => ⟨fun h hd => ⟨_, rfl, h.mload_waits hd⟩, fun h hd hf hne hp => ?_,
    fun h hg => ⟨_, rfl, h.mswap_retires hg⟩⟩, fun c x s r f h hg hf ha hp => ?_⟩
  · have hR := h.mload_retires hd hf hne hp
    obtain ⟨hfr, hB, hact, hacc, hgath⟩ := Core.loadShadow_frame (s.core (coreKey c)) f
      ((s.core (coreKey c)).geom f x.aE x.aS x.sG)
    refine ⟨_, rfl, hR.congr ?_, ?_⟩
    · rw [hR.mxe]
      exact hfr.symm
    · have hsh : ((s.issue (coreKey c) 0#4 (.mload x .none)).core (coreKey c)).shadow = _ := hR.shadow
      refine ⟨(congrArg Mxe.activeB hR.mxe).trans hB, hR.active.trans hact, (congrArg Mxe.acc hR.mxe).trans hacc,
        (congrArg Mxe.gath hR.mxe).trans hgath, (congrArg Plane.fmt hsh).trans ?_, fun n e hn he => ?_, fun n j hn hj => ?_⟩
      · rw [Core.shadow_loadShadow]
      · exact (congrArg (Plane.elem · n e) hsh).trans (Core.elem_loadShadow _ f _ hn he)
      · exact (congrArg (Plane.scale · n j) hsh).trans (Core.scale_loadShadow _ f _ hn hj)
  · have hR := h.mstream_retires hg (by simp [Core.streamFmt, hf, ha]) hp
    refine ⟨_, rfl, hR.results (Core.mstreamOp_matrixOp ..), fun hd => ?_, fun hd => ?_, ?_, ?_, fun hm hd n hn => ?_,
      fun hm hd n hn => ?_⟩
    · rw [hR.sp]
      exact Core.mstreamOp_sp _ f x _ hd
    · rw [hR.mxe]
      exact congrArg Mxe.acc (Core.mstreamOp_mxe _ f x _ hd)
    · exact (congrArg Flags4.v hR.flags).trans (Core.mstreamOp_matrixOp ..).raise_v
    · exact (congrArg Flags4.t hR.flags).trans (Core.mstreamOp_matrixOp ..).raise_t
    · rw [hR.accAt, Core.raise_accAt, Core.mstreamOp_accAt _ f x hm hd hn]
      rfl
    · rw [hR.rd, Core.raise_rd, Core.mstreamOp_rd _ f x hm hd hn]
      rfl

end Sys2Proof.Machine
end

section
/-!
PROOF. MDRAIN (R95, R96) and the row gatherer (R106 to R109).
-/

namespace Sys2Proof.Machine

open Sys2Proof

variable {s t : State} {k : Nat} {g : BitVec 4} {r : RunTask} {u : CoreUnit}

/-! ### MDRAIN -/

/-- What an MDRAIN does whose operands core q holds (R95, R96). -/
def Core.mdrainOp (q : Core) (r : RunTask) (f : Fmt) (x : MDrainArgs) (c : Core) : Core × FFlags :=
  c.drainRows r f (q.geom f x.aO x.aS x.sG) x (strideOr (bitsAt (q.sreg x.sG).toNat 32 32) 64)
    ((q.sreg x.sM).toNat % 2 ^ 32)

theorem Core.mdrainOp_matrixOp (q : Core) (r : RunTask) (f : Fmt) (x : MDrainArgs) : MatrixOp (q.mdrainOp r f x) :=
  Core.drainRows_matrixOp ..

theorem Core.anyPoison_nil (c : Core) : c.anyPoison [] = false := rfl

/-- An MDRAIN with no gathered row before it (R95, R107). -/
theorem Issues.mdrain_retires {x : MDrainArgs} {f : Fmt} (h : Issues s k g (.mdrain x .none) r)
    (hg : (s.core k).mxe.gath.rows = []) (hf : Fmt.ofCode x.fmt = some f) :
    Retires s (s.issue k g (.mdrain x .none)) k .mxe fun c =>
      ((s.core k).mdrainOp r f x c).1.raise .mxe ((s.core k).mdrainOp r f x c).2 := by
  refine h.actsModCore (Core.mdrainOp_matrixOp ..).raise_quiet (Core.anyPoison_nil _) fun s' hs => ?_
  rcases hs with rfl | rfl <;> simp [State.runHead, State.headMdrain, hg, hf, EngOp.unit, Core.mdrainOp]

/-- A drain of one row to fp32 (R95). -/
theorem Core.mdrainOp_fp32 (q : Core) (r : RunTask) (x : MDrainArgs) (hm : (q.sreg x.sM).toNat % 2 ^ 32 = 1) {n : Nat}
    (hn : n < 64) :
    let d := q.mdrainOp r .fp32 x q
    let row := x.accBase.toNat % 512
    d.1.rd (q.wordAddr x.aO + n) = q.accAt row n ∧ d.2 = 0#4 ∧
      d.1.accAt row n = if x.clr then f32zero true else q.accAt row n := by
  obtain ⟨hrd, hfl, hacc⟩ := Core.drainRow_fp32 q (x.accBase.toNat % 512) (q.wordAddr x.aO)
    (4 * q.wordAddr x.aS + 0 * (q.geom .fp32 x.aO x.aS x.sG).sstride)
    (q.drainMode r x (strideOr (bitsAt (q.sreg x.sG).toNat 32 32) 64) 0) x.sat x.clr hn
  have hd : q.mdrainOp r .fp32 x q = ((q.drainRow .fp32 (x.accBase.toNat % 512) (q.wordAddr x.aO)
      (4 * q.wordAddr x.aS + 0 * (q.geom .fp32 x.aO x.aS x.sG).sstride)
      (q.drainMode r x (strideOr (bitsAt (q.sreg x.sG).toNat 32 32) 64) 0) x.sat x.clr).1, 0#4 ||| 0#4) := by
    rw [Core.mdrainOp, hm, Core.drainRows_eq, ← hfl]
    simp [foldFlags, Core.geom]
  rw [hd]
  exact ⟨hrd, rfl, hacc⟩

theorem Core.raise_none (c : Core) (e : Engine) : (c.raise e 0#4).flags = c.flags := by
  simp [Core.raise]

/-! ### A gathered submission -/

/-- The submission that an MSTREAM with GATH = 1 makes (R106). -/
def Core.submission (c : Core) (x : MStreamArgs) : GathSub :=
  { dest := x.dest, acc := x.acc, accBase := x.accBase.toNat, aO := c.wordAddr x.aO,
    ostride := strideOr (bitsAt (c.sreg x.sG).toNat 32 16) 64, rows := (c.sreg x.sM).toNat % 2 ^ 32, written := 0, flags := 0#4 }

/-- Add a submission and copy its first m rows. -/
def Core.submit (c : Core) (f : Fmt) (g : RowGeom) (u : GathSub) (m : Nat) : Core :=
  (c.addSub u).gather f g ((c.addSub u).mxe.gath.first + (c.addSub u).mxe.gath.subs.length - 1) 0 m

theorem Core.submit_quiet (f : Fmt) (g : RowGeom) (u : GathSub) (m : Nat) : Quiet fun c => c.submit f g u m :=
  fun _ _ _ => rfl

theorem Core.submit_frame (c : Core) (f : Fmt) (g : RowGeom) (u : GathSub) (m : Nat) :
    c.submit f g u m = { c with mxe := { c.mxe with gath := (c.submit f g u m).mxe.gath } } := rfl

theorem Core.submit_rows (c : Core) (f : Fmt) (g : RowGeom) (u : GathSub) (m : Nat) :
    (c.submit f g u m).mxe.gath.rows = c.mxe.gath.rows ++ (List.range m).map fun i =>
      { sub := c.mxe.gath.first + c.mxe.gath.subs.length, r := i, elems := c.rowElems f (g.base + i * g.stride),
        scales := c.rowScales f (g.sbase + i * g.sstride) } := by
  have hn : (c.addSub u).mxe.gath.first + (c.addSub u).mxe.gath.subs.length - 1 =
      c.mxe.gath.first + c.mxe.gath.subs.length := by
    simp [Core.addSub, ← Nat.add_assoc]
  simp only [Core.submit, hn, Core.gather, Nat.zero_add]
  rfl

/-- A gathered submission that finds room for all its rows (R97, R106). -/
structure Core.Room (c : Core) (x : MStreamArgs) (f : Fmt) (m : Nat) : Prop where
  fmt : c.streamFmt x.fmt = some f
  rows : (c.sreg x.sM).toNat % 2 ^ 32 = m
  pos : 0 < m
  room : c.mxe.gath.rows.length + m ≤ 64
  subs : c.mxe.gath.subs.length < 16
  dest : c.destPending = false

theorem State.headGather_eq (s : State) (k pc : Nat) (r : RunTask) (x : MStreamArgs) (hw : HwFault) (e : QEntry) {f : Fmt}
    {m : Nat} (he : e.prog = 0) (h : (s.core k).Room x f m) :
    s.headGather k pc r x hw e =
      s.guarded k r.ctx pc .mxe hw (((s.core k).geom f x.aE x.aS x.sG).words f 0 m) fun t =>
        .done ((t.modCore k (Core.addSub · ((s.core k).submission x))).modCore k fun c =>
          c.gather f ((s.core k).geom f x.aE x.aS x.sG) (c.mxe.gath.first + c.mxe.gath.subs.length - 1) 0 m) := by
  obtain ⟨hf, hm, h0, hroom, hsubs, hd⟩ := h
  have hn : Nat.min (64 - (s.core k).mxe.gath.rows.length) m = m := Nat.min_eq_right (by omega)
  have hble : Nat.ble 16 (s.core k).mxe.gath.subs.length = false := by
    rw [← Bool.not_eq_true, Nat.ble_eq]
    omega
  simp only [State.headGather, Core.submission, hf, hm, he, hd, hble, Nat.sub_zero, hn, h0.ne', Nat.zero_add, if_false,
    if_true, decide_true, Bool.or_self, Bool.and_false, Bool.false_eq_true]

/-- A gathered submission that finds room for all its rows is copied and leaves the queue (R106). -/
theorem Issues.gather_retires {x : MStreamArgs} {f : Fmt} {m : Nat} (h : Issues s k g (.mstream x true .none) r)
    (hr : (s.core k).Room x f m) (hp : (s.core k).anyPoison (((s.core k).geom f x.aE x.aS x.sG).words f 0 m) = false) :
    Retires s (s.issue k g (.mstream x true .none)) k .mxe fun c =>
      c.submit f ((s.core k).geom f x.aE x.aS x.sG) ((s.core k).submission x) m := by
  refine h.actsGuarded (fun c pc d => Core.submit_quiet _ _ _ _ c pc d) hp fun s' hs => ?_
  have hr' : (s'.core k).Room x f m := by
    rcases hs with rfl | rfl
    · exact hr
    · rw [State.core_modCore]
      exact ⟨hr.fmt, hr.rows, hr.pos, hr.room, hr.subs, hr.dest⟩
  have hgeom : (s'.core k).geom f x.aE x.aS x.sG = (s.core k).geom f x.aE x.aS x.sG := by
    rcases hs with rfl | rfl <;> simp
  have hsub : (s'.core k).submission x = (s.core k).submission x := by
    rcases hs with rfl | rfl <;> simp [Core.submission]
  have he := State.headGather_eq s' k (s.core k).regs.pc r x .none (QEntry.new (s.core k) (.mstream x true .none)) rfl hr'
  rw [hgeom, hsub] at he
  exact ⟨_, _, he, rfl, (Touches.modCore s' k _).trans (Touches.modCore _ k _)⟩

/-! ### The gatherer fires -/

/-- An instruction without an operand in the scratchpad and without a fault does what it does, and its accesses are
recorded. -/
theorem State.guarded_noRead (s : State) (k n pc : Nat) (u : CoreUnit) (f : State → HeadRes) :
    s.guarded k n pc u .none [] f = (f s).onward fun t => t.noteAccess k u s [] := by
  have hr : (s.core k).racedReads u [] = [] := by simp [Core.racedReads]
  simp [State.guarded, Core.anyPoison_nil, hr, State.misread, State.reread, State.corrupt]
  cases f s <;> rfl

/-- From s to t core k's record of accesses and words of its scratchpad may differ, and free values were taken. -/
def Noted (s t : State) (k : Nat) : Prop :=
  t = { s with cores := t.cores, freeCtr := t.freeCtr } ∧ (∀ j, j ≠ k → t.core j = s.core j) ∧
    ∃ w z, t.core k = { s.core k with sp := { (s.core k).sp with words := w }, disp := { (s.core k).disp with races := z } }

theorem Noted.refl (s : State) (k : Nat) : Noted s s k := ⟨rfl, fun _ _ => rfl, _, _, rfl⟩

theorem Noted.trans {s t v : State} (h : Noted s t k) (h' : Noted t v k) : Noted s v k := by
  obtain ⟨h1, h2, w, z, h3⟩ := h
  obtain ⟨h4, h5, w', z', h6⟩ := h'
  refine ⟨?_, fun j hj => (h5 j hj).trans (h2 j hj), w', z', by rw [h6, h3]⟩
  rw [h4, h1]

theorem Noted.putWord (s : State) (k w : Nat) (v : Word32) : Noted s (s.freeNat.2.modCore k fun c => c.putWord w v) k :=
  ⟨rfl, fun _ hj => State.core_modCore_ne _ _ hj, _, _, State.core_modCore _ _ _⟩

theorem Noted.modRaces (s : State) (k : Nat) (z : Races → Races) : Noted s (s.modCore k fun c => c.modRaces z) k :=
  ⟨rfl, fun _ hj => State.core_modCore_ne _ _ hj, _, _, State.core_modCore _ _ _⟩

theorem Noted.foldl {α : Type} {f : State → α → State} (hf : ∀ s a, Noted s (f s a) k) (l : List α) (s : State) :
    Noted s (l.foldl f s) k := by
  induction l generalizing s with
  | nil => exact Noted.refl s k
  | cons a l ih => exact (hf s a).trans (ih _)

theorem State.noteAccess_noted (t : State) (k : Nat) (u : CoreUnit) (s : State) (words : List Nat) :
    Noted t (t.noteAccess k u s words) k :=
  (Noted.foldl (fun s w => Noted.putWord s k w _) _ t).trans (Noted.modRaces _ k _)

/-- From c to d only the scratchpad, the flags, the accumulator and the gatherer differ. -/
def Core.Fired (c d : Core) : Prop :=
  d = { c with sp := d.sp, flags := d.flags, mxe := { c.mxe with acc := d.mxe.acc, gath := d.mxe.gath } }

theorem Core.Fired.trans {a b c : Core} (h : a.Fired b) (h' : b.Fired c) : a.Fired c := by
  unfold Core.Fired at h h' ⊢
  rw [h', h]

theorem Core.modSub_fired (c : Core) (i : Nat) (f : GathSub → GathSub) : c.Fired (c.modSub i f) := rfl

theorem MatrixOp.fired {F : Core → Core × FFlags} (hF : MatrixOp F) (c : Core) : c.Fired (F c).1 := by
  unfold Core.Fired
  rw [hF.frame]

theorem Core.fireRow_fired (c : Core) (f : Fmt) (x : GathRow) : c.Fired (c.fireRow f x) := by
  unfold Core.fireRow
  split
  · rfl
  · exact ((Core.deliver_matrixOp ..).fired c).trans (Core.modSub_fired ..)

theorem Core.fireRows_fired (f : Fmt) (l : List GathRow) (c : Core) : c.Fired (l.foldl (fun c x => c.fireRow f x) c) := by
  induction l generalizing c with
  | nil => rfl
  | cons x l ih => exact (Core.fireRow_fired c f x).trans (ih _)

/-- A core with another state of the gatherer. -/
def Core.withGath (c : Core) (g : Gatherer) : Core := { c with mxe := { c.mxe with gath := g } }

theorem Core.withGath_fired (c : Core) (g : Gatherer) : c.Fired (c.withGath g) := rfl

theorem Core.raise_fired (c : Core) (e : Engine) (f : FFlags) : c.Fired (c.raise e f) := rfl

/-- Retiring submissions raises their flags and leaves the rows and the timeout. -/
theorem Core.retireSubs_spec (n : Nat) (c : Core) :
    c.Fired (c.retireSubs n) ∧ (c.retireSubs n).mxe.gath.rows = c.mxe.gath.rows ∧
      (c.retireSubs n).mxe.gath.timeout = c.mxe.gath.timeout := by
  induction n generalizing c with
  | zero => exact ⟨rfl, rfl, rfl⟩
  | succ n ih =>
    unfold Core.retireSubs
    split
    · split
      · next v l _ _ =>
        obtain ⟨h1, h2, h3⟩ := ih ((c.withGath { c.mxe.gath with subs := l, first := c.mxe.gath.first + 1 }).raise .mxe v.flags)
        exact ⟨((Core.withGath_fired c _).trans (Core.raise_fired _ _ _)).trans h1, h2, h3⟩
      · exact ⟨rfl, rfl, rfl⟩
    · exact ⟨rfl, rfl, rfl⟩

/-- A fire leaves no row in the gatherer (R107). -/
theorem Core.fireAll_spec {c : Core} {f : Fmt} (hf : c.active.fmt = some f) :
    c.Fired c.fireAll ∧ c.fireAll.mxe.gath.rows = [] ∧ c.fireAll.mxe.gath.timeout = false := by
  have h := Core.fireRows_fired f c.mxe.gath.rows c
  unfold Core.fireAll
  rw [hf]
  dsimp only
  generalize c.mxe.gath.rows.foldl (fun c x => c.fireRow f x) c = d at h
  obtain ⟨h1, h2, h3⟩ := Core.retireSubs_spec 16 (d.withGath { d.mxe.gath with rows := [], timeout := false })
  exact ⟨(h.trans (Core.withGath_fired d _)).trans h1, h2, h3⟩

/-- An engine whose queue is empty has nothing to move on. -/
theorem State.pump_empty {s : State} (hq : (s.core k).disp.queue u = []) (hu : u ≠ .txe) : s.pump k u = s := by
  unfold State.pump
  rw [hq, if_neg hu]
  split <;> rfl

/-- A fire of the gatherer with no engine instruction behind it: every row goes, and of the core only the scratchpad, the
flags, the accumulator, the gatherer and the record of accesses change (R107). -/
theorem rowGathererFire_spec (c : CoreId) {s : State} {r : RunTask} {f : Fmt}
    (hrun : (s.core (coreKey c)).run = some r) (hrole : (s.core (coreKey c)).role = .inService)
    (hq : (s.core (coreKey c)).disp.qM = []) (hf : (s.core (coreKey c)).active.fmt = some f)
    (hfires : (s.core (coreKey c)).fires (s.ent (Ent.gatherTimeout r.ctx) == 0) = true) :
    ∃ t, exec (.rowGathererFire c .none) s = .next t ∧ Noted (s.modCore (coreKey c) Core.fireAll) t (coreKey c) := by
  obtain ⟨hfired, -, -⟩ := Core.fireAll_spec hf
  have hn := State.noteAccess_noted (s.modCore (coreKey c) Core.fireAll) (coreKey c) .mxe s []
  refine ⟨_, ?_, hn⟩
  obtain ⟨-, -, w, z, hcore⟩ := hn
  have hqueue : (((s.modCore (coreKey c) Core.fireAll).noteAccess (coreKey c) .mxe s []).core (coreKey c)).disp.queue .mxe =
      [] := by
    rw [hcore, State.core_modCore, hfired]
    exact hq
  have hpump := State.pump_empty hqueue (by nofun)
  change execRowGathererFire c .none s = _
  simp only [execRowGathererFire, hrun, hrole, hfires, decide_true, Bool.and_self, if_true, State.guarded_noRead,
    HeadRes.onward, hpump]

/-- Settles O18: a drain is an operation of the matrix engine, a gathered submission changes the gatherer alone, and a fire
delivers every row and then only records accesses. -/
theorem drainsAndTheGatherer : Obligations.DrainsAndTheGatherer := by
  unfold Obligations.DrainsAndTheGatherer
  refine ⟨fun c x s r f h hg hf => ?_, fun c x s r f => ⟨fun h hf ha h0 hroom hsubs hd hp => ?_,
    fun hrun hrole hq hf hfires => ?_, fun hrows => ?_⟩⟩
  · have hR := h.mdrain_retires hg hf
    have hop := Core.mdrainOp_matrixOp (s.core (coreKey c)) r f x
    refine ⟨_, rfl, hR.results hop, fun hc => ?_, (congrArg Flags4.v hR.flags).trans hop.raise_v,
      (congrArg Flags4.t hR.flags).trans hop.raise_t, fun hm hfp n hn => ?_⟩
    · exact (congrArg Mxe.acc hR.mxe).trans (congrArg Mxe.acc (Core.drainRows_mxe _ _ _ _ _ _ _ hc))
    · subst hfp
      obtain ⟨hrd, hfl, hacc⟩ := Core.mdrainOp_fp32 (s.core (coreKey c)) r x hm hn
      refine ⟨?_, ?_, ?_⟩
      · rw [hR.rd, Core.raise_rd, hrd]
      · rw [hR.flags, hfl, Core.raise_none, hop.frame]
      · rw [hR.accAt, Core.raise_accAt, hacc]
  · have hR := h.gather_retires ⟨by simp [Core.streamFmt, hf, ha], rfl, h0, hroom, hsubs, hd⟩ hp
    refine ⟨_, rfl, hR.congr ?_, (congrArg (·.gath.rows) hR.mxe).trans (Core.submit_rows ..)⟩
    rw [hR.mxe]
    exact (Core.submit_frame ..).symm
  · obtain ⟨hfired, hrows, htime⟩ := Core.fireAll_spec hf
    obtain ⟨t, hex, heq, hother, w, z, hcore⟩ := rowGathererFire_spec c hrun hrole hq hf hfires
    rw [State.core_modCore] at hcore
    refine ⟨t, hex, ?_, ?_, ?_, ?_, ?_, fun j hj => (hother j hj).trans (State.core_modCore_ne _ _ hj)⟩
    · rw [hcore]
      exact hrows
    · rw [hcore]
      exact htime
    · rw [hcore, hfired]
      rfl
    · rw [hcore, hfired]
    · rw [heq]
      rfl
  · change execGatherTimeout c s = _
    simp [execGatherTimeout, hrows]

end Sys2Proof.Machine
end

section
/-!
PROOF. Detectors that fence a core (R83, R358), and reserved formats (R43).
-/

namespace Sys2Proof.Machine

open Sys2Proof

variable {s t : State} {k : Nat} {g : BitVec 4} {r : RunTask} {op : EngOp}

/-! ### Entries -/

/-- A bit just set. -/
theorem testBit_putBits_one (v b : Nat) : (putBits v b 1 1).testBit b = true := by
  have hle : v / 2 ^ b % 2 * 2 ^ b ≤ v := (Nat.mul_le_mul_right _ (Nat.mod_le _ _)).trans (Nat.div_mul_le_self _ _)
  have hdiv : putBits v b 1 1 / 2 ^ b = v / 2 ^ b - v / 2 ^ b % 2 + 1 := by
    unfold putBits bitsAt
    norm_num only
    rw [Nat.add_mul_div_right _ _ (by positivity), mul_comm, Nat.sub_mul_div_of_le _ _ _ (by rwa [mul_comm])]
  rw [Nat.testBit_eq_decide_div_mod_eq, hdiv, decide_eq_true_iff]
  omega

@[simp] theorem State.slotFenced_setEntBit (s : State) (c slot : Nat) :
    (s.setEntBit (Ent.fenced c) slot true).slotFenced c slot = true := by
  simp [State.slotFenced, State.entBit, State.setEntBit, State.setEntBits, b2n, testBit_putBits_one]

@[simp] theorem State.msix_dict (s : State) (f v : Nat) : (s.msix f v).dict = s.dict := by
  unfold State.msix
  split_ifs <;> rfl

@[simp] theorem State.cause_dict (s : State) (f b : Nat) : (s.cause f b).dict = s.dict := by
  unfold State.cause
  split_ifs
  · rfl
  · exact State.msix_dict _ _ _
  · rfl

theorem State.ent_congr (h : t.dict = s.dict) (j : Nat) : t.ent j = s.ent j := by
  unfold State.ent
  rw [h]

/-- A record changes no entry but the counts of the log (R376). -/
theorem State.ent_logRec (s : State) (x : LogRec) {j : Nat} (hh : j ≠ Ent.logHead) (hl : j ≠ Ent.logLost) :
    (s.logRec x).ent j = s.ent j := by
  have h1 (s : State) (i b : Nat) : (s.cause i b).ent j = s.ent j := State.ent_congr (State.cause_dict s i b) j
  unfold State.logRec
  dsimp only
  split_ifs <;> simp only [h1, State.bump, State.ent_bumpBy_ne _ _ hh, State.ent_bumpBy_ne _ _ hl] <;> rfl

/-! ### A fence with a spare on the die -/

theorem State.slotOf_lt (s : State) (k : Nat) : (s.slotOf k).1 < 64 := by
  unfold State.slotOf State.entBits bitsAt
  exact Nat.mod_lt _ (by norm_num)

/-- Whether a die has a spare rests on the slot maps of its clusters and the visits under way. -/
theorem State.dieHasSpare_congr {d : Nat} (hv : t.rel.visits = s.rel.visits)
    (hm : ∀ c ∈ dieClusters d, t.ent (Ent.coreMap c) = s.ent (Ent.coreMap c)) : t.dieHasSpare d = s.dieHasSpare d := by
  unfold State.dieHasSpare
  rw [Bool.eq_iff_iff, List.any_eq_true, List.any_eq_true]
  refine exists_congr fun c => and_congr_right fun hc => ?_
  have hspare : t.spareOf c = s.spareOf c := by
    unfold State.spareOf State.entBits
    rw [hm c hc]
  have htest : t.testSlot c = s.testSlot c := by
    unfold State.testSlot State.visitOn
    rw [hv]
  rw [hspare, htest]

/-- The slot maps of a die that holds a slot are entries of their own. -/
theorem dieClusters_lt {c c' : Nat} (hc : c < 64) (h : c' ∈ dieClusters (dieOf c)) : c' < 64 := by
  simp only [dieClusters, dieOf, List.mem_map, List.mem_range] at h
  obtain ⟨i, hi, rfl⟩ := h
  omega

/-- The FENCED bit of core k's slot set, and the fence recorded (R358). -/
def State.fenceRecorded (s : State) (k : Nat) : State :=
  (s.setEntBit (Ent.fenced (s.slotOf k).1) (s.slotOf k).2 true).logHeld Code.fence k []

theorem State.fenceRecorded_reports (s : State) (k : Nat) : Reports s (s.fenceRecorded k) :=
  (Reports.setEntBit s _ _ true).trans (Reports.logHeld _ _ _ _)

theorem State.fenceRecorded_ent (s : State) (k : Nat) {j : Nat} (hh : j ≠ Ent.logHead) (hl : j ≠ Ent.logLost) :
    (s.fenceRecorded k).ent j = (s.setEntBit (Ent.fenced (s.slotOf k).1) (s.slotOf k).2 true).ent j := by
  unfold State.fenceRecorded State.logHeld
  exact State.ent_logRec _ _ hh hl

/-- A core that is fenced: what it had not committed goes (R358). -/
def Core.fencedAtTime (c : Core) (now : Nat) : Core :=
  { c with
    disp := { Disp.idle with count := c.disp.count }
    post := c.post.filter (·.committed)
    role := .fenced
    fencedAt := now }

/-- What a fence of a core does before a spare is looked for (R358). -/
def State.fenceMarked (s : State) (k : Nat) : State :=
  ((((s.fenceRecorded k).modCore k (Core.fencedAtTime · s.now)).dropWatches [k]).dropGrants [k]).orphanSends k

/-- After the record a fence touches the core, the watches, the grants and the links. -/
theorem State.fenceMarked_eq (s : State) (k : Nat) : s.fenceMarked k = { s.fenceRecorded k with
    cores := ((s.fenceRecorded k).modCore k (Core.fencedAtTime · s.now)).cores
    sync := (s.fenceMarked k).sync, grants := (s.fenceMarked k).grants, links := (s.fenceMarked k).links } := by
  unfold State.fenceMarked
  generalize s.fenceRecorded k = t
  rfl

theorem State.fenceMarked_ent (s : State) (k : Nat) {j : Nat} (hh : j ≠ Ent.logHead) (hl : j ≠ Ent.logLost) :
    (s.fenceMarked k).ent j = (s.setEntBit (Ent.fenced (s.slotOf k).1) (s.slotOf k).2 true).ent j :=
  (State.ent_congr (by rw [s.fenceMarked_eq k]) j).trans (s.fenceRecorded_ent k hh hl)

theorem State.fenceMarked_visits (s : State) (k : Nat) : (s.fenceMarked k).rel.visits = s.rel.visits := by
  rw [s.fenceMarked_eq k, (s.fenceRecorded_reports k).rel]

theorem State.fenceMarked_core (s : State) (k : Nat) : (s.fenceMarked k).core k = (s.core k).fencedAtTime s.now := by
  have h : (s.fenceMarked k).core k = ((s.fenceRecorded k).modCore k (Core.fencedAtTime · s.now)).core k := by
    unfold State.core
    rw [s.fenceMarked_eq k]
  rw [h, State.core_modCore, (s.fenceRecorded_reports k).core]

theorem State.fenceMarked_mem (s : State) (k : Nat) : (s.fenceMarked k).mem = s.mem := by
  rw [s.fenceMarked_eq k, ← (s.fenceRecorded_reports k).mem]

theorem State.fenceMarked_slotFenced (s : State) (k : Nat) :
    (s.fenceMarked k).slotFenced (s.slotOf k).1 (s.slotOf k).2 = true := by
  unfold State.slotFenced State.entBit
  rw [State.fenceMarked_ent]
  · exact State.slotFenced_setEntBit _ _ _
  · simp [Ent.fenced, Ent.logHead]; omega
  · simp [Ent.fenced, Ent.logLost]; omega

theorem State.fenceMarked_dieHasSpare (s : State) (k : Nat) :
    (s.fenceMarked k).dieHasSpare (dieOf (s.slotOf k).1) = s.dieHasSpare (dieOf (s.slotOf k).1) := by
  refine State.dieHasSpare_congr (s.fenceMarked_visits k) fun c hc => ?_
  have hlt := dieClusters_lt (s.slotOf_lt k) hc
  have hk := s.slotOf_lt k
  rw [State.fenceMarked_ent]
  · exact State.ent_setEnt_ne _ _ (by simp [Ent.fenced, Ent.coreMap]; omega)
  · simp [Ent.coreMap, Ent.logHead]; omega
  · simp [Ent.coreMap, Ent.logLost]; omega

/-- On a die with a spare a fence of a core in service takes no identity away (R358, R363). -/
theorem State.fence_of_spare (hrole : (s.core k).role = .inService) (hs : s.dieHasSpare (dieOf (s.slotOf k).1) = true) :
    s.fence k = s.fenceMarked k := by
  have h := s.fenceMarked_dieHasSpare k
  rw [hs] at h
  simp only [State.fence, hrole, reduceCtorEq, decide_false, Bool.or_self, Bool.false_eq_true, if_false]
  exact if_pos h

/-! ### An instruction whose queue is gone -/

/-- An engine instruction that is issued and ends in a reset or a fence leaves the machine as that does. -/
theorem Issues.gone (h : Issues s k g op r) (hu : op.unit ≠ .seq) (ht : op.unit ≠ .txe) {s1 : State}
    (hd : (s.modCore k (Core.enqueue · op)).runHead k op.unit r (QEntry.new (s.core k) op) = .gone s1) :
    s.issue k g op = s1 := by
  rw [h.issue hu]
  unfold State.pump
  have hq := Core.enqueue_queue (s.core k) op hu (h.place.resolve_left hu).1
  simp [Core.ready_role h.goes.ready, hq, State.pumpQueue, Core.ready_run h.goes.ready, hd, ht]

/-- An engine instruction that names a reserved or mismatched format: the fault is recorded and the context reset (R43). -/
theorem Issues.mismatch (h : Issues s k g op r) (hu : op.unit ≠ .seq) (ht : op.unit ≠ .txe) {codes : List Nat}
    (hd : (s.modCore k (Core.enqueue · op)).runHead k op.unit r (QEntry.new (s.core k) op) =
      (s.modCore k (Core.enqueue · op)).mismatch k r.ctx (s.core k).regs.pc codes) :
    s.issue k g op = ((s.modCore k (Core.enqueue · op)).logCore Code.formatMismatch r.ctx k
      ((s.core k).regs.pc :: codes)).ctxReset r.ctx Code.formatMismatch :=
  h.gone hu ht hd

/-- A code of 9 or above names no format (R41). -/
theorem Fmt.ofCode_reserved {c : BitVec 4} (h : 9 ≤ c.toNat) : Fmt.ofCode c = none := by
  revert c
  decide

/-- Only code 0 names fp32 (R41). -/
theorem Fmt.ofCode_eq_fp32 {c : BitVec 4} : Fmt.ofCode c = some .fp32 ↔ c = 0#4 := by
  revert c
  decide

theorem State.headVcvt_reserved (s : State) (k pc : Nat) (r : RunTask) (x : VArgs) (h : Fmt.ofCode x.fmt = none) :
    s.headVec k pc r .vcvt x = s.mismatch k r.ctx pc [x.fmt.toNat] := by
  simp [State.headVec, Core.vector, h]

theorem State.headVmem_reserved (s : State) (k pc : Nat) (r : RunTask) (op : MOp) (x : EArgs) (hw : HwFault)
    (h : Fmt.ofCode x.fmt = none) : s.headVmem k pc r op x hw = s.mismatch k r.ctx pc [x.fmt.toNat] := by
  simp [State.headVmem, h]

/-- A scalar store names the format fp32 (R132). -/
theorem State.headSst_mismatch (s : State) (k pc : Nat) (r : RunTask) (x : EArgs) (hw : HwFault) (h : x.fmt ≠ 0#4) :
    s.headVmem k pc r .sst x hw = s.mismatch k r.ctx pc [x.fmt.toNat] := by
  cases hf : Fmt.ofCode x.fmt with
  | none => exact s.headVmem_reserved k pc r .sst x hw hf
  | some f =>
    have hne : f ≠ .fp32 := fun e => h (Fmt.ofCode_eq_fp32.1 (e ▸ hf))
    cases f <;> simp_all [State.headVmem]

/-- A plane holds no fp32 and no reserved format (R86). -/
theorem State.headMload_mismatch (s : State) (k pc : Nat) (r : RunTask) (x : MLoadArgs) (hw : HwFault) (e : QEntry)
    (hd : (s.core k).destPending = false) (h : 9 ≤ x.fmt.toNat ∨ x.fmt = 0#4) :
    s.headMload k pc r x hw e = s.mismatch k r.ctx pc [x.fmt.toNat] := by
  rcases h with h | h
  · simp [State.headMload, hd, Fmt.ofCode_reserved h]
  · simp [State.headMload, hd, Fmt.ofCode_eq_fp32.2 h]

/-- A parity error while an MDRAIN runs fences the core (R83). -/
theorem Issues.mdrain_parity {x : MDrainArgs} {f : Fmt} (h : Issues s k g (.mdrain x .parity) r)
    (hg : (s.core k).mxe.gath.rows = []) (hf : Fmt.ofCode x.fmt = some f) :
    s.issue k g (.mdrain x .parity) = (s.modCore k (Core.enqueue · (.mdrain x .parity))).fenceParity k :=
  h.gone (by nofun) (by nofun) (by simp [State.runHead, State.headMdrain, State.guarded, hg, hf])

/-- A parity error of a core in service, on a die with a spare: the core is fenced with its slot, and memory stays (R83,
R358). The diagnosis visit that it asks for (R454) is a record of the management alone. -/
theorem State.fenceParity_of_spare (hrole : (s.core k).role = .inService)
    (hs : s.dieHasSpare (dieOf (s.slotOf k).1) = true) :
    (s.fenceParity k).core k = (s.core k).fencedAtTime s.now ∧
      (s.fenceParity k).slotFenced (s.slotOf k).1 (s.slotOf k).2 = true ∧ (s.fenceParity k).mem = s.mem := by
  have h : s.fenceParity k = { s.fenceMarked k with rel := (s.fenceParity k).rel } := by
    simp only [State.fenceParity, s.fence_of_spare hrole hs, hrole, reduceCtorEq, decide_false, Bool.or_self,
      Bool.false_eq_true, if_false]
  rw [h]
  exact ⟨s.fenceMarked_core k, s.fenceMarked_slotFenced k, s.fenceMarked_mem k⟩

/-- Settles O19: an instruction that ends in a fence or a reset leaves the machine as that does; on a die with a spare the
fence sets FENCED, keeps what the core had committed and takes no identity away. -/
theorem engineFaults : Obligations.EngineFaults := by
  unfold Obligations.EngineFaults
  refine ⟨fun c x s r f h hg hf hs => ⟨_, rfl, ?_⟩, fun c x y z s r => ⟨fun h hfmt => ?_, fun h hfmt => ?_,
    fun h hfmt => ?_, fun h hd hfmt => ?_⟩⟩
  · rw [h.mdrain_parity hg hf]
    have hrole : ((s.modCore (coreKey c) (Core.enqueue · (.mdrain x .parity))).core (coreKey c)).role = .inService := by
      simp [Core.ready_role h.goes.ready]
    obtain ⟨hcore, hslot, hmem⟩ := State.fenceParity_of_spare hrole hs
    rw [State.core_modCore] at hcore
    refine ⟨?_, hslot, ?_, ?_, ?_, ?_, hmem⟩ <;> rw [hcore] <;> rfl
  · exact congrArg Host.Outcome.next (h.mismatch (by nofun) (by nofun)
      (State.headVcvt_reserved _ _ _ r x (Fmt.ofCode_reserved hfmt)))
  · exact congrArg Host.Outcome.next (h.mismatch (by nofun) (by nofun)
      (State.headVmem_reserved _ _ _ r .vld y .none (Fmt.ofCode_reserved hfmt)))
  · exact congrArg Host.Outcome.next (h.mismatch (by nofun) (by nofun) (State.headSst_mismatch _ _ _ r y .none hfmt))
  · exact congrArg Host.Outcome.next (h.mismatch (by nofun) (by nofun)
      (State.headMload_mismatch _ _ _ r z .none _ (by simpa using hd) hfmt))

end Sys2Proof.Machine
end

section
/-!
PROOF. The decoder inverts the encoder (R120): the fields of a word read back what its layout joined.
-/

namespace Sys2Proof

open BitVec

/-! ### The fields of a word, layout by layout -/

theorem fields_wordS (cls op : BitVec 6) (x : SArgs) :
    fld (wordS cls op x) 58 6 = cls ∧ fld (wordS cls op x) 52 6 = op ∧ fieldsS (wordS cls op x) = x := by
  have hw : wordS cls op x =
      (cls ++ op ++ x.d ++ x.a ++ x.b ++ ofBool x.i ++ x.imm ++ x.guard).cast rfl := rfl
  simp (disch := decide) only [fld, hw, fieldsS, extractLsb'_cast, getLsbD_cast, extractLsb'_append_eq_of_le,
    extractLsb'_append_eq_of_add_le, getLsbD_append, Nat.reduceSub, Nat.reduceLT, reduceIte, getLsbD_ofBool,
    extractLsb'_eq_self, decide_true, Bool.true_and, true_and]

theorem fields_wordY (op : BitVec 6) (l : Bool) (x : YArgs) :
    fld (wordY op l x) 58 6 = 0x08#6 ∧ fld (wordY op l x) 52 6 = op ∧ (wordY op l x).getLsbD 49 = l ∧
      fieldsY (wordY op l x) = x := by
  have hw : wordY op l x = (0x08#6 ++ op ++ x.q ++ ofBool l ++ 0#2 ++ x.a ++ x.b ++ ofBool x.i ++ x.imm ++ x.tsel ++
      x.d ++ 0#7 ++ x.guard).cast rfl := rfl
  simp (disch := decide) only [fld, hw, fieldsY, extractLsb'_cast, getLsbD_cast, extractLsb'_append_eq_of_le,
    extractLsb'_append_eq_of_add_le, getLsbD_append, Nat.reduceSub, Nat.reduceLT, reduceIte, getLsbD_ofBool,
    extractLsb'_eq_self, decide_true, Bool.true_and, true_and]

theorem fields_wordV (cls op : BitVec 6) (x : VArgs) :
    fld (wordV cls op x) 58 6 = cls ∧ fld (wordV cls op x) 52 6 = op ∧ fieldsV (wordV cls op x) = x := by
  have hw : wordV cls op x = (cls ++ op ++ x.vd ++ x.va ++ x.vb ++ x.vc ++ x.fmt ++ ofBool x.sat ++ ofBool x.rnd ++
      ofBool x.trunc ++ x.sI ++ x.sT ++ x.sX ++ x.lane ++ x.guard).cast rfl := rfl
  simp (disch := decide) only [fld, hw, fieldsV, extractLsb'_cast, getLsbD_cast, extractLsb'_append_eq_of_le,
    extractLsb'_append_eq_of_add_le, getLsbD_append, Nat.reduceSub, Nat.reduceLT, reduceIte, getLsbD_ofBool,
    extractLsb'_eq_self, decide_true, Bool.true_and, true_and]

theorem fields_wordE (op : BitVec 6) (x : EArgs) :
    fld (wordE op x) 58 6 = 0x1A#6 ∧ fld (wordE op x) 52 6 = op ∧ fieldsE (wordE op x) = x := by
  have hw : wordE op x = (0x1A#6 ++ op ++ x.d ++ x.aE ++ 0#1 ++ x.aS ++ 0#1 ++ x.fmt ++ ofBool x.sat ++ ofBool x.rnd ++
      x.sI ++ x.sT ++ x.imm ++ 0#1 ++ x.guard).cast rfl := rfl
  simp (disch := decide) only [fld, hw, fieldsE, extractLsb'_cast, getLsbD_cast, extractLsb'_append_eq_of_le,
    extractLsb'_append_eq_of_add_le, getLsbD_append, Nat.reduceSub, Nat.reduceLT, reduceIte, getLsbD_ofBool,
    extractLsb'_eq_self, decide_true, Bool.true_and, true_and]

theorem fields_wordMove (op : BitVec 6) (x : TMoveArgs) :
    fld (wordMove op x) 58 6 = 0x20#6 ∧ fld (wordMove op x) 52 6 = op ∧ fieldsMove (wordMove op x) = x := by
  have hw : wordMove op x = (0x20#6 ++ op ++ x.aL ++ x.aV ++ x.sN ++ x.sG ++ x.sfmt ++ x.dfmt ++ ofBool x.rnd ++
      ofBool x.sat ++ x.sI ++ x.sT ++ 0#10 ++ x.guard).cast rfl := rfl
  simp (disch := decide) only [fld, hw, fieldsMove, extractLsb'_cast, getLsbD_cast, extractLsb'_append_eq_of_le,
    extractLsb'_append_eq_of_add_le, getLsbD_append, Nat.reduceSub, Nat.reduceLT, reduceIte, getLsbD_ofBool,
    extractLsb'_eq_self, decide_true, Bool.true_and, true_and]

theorem fields_wordSend (v : Bool) (x : TSendArgs) :
    fld (wordSend v x) 58 6 = 0x20#6 ∧ fld (wordSend v x) 52 6 = 0x03#6 ∧ (wordSend v x).getLsbD 13 = v ∧
      fieldsSend (wordSend v x) = x := by
  have hw : wordSend v x = (0x20#6 ++ 0x03#6 ++ x.aL ++ 0#4 ++ x.sN ++ x.sR ++ x.sfmt ++ x.dfmt ++ ofBool x.rnd ++
      ofBool x.sat ++ x.sI ++ x.sT ++ ofBool v ++ 0#9 ++ x.guard).cast rfl := rfl
  simp (disch := decide) only [fld, hw, fieldsSend, extractLsb'_cast, getLsbD_cast, extractLsb'_append_eq_of_le,
    extractLsb'_append_eq_of_add_le, getLsbD_append, Nat.reduceSub, Nat.reduceLT, reduceIte, getLsbD_ofBool,
    extractLsb'_eq_self, decide_true, Bool.true_and, true_and]

theorem fields_wordWin (op : BitVec 6) (x : WinArgs) :
    fld (wordWin op x) 58 6 = 0x20#6 ∧ fld (wordWin op x) 52 6 = op ∧ fieldsWin (wordWin op x) = x := by
  have hw : wordWin op x = (0x20#6 ++ op ++ x.aB ++ 0#4 ++ x.sN ++ 0#26 ++ x.w ++ 0#6 ++ x.guard).cast rfl := rfl
  simp (disch := decide) only [fld, hw, fieldsWin, extractLsb'_cast, extractLsb'_append_eq_of_le,
    extractLsb'_append_eq_of_add_le, Nat.reduceSub, extractLsb'_eq_self, true_and]

theorem fields_wordMload (x : MLoadArgs) :
    fld (wordMload x) 58 6 = 0x10#6 ∧ fld (wordMload x) 52 6 = 0x01#6 ∧ fieldsMload (wordMload x) = x := by
  have hw : wordMload x = (0x10#6 ++ 0x01#6 ++ x.fmt ++ x.aE ++ x.aS ++ x.sG ++ 0#35).cast rfl := rfl
  simp (disch := decide) only [fld, hw, fieldsMload, extractLsb'_cast, extractLsb'_append_eq_of_le,
    extractLsb'_append_eq_of_add_le, Nat.reduceSub, extractLsb'_eq_self, true_and]

theorem fields_wordMstream (gath : Bool) (x : MStreamArgs) :
    fld (wordMstream gath x) 58 6 = 0x10#6 ∧ fld (wordMstream gath x) 52 6 = 0x03#6 ∧
      (wordMstream gath x).getLsbD 18 = gath ∧ fieldsMstream (wordMstream gath x) = x := by
  have hw : wordMstream gath x = (0x10#6 ++ 0x03#6 ++ x.fmt ++ x.aE ++ x.aS ++ x.sM ++ x.sG ++ x.accBase ++
      ofBool x.dest ++ ofBool x.acc ++ ofBool gath ++ x.aO ++ 0#14).cast rfl := rfl
  simp (disch := decide) only [fld, hw, fieldsMstream, extractLsb'_cast, getLsbD_cast, extractLsb'_append_eq_of_le,
    extractLsb'_append_eq_of_add_le, getLsbD_append, Nat.reduceSub, Nat.reduceLT, reduceIte, getLsbD_ofBool,
    extractLsb'_eq_self, decide_true, Bool.true_and, true_and]

theorem fields_wordMdrain (x : MDrainArgs) :
    fld (wordMdrain x) 58 6 = 0x10#6 ∧ fld (wordMdrain x) 52 6 = 0x04#6 ∧ fieldsMdrain (wordMdrain x) = x := by
  have hw : wordMdrain x = (0x10#6 ++ 0x04#6 ++ x.fmt ++ x.aO ++ x.aS ++ x.sM ++ x.sG ++ x.accBase ++ x.sI ++ x.sT ++
      ofBool x.rnd ++ ofBool x.sat ++ ofBool x.clr ++ 0#8).cast rfl := rfl
  simp (disch := decide) only [fld, hw, fieldsMdrain, extractLsb'_cast, getLsbD_cast, extractLsb'_append_eq_of_le,
    extractLsb'_append_eq_of_add_le, getLsbD_append, Nat.reduceSub, Nat.reduceLT, reduceIte, getLsbD_ofBool,
    extractLsb'_eq_self, decide_true, Bool.true_and, true_and]

/-! ### The decoder on a word of each class -/

variable (c : CoreId) (op : BitVec 6)

theorem decode_wordS1 (x : SArgs) : decodePlovmi c (wordS 0x01#6 op x) = decodeS1 c op x := by
  simp [decodePlovmi, fields_wordS]

theorem decode_wordS2 (x : SArgs) : decodePlovmi c (wordS 0x02#6 op x) = decodeS2 c op x := by
  simp [decodePlovmi, fields_wordS]

theorem decode_wordS3 (x : SArgs) : decodePlovmi c (wordS 0x03#6 op x) = decodeS3 c op x := by
  simp [decodePlovmi, fields_wordS]

/-- A word of class 0x04 that names a CSR of Table 5.2, or is no CSRRD. -/
theorem decode_wordS4 (x : SArgs) (h : op = 0x05#6 → csrDefined x = true) :
    decodePlovmi c (wordS 0x04#6 op x) = decodeS4 c op x := by
  have hn : ¬ (op = 0x05#6 ∧ csrDefined x = false) := fun ⟨ho, hx⟩ => by simp [h ho] at hx
  simp [decodePlovmi, fields_wordS, hn]

theorem decode_wordY (l : Bool) (x : YArgs) : decodePlovmi c (wordY op l x) = decodeY c op l x := by
  obtain ⟨hc, ho, hl, hx⟩ := fields_wordY op l x
  simp only [decodePlovmi, hc, ho, hl, hx]

theorem decode_wordV18 (x : VArgs) : decodePlovmi c (wordV 0x18#6 op x) = decodeV18 c op x := by
  simp [decodePlovmi, fields_wordV]

theorem decode_wordV19 (x : VArgs) : decodePlovmi c (wordV 0x19#6 op x) = decodeV19 c op x := by
  simp [decodePlovmi, fields_wordV]

theorem decode_wordE (x : EArgs) : decodePlovmi c (wordE op x) = decodeE c op x := by
  simp [decodePlovmi, fields_wordE]

theorem decode_wordMove (x : TMoveArgs) : decodePlovmi c (wordMove op x) = decodeT c op (wordMove op x) := by
  simp [decodePlovmi, fields_wordMove]

theorem decode_wordSend (v : Bool) (x : TSendArgs) : decodePlovmi c (wordSend v x) =
    some (if v then .tsendVoile c x .none else .tsend c x .none) := by
  obtain ⟨hc, ho, hv, hx⟩ := fields_wordSend v x
  simp only [decodePlovmi, hc, ho, decodeT, hv, hx]
  cases v <;> rfl

theorem decode_wordWin (x : WinArgs) : decodePlovmi c (wordWin op x) = decodeT c op (wordWin op x) := by
  simp [decodePlovmi, fields_wordWin]

theorem decode_wordMload (x : MLoadArgs) : decodePlovmi c (wordMload x) = some (.mload c x .none) := by
  simp [decodePlovmi, decodeMat, fields_wordMload]

theorem decode_wordMswap : decodePlovmi c wordMswap = some (.mswap c) := rfl

theorem decode_wordMstream (gath : Bool) (x : MStreamArgs) : decodePlovmi c (wordMstream gath x) =
    some (if gath then .gatheredSubmission c x .none else .mstream c x .none) := by
  obtain ⟨hc, ho, hg, hx⟩ := fields_wordMstream gath x
  simp only [decodePlovmi, hc, ho, decodeMat, hg, hx]
  cases gath <;> rfl

theorem decode_wordMdrain (x : MDrainArgs) : decodePlovmi c (wordMdrain x) = some (.mdrain c x .none) := by
  simp [decodePlovmi, decodeMat, fields_wordMdrain]

end Sys2Proof

namespace Sys2Proof.Machine

open Sys2Proof

/-- Settles O5, by cases on the command: a command without a word is none; for every other one the decoder finds its class
and its opcode, and the fields of the layout read back the operands. -/
theorem decodeInvertsEncode : Obligations.DecodeInvertsEncode := by
  unfold Obligations.DecodeInvertsEncode
  intro i c w hwf hhw hc hw
  cases i
  all_goals simp only [encodePlovmi, reduceCtorEq, Option.some.injEq] at hw
  all_goals
    subst hw
    obtain rfl := Option.some.inj hc
    simp only [Instr.faultless, Instr.wellFormed, beq_iff_eq] at hhw hwf
    simp [decode_wordS1, decode_wordS2, decode_wordS3, decode_wordS4, decode_wordY, decode_wordV18, decode_wordV19,
      decode_wordE, decode_wordMove, decode_wordSend, decode_wordWin, decode_wordMload, decode_wordMswap, decode_wordMstream,
      decode_wordMdrain, decodeS1, decodeS2, decodeS3, decodeS4, decodeY, decodeV18, decodeV19, decodeE, decodeT,
      fields_wordMove, fields_wordWin, hhw, hwf]

end Sys2Proof.Machine
end

section
/-!
PROOF. Words written out from the tables (R120, R122).
-/

namespace Sys2Proof.Machine

/-- Settles O6: the decoder runs on each word. -/
theorem writtenWordsDecode : Obligations.WrittenWordsDecode := by
  unfold Obligations.WrittenWordsDecode
  intro c
  exact ⟨rfl, rfl, rfl, rfl, rfl, rfl⟩

end Sys2Proof.Machine
end

section
/-!
PROOF. The instructions that the sequencer executes at dispatch: arithmetic, moves, comparisons and predicates (R117, R124).
-/

namespace Sys2Proof.Machine

open Sys2Proof

variable {s : State} {k : Nat} {g : BitVec 4} {rd wr : List RegName} {r : RunTask}

/-! ### Operands and operations of Table 5.5 in numbers -/

/-- IMM32 sign-extended, or sb. -/
theorem Core.opS_eq (c : Core) (x : SArgs) : c.opS x = if x.i then BitVec.ofInt 64 x.imm.toInt else c.sreg x.b := by
  simp [Core.opS, BitVec.signExtend]

theorem sub_eq_ofInt (a b : Word64) : a - b = BitVec.ofInt 64 (a.toInt - b.toInt) := by
  apply BitVec.eq_of_toInt_eq
  rw [BitVec.toInt_sub, BitVec.toInt_ofInt]

theorem shiftLeft_eq_ofNat (a : Word64) (n : Nat) : a <<< n = BitVec.ofNat 64 (a.toNat * 2 ^ n) := by
  apply BitVec.eq_of_toNat_eq
  simp [Nat.shiftLeft_eq]

theorem ushiftRight_eq_ofNat (a : Word64) (n : Nat) : a >>> n = BitVec.ofNat 64 (a.toNat / 2 ^ n) := by
  apply BitVec.eq_of_toNat_eq
  have := a.isLt
  have := Nat.div_le_self a.toNat (2 ^ n)
  rw [BitVec.toNat_ushiftRight, BitVec.toNat_ofNat, Nat.shiftRight_eq_div_pow, Nat.mod_eq_of_lt (by omega)]

theorem sshiftRight_eq_ofInt (a : Word64) (n : Nat) : a.sshiftRight n = BitVec.ofInt 64 (a.toInt / 2 ^ n) := by
  rw [BitVec.sshiftRight, Int.shiftRight_eq_div_pow]
  norm_cast

theorem ofInt_min (a b : Word64) : BitVec.ofInt 64 (min a.toInt b.toInt) = if a.slt b then a else b := by
  rw [BitVec.slt_eq_decide]
  by_cases h : a.toInt < b.toInt
  · simp [h, min_eq_left h.le]
  · simp [h, min_eq_right (not_lt.1 h)]

theorem ofInt_max (a b : Word64) : BitVec.ofInt 64 (max a.toInt b.toInt) = if a.slt b then b else a := by
  rw [BitVec.slt_eq_decide]
  by_cases h : a.toInt < b.toInt
  · simp [h, max_eq_right h.le]
  · simp [h, max_eq_left (not_lt.1 h)]

theorem ofNat_min (a b : Word64) : BitVec.ofNat 64 (min a.toNat b.toNat) = if a.ult b then a else b := by
  rw [BitVec.ult_eq_decide]
  by_cases h : a.toNat < b.toNat
  · simp [h, min_eq_left h.le]
  · simp [h, min_eq_right (not_lt.1 h)]

theorem ofNat_max (a b : Word64) : BitVec.ofNat 64 (max a.toNat b.toNat) = if a.ult b then b else a := by
  rw [BitVec.ult_eq_decide]
  by_cases h : a.toNat < b.toNat
  · simp [h, max_eq_right h.le]
  · simp [h, max_eq_left (not_lt.1 h)]

/-- LIH keeps the low word (R124). -/
theorem append_low_eq_ofNat (v : BitVec 32) (a : Word64) :
    v ++ a.extractLsb' 0 32 = BitVec.ofNat 64 (2 ^ 32 * v.toNat + a.toNat % 2 ^ 32) := by
  apply BitVec.eq_of_toNat_eq
  have := v.isLt
  have := Nat.mod_lt a.toNat (show 0 < 2 ^ 32 by norm_num)
  rw [BitVec.toNat_append, BitVec.toNat_ofNat, Nat.mod_eq_of_lt (by omega), BitVec.extractLsb'_toNat, Nat.shiftRight_zero,
    ← Nat.shiftLeft_add_eq_or_of_lt (by assumption), Nat.shiftLeft_eq, mul_comm]

/-! ### Dispatch -/

/-- An instruction that writes sd at dispatch (R124). -/
theorem Dispatches.alu {c : CoreId} {x : SArgs} (h : Dispatches s (coreKey c) x.guard (readsAB x) [.s x.d] r)
    (f : Word64 → Word64 → Word64) : s.alu c x f = s.modCore (coreKey c) fun q =>
      (q.setS x.d (f ((s.core (coreKey c)).sreg x.a) ((s.core (coreKey c)).opS x))).next :=
  h.scalar _

/-- A comparison that writes pd at dispatch (R124). -/
theorem Dispatches.compare {c : CoreId} {x : SArgs} (h : Dispatches s (coreKey c) x.guard (readsAB x) [] r)
    (f : Word64 → Word64 → Bool) : s.compare c x f = s.modCore (coreKey c) fun q =>
      (q.setP (fieldPd x) (f ((s.core (coreKey c)).sreg x.a) ((s.core (coreKey c)).opS x))).next :=
  h.scalar _

/-- A predicate instruction that writes pd at dispatch (R124). -/
theorem Dispatches.pred {c : CoreId} {x : SArgs} (h : Dispatches s (coreKey c) x.guard [] [] r)
    (f : Bool → Bool → Bool) : s.pred c x f = s.modCore (coreKey c) fun q =>
      (q.setP (fieldPd x) (f ((s.core (coreKey c)).preg (fieldPa x)) ((s.core (coreKey c)).preg (fieldPb x)))).next :=
  h.scalar _

/-- Settles O7: each instruction is a change of its core at dispatch, and its operation is the one of Table 5.5. -/
theorem aluAndMoveResults : Obligations.AluAndMoveResults := by
  unfold Obligations.AluAndMoveResults
  refine ⟨fun c x s r h => ?_, fun c x s r => ?_⟩
  · dsimp only
    rw [← Core.opS_eq]
    have put {v : Word64} (f : Word64 → Word64 → Word64)
        (hv : v = f ((s.core (coreKey c)).sreg x.a) ((s.core (coreKey c)).opS x)) :
        (.next (s.alu c x f) : Res) = .next (s.modCore (coreKey c) fun q => (q.setS x.d v).next) := by
      rw [hv, h.alu]
    exact ⟨put _ (BitVec.add_def ..).symm, put _ (sub_eq_ofInt _ _).symm, put _ (BitVec.mul_def ..).symm, put _ rfl,
      put _ rfl, put _ rfl,
      put _ (shiftLeft_eq_ofNat _ _).symm, put _ (ushiftRight_eq_ofNat _ _).symm, put _ (sshiftRight_eq_ofInt _ _).symm,
      put _ (ofInt_min _ _), put _ (ofInt_max _ _), put _ (ofNat_min _ _), put _ (ofNat_max _ _)⟩
  · dsimp only
    rw [← Core.opS_eq]
    refine ⟨fun h => ?_, fun h => ?_, fun h => ?_, fun h => ?_, fun h => ?_⟩
    · exact congrArg _ (h.scalar _)
    · rw [← append_low_eq_ofNat]
      exact congrArg _ (h.scalar _)
    · rw [← BitVec.add_def]
      exact congrArg _ (h.scalar _)
    · exact congrArg _ (h.scalar _)
    · exact congrArg _ (h.scalar _)

/-! ### Predicate registers -/

/-- One bit of eight, by its number. -/
theorem getLsbD_one_shiftLeft (n m : BitVec 3) : (1#8 <<< n.toNat).getLsbD m.toNat = decide (m = n) := by
  revert n m
  decide

theorem getLsbD_setPbit (p : BitVec 8) (n m : BitVec 3) (v : Bool) :
    (setPbit p n v).getLsbD m.toNat = if n ≠ 0#3 ∧ m = n then v else p.getLsbD m.toNat := by
  have hm : m.toNat < 8 := m.isLt
  unfold setPbit
  by_cases hn : n = 0#3
  · simp [hn]
  · have hb := getLsbD_one_shiftLeft n m
    cases v
    · rw [if_neg hn, if_neg Bool.false_ne_true, BitVec.getLsbD_and, BitVec.getLsbD_not, hb]
      by_cases h : m = n <;> simp [hn, h, hm]
    · rw [if_neg hn, if_pos rfl, BitVec.getLsbD_or, hb]
      by_cases h : m = n <;> simp [hn, h]

/-- A write of p0 is discarded, and p0 reads 1 (R117). -/
theorem Core.preg_setP (q : Core) (n m : BitVec 3) (v : Bool) :
    (q.setP n v).preg m = if m = 0#3 then true else if m = n then v else q.preg m := by
  simp only [Core.preg, Core.setP, getLsbD_setPbit]
  by_cases h0 : m = 0#3
  · simp [h0]
  · by_cases h : m = n
    · subst h
      simp [h0]
    · simp [h0, h]

/-- Settles O8: each instruction is a change of one predicate at dispatch, and its relation is the one of Table 5.5. -/
theorem compareAndPredicateResults : Obligations.CompareAndPredicateResults := by
  unfold Obligations.CompareAndPredicateResults
  refine ⟨⟨fun c x s r h => ?_, Core.preg_setP⟩, fun c x s r h => ?_⟩
  · dsimp only
    rw [← Core.opS_eq]
    have put {v : Bool} (f : Word64 → Word64 → Bool)
        (hv : v = f ((s.core (coreKey c)).sreg x.a) ((s.core (coreKey c)).opS x)) :
        (.next (s.compare c x f) : Res) = .next (s.modCore (coreKey c) fun q => (q.setP (fieldPd x) v).next) := by
      rw [hv, h.compare]
    exact ⟨put (· == ·) (by simp [BitVec.toNat_inj, beq_eq_decide]),
      put (· != ·) (by simp [BitVec.toNat_inj, bne, beq_eq_decide]),
      put _ (BitVec.slt_eq_decide ..).symm, put _ (BitVec.ult_eq_decide ..).symm,
      put _ (BitVec.sle_eq_decide ..).symm, put _ (BitVec.ule_eq_decide ..).symm⟩
  · have put {v : Bool} (f : Bool → Bool → Bool)
        (hv : v = f ((s.core (coreKey c)).preg (fieldPa x)) ((s.core (coreKey c)).preg (fieldPb x))) :
        (.next (s.pred c x f) : Res) = .next (s.modCore (coreKey c) fun q => (q.setP (fieldPd x) v).next) := by
      rw [hv, h.pred]
    exact ⟨put _ (by simp [fieldPa, fieldPb]), put _ (by simp [fieldPa, fieldPb]),
      put (· != ·) (by simp [fieldPa, fieldPb, bne, beq_eq_decide]),
      put (fun a _ => !a) (by simp [fieldPa]), put (fun _ _ => x.imm.getLsbD 0) (by simp [Nat.testBit_zero, BitVec.getLsbD])⟩

end Sys2Proof.Machine
end

section
/-!
PROOF. Branches, loops, phases, status values and what waits for the engines (R62, R119, R124, R150).
-/

namespace Sys2Proof.Machine

open Sys2Proof

variable {s t : State} {k : Nat} {g : BitVec 4} {rd wr : List RegName} {r : RunTask}

/-- A report to the governor changes nothing but a partition (R150). -/
theorem State.notePhase_eq (s t : State) (k : Nat) : s.notePhase t k = { t with parts := (s.notePhase t k).parts } := by
  unfold State.notePhase
  split_ifs
  · rfl
  · split <;> rfl

theorem State.notePhase_core (s t : State) (k j : Nat) : (s.notePhase t k).core j = t.core j := by
  rw [State.notePhase_eq]
  rfl

theorem State.notePhase_mem (s t : State) (k : Nat) : (s.notePhase t k).mem = t.mem := by
  rw [State.notePhase_eq]

/-- An instruction that waits at dispatch until every engine has retired (R62, R124). -/
theorem Dispatches.afterEngines (h : Dispatches s k g [] wr r) (f : Core → Core) : s.afterEngines k g wr f =
    if (s.core k).retired then s.modCore k fun q => ((f q).modRaces fun _ => Races.none).next
    else s.modCore k fun q => { q with disp := { q.disp with drain := true } } := by
  unfold State.afterEngines
  rw [h.dispatch]

theorem branchPc_lt (pc : Nat) (imm : BitVec 32) : branchPc pc imm < 2 ^ 48 := by
  unfold branchPc
  omega

theorem Core.jump_branchPc_pc (q : Core) (pc : Nat) (imm : BitVec 32) : (q.jump (branchPc pc imm)).regs.pc = branchPc pc imm :=
  Nat.mod_eq_of_lt (branchPc_lt pc imm)

/-- LOOP counts sd down, and jumps while it is not 0 (R124). -/
def Core.loop (q : Core) (x : SArgs) : Core :=
  let v := q.sreg x.d - 1#64
  if v = 0#64 then (q.setS x.d v).next else (q.setS x.d v).jump (branchPc q.regs.pc x.imm)

theorem Dispatches.loop {c : CoreId} {x : SArgs} (h : Dispatches s (coreKey c) x.guard [.s x.d] [.s x.d] r) :
    exec (.loop c x) s = .next (s.modCore (coreKey c) (Core.loop · x)) :=
  congrArg Host.Outcome.next (h.dispatch _)

theorem Core.loop_sreg (q : Core) (x : SArgs) : (q.loop x).sreg x.d = q.sreg x.d - 1#64 := by
  unfold Core.loop
  dsimp only
  split_ifs <;> exact Core.sreg_setS ..

theorem Core.loop_pc (q : Core) (x : SArgs) : (q.loop x).regs.pc =
    if q.sreg x.d - 1#64 = 0#64 then (q.regs.pc + 8) % 2 ^ 48 else branchPc q.regs.pc x.imm := by
  unfold Core.loop
  dsimp only
  split_ifs
  · rfl
  · exact Core.jump_branchPc_pc ..

/-- A core status value of Table 5.2 reads at dispatch (R119). -/
theorem Dispatches.csrrd {c : CoreId} {x : SArgs} (h : Dispatches s (coreKey c) x.guard [] [.s x.d] r)
    (hx : x.imm.toNat % 4096 < 6) : exec (.csrrd c x) s = .next (s.modCore (coreKey c) fun q =>
      (q.setS x.d (BitVec.ofNat 64 (s.csr (coreKey c) r (x.imm.toNat % 4096)))).next) := by
  change execCsrrd c x s = _
  rw [execCsrrd, csrDefined, decide_eq_true hx, if_pos rfl, h.dispatch]

theorem Dispatches.phase {c : CoreId} {x : SArgs} (h : Dispatches s (coreKey c) x.guard [] [] r) :
    exec (.phase c x) s = .next (s.notePhase (s.modCore (coreKey c) fun q =>
      Core.next { q with regs := { q.regs with phase := x.imm.toNat % 16 } }) (coreKey c)) := by
  change execPhase c x s = _
  rw [execPhase, h.scalar]

/-- Settles O9: BR and LOOP set the program counter at dispatch, PHASE tells the governor and nothing else, a CSRRD of
Table 5.2 is a change of its core, and the flag instructions wait for the engines. -/
theorem controlResults : Obligations.ControlResults := by
  unfold Obligations.ControlResults
  refine ⟨fun c x s r => ⟨fun h => ⟨?_, ?_, ?_⟩, fun h => ?_, fun h hx => ?_⟩,
    fun c x s r => ⟨fun h => ?_, fun h => ⟨?_, ?_⟩⟩⟩
  · refine ⟨_, congrArg Host.Outcome.next (h.dispatch _), ?_, ?_, rfl⟩ <;> rw [State.core_modCore]
    · exact Core.jump_branchPc_pc ..
    · rfl
  · exact congrArg Host.Outcome.next (h.scalar id)
  · refine ⟨_, h.phase, ?_, ?_, ?_, State.notePhase_mem ..⟩ <;> rw [State.notePhase_core, State.core_modCore] <;> rfl
  · refine ⟨_, h.loop, ?_, ?_, rfl⟩ <;> rw [State.core_modCore]
    · exact Core.loop_sreg ..
    · exact Core.loop_pc ..
  · exact h.csrrd hx
  · rw [← apply_ite Host.Outcome.next]
    exact congrArg Host.Outcome.next (h.afterEngines _)
  · rw [← apply_ite Host.Outcome.next]
    exact congrArg Host.Outcome.next (h.afterEngines _)
  · rw [← apply_ite Host.Outcome.next]
    exact congrArg Host.Outcome.next (h.afterEngines _)

end Sys2Proof.Machine
end

section
/-!
PROOF. The frame of the sequencer's instructions (R113, R124).
-/

namespace Sys2Proof.Machine

open Sys2Proof

variable {s t : State} {k : Nat} {g : BitVec 4} {rd wr : List RegName} {r : RunTask} {c d : Core}

/-- From core c to d only the program counter, the phase, the registers of `wr` and what dispatch keeps may differ. -/
structure ScalarKeeps (wr : List RegName) (c d : Core) : Prop where
  frame : d = { c with
    regs := { c.regs with pc := d.regs.pc, s := d.regs.s, a := d.regs.a, phase := d.regs.phase }, disp := d.disp }
  sreg : ∀ n, RegName.s n ∉ wr → d.sreg n = c.sreg n
  areg : ∀ n, RegName.a n ∉ wr → d.areg n = c.areg n

namespace ScalarKeeps

theorem refl (wr : List RegName) (c : Core) : ScalarKeeps wr c c := ⟨rfl, fun _ _ => rfl, fun _ _ => rfl⟩

theorem setS (c : Core) (n : BitVec 5) (v : Word64) : ScalarKeeps [.s n] c (c.setS n v) :=
  ⟨rfl, fun m hm => Core.sreg_setS_ne _ _ (by simpa using hm), fun _ _ => rfl⟩

theorem setA (c : Core) (n : BitVec 4) (v : Word64) : ScalarKeeps [.a n] c (c.setA n v) :=
  ⟨rfl, fun _ _ => rfl, fun m hm => Core.areg_setA_ne _ _ (by simpa using hm)⟩

theorem next (h : ScalarKeeps wr c d) : ScalarKeeps wr c d.next := by
  refine ⟨?_, h.sreg, h.areg⟩
  unfold Core.next Core.setPc
  rw [h.frame]

theorem jump (h : ScalarKeeps wr c d) (pc : Nat) : ScalarKeeps wr c (d.jump pc) := by
  refine ⟨?_, h.sreg, h.areg⟩
  unfold Core.jump Core.setPc
  rw [h.frame]

theorem phase (c : Core) (n : Nat) : ScalarKeeps [] c { c with regs := { c.regs with phase := n } } :=
  ⟨rfl, fun _ _ => rfl, fun _ _ => rfl⟩

theorem loop (c : Core) (x : SArgs) : ScalarKeeps [.s x.d] c (c.loop x) := by
  unfold Core.loop
  dsimp only
  split_ifs
  · exact (setS c _ _).next
  · exact (setS c _ _).jump _

end ScalarKeeps

/-- What O10 says of an instruction that writes the registers `wr`. -/
def ScalarFramed (s : State) (k : Nat) (wr : List RegName) (t : State) : Prop :=
  (∀ n, RegName.s n ∉ wr → (t.core k).sreg n = (s.core k).sreg n) ∧
  (∀ n, RegName.a n ∉ wr → (t.core k).areg n = (s.core k).areg n) ∧
  (t.core k).regs.p = (s.core k).regs.p ∧ (t.core k).flags = (s.core k).flags ∧ (t.core k).regs.v = (s.core k).regs.v ∧
  (t.core k).regs.lctr = (s.core k).regs.lctr ∧ (t.core k).sp = (s.core k).sp ∧ (t.core k).mxe = (s.core k).mxe ∧
  (t.core k).hq = (s.core k).hq ∧ (t.core k).post = (s.core k).post ∧ (∀ j, j ≠ k → t.core j = s.core j) ∧
  (∀ a, t.memByte a = s.memByte a) ∧ (∀ w, t.word w = s.word w) ∧ ∀ e, t.ent e = s.ent e

theorem ScalarKeeps.framed {G : Core → Core} (h : ScalarKeeps wr (s.core k) (G (s.core k))) :
    ScalarFramed s k wr (s.modCore k G) := by
  obtain ⟨hf, hs, ha⟩ := h
  unfold ScalarFramed
  rw [State.core_modCore]
  refine ⟨hs, ha, ?_, ?_, ?_, ?_, ?_, ?_, ?_, ?_, fun _ hj => State.core_modCore_ne _ _ hj, fun _ => rfl, fun _ => rfl,
    fun _ => rfl⟩ <;> rw [hf]

theorem ScalarFramed.notePhase {u : State} (h : ScalarFramed s k wr t) : ScalarFramed s k wr (u.notePhase t k) := by
  rw [State.notePhase_eq]
  exact h

/-- Settles O10: each instruction of the list is a change of its core at dispatch that keeps all but what it writes. -/
theorem scalarFrame : Obligations.ScalarFrame := by
  unfold Obligations.ScalarFrame
  intro c x s r
  have changes {i : Instr} {rd wr : List RegName} (G : Core → Core)
      (hi : exec i s = .next (s.scalar (coreKey c) x.guard rd wr G))
      (hk : ScalarKeeps wr (s.core (coreKey c)) (G (s.core (coreKey c)))) (h : Dispatches s (coreKey c) x.guard rd wr r) :
      ∃ t, exec i s = .next t ∧ ScalarFramed s (coreKey c) wr t :=
    ⟨_, hi.trans (congrArg _ (h.scalar G)), hk.next.framed⟩
  have alu {i : Instr} (f : Word64 → Word64 → Word64) (hi : exec i s = .next (s.alu c x f)) :=
    changes _ hi (ScalarKeeps.setS _ _ _)
  change ∀ p ∈ scalarForms c x, Dispatches s (coreKey c) x.guard p.2.1 p.2.2 r →
    ∃ t, exec p.1 s = .next t ∧ ScalarFramed s (coreKey c) p.2.2 t
  simp only [scalarForms, List.forall_mem_cons, List.not_mem_nil, false_implies, implies_true, and_true]
  refine ⟨alu _ rfl, alu _ rfl, alu _ rfl, alu _ rfl, alu _ rfl, alu _ rfl, alu _ rfl, alu _ rfl, alu _ rfl, alu _ rfl,
    alu _ rfl, alu _ rfl, alu _ rfl, changes _ rfl (.setS _ _ _), changes _ rfl (.setS _ _ _), changes _ rfl (.setA _ _ _),
    changes _ rfl (.setA _ _ _), changes _ rfl (.setS _ _ _), fun h => ⟨_, h.loop, ?_⟩,
    fun h => ⟨_, congrArg Host.Outcome.next (h.dispatch _), ?_⟩, changes id rfl (.refl _ _), fun h => ⟨_, h.phase, ?_⟩⟩
  · exact (ScalarKeeps.loop _ x).framed
  · exact ((ScalarKeeps.refl _ _).jump _).framed
  · exact ((ScalarKeeps.phase _ _).next.framed (G := fun q =>
      Core.next { q with regs := { q.regs with phase := x.imm.toNat % 16 } })).notePhase

end Sys2Proof.Machine
end

section
/-!
PROOF. False guards, words that no instruction is, and the fetch (R114, R121, R122).
-/

namespace Sys2Proof.Machine

open Sys2Proof

variable {s t : State} {k : Nat} {g : BitVec 4} {rd wr : List RegName} {r : RunTask}

/-! ### A false guard -/

/-- An instruction whose fetch hits the cache and whose guard is false retires without effect (R121). -/
theorem State.dispatch_falseGuard (hr : (s.core k).ready = some r) (ha : (s.core k).regs.pc % 8 = 0)
    (hc : (s.core k).cached (s.core k).regs.pc = true) (hg : (s.core k).guard g = false) (rd wr : List RegName)
    (f : RunTask → State → State) : s.dispatch k g rd wr f = s.modCore k Core.next := by
  simp [State.dispatch, State.fetch, hr, ha, hc, hg]

/-- A core that keeps its phase reports nothing (R150). -/
theorem State.notePhase_same (h : (s.core k).regs.phase = (t.core k).regs.phase) : s.notePhase t k = t := if_pos h

/-! ### A word that no instruction is -/

/-- Such a word faults at dispatch with the record and the reset that R122 states. -/
theorem Dispatches.illegalWord (h : Dispatches s k 0#4 [] [] r) (w : Word64) : s.illegalWord k w =
    (s.logCore Code.illegalInstruction r.ctx k [(s.core k).regs.pc, w.toNat]).ctxReset r.ctx Code.illegalInstruction :=
  h.dispatch _

/-! ### The fetch -/

/-- The first part of a line of the instruction cache stands at its start. -/
theorem lineParts_256 {va : Nat} (h : va % 64 = 0) : ∃ l, lineParts va 256 = (va, 64) :: l := by
  rw [lineParts, if_neg (by norm_num), h, show List.range ((0 + 256 + 63) / 64) = 0 :: [1, 2, 3] from rfl, List.map_cons]
  refine ⟨_, congrArg₂ _ (Prod.ext ?_ ?_) rfl⟩
  · exact max_eq_left (by omega)
  · simp only [Nat.max_def, Nat.min_def]
    split_ifs <;> omega

/-- A page that is not mapped is mapped at none of its addresses. -/
theorem State.translate_line {n pc : Nat} (h : s.translate n pc = none) : s.translate n (pc / 256 * 256) = none := by
  have hle : Nat.ble (2 ^ 48) (pc / 256 * 256) = Nat.ble (2 ^ 48) pc := by
    rw [Bool.eq_iff_iff, Nat.ble_eq, Nat.ble_eq]
    omega
  have hlt : Nat.blt (pc / 256 * 256) (2 ^ 21) = Nat.blt pc (2 ^ 21) := by
    rw [Bool.eq_iff_iff, Nat.blt_eq, Nat.blt_eq]
    omega
  have hpage : pc / 256 * 256 / 2 ^ 21 = pc / 2 ^ 21 := by omega
  unfold State.translate at h ⊢
  rw [hle, hlt, hpage]
  split_ifs at h ⊢
  · rfl
  · rw [Option.map_eq_none_iff] at h ⊢
    exact h

/-- A fetch that R114 forbids. -/
theorem State.fetch_unmapped {n pc : Nat}
    (h : pc % 8 ≠ 0 ∨ ((s.core k).cached pc = false ∧ s.translate n pc = none)) :
    s.fetch k n pc = .error (Code.unmapped, pc) := by
  unfold State.fetch
  by_cases ha : pc % 8 = 0
  · obtain ⟨hc, ht⟩ := h.resolve_left (not_not.2 ha)
    obtain ⟨l, hl⟩ := lineParts_256 (va := pc / 256 * 256) (by omega)
    have hv : s.readVirt n (pc / 256 * 256) 256 = .fail Code.unmapped (pc / 256 * 256) := by
      rw [State.readVirt, hl, State.readParts, State.translate_line ht]
    simp [ha, hc, hv]
  · simp [ha]

/-- A fill changes the instruction cache of its core, which then holds the line (R114). -/
theorem State.fillCache_spec (s : State) (k line : Nat) : ∃ l, line ∈ l ∧
    (s.fillCache k line).core k = { s.core k with icache := l } ∧ (s.fillCache k line).mem = s.mem ∧
      (s.fillCache k line).sync = s.sync := by
  unfold State.fillCache
  dsimp only
  split_ifs
  · exact ⟨_, by simp, State.core_modCore _ _ _, rfl, rfl⟩
  · exact ⟨_, by simp, State.core_modCore _ _ _, rfl, rfl⟩

/-- A fetch of a line that the cache does not hold fills it from context memory (R114). -/
theorem State.fetch_fills {n pc : Nat} {b : List Byte} (ha : pc % 8 = 0) (hc : (s.core k).cached pc = false)
    (hv : s.readVirt n (pc / 256 * 256) 256 = .ok b) :
    ∃ u l, s.fetch k n pc = .ok u ∧ pc / 256 ∈ l ∧ u.core k = { s.core k with icache := l } ∧
      (∀ a, u.memByte a = s.memByte a) ∧ u.sync = s.sync := by
  obtain ⟨l, hl, hcore, hmem, hsync⟩ :=
    State.fillCache_spec (s.countLines n (pc / 256 * 256) 256 (s.coreDie k)) k (pc / 256)
  refine ⟨_, l, by simp [State.fetch, ha, hc, hv], hl, hcore, fun a => ?_, hsync⟩
  exact State.memByte_congr (congrArg Mem.cells hmem) a

/-- Settles O11: a false guard, a word that no instruction is and a forbidden fetch are each one outcome of dispatch; a fetch
that fills a line changes the cache and the counts of accesses before the instruction takes effect. -/
theorem falseGuardsAndFetchFaults : Obligations.FalseGuardsAndFetchFaults := by
  unfold Obligations.FalseGuardsAndFetchFaults
  refine ⟨fun c x s r hr ha hc hg => ?_, fun c w s r hw h => ?_, fun c x y w s r h => ⟨fun hx hw => ?_, fun hq hw => ?_,
    fun hq hw => ?_⟩, fun c x s r hr hpc => ?_, fun c x s r b hr ha hc hg hi hv => ?_⟩
  · have falls (rd wr : List RegName) (f : RunTask → State → State) :=
      State.dispatch_falseGuard hr ha hc hg rd wr f
    have retires {i : Instr} (hi : exec i s = .next (s.modCore (coreKey c) Core.next)) :
        ∃ t, exec i s = .next t ∧ t.core (coreKey c) = (s.core (coreKey c)).next ∧ t.mem = s.mem ∧ t.sync = s.sync ∧
          t.dict = s.dict ∧ t.rel = s.rel :=
      ⟨_, hi, State.core_modCore _ _ _, rfl, rfl, rfl, rfl⟩
    have hphase : exec (.phase c x) s = .next (s.modCore (coreKey c) Core.next) := by
      change execPhase c x s = _
      rw [execPhase, State.scalar, falls, State.notePhase_same]
      rw [State.core_modCore]
      rfl
    have at_ {rd wr : List RegName} {f : RunTask → State → State} :=
      congrArg (Host.Outcome.next (φ := Fault) (ρ := Refusal)) (falls rd wr f)
    simp only [List.forall_mem_cons, List.not_mem_nil, false_implies, implies_true, and_true]
    exact ⟨retires at_, retires at_, retires at_, retires at_, retires at_, retires at_, retires at_, retires at_, retires at_,
      retires at_, retires at_, retires at_, retires hphase, retires at_⟩
  · change execIllegalInstruction c w s = _
    rw [execIllegalInstruction, hw]
    exact congrArg _ (h.illegalWord w)
  · obtain rfl := Option.some.inj hw
    change execCsrrd c x s = _
    rw [execCsrrd, csrDefined, decide_eq_false (by omega), if_neg (by decide)]
    exact congrArg _ (h.illegalWord _)
  · obtain rfl := Option.some.inj hw
    change execScommit c y s = _
    rw [execScommit, if_pos hq]
    exact congrArg _ (h.illegalWord _)
  · obtain rfl := Option.some.inj hw
    change execSbar c y s = _
    rw [execSbar, if_pos hq]
    exact congrArg _ (h.illegalWord _)
  · change execAdd c x s = _
    rw [execAdd, State.alu, State.scalar, State.dispatch]
    simp only [hr, State.fetch_unmapped hpc]
    rfl
  · obtain ⟨u, l, hf, hl, hcore, hmem, hsync⟩ := State.fetch_fills ha hc hv
    refine ⟨u.modCore (coreKey c) fun q => (q.setS x.d (x.imm.signExtend 64)).next, ?_, ?_, ?_, ?_, hmem, hsync⟩
    · change execLi c x s = _
      rw [execLi, State.scalar, State.dispatch]
      simp [hr, hf, hg, hi]
    all_goals rw [State.core_modCore, hcore]
    · exact List.contains_iff_mem.2 hl
    · exact Core.sreg_setS _ _ _
    · rfl

end Sys2Proof.Machine
end

section
/-!
SUPPORT. Synchronisation instructions that act: what they read does not depend on dispatch, and how an instruction that
reaches beyond its core ends.
-/

namespace Sys2Proof.Machine

open Sys2Proof

variable {s t : State} {k : Nat} {g : BitVec 4} {r : RunTask} {op : EngOp}

/-- A core after a change of one core, by whether it is the one. -/
theorem State.core_modCore_ite (s : State) (k j : Nat) (f : Core → Core) :
    (s.modCore k f).core j = if j = k then f (s.core j) else s.core j := by
  split
  · next h => rw [h, State.core_modCore]
  · next h => exact State.core_modCore_ne _ _ h

theorem Touches.congr {f f' : Core → Core} (h : Touches s t k f) (hf : f' (s.core k) = f (s.core k)) : Touches s t k f' :=
  ⟨h.1, h.2.1, h.2.2.trans hf.symm⟩

/-- The unit of an instruction has retired its earlier ones, wherever it acts. -/
theorem Core.earlierRetired_acting {s' : State} {u : CoreUnit} (hs : s' = s ∨ s' = s.modCore k (Core.enqueue · op))
    (h : (s.core k).earlierRetired u = true) : (s'.core k).earlierRetired u = true := by
  rcases hs with rfl | rfl
  · exact h
  · rw [State.core_modCore, Core.enqueue_earlierRetired, h]

/-- Core q with the program counter and dispatch of core c. -/
def Core.at (q c : Core) : Core := q.placed c.regs.pc c.disp

theorem Core.at_quiet (q : Core) : Quiet q.at := fun _ _ _ => rfl

/-- An instruction that is done wherever it acts and makes q of its core, whatever else it changes: dispatch goes on, and
what `R` says of the rest of the machine stands. -/
theorem Issues.ends (h : Issues s k g op r) {q : Core} {R : State → Prop} (hR : ∀ u f, R u → R (u.modCore k f))
    (hd : ∀ s' : State, s' = s ∨ s' = s.modCore k (Core.enqueue · op) →
      ∃ s1 z, s'.runHead k op.unit r (QEntry.new (s.core k) op) = .done s1 ∧
        s1.core k = (q.at (s'.core k)).modRaces z ∧ R s1) :
    R (s.issue k g op) ∧ ∃ d, (s.issue k g op).core k = q.placed (((s.core k).regs.pc + 8) % 2 ^ 48) d := by
  by_cases hu : op.unit = .seq
  · obtain ⟨s1, z, h1, h2, h3⟩ := hd s (.inl rfl)
    rw [h.atDispatch hu, State.runAtDispatch, ← hu, h1]
    exact ⟨hR _ _ h3, _, (State.core_modCore _ _ _).trans (by rw [h2]; rfl)⟩
  · obtain ⟨s1, z, h1, h2, h3⟩ := hd _ (.inr rfl)
    have hpop : ∃ d, (s1.modCore k (Core.pop · op.unit)).core k = q.placed (((s.core k).regs.pc + 8) % 2 ^ 48) d := by
      have hq := (Core.at_quiet q).pop_enqueue (s.core k) op hu (h.place.resolve_left hu).1
      rw [State.core_modCore, h2, State.core_modCore, Core.pop_modRaces, hq]
      exact ⟨_, rfl⟩
    rw [h.done hu h1]
    split_ifs
    · rcases (s1.modCore k (Core.pop · op.unit)).settleGrant_cases k with hg | hg <;> rw [hg]
      · exact ⟨hR _ _ h3, hpop⟩
      · obtain ⟨d, hpop⟩ := hpop
        exact ⟨hR _ _ (hR _ _ h3), _, (State.core_modCore _ _ _).trans (by rw [hpop]; rfl)⟩
    · exact ⟨hR _ _ h3, hpop⟩

end Sys2Proof.Machine
end

section
/-!
PROOF. Local counters and queues (R127, R174), and the cross-core handle queues (R175, R176).
-/

namespace Sys2Proof.Machine

open Sys2Proof

variable {s t : State} {k : Nat} {g : BitVec 4} {r : RunTask} {x : YArgs}

/-! ### Local forms -/

/-- A local form changes its core and then records its step in the period (R127, R156). -/
theorem Issues.actsMarked {op : EngOp} (h : Issues s k g op r) {G : Core → Core} (hG : Quiet G)
    (hd : ∀ s' : State, s' = s ∨ s' = s.modCore k (Core.enqueue · op) → (s'.core k).earlierRetired op.unit = true →
      ∃ (s1 : State) (m : Core → Races → Races),
        s'.runHead k op.unit r (QEntry.new (s.core k) op) = .done (s1.modCore k fun c => c.modRaces (m c)) ∧
          Touches s' s1 k G)
    (he : (s.core k).earlierRetired op.unit = true) : Retires s (s.issue k g op) k op.unit G := by
  refine h.acts hG fun s' hs => ?_
  obtain ⟨s1, m, hrun, ht⟩ := hd s' hs (Core.earlierRetired_acting hs he)
  exact ⟨_, m (G (s'.core k)), hrun, (ht.trans (Touches.modCore s1 k _)).congr rfl⟩

theorem sat64_of_lt {v : Nat} (h : v < 2 ^ 64) : sat64 v = v := Nat.min_eq_left (by omega)

/-- SPOST with L = 1 adds to a local counter (R127). -/
theorem Issues.spostLocal_retires (h : Issues s k g (.spost true x) r)
    (he : (s.core k).earlierRetired (qUnit x.q) = true)
    (hv : (s.core k).lctr ((s.core k).opA x % 16) + (s.core k).opB x < 2 ^ 64) :
    Retires s (s.issue k g (.spost true x)) k (qUnit x.q) (Core.setLctr · ((s.core k).opA x % 16)
      ((s.core k).lctr ((s.core k).opA x % 16) + (s.core k).opB x)) := by
  refine h.actsMarked (fun _ _ _ => rfl) (fun s' hs he' => ?_) he
  have hb : Nat.blt 18446744073709551615 ((s.core k).lctr ((s.core k).opA x % 16) + (s.core k).opB x) = false := by
    rw [← Bool.not_eq_true, Nat.blt_eq]
    omega
  have hact : s'.actSpostLocal k r.ctx (QEntry.new (s.core k) (.spost true x)) x = .done (s'.modCore k
      (Core.setLctr · ((s.core k).opA x % 16) ((s.core k).lctr ((s.core k).opA x % 16) + (s.core k).opB x))) := by
    rcases hs with rfl | rfl <;> simp [State.actSpostLocal, hb, sat64_of_lt hv]
  exact ⟨_, _, (if_neg (by simp [he'])).trans ((if_pos rfl).trans (congrArg (HeadRes.onDone · _) hact)),
    Touches.modCore _ _ _⟩

/-- SWAIT with L = 1 goes on where the counter has reached b (R127). -/
theorem Issues.swaitLocal_retires (h : Issues s k g (.swait true x) r)
    (he : (s.core k).earlierRetired (qUnit x.q) = true)
    (hv : (s.core k).opB x ≤ (s.core k).lctr ((s.core k).opA x % 16)) :
    Retires s (s.issue k g (.swait true x)) k (qUnit x.q) id := by
  refine h.actsMarked (fun _ _ _ => rfl) (fun s' hs he' => ?_) he
  have hact : s'.actSwaitLocal k (QEntry.new (s.core k) (.swait true x)) x = .done s' := by
    have hb : Nat.ble ((s.core k).opB x) ((s.core k).lctr ((s.core k).opA x % 16)) = true := by rwa [Nat.ble_eq]
    rcases hs with rfl | rfl <;> simp [State.actSwaitLocal, hb]
  exact ⟨_, _, (if_neg (by simp [he'])).trans ((if_pos rfl).trans (congrArg (HeadRes.onDone · _) hact)), Touches.rfl _ _⟩

/-- HPUSH with L = 1 appends to a local queue of fewer than 16 entries (R174). -/
theorem Issues.hpushLocal_retires (h : Issues s k g (.hpush true x) r)
    (he : (s.core k).earlierRetired (qUnit x.q) = true)
    (hv : ((s.core k).local ((s.core k).opA x % 8)).length < 16) :
    Retires s (s.issue k g (.hpush true x)) k (qUnit x.q) (Core.setLocal · ((s.core k).opA x % 8)
      ((s.core k).local ((s.core k).opA x % 8) ++ [BitVec.ofNat 64 ((s.core k).opB x)])) := by
  refine h.actsMarked (fun _ _ _ => rfl) (fun s' hs he' => ?_) he
  have hb : Nat.ble 16 ((s'.core k).local ((s'.core k).opA x % 8)).length = false := by
    rw [← Bool.not_eq_true, Nat.ble_eq]
    rcases hs with rfl | rfl <;> simpa using hv
  have hact : s'.actHpushLocal k (QEntry.new (s.core k) (.hpush true x)) x = .done (s'.modCore k fun c =>
      c.setLocal ((s'.core k).opA x % 8) (c.local ((s'.core k).opA x % 8) ++ [BitVec.ofNat 64 (c.opB x)])) := by
    simp [State.actHpushLocal, hb]
  refine ⟨_, _, (if_neg (by simp [he'])).trans ((if_pos rfl).trans (congrArg (HeadRes.onDone · _) hact)),
    (Touches.modCore _ _ _).congr ?_⟩
  rcases hs with rfl | rfl <;> simp

/-- HPOP with L = 1 takes the oldest entry of a local queue (R174). -/
theorem Issues.hpopLocal_retires {v : Word64} {l : List Word64} (h : Issues s k g (.hpop true x) r)
    (he : (s.core k).earlierRetired (qUnit x.q) = true)
    (hv : (s.core k).local ((s.core k).opA x % 8) = v :: l) :
    Retires s (s.issue k g (.hpop true x)) k (qUnit x.q) fun q => (q.setLocal ((s.core k).opA x % 8) l).setS x.d v := by
  refine h.actsMarked (fun _ _ _ => rfl) (fun s' hs he' => ?_) he
  have hact : s'.actHpopLocal k (QEntry.new (s.core k) (.hpop true x)) x = .done (s'.modCore k fun q =>
      (q.setLocal ((s.core k).opA x % 8) l).setS x.d v) := by
    rcases hs with rfl | rfl <;> simp [State.actHpopLocal, hv]
  exact ⟨_, _, (if_neg (by simp [he'])).trans ((if_pos rfl).trans (congrArg (HeadRes.onDone · _) hact)),
    Touches.modCore _ _ _⟩

/-! ### Cross-core handle queues -/

/-- A push takes an entry of its own (R141). -/
theorem combinePost_push {d h slot : Nat} {v : Word64} {e : PostEntry} (hk : e.kind = .push d h slot v)
    (l : List PostEntry) : combinePost e l = none := by
  induction l with
  | nil => rfl
  | cons a l ih =>
    have hc : (if a.committed then none else a.kind.combines e.kind) = none := by
      rw [hk]
      cases a.committed <;> cases a.kind <;> rfl
    simp only [combinePost, hc, ih, Option.map_none]

/-- An effect that finds room, or combines, is held (R141). -/
theorem Core.hold_held (c : Core) (n tag pc seq : Nat) (kind : PostKind) {e : PostEntry}
    (he : e = { kind := kind, committed := false, ctx := n, tag := tag, pc := pc, seq := seq })
    (hroom : (combinePost e c.post).isSome = true ∨ c.post.length < 256) :
    c.hold n tag pc seq kind = .held { c with post := enterPost e c.post } := by
  subst he
  unfold Core.hold
  dsimp only
  rw [if_pos]
  rw [Bool.or_eq_true, Nat.blt_eq]
  exact hroom

theorem State.holdPost_held {n : Nat} {e : QEntry} {kind : PostKind} {p : PostEntry} (f : State → State)
    (hp : p = { kind := kind, committed := false, ctx := n, tag := s.tag n, pc := e.pc, seq := e.seq })
    (hroom : (combinePost p (s.core k).post).isSome = true ∨ (s.core k).post.length < 256) :
    s.holdPost k n e kind f = .done (f (s.setCore k { s.core k with post := enterPost p (s.core k).post })) := by
  simp only [State.holdPost, Core.hold_held _ _ _ _ _ _ hp hroom]

/-- From s to s' core k differs at most by its program counter and dispatch, and nothing else that a synchronisation
instruction reads differs: so it is where an instruction acts. -/
structure ActsAs (s s' : State) (k : Nat) : Prop where
  sync : s'.sync = s.sync
  mem : s'.mem = s.mem
  handle : s'.handle = s.handle
  tag : s'.tag = s.tag
  target : s'.target = s.target
  peerOf : s'.peerOf = s.peerOf
  free : s'.freeNat.1 = s.freeNat.1
  core : s'.core k = (s.core k).at (s'.core k)
  other : ∀ j, j ≠ k → s'.core j = s.core j

theorem ActsAs.of_acting {op : EngOp} {s' : State} (hs : s' = s ∨ s' = s.modCore k (Core.enqueue · op)) : ActsAs s s' k := by
  rcases hs with rfl | rfl
  · exact ⟨rfl, rfl, rfl, rfl, rfl, rfl, rfl, rfl, fun _ _ => rfl⟩
  · exact ⟨rfl, rfl, rfl, rfl, rfl, rfl, rfl, by rw [State.core_modCore]; rfl, fun _ hj => State.core_modCore_ne _ _ hj⟩

namespace ActsAs

variable {s' : State} (h : ActsAs s s' k)

include h

theorem opA : (s'.core k).opA x = (s.core k).opA x := by rw [h.core]; rfl
theorem opB : (s'.core k).opB x = (s.core k).opB x := by rw [h.core]; rfl
theorem post : (s'.core k).post = (s.core k).post := by rw [h.core]; rfl

theorem hq (j : Nat) : (s'.core j).hq = (s.core j).hq := by
  by_cases hj : j = k
  · rw [hj, h.core]
    rfl
  · rw [h.other j hj]

end ActsAs

/-- A change of a core's handle queues that reads nothing else. -/
structure HqOp (G : Core → Core) : Prop where
  frame : ∀ c, G c = { c with hq := (G c).hq }
  reads : ∀ c c', c.hq = c'.hq → (G c).hq = (G c').hq

theorem HqOp.of_hq {G : Core → Core} (hG : HqOp G) {c c' : Core} (h : c.hq = c'.hq) : G c = { c with hq := (G c').hq } := by
  rw [hG.frame, hG.reads c c' h]

theorem HqOp.comp {G H : Core → Core} (hH : HqOp H) (hG : HqOp G) : HqOp fun c => H (G c) :=
  ⟨fun c => by rw [hH.frame, hG.frame], fun _ _ h => hH.reads _ _ (hG.reads _ _ h)⟩

theorem Core.producers_congr {c c' : Core} (h : c.hq = c'.hq) (q : Nat) : c.producers q = c'.producers q := by
  rw [Core.producers, h, Core.producers]

theorem Core.consumers_congr {c c' : Core} (h : c.hq = c'.hq) (q : Nat) : c.consumers q = c'.consumers q := by
  rw [Core.consumers, h, Core.consumers]

theorem Core.setSlot_hqOp (q slot : Nat) (v : Word64) : HqOp (Core.setSlot · q slot v) :=
  ⟨fun _ => rfl, fun c c' h => by simp [Core.setSlot, h]⟩

theorem Core.pushedBy_hqOp (q k : Nat) : HqOp (Core.pushedBy · q k) := by
  refine ⟨fun c => ?_, fun c c' h => ?_⟩
  · unfold Core.pushedBy
    split <;> rfl
  · unfold Core.pushedBy
    rw [Core.producers_congr h]
    split
    · exact h
    · dsimp only
      rw [h]

/-- The consumer of a queue with a descriptor that core k pushes (R176). -/
def Core.takesPush (c : Core) (h slot : Nat) (v : Word64) (k : Nat) : Core := (c.setSlot h slot v).pushedBy h k

theorem Core.takesPush_hqOp (h slot : Nat) (v : Word64) (k : Nat) : HqOp (Core.takesPush · h slot v k) :=
  (Core.pushedBy_hqOp h k).comp (Core.setSlot_hqOp h slot v)

/-- A push places its descriptor and leaves the producer count (R176). -/
theorem Core.takesPush_spec (c : Core) (h slot : Nat) (v : Word64) (k : Nat) :
    SMap.get (fun _ => (0#64 : Word64)) (c.takesPush h slot v k).hq.slot (16 * h + slot) = v ∧
      (c.takesPush h slot v k).hq.pc = c.hq.pc := by
  have hs : (c.takesPush h slot v k).hq.slot = (c.setSlot h slot v).hq.slot ∧ (c.takesPush h slot v k).hq.pc = c.hq.pc := by
    unfold Core.takesPush Core.pushedBy
    split <;> exact ⟨rfl, rfl⟩
  rw [hs.1]
  exact ⟨SMap.get_set_same _ _ _ _, hs.2⟩

theorem Core.pcount_congr {c c' : Core} (h : c.hq = c'.hq) (q : Nat) : c.pcount q = c'.pcount q := by
  rw [Core.pcount, h, Core.pcount]

theorem Core.ccount_congr {c c' : Core} (h : c.hq = c'.hq) (q : Nat) : c.ccount q = c'.ccount q := by
  rw [Core.ccount, h, Core.ccount]

theorem Core.view_congr {c c' : Core} (h : c.hq = c'.hq) (q : Nat) : c.view q = c'.view q := by
  have hc : c.ccount = c'.ccount := funext fun j => Core.ccount_congr h j
  rw [Core.view, h, hc, Core.view]

theorem Core.shared_congr {c c' : Core} (h : c.hq = c'.hq) (q : Nat) : c.shared q = c'.shared q := by
  rw [Core.shared, Core.producers_congr h, Core.consumers_congr h, Core.shared]

/-- A core whose posts and handle queues are replaced, with the program counter and dispatch of another. -/
theorem Core.at_withHeld {c c0 : Core} (h : c = c0.at c) (l : List PostEntry) (hq : Handles) :
    { c with post := l, hq := hq } = ({ c0 with post := l, hq := hq } : Core).at c :=
  congrArg (fun d : Core => ({ d with post := l, hq := hq } : Core)) h

/-- A push that finds room: it is held, and the consumer takes its descriptor (R176). -/
theorem State.actHpush_held {n d q place : Nat} {e : QEntry} {p : PostEntry}
    (hh : s.handle n ((s.core k).opA x) = some (d, q)) (hplace : (s.core d).pcount q + (s.core k).pushesTo d q = place)
    (hroom : place ≤ (s.core d).ccount q + bitsAt ((s.core k).opA x) 32 4) (hpost : (s.core k).post.length < 256)
    (hp : p = { kind := .push d q (place % 16) (BitVec.ofNat 64 ((s.core k).opB x)), committed := false, ctx := n,
                tag := s.tag n, pc := e.pc, seq := e.seq }) :
    s.actHpush k n e x = .done ((s.setCore k { s.core k with post := insertPost p (s.core k).post }).modCore d
      (Core.takesPush · q (place % 16) (BitVec.ofNat 64 ((s.core k).opB x)) k)) := by
  have hb : Nat.ble ((s.core d).ccount q + bitsAt ((s.core k).opA x) 32 4 + 1) place = false := by
    rw [← Bool.not_eq_true, Nat.ble_eq]
    omega
  have henter : enterPost p (s.core k).post = insertPost p (s.core k).post := by
    rw [enterPost, combinePost_push (congrArg PostEntry.kind hp)]
  simp only [State.actHpush, hh, hplace, hb, Bool.false_eq_true, if_false, State.holdPost_held _ hp (.inr hpost), henter]
  rfl

/-- A push that finds room is held, and its descriptor stands in its slot (R176). -/
theorem Issues.hpush_ends {d q place : Nat} {p : PostEntry} (h : Issues s k g (.hpush false x) r)
    (he : (s.core k).earlierRetired (qUnit x.q) = true) (hh : s.handle r.ctx ((s.core k).opA x) = some (d, q))
    (hplace : (s.core d).pcount q + (s.core k).pushesTo d q = place)
    (hroom : place ≤ (s.core d).ccount q + bitsAt ((s.core k).opA x) 32 4) (hpost : (s.core k).post.length < 256)
    (hp : p = { kind := .push d q (place % 16) (BitVec.ofNat 64 ((s.core k).opB x)), committed := false, ctx := r.ctx,
                tag := s.tag r.ctx, pc := (s.core k).regs.pc, seq := (s.core k).disp.count }) :
    let t := s.issue k g (.hpush false x)
    (t.core k).post = insertPost p (s.core k).post ∧
      (t.core k).regs = { (s.core k).regs with pc := ((s.core k).regs.pc + 8) % 2 ^ 48 } ∧
      (t.core d).hq = ((s.core d).takesPush q (place % 16) (BitVec.ofNat 64 ((s.core k).opB x)) k).hq ∧
      t.sync = s.sync ∧ t.mem = s.mem := by
  have hG := Core.takesPush_hqOp q (place % 16) (BitVec.ofNat 64 ((s.core k).opB x)) k
  generalize hGdef : (Core.takesPush · q (place % 16) (BitVec.ofNat 64 ((s.core k).opB x)) k) = G at hG
  rw [show (s.core d).takesPush q (place % 16) (BitVec.ofNat 64 ((s.core k).opB x)) k = G (s.core d) from congrFun hGdef _]
  have hends := h.ends
    (q := { s.core k with
      post := insertPost p (s.core k).post, hq := if d = k then (G (s.core k)).hq else (s.core k).hq })
    (R := fun u => u.sync = s.sync ∧ u.mem = s.mem ∧ (d ≠ k → u.core d = G (s.core d)))
    (fun u f ⟨h1, h2, h3⟩ => ⟨h1, h2, fun hd => (State.core_modCore_ne _ _ hd).trans (h3 hd)⟩) fun s' hs => by
      have ha := ActsAs.of_acting hs
      have hact := State.actHpush_held (s := s') (x := x) (n := r.ctx) (e := QEntry.new (s.core k) (.hpush false x)) (p := p)
        (place := place) (by rw [ha.handle, ha.opA, hh])
        (by rw [Core.pcount_congr (ha.hq d), Core.pushesTo, ha.post]; exact hplace)
        (by rw [Core.ccount_congr (ha.hq d), ha.opA]; exact hroom) (by rw [ha.post]; exact hpost)
        (by rw [ha.opB, ha.tag]; exact hp)
      rw [ha.opB, ha.post, hGdef] at hact
      have he' := Core.earlierRetired_acting (u := (EngOp.hpush false x).unit) hs he
      refine ⟨_, id, (if_neg (by simp [he'])).trans ((if_neg (by nofun)).trans hact), ?_, ha.sync, ha.mem, fun hd => ?_⟩
      · rw [State.core_modCore_ite, State.core_setCore]
        by_cases hd : d = k
        · rw [if_pos hd.symm, if_pos hd]
          exact (hG.of_hq (c := { s'.core k with post := insertPost p (s.core k).post }) (ha.hq k)).trans
            (Core.at_withHeld ha.core _ _)
        · rw [if_neg (Ne.symm hd), if_neg hd, ← ha.hq k]
          exact Core.at_withHeld ha.core _ _
      · rw [State.core_modCore, State.core_setCore_ne _ _ hd, ha.other d hd]
  obtain ⟨⟨hsync, hmem, hother⟩, e, hcore⟩ := hends
  refine ⟨by rw [hcore]; rfl, by rw [hcore]; rfl, ?_, hsync, hmem⟩
  by_cases hd : d = k
  · subst hd
    rw [hcore]
    exact if_pos rfl
  · rw [hother hd]

theorem Core.poppedBy_hqOp (q k : Nat) : HqOp (Core.poppedBy · q k) := by
  refine ⟨fun c => ?_, fun c c' h => ?_⟩
  · unfold Core.poppedBy
    split <;> rfl
  · unfold Core.poppedBy
    rw [Core.consumers_congr h]
    split
    · exact h
    · dsimp only
      rw [h]

theorem Core.setView_hqOp (q v : Nat) : HqOp (Core.setView · q v) := by
  refine ⟨fun _ => rfl, fun c c' h => ?_⟩
  have hc : c.ccount = c'.ccount := funext fun j => Core.ccount_congr h j
  simp [Core.setView, h, hc]

/-- A consumer that pops a descriptor from its own queue and holds the advance (R176). -/
def Core.takesPop (c : Core) (l : List PostEntry) (q v k : Nat) (d : BitVec 5) (w : Word64) : Core :=
  ((Core.setView { c with post := l } q v).poppedBy q k).setS d w

theorem HqOp.quiet {G : Core → Core} (hG : HqOp G) : Quiet G := by
  rw [quiet_iff_placed]
  intro c pc d
  rw [hG.of_hq (c := c.placed pc d) (c' := c) rfl, hG.frame c]
  rfl

theorem Core.takesPop_quiet (l : List PostEntry) (q v k : Nat) (d : BitVec 5) (w : Word64) :
    Quiet (Core.takesPop · l q v k d w) := by
  rw [quiet_iff_placed]
  intro c pc e
  have h := quiet_iff_placed.1 ((Core.poppedBy_hqOp q k).comp (Core.setView_hqOp q v)).quiet { c with post := l } pc e
  exact congrArg (Core.setS · d w) h

theorem Core.takesPop_spec (c : Core) (l : List PostEntry) (q v k : Nat) (d : BitVec 5) (w : Word64) :
    (c.takesPop l q v k d w).sreg d = w ∧ (c.takesPop l q v k d w).view q = v ∧
      (c.takesPop l q v k d w).ccount q = c.ccount q := by
  have hq : (c.takesPop l q v k d w).hq = ((c.setView q v).poppedBy q k).hq :=
    (Core.poppedBy_hqOp q k).reads _ _ ((Core.setView_hqOp q v).reads _ _ rfl)
  have hp : ((c.setView q v).poppedBy q k).hq.cc = c.hq.cc ∧
      ((c.setView q v).poppedBy q k).hq.view = (c.setView q v).hq.view := by
    unfold Core.poppedBy
    split <;> exact ⟨rfl, rfl⟩
  have hcc : (c.takesPop l q v k d w).ccount = c.ccount := by
    unfold Core.ccount
    rw [hq, hp.1]
  refine ⟨Core.sreg_setS _ _ _, ?_, congrFun hcc q⟩
  rw [Core.view, hcc, hq, hp.2]
  exact SMap.get_set_same _ _ _ _

/-- The descriptor that a pop of core k from its own queue delivers; a free one where producers or consumers are several
(R175, R176). -/
def State.popValue (s : State) (k q : Nat) : Word64 :=
  if ((s.core k).poppedBy q k).shared q then BitVec.ofNat 64 s.freeNat.1
  else SMap.get (fun _ => (0#64 : Word64)) (s.core k).hq.slot (16 * q + (s.core k).view q % 16)

/-- A pop of the own queue that finds a descriptor and room for its advance (R176). -/
theorem State.actHpop_held {n q : Nat} {e : QEntry} {p : PostEntry} (hh : s.handle n ((s.core k).opA x) = some (k, q))
    (hv : (s.core k).view q < (s.core k).pcount q)
    (hp : p = { kind := .adv q ((s.core k).view q + 1), committed := false, ctx := n, tag := s.tag n, pc := e.pc, seq := e.seq })
    (hroom : (combinePost p (s.core k).post).isSome = true ∨ (s.core k).post.length < 256) :
    ∃ t, s.actHpop k n e x = .done t ∧ t.sync = s.sync ∧ t.mem = s.mem ∧ (∀ j, j ≠ k → t.core j = s.core j) ∧
      t.core k = (s.core k).takesPop (enterPost p (s.core k).post) q ((s.core k).view q + 1) k x.d (s.popValue k q) := by
  have hb : Nat.ble ((s.core k).pcount q) ((s.core k).view q) = false := by
    rw [← Bool.not_eq_true, Nat.ble_eq]
    omega
  simp only [State.actHpop, hh, hb, Bool.false_eq_true, if_false, if_true, State.popValue]
  cases ((s.core k).poppedBy q k).shared q with
  | true =>
    simp only [if_true]
    refine ⟨_, State.holdPost_held (s := s.freeNat.2) _ hp hroom, rfl, rfl, fun j hj => ?_, ?_⟩
    · rw [State.core_modCore_ne _ _ hj, State.core_setCore_ne _ _ hj]
      rfl
    · rw [State.core_modCore, State.core_setCore]
      rfl
  | false =>
    simp only [Bool.false_eq_true, if_false]
    refine ⟨_, State.holdPost_held _ hp hroom, rfl, rfl, fun j hj => ?_, ?_⟩
    · rw [State.core_modCore_ne _ _ hj, State.core_setCore_ne _ _ hj]
    · rw [State.core_modCore, State.core_setCore]
      rfl

/-- A pop of the own queue takes effect and holds its advance (R176). -/
theorem Issues.hpop_ends {q : Nat} {p : PostEntry} (h : Issues s k g (.hpop false x) r)
    (he : (s.core k).earlierRetired (qUnit x.q) = true) (hh : s.handle r.ctx ((s.core k).opA x) = some (k, q))
    (hv : (s.core k).view q < (s.core k).pcount q)
    (hp : p = { kind := .adv q ((s.core k).view q + 1), committed := false, ctx := r.ctx, tag := s.tag r.ctx,
                pc := (s.core k).regs.pc, seq := (s.core k).disp.count })
    (hroom : (combinePost p (s.core k).post).isSome = true ∨ (s.core k).post.length < 256) :
    let t := s.issue k g (.hpop false x)
    (t.sync = s.sync ∧ t.mem = s.mem ∧ ∀ j, j ≠ k → t.core j = s.core j) ∧ ∃ d, t.core k = ((s.core k).takesPop
      (enterPost p (s.core k).post) q ((s.core k).view q + 1) k x.d (s.popValue k q)).placed
        (((s.core k).regs.pc + 8) % 2 ^ 48) d := by
  refine h.ends (R := fun u => u.sync = s.sync ∧ u.mem = s.mem ∧ ∀ j, j ≠ k → u.core j = s.core j)
    (fun u f ⟨h1, h2, h3⟩ => ⟨h1, h2, fun j hj => (State.core_modCore_ne _ _ hj).trans (h3 j hj)⟩) fun s' hs => ?_
  have ha := ActsAs.of_acting hs
  have hview : (s'.core k).view q = (s.core k).view q := Core.view_congr (ha.hq k) q
  have hval : s'.popValue k q = s.popValue k q := by
    rw [State.popValue, Core.shared_congr ((Core.poppedBy_hqOp q k).reads _ _ (ha.hq k)), ha.free, ha.hq k, hview, State.popValue]
  obtain ⟨u, hact, hsync, hmem, hother, hcore⟩ := State.actHpop_held (s := s') (x := x) (n := r.ctx)
    (e := QEntry.new (s.core k) (.hpop false x)) (p := p) (by rw [ha.handle, ha.opA, hh])
    (by rw [Core.pcount_congr (ha.hq k), hview]; exact hv) (by rw [hview, ha.tag]; exact hp) (by rw [ha.post]; exact hroom)
  have he' := Core.earlierRetired_acting (u := (EngOp.hpop false x).unit) hs he
  refine ⟨u, id, (if_neg (by simp [he'])).trans ((if_neg (by nofun)).trans hact), ?_, hsync.trans ha.sync, hmem.trans ha.mem,
    fun j hj => (hother j hj).trans (ha.other j hj)⟩
  rw [hcore, ha.post, hview, hval, ha.core]
  exact Core.takesPop_quiet _ _ _ _ _ _ _ _ _

/-- Settles O13: a local form is a change of its core; a push changes its core's posts and its consumer's queue, a pop of the
own queue its core alone. -/
theorem localSyncAndHandleQueues : Obligations.LocalSyncAndHandleQueues := by
  unfold Obligations.LocalSyncAndHandleQueues
  refine ⟨fun c x s r => ⟨fun h he hv => ⟨_, rfl, h.spostLocal_retires he hv⟩,
    fun h he hv => ⟨_, rfl, h.swaitLocal_retires he hv⟩, fun h he hv => ⟨_, rfl, h.hpushLocal_retires he hv⟩,
    fun v l h he hv => ⟨_, rfl, h.hpopLocal_retires he hv⟩⟩, fun c x s r d q => ⟨fun h he hh hroom hpost => ?_,
    fun h he hh hv hroom => ?_⟩⟩
  · obtain ⟨hp, hregs, hhq, hsync, hmem⟩ := h.hpush_ends he hh rfl hroom hpost rfl
    obtain ⟨hslot, hpc⟩ := Core.takesPush_spec (s.core d) q
      (((s.core d).pcount q + (s.core (coreKey c)).pushesTo d q) % 16) (BitVec.ofNat 64 ((s.core (coreKey c)).opB x))
      (coreKey c)
    refine ⟨_, rfl, hp, hregs, ?_, ?_, hsync, hmem⟩
    · rw [hhq]
      exact hslot
    · unfold Core.pcount
      rw [hhq, hpc]
  · obtain ⟨⟨hsync, hmem, hother⟩, e, hcore⟩ := h.hpop_ends he hh hv rfl hroom
    obtain ⟨hsreg, hview, hcc⟩ := Core.takesPop_spec (s.core (coreKey c)) (enterPost
      { kind := .adv q ((s.core (coreKey c)).view q + 1), committed := false, ctx := r.ctx, tag := s.tag r.ctx,
        pc := (s.core (coreKey c)).regs.pc, seq := (s.core (coreKey c)).disp.count } (s.core (coreKey c)).post) q
      ((s.core (coreKey c)).view q + 1) (coreKey c) x.d (s.popValue (coreKey c) q)
    refine ⟨_, rfl, fun hs => ?_, ?_, ?_, ?_, hsync, hmem, hother⟩
    · rw [hcore]
      exact hsreg.trans (if_neg (by rw [hs]; decide))
    · rw [hcore]
      exact hview
    · rw [hcore]
      exact hcc
    · rw [hcore]
      rfl

end Sys2Proof.Machine
end

section
/-!
SUPPORT. What an effect on a sync word leaves alone: arm slots and reports follow it, and nothing else.
-/

namespace Sys2Proof.Machine

open Sys2Proof

/-- From s to t no core, no memory and no sync word changed. -/
structure KeepsWords (s t : State) : Prop where
  cores : t.cores = s.cores
  mem : t.mem = s.mem
  words : t.sync.words = s.sync.words

namespace KeepsWords

variable {s t u : State}

theorem refl (s : State) : KeepsWords s s := ⟨rfl, rfl, rfl⟩

theorem trans (h : KeepsWords s t) (h' : KeepsWords t u) : KeepsWords s u :=
  ⟨h'.cores.trans h.cores, h'.mem.trans h.mem, h'.words.trans h.words⟩

theorem of_reports (h : Reports s t) : KeepsWords s t := ⟨h.cores, h.mem, by rw [h.sync]⟩

theorem foldl {α : Type} {f : State → α → State} (hf : ∀ s a, KeepsWords s (f s a)) (l : List α) (s : State) :
    KeepsWords s (l.foldl f s) := by
  induction l generalizing s with
  | nil => exact refl s
  | cons a l ih => exact (hf s a).trans (ih _)

theorem core (h : KeepsWords s t) (k : Nat) : t.core k = s.core k := by simp [State.core, h.cores]
theorem word (h : KeepsWords s t) (k : Nat) : t.word k = s.word k := by simp [State.word, h.words]

theorem testArms (s : State) (k : Nat) : KeepsWords s (s.testArms k) := by
  unfold State.testArms
  split
  · exact refl s
  · refine foldl (fun s i => ?_) _ s
    dsimp only
    split
    · split
      · split
        · exact trans (t := s.setArm _ _) ⟨rfl, rfl, rfl⟩ (of_reports (Reports.msix _ _ _))
        · exact refl s
      · exact refl s
    · exact refl s

theorem wordChanged (s : State) (key : Nat) : KeepsWords s (s.wordChanged key) := by
  unfold State.wordChanged
  split
  · exact testArms s _
  · exact refl s

theorem logSaturated (s : State) (key : Nat) (who : Option (Nat × Nat)) : KeepsWords s (s.logSaturated key who) := by
  cases who
  · exact of_reports (Reports.logPart _ _ _ _)
  · exact of_reports (Reports.logCore _ _ _ _ _)

/-- An addition sets one word (R185). -/
theorem addWordFor (s : State) (key inc : Nat) (who : Option (Nat × Nat)) :
    KeepsWords (s.setWord key { s.word key with value := sat64 ((s.word key).value + inc) }) (s.addWordFor key inc who) := by
  unfold State.addWordFor
  dsimp only
  split
  · exact (logSaturated _ _ _).trans (wordChanged _ _)
  · exact wordChanged _ _

/-- A lock that is freed is set (R194). -/
theorem freeLock (s : State) (key : Nat) (abandoned : Bool) : KeepsWords (s.setWord key { s.word key with
    value := sat64 ((s.word key).value + 1), holder := none, abandoned := abandoned }) (s.freeLock key abandoned) :=
  wordChanged _ _

end KeepsWords

end Sys2Proof.Machine
end

section
/-!
PROOF. Posts are held until SCOMMIT and take effect at their release (R139, R141, R176, R185, R190, R192, R196).
-/

namespace Sys2Proof.Machine

open Sys2Proof

variable {s t : State} {k : Nat} {g : BitVec 4} {r : RunTask} {op : EngOp} {x : YArgs}

/-! ### Effects that are held -/

/-- An instruction whose effect is held wherever it acts changes the post buffer alone (R139, R141). -/
theorem Issues.holds (h : Issues s k g op r) {kind : PostKind} {p : PostEntry}
    (hp : p = { kind := kind, committed := false, ctx := r.ctx, tag := s.tag r.ctx, pc := (s.core k).regs.pc,
                seq := (s.core k).disp.count })
    (hroom : (combinePost p (s.core k).post).isSome = true ∨ (s.core k).post.length < 256)
    (hact : ∀ s', ActsAs s s' k → (s'.core k).earlierRetired op.unit = true →
      s'.runHead k op.unit r (QEntry.new (s.core k) op) = s'.holdPost k r.ctx (QEntry.new (s.core k) op) kind id)
    (he : (s.core k).earlierRetired op.unit = true) :
    Retires s (s.issue k g op) k op.unit fun q => { q with post := enterPost p q.post } := by
  refine h.acts (fun _ _ _ => rfl) fun s' hs => ?_
  have ha := ActsAs.of_acting hs
  refine ⟨_, id, (hact s' ha (Core.earlierRetired_acting hs he)).trans (State.holdPost_held (p := p) id ?_ ?_),
    (Touches.setCore s' k _).congr rfl⟩
  · rw [ha.tag]
    exact hp
  · rw [ha.post]
    exact hroom

theorem Issues.spost_held {key : Nat} (h : Issues s k g (.spost false x) r)
    (he : (s.core k).earlierRetired (qUnit x.q) = true) {p : PostEntry}
    (hp : p = { kind := .add (key / 4096) (key % 4096) ((s.core k).opB x), committed := false, ctx := r.ctx,
                tag := s.tag r.ctx, pc := (s.core k).regs.pc, seq := (s.core k).disp.count })
    (hroom : (combinePost p (s.core k).post).isSome = true ∨ (s.core k).post.length < 256)
    (ha0 : opPeer ((s.core k).opA x) = 0) (ht : s.target r.ctx ((s.core k).opA x) anyMode = .word key) :
    Retires s (s.issue k g (.spost false x)) k (qUnit x.q) fun q => { q with post := enterPost p q.post } :=
  h.holds hp hroom (fun s' ha he' => by
    simp [State.runHead, he', State.actSpost, ha.opA, ha.opB, ha.target, ha0, ht]) he

theorem Issues.spost_peer_held {peer : Peer} (h : Issues s k g (.spost false x) r)
    (he : (s.core k).earlierRetired (qUnit x.q) = true) {p : PostEntry}
    (hp : p = { kind := .peerAdd (opPeer ((s.core k).opA x)) ((s.core k).opA x % 2 ^ 18) ((s.core k).opB x),
                committed := false, ctx := r.ctx, tag := s.tag r.ctx, pc := (s.core k).regs.pc, seq := (s.core k).disp.count })
    (hroom : (combinePost p (s.core k).post).isSome = true ∨ (s.core k).post.length < 256)
    (ha0 : opPeer ((s.core k).opA x) ≠ 0) (ht : s.peerOf r.ctx (opPeer ((s.core k).opA x)) = some peer) :
    Retires s (s.issue k g (.spost false x)) k (qUnit x.q) fun q => { q with post := enterPost p q.post } :=
  h.holds hp hroom (fun s' ha he' => by
    simp [State.runHead, he', State.actSpost, ha.opA, ha.opB, ha.peerOf, ha0, ht]) he

theorem Issues.sunlock_held {key : Nat} (h : Issues s k g (.sunlock x) r)
    (he : (s.core k).earlierRetired (qUnit x.q) = true) {p : PostEntry}
    (hp : p = { kind := .unlock (key / 4096) (key % 4096), committed := false, ctx := r.ctx,
                tag := s.tag r.ctx, pc := (s.core k).regs.pc, seq := (s.core k).disp.count })
    (hroom : (combinePost p (s.core k).post).isSome = true ∨ (s.core k).post.length < 256)
    (ha0 : opPeer ((s.core k).opA x) = 0) (ht : s.target r.ctx ((s.core k).opA x) [2] = .word key) :
    Retires s (s.issue k g (.sunlock x)) k (qUnit x.q) fun q => { q with post := enterPost p q.post } :=
  h.holds hp hroom (fun s' ha he' => by
    simp [State.runHead, he', State.actSunlock, ha.opA, ha.target, ha0, ht]) he

/-! ### Releases -/

/-- From s to t of core k only its handle queues may differ, and memory does not. -/
structure HandlesOnly (s t : State) (k : Nat) : Prop where
  core : t.core k = { s.core k with hq := (t.core k).hq }
  mem : t.mem = s.mem

theorem HandlesOnly.of_cores (h : t.cores = s.cores) (hm : t.mem = s.mem) : HandlesOnly s t k := by
  have hc : t.core k = s.core k := by simp [State.core, h]
  exact ⟨by rw [hc], hm⟩

theorem HandlesOnly.of_reports (h : Reports s t) : HandlesOnly s t k := .of_cores h.cores h.mem

theorem HandlesOnly.of_words {w : SyncWord} {key : Nat} (h : KeepsWords (s.setWord key w) t) : HandlesOnly s t k :=
  .of_cores h.cores h.mem

theorem HandlesOnly.modCore {f : Core → Core} {d : Nat} (hf : ∀ c, f c = { c with hq := (f c).hq }) :
    HandlesOnly s (s.modCore d f) k := by
  refine ⟨?_, rfl⟩
  rw [State.core_modCore_ite]
  split
  · exact hf _
  · rfl

theorem HandlesOnly.staleDrop (s : State) (n : Nat) (args : List Nat) : HandlesOnly s (s.staleDrop n args) k := by
  have h := Reports.bumpBy s (Ent.staleDrop n) 1
  unfold State.staleDrop State.staleDropBy
  dsimp only
  split
  · exact .of_reports h
  · have hl := Reports.logCtx ((s.bumpBy (Ent.staleDrop n) 1).modCtx n fun c => { c with first := c.first ||| 4#4 })
      Code.staleDrop n args
    exact .of_cores (hl.cores.trans h.cores) (hl.mem.trans h.mem)

/-- A release changes no register, no queue and no post of its core, but for one to a peer (R139). -/
theorem State.release_handlesOnly (s : State) (k : Nat) (e : PostEntry) (hk : ∀ p a v, e.kind ≠ .peerAdd p a v) :
    HandlesOnly s (s.release k e) k := by
  unfold State.release
  dsimp only
  split
  · split
    · exact .staleDrop _ _ _
    · split
      · exact .of_reports (Reports.logCore _ _ _ _ _)
      · exact .of_words (KeepsWords.addWordFor _ _ _ _)
  · split
    · exact .staleDrop _ _ _
    · split
      · exact .of_reports (Reports.logCore _ _ _ _ _)
      · split
        · exact .of_reports (Reports.logCore _ _ _ _ _)
        · exact .of_words (KeepsWords.addWordFor _ _ _ _)
  · next hp => exact absurd hp (hk _ _ _)
  · split
    · exact .staleDrop _ _ _
    · split
      · exact .of_reports (Reports.logCore _ _ _ _ _)
      · split
        · exact .of_reports (Reports.logCore _ _ _ _ _)
        · split
          · split
            · exact .of_words (KeepsWords.freeLock _ _ _)
            · exact .of_reports (Reports.logCore _ _ _ _ _)
          · exact .of_reports (Reports.logCore _ _ _ _ _)
  · split
    · exact .modCore fun _ => rfl
    · exact .staleDrop _ _ _
  · split
    · exact .modCore fun _ => rfl
    · exact .staleDrop _ _ _

/-- With nothing queued and nothing held at dispatch no queue moves on; a grant may be returned (R136). -/
theorem State.pumpAll_quiet (hq : (s.core k).disp.queued = []) (hh : (s.core k).disp.hold = .none) :
    ∃ b, Touches s (s.pumpAll k) k fun c => { c with disp := { c.disp with grant := b } } := by
  have hM : (s.core k).disp.queue .mxe = [] := by simp_all [Disp.queued, Disp.queue]
  have hV : (s.core k).disp.queue .vxe = [] := by simp_all [Disp.queued, Disp.queue]
  have hT : (s.core k).disp.queue .txe = [] := by simp_all [Disp.queued, Disp.queue]
  have hpump : s.pump k .txe = s ∨ s.pump k .txe = s.settleGrant k := by
    unfold State.pump
    rw [hT]
    split
    · exact .inl rfl
    · exact .inr rfl
  have hlast : ∃ b, Touches s (s.pump k .txe) k fun c => { c with disp := { c.disp with grant := b } } := by
    rcases hpump with h | h <;> rw [h]
    · exact ⟨_, (Touches.rfl s k).congr rfl⟩
    · exact Touches.settleGrant s k
  obtain ⟨b, ht⟩ := hlast
  refine ⟨b, ?_⟩
  have hretry : (s.pump k .txe).retryHold k = s.pump k .txe := by
    unfold State.retryHold
    rw [ht.2.2, hh]
    split <;> simp_all
  rw [State.pumpAll, State.pump_empty hM (by nofun), State.pump_empty hV (by nofun), hretry]
  exact ht

/-- What a release with nothing queued leaves: its entry is out of the buffer, and the rest is what the effect makes (R139). -/
theorem State.released {l : List PostEntry} (e : PostEntry) (hk : ∀ p a v, e.kind ≠ .peerAdd p a v)
    (hq : (s.core k).disp.queued = []) (hh : (s.core k).disp.hold = .none)
    (ht : t = (State.release (s.modCore k fun c => { c with post := l }) k e).pumpAll k) :
    (t.core k).post = l ∧ (t.core k).regs = (s.core k).regs ∧ t.mem.cells = s.mem.cells ∧
      t.sync = (State.release (s.modCore k fun c => { c with post := l }) k e).sync ∧
      ∀ j, (t.core j).hq = ((State.release (s.modCore k fun c => { c with post := l }) k e).core j).hq := by
  have hr := State.release_handlesOnly (s.modCore k fun c => { c with post := l }) k e hk
  rw [← Eq.symm ht] at *
  generalize State.release (s.modCore k fun c => { c with post := l }) k e = u at hr ht
  have hcore := hr.core
  rw [State.core_modCore] at hcore
  obtain ⟨b, h1, h2, h3⟩ := State.pumpAll_quiet (s := u) (k := k) (by rw [hcore]; exact hq) (by rw [hcore]; exact hh)
  rw [← ht] at h1 h2 h3
  refine ⟨by rw [h3, hcore], by rw [h3, hcore], by rw [h1, hr.mem]; rfl, by rw [h1], fun j => ?_⟩
  by_cases hj : j = k
  · rw [hj, h3]
  · rw [h2 j hj]

/-- A word that no context owns, or an entry whose tag is the context's own, is not stale (R392). -/
theorem State.notStale {key : Nat} {e : PostEntry} (h : (s.word key).owner = none ∨ s.tagOk e.ctx e.tag = true) :
    (decide ((s.word key).owner = some e.ctx) && !s.tagOk e.ctx e.tag) = false := by
  rcases h with h | h <;> simp [h]

section
variable {e : PostEntry} {c i v : Nat}

/-- An increment adds to its word (R185). -/
theorem State.release_add (he : e.kind = .add c i v)
    (hs : (s.word (wordKey c i)).owner = none ∨ s.tagOk e.ctx e.tag = true)
    (ha : (s.word (wordKey c i)).admitsCtx e.ctx = true) :
    KeepsWords (s.setWord (wordKey c i) { s.word (wordKey c i) with value := sat64 ((s.word (wordKey c i)).value + v) })
      (s.release k e) := by
  have hr : s.release k e = s.addWordFor (wordKey c i) v (some (e.ctx, k)) := by
    simp only [State.release, he, State.notStale hs, ha, Bool.false_eq_true, if_false, Bool.not_true]
  rw [hr]
  exact .addWordFor _ _ _ _

/-- An arrival adds one to its barrier word (R192). -/
theorem State.release_arrive (he : e.kind = .arrive c i)
    (hs : (s.word (wordKey c i)).owner = none ∨ s.tagOk e.ctx e.tag = true)
    (ha : (s.word (wordKey c i)).admitsCtx e.ctx = true) (hm : (s.word (wordKey c i)).mode = 1) :
    KeepsWords (s.setWord (wordKey c i) { s.word (wordKey c i) with value := sat64 ((s.word (wordKey c i)).value + 1) })
      (s.release k e) := by
  have hr : s.release k e = s.addWordFor (wordKey c i) 1 (some (e.ctx, k)) := by
    simp only [State.release, he, State.notStale hs, ha, hm, Bool.false_eq_true, if_false, Bool.not_true, ne_eq,
      not_true_eq_false]
  rw [hr]
  exact .addWordFor _ _ _ _

/-- An unlock by the holder frees its lock (R196). -/
theorem State.release_unlock {h : Holder} (he : e.kind = .unlock c i)
    (hs : (s.word (wordKey c i)).owner = none ∨ s.tagOk e.ctx e.tag = true)
    (ha : (s.word (wordKey c i)).admitsCtx e.ctx = true) (hm : (s.word (wordKey c i)).mode = 2)
    (hh : (s.word (wordKey c i)).holder = some h) (hold : s.holds h k e.ctx = true) (htag : h.tag = e.tag) :
    KeepsWords (s.setWord (wordKey c i) { s.word (wordKey c i) with
      value := sat64 ((s.word (wordKey c i)).value + 1), holder := none, abandoned := false }) (s.release k e) := by
  have hr : s.release k e = s.freeLock (wordKey c i) false := by
    simp only [State.release, he, State.notStale hs, ha, hm, hh, hold, htag, Bool.false_eq_true, if_false, Bool.not_true,
      ne_eq, not_true_eq_false, beq_self_eq_true, Bool.and_true, if_true]
  rw [hr]
  exact .freeLock _ _ _

end

/-- A push that is released raises the producer count of its queue (R176). -/
theorem State.release_push {e : PostEntry} {d q slot : Nat} {v : Word64} (he : e.kind = .push d q slot v)
    (hs : s.tagOk e.ctx e.tag = true) :
    ((s.release k e).core d).pcount q = (s.core d).pcount q + 1 ∧ (s.release k e).sync = s.sync := by
  have hr : s.release k e = s.modCore d fun c => { c with hq := { c.hq with
      pc := SMap.set (fun _ => 0) c.hq.pc q (c.pcount q + 1) } } := by
    simp only [State.release, he, hs, if_true]
  rw [hr]
  exact ⟨by rw [State.core_modCore]; simp [Core.pcount], rfl⟩

/-- An advance that is released becomes the consumer count of its queue (R176). -/
theorem State.release_adv {e : PostEntry} {q v : Nat} (he : e.kind = .adv q v) (hs : s.tagOk e.ctx e.tag = true) :
    ((s.release k e).core k).ccount q = v ∧ (s.release k e).sync = s.sync := by
  have hr : s.release k e = s.modCore k fun c =>
      { c with hq := { c.hq with cc := SMap.set (fun _ => 0) c.hq.cc q v } } := by
    simp only [State.release, he, hs, if_true]
  rw [hr]
  exact ⟨by rw [State.core_modCore]; simp [Core.ccount], rfl⟩

theorem KeepsWords.setWord_sync {u : State} {w : SyncWord} {key : Nat} (h : KeepsWords (s.setWord key w) u)
    (hs : t.sync = u.sync) : t.word key = w ∧ ∀ j, j ≠ key → t.word j = s.word j := by
  have ht : ∀ j, t.word j = (s.setWord key w).word j := fun j => by rw [← h.word, State.word, hs, State.word]
  exact ⟨(ht key).trans (State.word_setWord _ _ _), fun j hj => (ht j).trans (State.word_setWord_ne _ _ hj)⟩

theorem sat64_eq_min (v : Nat) : sat64 v = min v (2 ^ 64 - 1) := rfl

/-- POST_BUFFER_RELEASE takes the oldest entry out of the buffer where it is committed (R139). -/
theorem exec_postBufferRelease {c : CoreId} {e : PostEntry} {l : List PostEntry} (hp : (s.core (coreKey c)).post = e :: l)
    (hc : e.committed = true) : exec (.postBufferRelease c) s =
      .next ((State.release (s.modCore (coreKey c) fun q => { q with post := l }) (coreKey c) e).pumpAll (coreKey c)) := by
  change execPostBufferRelease c s = _
  simp only [execPostBufferRelease, hp, hc, if_true]

/-- Settles O12: what is issued enters the post buffer; a release is its entry taken out of the buffer, then its effect. -/
theorem postsAreHeldAndReleased : Obligations.PostsAreHeldAndReleased := by
  unfold Obligations.PostsAreHeldAndReleased
  refine ⟨fun c x s r key peer => ⟨fun h0 ht h he hr => ⟨_, rfl, h.spost_held he rfl hr h0 ht⟩,
    fun h0 ht h he hr => ⟨_, rfl, h.spost_peer_held he rfl hr h0 ht⟩,
    fun h0 ht h he hr => ⟨_, rfl, h.sunlock_held he rfl hr h0 ht⟩⟩, fun c s e l hp hc hq hh hk => ?_,
    fun c s e l p a v peer hp hc he hpeer => ?_⟩
  · obtain ⟨hpost, hregs, hmem, hsync, hhq⟩ := State.released (l := l) e hk hq hh rfl
    refine ⟨_, exec_postBufferRelease hp hc, hpost, hregs, hmem, ?_⟩
    have hword : ∀ j, State.word (s.modCore (coreKey c) fun q => { q with post := l }) j = s.word j := fun _ => rfl
    have htag : State.tagOk (s.modCore (coreKey c) fun q => { q with post := l }) e.ctx e.tag = s.tagOk e.ctx e.tag := rfl
    have hpc : ∀ d h, (State.core (s.modCore (coreKey c) fun q => { q with post := l }) d).pcount h = (s.core d).pcount h :=
      fun d h => Core.pcount_congr (by rw [State.core_modCore_ite]; split <;> rfl) h
    have hholds : ∀ h, State.holds (s.modCore (coreKey c) fun q => { q with post := l }) h (coreKey c) e.ctx =
      s.holds h (coreKey c) e.ctx := fun _ => rfl
    have hsy : (s.modCore (coreKey c) fun q => { q with post := l }).sync = s.sync := rfl
    simp only [← hword, ← htag, ← hpc, ← hholds, ← hsy]
    generalize State.modCore s (coreKey c) (fun q => { q with post := l }) = u at *
    cases he : e.kind with
    | add g i v =>
      intro hs ha
      obtain ⟨hw, hother⟩ := (State.release_add (s := u) he hs ha).setWord_sync hsync
      exact ⟨by rw [hw, sat64_eq_min], hother⟩
    | arrive g i =>
      intro hs ha hm
      rw [((State.release_arrive (s := u) he hs ha hm).setWord_sync hsync).1, sat64_eq_min]
    | unlock g i =>
      intro h hs ha hm hhold hkey hht
      rw [((State.release_unlock (s := u) he hs ha hm hhold hkey hht).setWord_sync hsync).1, sat64_eq_min]
      exact ⟨rfl, rfl, rfl⟩
    | push d h slot v =>
      intro hs
      obtain ⟨hpc', hs'⟩ := State.release_push (s := u) (k := coreKey c) he hs
      exact ⟨by rw [Core.pcount_congr (hhq d), hpc'], hsync.trans hs'⟩
    | adv h v =>
      intro hs
      obtain ⟨hcc, hs'⟩ := State.release_adv (s := u) (k := coreKey c) he hs
      exact ⟨(Core.ccount_congr (hhq _) h).trans hcc, hsync.trans hs'⟩
    | peerAdd p a v => trivial
  · rw [exec_postBufferRelease hp hc, State.release, he]
    dsimp only
    have hpeer' : State.peerOf (s.modCore (coreKey c) fun q => { q with post := l }) e.ctx p = some peer := hpeer
    rw [hpeer']
    rfl

end Sys2Proof.Machine
end

section
/-!
SUPPORT. The vector engine, said once: an operation neither reads nor changes the program counter and dispatch, and what
it writes is one vector register.
-/

namespace Sys2Proof.Machine

open Sys2Proof

variable {s t : State} {k : Nat} {g : BitVec 4} {r : RunTask} {u : CoreUnit}

theorem Retires.regs {f : Core → Core} (h : Retires s t k u f) :
    (t.core k).regs = { (f (s.core k)).regs with pc := ((s.core k).regs.pc + 8) % 2 ^ 48 } := by rw [h.2.2]

theorem Retires.vlane {f : Core → Core} (h : Retires s t k u f) (v : BitVec 5) (l : Nat) :
    (t.core k).vlane v l = (f (s.core k)).vlane v l := by
  unfold Core.vlane
  rw [h.regs]

section
variable (c : Core) (pc : Nat) (d : Disp)

@[simp] theorem Core.placed_sreg (n : BitVec 5) : (c.placed pc d).sreg n = c.sreg n := rfl
@[simp] theorem Core.placed_vlane (v : BitVec 5) (l : Nat) : (c.placed pc d).vlane v l = c.vlane v l := rfl
@[simp] theorem Core.placed_vreg (v : BitVec 5) : (c.placed pc d).vreg v = c.vreg v := rfl
@[simp] theorem Core.placed_setS (n : BitVec 5) (v : Word64) : (c.placed pc d).setS n v = (c.setS n v).placed pc d := rfl
@[simp] theorem Core.placed_setV (v : BitVec 5) (l : List Word32) : (c.placed pc d).setV v l = (c.setV v l).placed pc d := rfl
@[simp] theorem Core.placed_raise (e : Engine) (f : FFlags) : (c.placed pc d).raise e f = (c.raise e f).placed pc d := rfl
@[simp] theorem Core.placed_lanesU (sI sT : BitVec 5) : (c.placed pc d).lanesU r sI sT = c.lanesU r sI sT := rfl
@[simp] theorem Core.placed_laneMode (rnd : Bool) (sI sT : BitVec 5) :
    (c.placed pc d).laneMode r rnd sI sT = c.laneMode r rnd sI sT := rfl

theorem Core.vector_placed (keep : Bool) (op : VOp) (x : VArgs) :
    (c.placed pc d).vector r keep op x = (c.vector r keep op x).map (·.placed pc d) := by
  cases op
  case vcvt =>
    unfold Core.vector
    cases Fmt.ofCode x.fmt <;> simp
  all_goals simp [Core.vector, Core.lanes1, Core.lanes2, Core.compare, Core.bits2]

end

theorem Core.enqueue_placed (c : Core) (op : EngOp) : c.enqueue op = c.placed (c.enqueue op).regs.pc (c.enqueue op).disp := rfl

/-- A vector operation retires with what it makes of its core (R129). -/
theorem Issues.vec_retires {op : VOp} {x : VArgs} (h : Issues s k g (.vec op x) r) {G : Core → Core} (hG : Quiet G)
    (hv : (s.core k).vector r (s.ctxEval r.ctx) op x = some (G (s.core k))) :
    Retires s (s.issue k g (.vec op x)) k .vxe G := by
  refine h.acts hG fun s' hs => ⟨s'.setCore k (G (s'.core k)), id, ?_, (Touches.setCore s' k _).congr rfl⟩
  have hv' : (s'.core k).vector r (s'.ctxEval r.ctx) op x = some (G (s'.core k)) := by
    rcases hs with rfl | rfl
    · exact hv
    · rw [State.core_modCore, Core.enqueue_placed, Core.vector_placed]
      exact (congrArg (Option.map _) hv).trans (congrArg some (quiet_iff_placed.1 hG _ _ _).symm)
  change s'.headVec k (QEntry.new (s.core k) (.vec op x)).pc r op x = _
  rw [State.headVec, hv']

/-- A core with lanes written to a vector register and their flags raised (R61). -/
def Core.writeLanes (c : Core) (v : BitVec 5) (res : List Word32 × FFlags) : Core := (c.setV v res.1).raise .vxe res.2

theorem Core.writeLanes_quiet (v : BitVec 5) (res : List Word32 × FFlags) : Quiet (Core.writeLanes · v res) := fun _ _ _ => rfl

theorem Core.raise_zero (c : Core) (e : Engine) : c.raise e 0#4 = c := by
  simp [Core.raise]

theorem FFlags.all_replicate_zero (n : Nat) : FFlags.all (List.replicate n 0#4) = 0#4 := by
  induction n with
  | zero => rfl
  | succ n ih => exact ih

@[simp] theorem lanesOf_map_fst {α : Type} (l : List α) (f : α → Word32 × FFlags) :
    (lanesOf (l.map f)).1 = l.map fun a => (f a).1 := by
  simp [lanesOf, Function.comp_def]

@[simp] theorem lanesOf_map_snd {α : Type} (l : List α) (f : α → Word32 × FFlags) :
    (lanesOf (l.map f)).2 = FFlags.all (l.map fun a => (f a).2) := by
  simp [lanesOf, Function.comp_def]

/-- Bits that are written raise nothing. -/
theorem Core.writeLanes_bits {α : Type} (c : Core) (v : BitVec 5) (l : List α) (f : α → Word32) :
    c.writeLanes v (lanesOf (l.map fun a => (f a, 0#4))) = c.setV v (l.map f) := by
  rw [Core.writeLanes, lanesOf_map_fst, lanesOf_map_snd, List.map_const', FFlags.all_replicate_zero, Core.raise_zero]

section
variable {v : BitVec 5} {res : List Word32 × FFlags}

/-- Writing lanes changes the vector registers and the VXE's flags alone. -/
theorem Retires.vectorFrame (h : Retires s t k u (Core.writeLanes · v res)) : Retires s t k u fun q => { q with
    regs := { q.regs with v := (t.core k).regs.v }
    flags := { q.flags with v := (t.core k).flags.v, seg := (t.core k).flags.seg } } := by
  refine h.congr ?_
  rw [h.regs, h.flags]
  rfl

theorem Retires.writtenLane (h : Retires s t k u (Core.writeLanes · v res)) {l : Nat} (hl : l < res.1.length) :
    (t.core k).vlane v l = res.1[l] := by
  rw [h.vlane]
  exact (Core.vlane_setV _ _ _ _).trans (by rw [List.getElem?_eq_getElem hl, Option.getD_some])

theorem Retires.otherLane (h : Retires s t k u (Core.writeLanes · v res)) (hres : res.1.length ≤ 64) {w : BitVec 5} {l : Nat}
    (hw : w ≠ v) (hl : l < 64) : (t.core k).vlane w l = (s.core k).vlane w l := by
  rw [h.vlane]
  exact Core.vlane_setV_ne _ _ _ hw hl hres

end

end Sys2Proof.Machine
end

section
/-!
PROOF. The vector instructions (R129 to R131, R275).
-/

namespace Sys2Proof.Machine

open Sys2Proof

variable {s t : State} {k : Nat} {g : BitVec 4} {r : RunTask}

theorem Core.vreg_zip (c : Core) (a b : BitVec 5) :
    (c.vreg a).zip (c.vreg b) = (List.range 64).map fun l => (c.vlane a l, c.vlane b l) := List.zip_map'

theorem Core.lanes1_eq (c : Core) (x : VArgs) (f : Word32 → Word32 × FFlags) :
    c.lanes1 x f = c.writeLanes x.vd (lanesOf ((List.range 64).map fun l => f (c.vlane x.va l))) := by
  rw [Core.lanes1, Core.vreg, List.map_map]
  rfl

theorem Core.lanes2_eq (c : Core) (x : VArgs) (f : Word32 → Word32 → Word32 × FFlags) :
    c.lanes2 x f = c.writeLanes x.vd (lanesOf ((List.range 64).map fun l => f (c.vlane x.va l) (c.vlane x.vb l))) := by
  rw [Core.lanes2, Core.vreg_zip, List.map_map]
  rfl

theorem Core.bits2_eq (c : Core) (x : VArgs) (f : Word32 → Word32 → Word32) :
    c.bits2 x f = c.writeLanes x.vd (lanesOf ((List.range 64).map fun l => (f (c.vlane x.va l) (c.vlane x.vb l), 0#4))) := by
  rw [Core.bits2, Core.vreg_zip, List.map_map, Core.writeLanes_bits]
  rfl

theorem Core.setV_map (c : Core) (v a : BitVec 5) (f : Word32 → Word32) :
    c.setV v ((c.vreg a).map f) = c.writeLanes v (lanesOf ((List.range 64).map fun l => (f (c.vlane a l), 0#4))) := by
  rw [Core.vreg, List.map_map, Core.writeLanes_bits]
  rfl

theorem Core.vreg_zip_zip (c : Core) (a b d : BitVec 5) : ((c.vreg a).zip (c.vreg b)).zip (c.vreg d) =
    (List.range 64).map fun l => ((c.vlane a l, c.vlane b l), c.vlane d l) := by
  rw [Core.vreg_zip]
  exact List.zip_map'

theorem Core.vfma_eq (c : Core) (keep : Bool) (x : VArgs) : c.vector r keep .vfma x = some (c.writeLanes x.vd
    (lanesOf ((List.range 64).map fun l => f32fma (c.vlane x.va l) (c.vlane x.vb l) (c.vlane x.vc l)))) := by
  rw [Core.vector, Core.vreg_zip_zip, List.map_map]
  rfl

theorem Core.vsel_eq (c : Core) (keep : Bool) (x : VArgs) : c.vector r keep .vsel x = some (c.writeLanes x.vd (lanesOf
    ((List.range 64).map fun l => (if c.vlane x.vc l = 0#32 then c.vlane x.vb l else c.vlane x.va l, 0#4)))) := by
  rw [Core.vector, Core.vreg_zip_zip, List.map_map, Core.writeLanes_bits]
  rfl

theorem Core.vbcast_eq (c : Core) (keep : Bool) (x : VArgs) : c.vector r keep .vbcast x = some (c.writeLanes x.vd
    (lanesOf ((List.range 64).map fun _ => ((c.sreg x.sX).setWidth 32, 0#4)))) := by
  rw [Core.vector, Core.writeLanes_bits, List.map_const', List.length_range]

theorem Core.vrand_eq (c : Core) (keep : Bool) (x : VArgs) : c.vector r keep .vrand x = some (c.writeLanes x.vd
    (lanesOf ((List.range 64).map fun l => (BitVec.ofNat 32
      (gauzeValue r.key r.step ((c.sreg x.sT).toNat % 2 ^ 32) ((c.sreg x.sI).toNat + l)), 0#4)))) := by
  rw [Core.vector, Core.lanesU, List.map_map, Core.writeLanes_bits]
  rfl

theorem Core.vdrop_eq (c : Core) (keep : Bool) (x : VArgs) : c.vector r keep .vdrop x = some (c.writeLanes x.vd
    (lanesOf ((List.range 64).map fun l => (if keep ∨ gauzeValue r.key r.step ((c.sreg x.sT).toNat % 2 ^ 32)
      ((c.sreg x.sI).toNat + l) < min ((c.sreg x.sX).toNat % 2 ^ 17) 65536 then c.vlane x.va l else 0#32, 0#4)))) := by
  rw [Core.vector, Core.lanesU, Core.vreg, List.zip_map', List.map_map, Core.writeLanes_bits]
  simp only [Function.comp_def, Bool.or_eq_true, Nat.blt_eq]

/-- An instruction of Table 5.8 that works lane by lane issues its operation, which writes its lanes. -/
theorem laneForms_write (c : CoreId) (x : VArgs) (q : Core) (r : RunTask) (keep : Bool) :
    ∀ p ∈ laneForms c x q r keep, (∀ s, exec p.1 s = .next (s.issue (coreKey c) x.guard (.vec p.2.1 x))) ∧
      q.vector r keep p.2.1 x = some (q.writeLanes x.vd (lanesOf ((List.range 64).map p.2.2))) := by
  have h1 := fun f => congrArg some (q.lanes1_eq x f)
  have h2 := fun f => congrArg some (q.lanes2_eq x f)
  have hb := fun f => congrArg some (q.bits2_eq x f)
  have hm := fun f => congrArg some (q.setV_map x.vd x.va f)
  unfold laneForms
  simp only [List.forall_mem_cons]
  exact ⟨⟨fun _ => rfl, h2 _⟩, ⟨fun _ => rfl, h2 _⟩, ⟨fun _ => rfl, h2 _⟩, ⟨fun _ => rfl, q.vfma_eq keep x⟩,
    ⟨fun _ => rfl, hb _⟩, ⟨fun _ => rfl, hb _⟩, ⟨fun _ => rfl, hm _⟩, ⟨fun _ => rfl, hm _⟩,
    ⟨fun _ => rfl, q.vsel_eq keep x⟩,
    ⟨fun _ => rfl, hb _⟩, ⟨fun _ => rfl, hb _⟩, ⟨fun _ => rfl, hb _⟩, ⟨fun _ => rfl, hb _⟩,
    ⟨fun _ => rfl, hb _⟩, ⟨fun _ => rfl, hb _⟩, ⟨fun _ => rfl, hb _⟩, ⟨fun _ => rfl, hb _⟩,
    ⟨fun _ => rfl, hb _⟩, ⟨fun _ => rfl, hb _⟩, ⟨fun _ => rfl, q.vbcast_eq keep x⟩,
    ⟨fun _ => rfl, h1 _⟩, ⟨fun _ => rfl, h1 _⟩, ⟨fun _ => rfl, h1 _⟩, ⟨fun _ => rfl, h1 _⟩,
    ⟨fun _ => rfl, h1 _⟩, ⟨fun _ => rfl, h1 _⟩, ⟨fun _ => rfl, h1 _⟩, ⟨fun _ => rfl, h1 _⟩,
    ⟨fun _ => rfl, h1 _⟩, ⟨fun _ => rfl, h1 _⟩, ⟨fun _ => rfl, h1 _⟩, ⟨fun _ => rfl, h1 _⟩,
    ⟨fun _ => rfl, q.vrand_eq keep x⟩, ⟨fun _ => rfl, q.vdrop_eq keep x⟩,
    List.forall_mem_nil _⟩

/-- An instruction whose operation writes the 64 lanes of a function. -/
theorem Issues.writes_lanes {op : VOp} {x : VArgs} {f : Nat → Word32 × FFlags} (h : Issues s k g (.vec op x) r)
    (hv : (s.core k).vector r (s.ctxEval r.ctx) op x =
      some ((s.core k).writeLanes x.vd (lanesOf ((List.range 64).map f)))) :
    let t := s.issue k g (.vec op x)
    Retires s t k .vxe (fun q => { q with
        regs := { q.regs with v := (t.core k).regs.v }
        flags := { q.flags with v := (t.core k).flags.v, seg := (t.core k).flags.seg } }) ∧
      (∀ l, l < 64 → (t.core k).vlane x.vd l = (f l).1) ∧
      (∀ v l, v ≠ x.vd → l < 64 → (t.core k).vlane v l = (s.core k).vlane v l) ∧
      (let fl := FFlags.all ((List.range 64).map fun l => (f l).2)
       (t.core k).flags.v = (s.core k).flags.v ||| fl ∧ (t.core k).flags.seg = (s.core k).flags.seg ||| fl) := by
  have hR := h.vec_retires (Core.writeLanes_quiet _ _) hv
  have hlen : (lanesOf ((List.range 64).map f)).1.length = 64 := by simp
  refine ⟨hR.vectorFrame, fun l hl => ?_, fun v l hv hl => hR.otherLane hlen.le hv hl, ?_⟩
  · rw [hR.writtenLane (by rwa [hlen])]
    simp
  · rw [hR.flags, ← lanesOf_map_snd]
    exact ⟨rfl, rfl⟩

/-! ### VCVT -/

theorem encodeMx_length (f : Fmt) (v : List Word32) (mode : Nat → RoundMode) : (encodeMx f v mode).2.1.length = v.length := by
  unfold encodeMx
  split
  · simp
  · dsimp only
    split <;> simp

theorem cvtBlock_length (f : Fmt) (v : List Word32) (mode : Nat → RoundMode) : (cvtBlock f v mode).length = v.length := by
  simp [cvtBlock, encodeMx_length]

/-- What VCVT makes of lane l of a list of 64 (R57, R129). -/
def cvtOf (f : Fmt) (v : Nat → Word32) (mode : Nat → RoundMode) (sat : Bool) (l : Nat) : Word32 × FFlags :=
  if f.isMx then
    (cvtBlock f ((List.range 32).map fun i => v (l / 32 * 32 + i)) fun i => mode (l / 32 * 32 + i)).getD (l % 32) (0#32, 0#4)
  else cvtLane f (mode l) sat (v l)

theorem map_range_64 {α : Type} (v : Nat → α) :
    (List.range 64).map v = (List.range 32).map v ++ (List.range 32).map fun i => v (32 + i) := by
  rw [show 64 = 32 + 32 from rfl, List.range_add, List.map_append, List.map_map]
  rfl

theorem cvtBlock_eq (f : Fmt) (v : Nat → Word32) (mode : Nat → RoundMode) :
    cvtBlock f ((List.range 32).map v) mode =
      (List.range 32).map fun i => (cvtBlock f ((List.range 32).map v) mode).getD i (0#32, 0#4) := by
  have hlen : (cvtBlock f ((List.range 32).map v) mode).length = 32 := by simp [cvtBlock_length]
  refine List.ext_getElem (by simp [hlen]) fun i h1 h2 => ?_
  rw [List.getElem_map, List.getElem_range, List.getD_eq_getElem _ _ h1]

theorem cvtLanes_eq (f : Fmt) (v : Nat → Word32) (mode : Nat → RoundMode) (sat : Bool) :
    cvtLanes f ((List.range 64).map v) mode sat = (List.range 64).map (cvtOf f v mode sat) := by
  unfold cvtLanes
  split
  · next hf =>
    rw [map_range_64 v, map_range_64 (cvtOf f v mode sat), List.take_left' (by simp), List.drop_left' (by simp),
      cvtBlock_eq, cvtBlock_eq f (fun i => v (32 + i))]
    congr 1 <;> refine List.map_congr_left fun i hi => ?_
    · have hi := List.mem_range.1 hi
      simp [cvtOf, hf, Nat.div_eq_of_lt hi, Nat.mod_eq_of_lt hi]
    · have hi := List.mem_range.1 hi
      simp [cvtOf, hf, Nat.mod_eq_of_lt hi, Nat.div_eq_of_lt hi, Nat.add_comm 32]
  · next hf =>
    refine List.ext_getElem (by simp) fun i h1 h2 => ?_
    simp [cvtOf, hf]

/-- Settles O20: each form is its operation on the core, which leaves the program counter and dispatch alone. -/
theorem vectorResults : Obligations.VectorResults := by
  unfold Obligations.VectorResults
  refine ⟨fun c x s r p hp h => ?_, fun c x s r f => ⟨fun h => ⟨_, rfl, h.vec_retires (fun _ _ _ => rfl) rfl⟩,
    fun h => ⟨_, rfl, h.vec_retires (fun _ _ _ => rfl) rfl⟩, fun h => ⟨_, rfl, h.vec_retires (fun _ _ _ => rfl) rfl⟩,
    fun h hf => ?_⟩⟩
  · obtain ⟨hexec, hv⟩ := laneForms_write c x _ r _ p hp
    exact ⟨_, hexec s, h.writes_lanes hv⟩
  · have hv : (s.core (coreKey c)).vector r (s.ctxEval r.ctx) .vcvt x = some ((s.core (coreKey c)).writeLanes x.vd
        (lanesOf ((List.range 64).map (cvtOf f ((s.core (coreKey c)).vlane x.va)
          ((s.core (coreKey c)).laneMode r x.rnd x.sI x.sT) x.sat)))) := by
      simp only [Core.vector, hf]
      rw [Core.vreg, cvtLanes_eq]
      rfl
    obtain ⟨hframe, hlane, hother, -⟩ := h.writes_lanes hv
    refine ⟨_, rfl, hframe, fun l hl => (hlane l hl).trans ?_, hother⟩
    rw [cvtOf, apply_ite Prod.fst]
    rfl

end Sys2Proof.Machine
end

section
/-!
PROOF. The memory operations of the vector engine (R53, R132, R148).
-/

namespace Sys2Proof.Machine

open Sys2Proof

variable {s t : State} {k : Nat} {g : BitVec 4} {r : RunTask} {u : CoreUnit} {x : EArgs} {f : Fmt}

@[simp] theorem Core.enqueue_elemAddr (c : Core) (op : EngOp) (x : EArgs) : (c.enqueue op).elemAddr x = c.elemAddr x := rfl
@[simp] theorem Core.enqueue_laneMode (c : Core) (op : EngOp) (rnd : Bool) (sI sT : BitVec 5) :
    (c.enqueue op).laneMode r rnd sI sT = c.laneMode r rnd sI sT := rfl
@[simp] theorem Core.enqueue_vreg (c : Core) (op : EngOp) (v : BitVec 5) : (c.enqueue op).vreg v = c.vreg v := rfl

theorem Core.elemAddr_lt (c : Core) (x : EArgs) : c.elemAddr x < spSize := by
  unfold Core.elemAddr spSize
  omega

/-! ### Scalar moves -/

theorem Issues.sld_retires (h : Issues s k g (.vmem .sld x .none) r) (hf : Fmt.ofCode x.fmt = some .fp32)
    (hp : (s.core k).anyPoison [(s.core k).elemAddr x] = false) :
    Retires s (s.issue k g (.vmem .sld x .none)) k .vxe
      (Core.setS · x.d (((s.core k).rd ((s.core k).elemAddr x)).setWidth 64)) := by
  refine (h.actsModCore (G := fun c => c.setS x.d ((c.rd ((s.core k).elemAddr x)).setWidth 64)) (fun _ _ _ => rfl) hp
    fun s' hs => ?_).congr rfl
  rcases hs with rfl | rfl <;> simp [State.runHead, State.headVmem, hf, EngOp.unit]

theorem Issues.sldd_retires (h : Issues s k g (.vmem .sldd x .none) r) (hf : Fmt.ofCode x.fmt = some .fp32)
    (hw : (s.core k).elemAddr x % 2 = 0)
    (hp : (s.core k).anyPoison [(s.core k).elemAddr x, (s.core k).elemAddr x + 1] = false) :
    Retires s (s.issue k g (.vmem .sldd x .none)) k .vxe (Core.setS · x.d
      ((s.core k).rd ((s.core k).elemAddr x + 1) ++ (s.core k).rd ((s.core k).elemAddr x))) := by
  refine (h.actsModCore (G := fun c => c.setS x.d
    (c.rd ((s.core k).elemAddr x + 1) ++ c.rd ((s.core k).elemAddr x))) (fun _ _ _ => rfl) hp fun s' hs => ?_).congr rfl
  rcases hs with rfl | rfl <;> simp [State.runHead, State.headVmem, hf, hw, EngOp.unit]

theorem Issues.sst_retires (h : Issues s k g (.vmem .sst x .none) r) (hf : Fmt.ofCode x.fmt = some .fp32) :
    Retires s (s.issue k g (.vmem .sst x .none)) k .vxe
      (Core.wr · ((s.core k).elemAddr x) (((s.core k).sreg x.d).setWidth 32)) := by
  refine (h.actsModCore (G := fun c => c.wr ((s.core k).elemAddr x) ((c.sreg x.d).setWidth 32)) (fun _ _ _ => rfl)
    (Core.anyPoison_nil _) fun s' hs => ?_).congr rfl
  rcases hs with rfl | rfl <;> simp [State.runHead, State.headVmem, hf, EngOp.unit]

/-- A core after SSTD (R132): the low half of sd, then its high half. -/
def Core.wrPair (c : Core) (w : Nat) (v : Word64) : Core :=
  (c.wr w (v.extractLsb' 0 32)).wr (w + 1) (v.extractLsb' 32 32)

theorem Issues.sstd_retires (h : Issues s k g (.vmem .sstd x .none) r) (hf : Fmt.ofCode x.fmt = some .fp32)
    (hw : (s.core k).elemAddr x % 2 = 0) :
    Retires s (s.issue k g (.vmem .sstd x .none)) k .vxe (Core.wrPair · ((s.core k).elemAddr x) ((s.core k).sreg x.d)) := by
  refine (h.actsModCore (G := fun c => c.wrPair ((s.core k).elemAddr x) (c.sreg x.d)) (fun _ _ _ => rfl)
    (Core.anyPoison_nil _) fun s' hs => ?_).congr rfl
  rcases hs with rfl | rfl <;> simp [State.runHead, State.headVmem, hf, hw, EngOp.unit, Core.wrPair]

/-- A store of the vector engine changes the scratchpad alone. -/
theorem Retires.spFrame {G : Core → Core} (hG : SpOp G) (h : Retires s t k u G) :
    Retires s t k u fun q => { q with sp := (t.core k).sp } := by
  refine h.congr ?_
  rw [h.sp]
  exact (hG.frame _).symm

theorem Retires.poisonedAt {G : Core → Core} (h : Retires s t k u G) (w : Nat) :
    (t.core k).poisonedAt w = (G (s.core k)).poisonedAt w := by
  unfold Core.poisonedAt
  rw [h.sp]

theorem Core.rd_wr_of_lt (c : Core) {w j : Nat} (v : Word32) (hw : w < spSize) (hj : j < spSize) :
    (c.wr w v).rd j = if j = w then v else c.rd j := by
  rw [Core.rd_wr, Nat.mod_eq_of_lt hw, Nat.mod_eq_of_lt hj]

theorem Core.rd_wrPair (c : Core) {w j : Nat} (v : Word64) (hw : w + 1 < spSize) (hj : j < spSize) :
    (c.wrPair w v).rd j =
      if j = w then v.extractLsb' 0 32 else if j = w + 1 then v.extractLsb' 32 32 else c.rd j := by
  rw [Core.wrPair, Core.rd_wr_of_lt _ _ hw hj, Core.rd_wr_of_lt _ _ (by omega) hj]
  grind

/-! ### VLD and VST -/

/-- What VLD makes of lane l: the element decoded, with the scale byte of its block (R53, R132). -/
def Core.loaded (c : Core) (f : Fmt) (w sb l : Nat) : Word32 × FFlags :=
  if f.isMx then widenMx f (unpackElem f (fun i => c.rd (w + i)) l) (c.rdByte (sb + l / 32))
  else if f = .fp32 then (c.rd (w + l), 0#4)
  else (widen f (unpackElem f (fun i => c.rd (w + i)) l), 0#4)

/-- An fp32 element is its word (R52). -/
theorem unpackElem_fp32 (word : Nat → Word32) (l : Nat) : unpackElem .fp32 word l = (word l).toNat := by
  have hlt := (word l).isLt
  simp only [unpackElem, Fmt.width, Nat.mul_div_cancel l (by decide : 0 < 32), Nat.mul_mod_left]
  omega

theorem Core.rowScales_getD (c : Core) (hf : f.isMx = true) (sb : Nat) {l : Nat} (hl : l < 64) :
    (c.rowScales f sb).getD (l / 32) 0 = c.rdByte (sb + l / 32) := by
  have h : l / 32 = 0 ∨ l / 32 = 1 := by omega
  rcases h with h | h <;> simp [Core.rowScales, hf, h]

theorem Core.vld_eq (c : Core) (x : EArgs) (f : Fmt) : c.vld x f =
    c.writeLanes x.d (lanesOf ((List.range 64).map (c.loaded f (c.elemAddr x) (4 * c.wordAddr x.aS)))) := by
  unfold Core.vld Core.writeLanes
  dsimp only
  have hvals : ((c.rowElems f (c.elemAddr x)).zipIdx.map fun p =>
      if f.isMx then widenMx f p.1 ((c.rowScales f (4 * c.wordAddr x.aS)).getD (p.2 / 32) 0)
      else if f = .fp32 then (BitVec.ofNat 32 p.1, 0#4) else (widen f p.1, 0#4)) =
      (List.range 64).map (c.loaded f (c.elemAddr x) (4 * c.wordAddr x.aS)) := by
    refine List.ext_getElem (by simp [Core.rowElems]) fun l h1 h2 => ?_
    have hl : l < 64 := by simpa using h2
    simp only [List.getElem_map, List.getElem_zipIdx, List.getElem_range, Core.loaded, Core.rowElems, Nat.zero_add]
    split
    · next hf =>
      rw [c.rowScales_getD hf _ hl]
    · split
      · next hf => rw [hf, unpackElem_fp32, BitVec.ofNat_toNat, BitVec.setWidth_eq]
      · rfl
  rw [hvals]

theorem Issues.vld_retires (h : Issues s k g (.vmem .vld x .none) r) (hf : Fmt.ofCode x.fmt = some f)
    (hp : (s.core k).anyPoison (rowWords f ((s.core k).elemAddr x) ++ scaleWords f (4 * (s.core k).wordAddr x.aS)) = false) :
    Retires s (s.issue k g (.vmem .vld x .none)) k .vxe (Core.writeLanes · x.d (lanesOf ((List.range 64).map
      ((s.core k).loaded f ((s.core k).elemAddr x) (4 * (s.core k).wordAddr x.aS))))) := by
  refine (h.actsModCore (G := fun c => c.vld x f) (fun _ _ _ => rfl) hp fun s' hs => ?_).congr (Core.vld_eq _ _ _).symm
  rcases hs with rfl | rfl <;> simp [State.runHead, State.headVmem, hf, EngOp.unit]

/-- A VST whose operands core q holds (R132). -/
def Core.stored (c q : Core) (r : RunTask) (x : EArgs) (f : Fmt) : Core :=
  let row := convertRow f (q.vreg x.d) (q.laneMode r x.rnd x.sI x.sT) x.sat
  (c.writeRow (q.elemAddr x) (4 * q.wordAddr x.aS) row).raise .vxe row.2.2

theorem Core.stored_quiet (q : Core) (r : RunTask) (x : EArgs) (f : Fmt) : Quiet (Core.stored · q r x f) := by
  rw [quiet_iff_placed]
  intro c pc d
  have h := quiet_iff_placed.1 (Core.writeRow_spOp (q.elemAddr x) (4 * q.wordAddr x.aS)
    (convertRow f (q.vreg x.d) (q.laneMode r x.rnd x.sI x.sT) x.sat)).quiet c pc d
  exact (congrArg (Core.raise · .vxe _) h).trans (Core.placed_raise _ _ _ _ _)

theorem Issues.vst_retires (h : Issues s k g (.vmem .vst x .none) r) (hf : Fmt.ofCode x.fmt = some f) :
    Retires s (s.issue k g (.vmem .vst x .none)) k .vxe (Core.stored · (s.core k) r x f) := by
  refine h.actsGuarded (Core.stored_quiet _ r x f) (Core.anyPoison_nil _) fun s' hs =>
    ⟨fun t => .done (t.modCore k fun c => c.vst r x f), _, ?_, rfl, (Touches.modCore s' k _).congr ?_⟩
  · rcases hs with rfl | rfl <;> simp [State.runHead, State.headVmem, hf, EngOp.unit]
  · rcases hs with rfl | rfl
    · rfl
    · rw [State.core_modCore]
      rfl

/-- An fp32 store writes the lanes word for word and no scale byte (R53). -/
theorem Core.stored_fp32_rd (c q : Core) (x : EArgs) (w : Nat) :
    (c.stored q r x .fp32).rd w = (c.wrWords (q.elemAddr x) (q.vreg x.d)).rd w := by
  rw [Core.stored, Core.raise_rd]
  simp only [convertRow, if_true, Core.writeRow, List.zipIdx_nil, List.foldl_nil]

theorem Core.stored_fp32_lane (c q : Core) (x : EArgs) {l : Nat} (hl : l < 64) :
    (c.stored q r x .fp32).rd (q.elemAddr x + l) = q.vlane x.d l := by
  have hl' : l < (q.vreg x.d).length := by rwa [Core.vreg_length]
  rw [Core.stored_fp32_rd, Core.rd_wrWords _ _ _ hl' (by simp [spSize]), Core.vreg_getElem]

theorem Core.stored_fp32_other (c q : Core) (x : EArgs) {j : Nat}
    (hj : ∀ l, l < 64 → (q.elemAddr x + l) % spSize ≠ j % spSize) : (c.stored q r x .fp32).rd j = c.rd j := by
  rw [Core.stored_fp32_rd, Core.rd_wrWords_out]
  intro l hl
  rw [Core.vreg_length] at hl
  exact (hj l hl).symm

/-- Settles O21: each form is a change of its core, under the detectors that guard its words. -/
theorem scalarMovesAndVectorMemory : Obligations.ScalarMovesAndVectorMemory := by
  unfold Obligations.ScalarMovesAndVectorMemory
  refine ⟨fun c x s r hx => ?_, fun c x s r f hf => ⟨fun h hp => ?_, fun h => ?_⟩⟩
  · have hf := Fmt.ofCode_eq_fp32.2 hx
    have hlt := (s.core (coreKey c)).elemAddr_lt x
    refine ⟨fun h hp => ⟨_, rfl, h.sld_retires hf hp⟩, fun h hw hp => ⟨_, rfl, h.sldd_retires hf hw hp⟩, fun h => ?_,
      fun h hw => ?_⟩
    · have hR := h.sst_retires hf
      refine ⟨_, rfl, hR.spFrame (Core.wr_spOp _ _), ?_, fun j hj => ?_⟩
      · exact (hR.poisonedAt _).trans ((Core.poisonedAt_wr _ _ _ _).trans (if_pos rfl))
      · exact (hR.rd j).trans (Core.rd_wr_of_lt _ _ hlt hj)
    · have hR := h.sstd_retires hf hw
      refine ⟨_, rfl, hR.spFrame ((Core.wr_spOp _ _).comp (Core.wr_spOp _ _)), fun j hj => ?_⟩
      have hw' : (s.core (coreKey c)).elemAddr x % 2 = 0 := hw
      exact (hR.rd j).trans (Core.rd_wrPair _ _ (by unfold spSize at hlt ⊢; omega) hj)
  · have hR := h.vld_retires hf hp
    have hlen : (lanesOf ((List.range 64).map ((s.core (coreKey c)).loaded f ((s.core (coreKey c)).elemAddr x)
      (4 * (s.core (coreKey c)).wordAddr x.aS)))).1.length = 64 := by simp
    refine ⟨_, rfl, hR.vectorFrame, fun l hl => ?_, fun v l hv hl => hR.otherLane hlen.le hv hl⟩
    refine (hR.writtenLane (by rwa [hlen])).trans ?_
    simp only [lanesOf_map_fst, List.getElem_map, List.getElem_range, Core.loaded, apply_ite Prod.fst]
    rfl
  · have hR := h.vst_retires hf
    refine ⟨_, rfl, hR, fun he l hl => ?_, fun he j hj => ?_⟩
    · subst he
      exact (hR.rd _).trans (Core.stored_fp32_lane _ _ x hl)
    · subst he
      exact (hR.rd _).trans (Core.stored_fp32_other _ _ x hj)

end Sys2Proof.Machine
end

section
/-!
PROOF. The commit of a segment (R138) for a task whose context number names no context.
-/

namespace Sys2Proof.Machine

open Sys2Proof

/-- SEGMENT_COMMIT of an SCOMMIT on a core in service whose engines have drained (R138). -/
theorem exec_segmentCommit {s : State} {c : CoreId} {r : RunTask} (hrun : (s.core (coreKey c)).run = some r)
    (hrole : (s.core (coreKey c)).role = .inService) (hdrained : (s.core (coreKey c)).drained = true)
    (hhold : (s.core (coreKey c)).disp.hold = .commit) :
    exec (.segmentCommit c) s = .next (((s.commitSegment (coreKey c) r ((s.core (coreKey c)).regs.pc + 8) none).modCore
      (coreKey c) fun c => { c with disp := { c.disp with hold := .none } }).exchange (coreKey c)) := by
  change execSegmentCommit c s = _
  simp only [execSegmentCommit, hrun, hrole, hdrained, hhold, ne_eq, not_true_eq_false, decide_false, Bool.not_true,
    Bool.or_self, Bool.false_eq_true, if_false]

/-- A task of context 3133952. The contexts are 0 to 63: no entry is this one's CTX_FLAGS, and the key that its number gives is
that of BADCOL_MAP of cluster 0. -/
def strayTask : RunTask := { inst := 0, ctx := 3133952, taskid := 0, step := 0, key := 0#64 }

/-- Core 0 at an SCOMMIT, all four flags set since the last commit. -/
def strayCore : Core :=
  { Core.init with
    run := some strayTask
    flags := { Core.init.flags with seg := 15#4 }
    disp := { Core.init.disp with hold := .commit } }

/-- The machine after reset but for core 0: its slot has no bad column, and its cluster has a standby spare. -/
def strayState : State := { State.reset with cores := [(0, strayCore)] }

/-- The commit ORs the four flags into BADCOL_MAP, so that four columns of the slot seem bad, and exchanges it (R105). -/
theorem strayState_exchanged :
    ((((strayState.commitSegment 0 strayTask ((strayState.core 0).regs.pc + 8) none).modCore 0 fun c =>
      { c with disp := { c.disp with hold := .none } }).exchange 0).ent (Ent.coreMap 0)) ≠ strayState.ent (Ent.coreMap 0) := by
  decide +kernel

/-- Refutes O16: the second clause bounds no context number. Task `strayTask` commits on core 0 of the reset machine: its
flags go to BADCOL_MAP, and CORE_MAP changes with the exchange. -/
theorem not_commitsEndSegments : ¬ Obligations.CommitsEndSegments := by
  unfold Obligations.CommitsEndSegments
  rintro ⟨-, hcommit, -⟩
  have hrun : (strayState.core 0).run = some strayTask := by decide +kernel
  have hrole : (strayState.core 0).role = .inService := by decide +kernel
  have hdrained : (strayState.core 0).drained = true := by decide +kernel
  have hhold : (strayState.core 0).disp.hold = .commit := by decide +kernel
  have hwidth : strayState.slotWidth (strayState.slotOf 0).1 (strayState.slotOf 0).2 = 64 := by decide +kernel
  obtain ⟨t, hexec, -, -, -, -, -, -, -, -, -, -, -, -, hent, -⟩ :=
    hcommit { cluster := 0, core := 0 } strayState strayTask hrun hrole hdrained hhold hwidth
  have ht := Host.Outcome.next.inj
    ((exec_segmentCommit (c := { cluster := 0, core := 0 }) hrun hrole hdrained hhold).symm.trans hexec)
  rw [← ht] at hent
  exact strayState_exchanged (hent (Ent.coreMap 0) (by decide))

end Sys2Proof.Machine
end

section
/-!
SUPPORT. The transfer engine, said once: how an instruction of it ends, and the geometry of a transfer of one row.
-/

namespace Sys2Proof.Machine

open Sys2Proof

variable {s : State} {k : Nat} {g : BitVec 4} {r : RunTask} {op : EngOp}

/-! ### How an instruction of the transfer engine ends -/

@[simp] theorem Core.enqueue_loads (c : Core) (op : EngOp) : (c.enqueue op).disp.loads = c.disp.loads := by
  unfold Core.enqueue Core.next Core.setPc
  generalize op.unit = u
  cases u <;> rfl

@[simp] theorem Core.enqueue_stores (c : Core) (op : EngOp) : (c.enqueue op).disp.stores = c.disp.stores := by
  unfold Core.enqueue Core.next Core.setPc
  generalize op.unit = u
  cases u <;> rfl

@[simp] theorem Core.enqueue_sends (c : Core) (op : EngOp) : (c.enqueue op).disp.sends = c.disp.sends := by
  unfold Core.enqueue Core.next Core.setPc
  generalize op.unit = u
  cases u <;> rfl

@[simp] theorem Core.enqueue_granted (c : Core) (op : EngOp) : (c.enqueue op).granted = c.granted := by
  unfold Core.granted Core.enqueue Core.next Core.setPc
  generalize op.unit = u
  cases u <;> rfl

@[simp] theorem Core.enqueue_flightsFull (c : Core) (op : EngOp) : (c.enqueue op).flightsFull = c.flightsFull := by
  simp [Core.flightsFull]

/-- The queue that an issued instruction of the transfer engine enters holds it alone. -/
theorem Issues.enqueue_qT (h : Issues s k g op r) (ht : op.unit = .txe) :
    ((s.core k).enqueue op).disp.qT = [QEntry.new (s.core k) op] := by
  have hu : op.unit ≠ .seq := by rw [ht]; nofun
  have := Core.enqueue_queue (s.core k) op hu (h.place.resolve_left hu).1
  rwa [ht] at this

/-- A core whose transfer engine has done the head of its queue, and may have returned its grant (R136). -/
def Core.moved (c : Core) (grant : Bool) (z : Races) : Core :=
  { c with disp := { c.disp with qT := c.disp.qT.drop 1, grant := grant, races := z } }

/-- A transfer that is done at the head leaves the queue; the grant is settled, and nothing else follows. -/
theorem Issues.moves (h : Issues s k g op r) (ht : op.unit = .txe) {s1 : State}
    (hd : (s.modCore k (Core.enqueue · op)).runHead k .txe r (QEntry.new (s.core k) op) = .done s1) :
    ∃ b, Touches s1 (s.issue k g op) k fun c => c.moved b c.disp.races := by
  have hi := h.done (by rw [ht]; nofun) (ht ▸ hd)
  rw [if_pos ht, ht] at hi
  obtain ⟨b, hb⟩ := Touches.settleGrant (s1.modCore k (Core.pop · .txe)) k
  exact ⟨b, hi ▸ (Touches.modCore s1 k _).trans hb⟩

/-- The same for one that reads words of the scratchpad under its detectors, none of them poisoned. -/
theorem Issues.movesGuarded (h : Issues s k g op r) (ht : op.unit = .txe) {words : List Nat} {f : State → HeadRes}
    {s1 : State} (hp : (s.core k).anyPoison words = false)
    (hd : (s.modCore k (Core.enqueue · op)).runHead k .txe r (QEntry.new (s.core k) op) =
      (s.modCore k (Core.enqueue · op)).guarded k r.ctx (s.core k).regs.pc .txe .none words f)
    (hf : f (s.modCore k (Core.enqueue · op)) = .done s1) :
    ∃ b z, Touches s1 (s.issue k g op) k fun c => c.moved b z := by
  have hr : ((s.modCore k (Core.enqueue · op)).core k).disp.races.unordered .txe false = [] := by
    simpa [ht] using h.alone
  have hp' : ((s.modCore k (Core.enqueue · op)).core k).anyPoison words = false := by simpa using hp
  obtain ⟨z, hz⟩ := State.noteAccess_alone (t := s1) hr words
  rw [State.guarded_alone hr _ _ _ hp', hf] at hd
  obtain ⟨b, hb⟩ := h.moves ht hd
  replace hb : Touches (s1.noteAccess k .txe _ words) _ k _ := hb
  rw [hz] at hb
  exact ⟨b, z (s1.core k).disp.races, ((Touches.modCore s1 k _).trans hb).congr rfl⟩

/-- A transfer that ends in a fault leaves the machine as that does, its grant settled. -/
theorem Issues.moveFaults (h : Issues s k g op r) (ht : op.unit = .txe) {s1 : State}
    (hd : (s.modCore k (Core.enqueue · op)).runHead k .txe r (QEntry.new (s.core k) op) = .gone s1) :
    s.issue k g op = s1.settleGrant k := by
  rw [h.issue (by rw [ht]; nofun), ht]
  unfold State.pump
  simp [Core.ready_role h.goes.ready, Disp.queue, h.enqueue_qT ht, State.pumpQueue, Core.ready_run h.goes.ready, hd]

/-- A transfer that waits at the head with nothing changed stays there: its core has it in the queue and may have returned
its grant. -/
theorem Issues.moveWaits (h : Issues s k g op r) (ht : op.unit = .txe)
    (hd : (s.modCore k (Core.enqueue · op)).runHead k .txe r (QEntry.new (s.core k) op) =
      .wait (s.modCore k (Core.enqueue · op)) (QEntry.new (s.core k) op)) :
    ∃ b, Touches s (s.issue k g op) k fun c =>
      { c.enqueue op with disp := { (c.enqueue op).disp with qT := [QEntry.new c op], grant := b } } := by
  have hi := h.wait (by rw [ht]; nofun) (ht ▸ hd)
  rw [if_pos ht, ht] at hi
  obtain ⟨b, hb⟩ := Touches.settleGrant
    ((s.modCore k (Core.enqueue · op)).modCore k (Core.setHead · .txe (QEntry.new (s.core k) op))) k
  refine ⟨b, hi ▸ (((Touches.modCore s k _).trans (Touches.modCore _ k _)).trans hb).congr ?_⟩
  simp [Core.setHead, Disp.setQueue, Disp.queue, h.enqueue_qT ht]

/-- A transfer that has nothing to move retires with nothing changed (R164). -/
theorem Issues.retires_id (h : Issues s k g op r)
    (hd : ∀ s' : State, s' = s ∨ s' = s.modCore k (Core.enqueue · op) →
      s'.runHead k op.unit r (QEntry.new (s.core k) op) = .done s') : Retires s (s.issue k g op) k op.unit id :=
  h.acts (fun _ _ _ => rfl) fun s' hs => ⟨s', id, hd s' hs, Touches.rfl s' k⟩

/-! ### One row -/

/-- A core with a grant and nothing in flight, at a transfer of one row of n elements, dense and aligned in memory (R162,
R164, R166). -/
structure Core.OneRow (c : Core) (x : TMoveArgs) (sh : TShape) (n : Nat) : Prop where
  granted : c.granted = true
  loads : c.disp.loads = []
  stores : c.disp.stores = []
  shape : transferShape x.sfmt x.dfmt = some sh
  len : (c.sreg x.sN).toNat % 2 ^ 32 = n
  pos : 0 < n
  rows : (c.sreg x.sN).toNat / 2 ^ 32 ≤ 1
  aligned : (c.areg x.aV).toNat % 4 = 0
  dense : (c.sreg x.sG).toNat % 2 ^ 32 = 0

variable {c : Core} {x : TMoveArgs} {sh : TShape} {n : Nat}

theorem Core.OneRow.enqueue (h : c.OneRow x sh n) (op : EngOp) : (c.enqueue op).OneRow x sh n := by
  obtain ⟨h1, h2, h3, h4, h5, h6, h7, h8, h9⟩ := h
  exact ⟨by simpa using h1, by simpa using h2, by simpa using h3, h4, h5, h6, h7, h8, h9⟩

theorem bitsAt_zero (v n : Nat) : bitsAt v 0 n = v % 2 ^ n := by simp [bitsAt]

theorem strideOr_zero (d : Nat) : strideOr 0 d = d := rfl

/-- The number of rows that sN gives, with 0 for 1 (Table 6.5). -/
theorem strideOr_rows {v : Nat} (h : v / 2 ^ 32 ≤ 1) : strideOr (bitsAt v 32 32) 1 = 1 := by
  unfold strideOr bitsAt
  split <;> omega

theorem Core.OneRow.moveGeom (h : c.OneRow x sh n) (mb sb : Nat) : c.moveGeom x mb sb =
    { len := n, rows := 1, va := (c.areg x.aV).toNat, mpitch := mb, sp := c.wordAddr x.aL,
      spitch := strideOr (bitsAt (c.sreg x.sG).toNat 32 20) ((sb + 3) / 4) } := by
  simp only [Core.moveGeom, h.len, strideOr_rows h.rows, bitsAt_zero, h.dense, strideOr_zero]

theorem Core.OneRow.flightsFull (h : c.OneRow x sh n) : c.flightsFull = false := by
  rw [Core.flightsFull, h.loads]
  rfl

/-- The rounding of the elements of the first row (R163). -/
theorem Core.moveMode_zero (c : Core) (r : RunTask) (x : TMoveArgs) (len : Nat) : c.moveMode r x len 0 =
    fun e => roundOf r x.rnd ((c.sreg x.sT).toNat % 2 ^ 32) ((c.sreg x.sI).toNat + e) := by
  funext e
  simp only [Core.moveMode, Nat.zero_mul, Nat.add_zero]

@[simp] theorem overlaps_nil (f : Flight) : overlaps f [] = false := rfl

end Sys2Proof.Machine
end

section
/-!
PROOF. WOPEN and WCLOSE (R157, Table 6.3).
-/

namespace Sys2Proof.Machine

open Sys2Proof

variable {s t : State} {k : Nat} {g : BitVec 4} {r : RunTask} {x : WinArgs} {u : CoreUnit}

theorem Core.windowAt_setWindow (c : Core) (w v : Nat) (y : Window) :
    windowAt (c.setWindow w y).sp.win v = if v = w then y else windowAt c.sp.win v := SMap.get_set _ _ _ _ _

theorem Issues.wopen_retires (h : Issues s k g (.wopen x) r) : Retires s (s.issue k g (.wopen x)) k .txe
    (Core.setWindow · x.w.toNat (openWindow ((s.core k).wordAddr x.aB) ((s.core k).sreg x.sN).toNat)) :=
  (h.acts (G := fun c => c.setWindow x.w.toNat (openWindow (c.wordAddr x.aB) (c.sreg x.sN).toNat)) (fun _ _ _ => rfl)
    fun s' _ => ⟨_, id, rfl, Touches.modCore s' k _⟩).congr rfl

theorem Issues.wclose_retires (h : Issues s k g (.wclose x) r) :
    Retires s (s.issue k g (.wclose x)) k .txe (Core.setWindow · x.w.toNat Window.closed) :=
  h.acts (fun _ _ _ => rfl) fun s' _ => ⟨_, id, rfl, Touches.modCore s' k _⟩

/-- Of the core's change only the window table is seen. -/
theorem Retires.windowFrame {w : Nat} {y : Window} (h : Retires s t k u (Core.setWindow · w y)) :
    Retires s t k u fun q => { q with sp := { q.sp with win := (t.core k).sp.win } } := by
  refine h.congr ?_
  rw [h.sp]
  rfl

theorem Retires.windowAt {w : Nat} {y : Window} (h : Retires s t k u (Core.setWindow · w y)) (v : Nat) :
    windowAt (t.core k).sp.win v = if v = w then y else windowAt (s.core k).sp.win v := by
  rw [h.sp, Core.windowAt_setWindow]

theorem openWindow_zero {base sN : Nat} (h : sN % 2 ^ 20 = 0) : openWindow base sN = Window.closed := by
  rw [openWindow, bitsAt_zero, if_pos h]

/-- The entry of a window of at least one word; filter codes 2 and 3 are one (Table 6.3). -/
theorem openWindow_pos {base sN : Nat} (h : sN % 2 ^ 20 ≠ 0) : openWindow base sN =
    { isOpen := true, base := base, bound := min (base + sN % 2 ^ 20) spSize - 1, filter := min (sN / 2 ^ 32 % 4) 2,
      fcore := sN / 2 ^ 34 % 32, fcluster := sN / 2 ^ 39 % 64 } := by
  have hf : (if bitsAt sN 32 2 = 3 then 2 else bitsAt sN 32 2) = min (sN / 2 ^ 32 % 4) 2 := by
    unfold bitsAt
    split <;> omega
  rw [openWindow, bitsAt_zero, if_neg h]
  simp only [hf]
  rfl

theorem openWindow_isOpen {base sN : Nat} : (openWindow base sN).isOpen = true ↔ sN % 2 ^ 20 ≠ 0 := by
  by_cases h : sN % 2 ^ 20 = 0
  · rw [openWindow_zero h]
    exact ⟨nofun, fun hn => absurd h hn⟩
  · rw [openWindow_pos h]
    exact ⟨fun _ => h, fun _ => rfl⟩

/-- Settles O22: both set one entry of the window table, WOPEN to the window that its operands give. -/
theorem windowsOpenAndClose : Obligations.WindowsOpenAndClose := by
  unfold Obligations.WindowsOpenAndClose
  refine fun c x s r => ⟨fun h => ?_, fun h => ?_⟩
  · have hR := h.wopen_retires
    have hown := (hR.windowAt x.w.toNat).trans (if_pos rfl)
    refine ⟨_, rfl, hR.windowFrame, fun w hw => (hR.windowAt w).trans (if_neg hw), ?_, fun hlen => ?_⟩
    · dsimp only
      rw [hown]
      exact openWindow_isOpen
    · dsimp only
      rw [hown, openWindow_pos hlen]
      exact ⟨rfl, rfl, rfl, rfl, rfl⟩
  · have hR := h.wclose_retires
    exact ⟨_, rfl, hR.windowFrame, by simp [hR.windowAt, Window.closed], fun w hw => (hR.windowAt w).trans (if_neg hw)⟩

end Sys2Proof.Machine
end

section
/-!
PROOF. Transfers that are not executed, and empty ones (R164).
-/

namespace Sys2Proof.Machine

open Sys2Proof

variable {s : State} {k n pc : Nat} {g : BitVec 4} {r : RunTask} {x : TMoveArgs} {y : TSendArgs} {v : Bool} {sh : TShape}
  {e : QEntry} {hw : HwFault}

/-! ### Misaligned transfers -/

/-- A pitch that is no multiple of 4 is taken as it is; 0 stands for the row length (Table 6.5). -/
theorem strideOr_unaligned {v d : Nat} (h : v % 4 ≠ 0) : strideOr v d % 4 ≠ 0 := by
  unfold strideOr
  split <;> omega

/-- The rows in memory of a transfer break an alignment rule of R164, or its row in the scratchpad does not fill whole
words. -/
def Core.misplaced (c : Core) (x : TMoveArgs) (sh : TShape) (mb n : Nat) (src : Bool) : Prop :=
  (c.areg x.aV).toNat % 4 ≠ 0 ∨ (c.sreg x.sG).toNat % 2 ^ 32 % 4 ≠ 0 ∨ mb % 4 ≠ 0 ∨ fillsWords sh src n = false

theorem Core.misplaced_refused {c : Core} {mb : Nat} {src : Bool} (h : c.misplaced x sh mb n src) (sb : Nat) :
    ((c.moveGeom x mb sb).bad mb 0 || !fillsWords sh src n) = true := by
  simp only [MoveGeom.bad, Core.moveGeom, bitsAt_zero, Bool.or_eq_true, bne_iff_ne, Bool.not_eq_true']
  rcases h with h | h | h | h
  · exact .inl (.inl (.inl (.inl h)))
  · exact .inl (.inl (.inl (.inr (strideOr_unaligned h))))
  · exact .inl (.inl (.inr h))
  · exact .inr h

theorem State.headTload_misplaced (hg : (s.core k).granted = true) (hfull : (s.core k).flightsFull = false)
    (hsh : transferShape x.sfmt x.dfmt = some sh) (hn : 0 < ((s.core k).sreg x.sN).toNat % 2 ^ 32)
    (hb : (s.core k).misplaced x sh (sh.srcBytes (((s.core k).sreg x.sN).toNat % 2 ^ 32))
      (((s.core k).sreg x.sN).toNat % 2 ^ 32) false) :
    s.headTload k pc r x e = s.misaligned k r.ctx pc [((s.core k).areg x.aL).toNat, ((s.core k).areg x.aV).toNat,
      ((s.core k).sreg x.sN).toNat, ((s.core k).sreg x.sG).toNat] := by
  simp only [State.headTload, hn.ne', hg, hfull, hsh, Core.misplaced_refused hb, if_true, if_false, Bool.not_true,
    Bool.false_eq_true]
  rfl

theorem State.headTstore_misplaced (hg : (s.core k).granted = true)
    (hsh : transferShape x.sfmt x.dfmt = some sh) (hn : 0 < ((s.core k).sreg x.sN).toNat % 2 ^ 32)
    (hb : (s.core k).misplaced x sh (sh.dstBytes (((s.core k).sreg x.sN).toNat % 2 ^ 32))
      (((s.core k).sreg x.sN).toNat % 2 ^ 32) true) :
    s.headTstore k pc r x hw e = s.misaligned k r.ctx pc [((s.core k).areg x.aL).toNat, ((s.core k).areg x.aV).toNat,
      ((s.core k).sreg x.sN).toNat, ((s.core k).sreg x.sG).toNat] := by
  simp only [State.headTstore, hn.ne', hg, hsh, Core.misplaced_refused hb, if_true, if_false, Bool.not_true,
    Bool.false_eq_true]
  rfl

theorem State.headTsend_misplaced (hg : (s.core k).granted = true)
    (hsh : transferShape y.sfmt y.dfmt = some sh) (hn : 0 < ((s.core k).sreg y.sN).toNat % 2 ^ 32)
    (hb : fillsWords sh true (((s.core k).sreg y.sN).toNat % 2 ^ 32) = false ∨
      fillsWords sh false (((s.core k).sreg y.sN).toNat % 2 ^ 32) = false) :
    s.headTsend k pc r y v hw e = s.misaligned k r.ctx pc [((s.core k).areg y.aL).toNat,
      ((s.core k).sreg y.sN).toNat, ((s.core k).sreg y.sR).toNat] := by
  have hor : (!fillsWords sh true (((s.core k).sreg y.sN).toNat % 2 ^ 32) ||
      !fillsWords sh false (((s.core k).sreg y.sN).toNat % 2 ^ 32)) = true := by
    rcases hb with h | h <;> simp only [h, Bool.not_false, Bool.true_or, Bool.or_true]
  simp only [State.headTsend, hn.ne', hg, hsh, hor, if_true, if_false, Bool.not_true, Bool.false_eq_true]

/-- A misaligned transfer that is issued is recorded, its context reset and its grant settled (R136, R164). -/
theorem Issues.misaligned {op : EngOp} (h : Issues s k g op r) (ht : op.unit = .txe) {l : List Nat}
    (hd : (s.modCore k (Core.enqueue · op)).runHead k .txe r (QEntry.new (s.core k) op) =
      (s.modCore k (Core.enqueue · op)).misaligned k r.ctx (s.core k).regs.pc l) :
    s.issue k g op = (((s.modCore k (Core.enqueue · op)).logCore Code.misalignedTransfer r.ctx k
      ((s.core k).regs.pc :: l)).ctxReset r.ctx Code.misalignedTransfer).settleGrant k :=
  h.moveFaults ht hd

/-! ### Empty transfers -/

theorem State.headTload_empty (hn : ((s.core k).sreg x.sN).toNat % 2 ^ 32 = 0) : s.headTload k pc r x e = .done s :=
  if_pos hn

theorem State.headTstore_empty (hn : ((s.core k).sreg x.sN).toNat % 2 ^ 32 = 0) : s.headTstore k pc r x hw e = .done s :=
  if_pos hn

theorem State.headTsend_empty (hn : ((s.core k).sreg y.sN).toNat % 2 ^ 32 = 0) : s.headTsend k pc r y v hw e = .done s :=
  if_pos hn

theorem exec_tsend_form (c : CoreId) (y : TSendArgs) (v : Bool) (s : State) :
    exec (if v then .tsendVoile c y .none else .tsend c y .none) s =
      .next (s.issue (coreKey c) y.guard (.tsend y v .none)) := by
  cases v <;> rfl

/-- Registers read where an instruction acts. -/
theorem Core.sreg_acting {op : EngOp} {s' : State} (hs : s' = s ∨ s' = s.modCore k (Core.enqueue · op)) (m : BitVec 5) :
    (s'.core k).sreg m = (s.core k).sreg m := by
  rcases hs with rfl | rfl <;> simp

theorem fillsWords_plain (src : Bool) (n : Nat) : fillsWords .plain src n = decide (n % 4 = 0) := rfl

theorem fillsWords_conv (a b : Fmt) (src : Bool) (n : Nat) :
    fillsWords (.conv a b) src n = decide (n * (if src then a.width else b.width) % 32 = 0) := rfl

/-- Settles O25: a transfer that R164 refuses ends in the fault of a misaligned transfer, an empty one is done as it is. -/
theorem misalignedTransfersFault : Obligations.MisalignedTransfersFault := by
  unfold Obligations.MisalignedTransfersFault
  refine ⟨fun c x y v s r sh => ⟨fun h hg hfull hsh hn hb => ?_, fun h hg hsh hn hb => ?_, fun h hg hsh hn hb => ?_,
    fun h hn => ⟨_, rfl, ?_⟩, fun h hn => ⟨_, rfl, ?_⟩, fun h hn => ⟨_, exec_tsend_form c y v s, ?_⟩⟩,
    fun n => ⟨fillsWords_plain _ n, fillsWords_plain _ n, fun a b => ⟨fillsWords_conv a b _ n, fillsWords_conv a b _ n⟩⟩⟩
  · have hfull' : (s.core (coreKey c)).flightsFull = false := by
      rw [← Bool.not_eq_true, Core.flightsFull, Nat.ble_eq]
      omega
    refine congrArg Host.Outcome.next (h.misaligned rfl ?_)
    refine (State.headTload_misplaced (sh := sh) ?_ ?_ hsh ?_ ?_).trans ?_ <;> rw [State.core_modCore]
    · simpa using hg
    · simpa using hfull'
    · exact hn
    · exact hb
    · rfl
  · refine congrArg Host.Outcome.next (h.misaligned rfl ?_)
    refine (State.headTstore_misplaced (sh := sh) ?_ hsh ?_ ?_).trans ?_ <;> rw [State.core_modCore]
    · simpa using hg
    · exact hn
    · exact hb
    · rfl
  · refine (exec_tsend_form c y v s).trans (congrArg Host.Outcome.next (h.misaligned rfl ?_))
    refine (State.headTsend_misplaced (sh := sh) ?_ hsh ?_ ?_).trans ?_ <;> rw [State.core_modCore]
    · simpa using hg
    · exact hn
    · exact hb
    · rfl
  · exact h.retires_id fun s' hs => State.headTload_empty (by rwa [Core.sreg_acting hs])
  · exact h.retires_id fun s' hs => State.headTstore_empty (by rwa [Core.sreg_acting hs])
  · exact h.retires_id fun s' hs => State.headTsend_empty (by rwa [Core.sreg_acting hs])

end Sys2Proof.Machine
end

section
/-!
PROOF. A TLOAD of one row, and transfers that find four TLOADs in flight (R162, R163, R166).
-/

namespace Sys2Proof.Machine

open Sys2Proof

variable {s t : State} {k n pc : Nat} {g : BitVec 4} {r : RunTask} {x : TMoveArgs} {sh : TShape} {e : QEntry}

/-! ### Context memory -/

theorem State.translate_congr (h : t.mem = s.mem) (n va : Nat) : t.translate n va = s.translate n va := by
  simp [State.translate, State.page, h]

theorem State.poisoned_congr (h : t.mem = s.mem) (line : Nat) : t.poisoned line = s.poisoned line := by
  simp [State.poisoned, h]

theorem State.readPhys_congr (h : t.mem = s.mem) (pa n : Nat) : t.readPhys pa n = s.readPhys pa n := by
  simp [State.readPhys, State.memByte_congr (congrArg Mem.cells h)]

/-- What a read by virtual address answers rests on the stacks alone. -/
theorem State.readParts_congr (h : t.mem = s.mem) (n : Nat) (l : List (Nat × Nat)) : t.readParts n l = s.readParts n l := by
  induction l with
  | nil => rfl
  | cons p l ih =>
    simp only [State.readParts, State.translate_congr h, State.poisoned_congr h, State.readPhys_congr h, ih]

theorem State.readVirt_modCore (s : State) (k : Nat) (f : Core → Core) (n va len : Nat) :
    (s.modCore k f).readVirt n va len = s.readVirt n va len :=
  State.readParts_congr (s := s) (t := s.modCore k f) rfl n _

theorem State.core_countLines (s : State) (n va len die j : Nat) :
    (s.countLines n va len die).core j = s.core j := rfl

/-- What R164 asks of a pitch that is not 0 holds of the row length that stands for 0. -/
theorem Core.moveGeom_good {c : Core} {mb : Nat} {src : Bool} (hva : (c.areg x.aV).toNat % 4 = 0)
    (hg : (c.sreg x.sG).toNat % 4 = 0) (hm : mb % 4 = 0) (hf : fillsWords sh src n = true) (sb : Nat) :
    ((c.moveGeom x mb sb).bad mb 0 || !fillsWords sh src n) = false := by
  have hpitch : strideOr (bitsAt (c.sreg x.sG).toNat 0 32) mb % 4 = 0 := by
    unfold strideOr bitsAt
    split <;> omega
  simp [MoveGeom.bad, Core.moveGeom, hva, hpitch, hm, hf]

theorem Core.OneRow.good {c : Core} (h : c.OneRow x sh n) {mb : Nat} {src : Bool} (hm : mb % 4 = 0)
    (hf : fillsWords sh src n = true) (sb : Nat) : ((c.moveGeom x mb sb).bad mb 0 || !fillsWords sh src n) = false := by
  have hgap := h.dense
  exact Core.moveGeom_good h.aligned (by omega) hm hf sb

/-! ### TLOAD -/

/-- What a TLOAD of one row makes of its core: the words written, and the TLOAD in flight (R162, R166). -/
def Core.loadsRow (c : Core) (w : Nat) (words : List Word32) (fl : Flight) : Core :=
  let d := c.wrWords w words
  { d with disp := { d.disp with loads := d.disp.loads ++ [fl] } }

/-- A TLOAD of one row in flight: the scratchpad range that it writes, its PC, and the flags that it sets when it retires
(R163, R166). -/
def Core.rowInFlight (c : Core) (x : TMoveArgs) (sh : TShape) (n pc : Nat) (fl : FFlags) : Flight :=
  { spRange (c.wordAddr x.aL) (c.wordAddr x.aL + sh.dstBytes n / 4) with pc := pc, flags := fl }

/-- The converted row that core c loads (R162, R163). -/
def Core.loadedRow (c : Core) (r : RunTask) (x : TMoveArgs) (sh : TShape) (n : Nat) (bytes : List Byte) :
    List Word32 × FFlags :=
  sh.convert x.sat (fun e => roundOf r x.rnd ((c.sreg x.sT).toNat % 2 ^ 32) ((c.sreg x.sI).toNat + e)) n (wordsOf bytes)

/-- The only row of a TLOAD (R162, R165). -/
theorem State.loadRows_one {c : Core} (hc : s.core k = c) {g : MoveGeom} {bytes : List Byte}
    (hv : s.readVirt r.ctx g.va (sh.srcBytes g.len) = .ok bytes) :
    s.loadRows k r x sh g 1 0 0#4 =
      ⟨(s.countLines r.ctx g.va (sh.srcBytes g.len) (s.coreDie k)).setCore k
          (c.wrWords g.sp (c.loadedRow r x sh g.len bytes).1), (c.loadedRow r x sh g.len bytes).2, none⟩ := by
  subst hc
  simp only [State.loadRows, Nat.zero_mul, Nat.add_zero, hv, Core.moveMode_zero, Core.loadedRow, BitVec.zero_or]

/-- A TLOAD of one row at the head moves it (R162): beside the count of the accesses, its core alone changes. -/
theorem State.headTload_row {c : Core} (hc : s.core k = c) {bytes : List Byte} (h : c.OneRow x sh n)
    (hm : sh.srcBytes n % 4 = 0) (hf : fillsWords sh false n = true)
    (hv : s.readVirt r.ctx (c.areg x.aV).toNat (sh.srcBytes n) = .ok bytes) :
    ∃ s1, s.headTload k pc r x e = .done s1 ∧
      Touches (s.countLines r.ctx (c.areg x.aV).toNat (sh.srcBytes n) (s.coreDie k)) s1 k
        (Core.loadsRow · (c.wordAddr x.aL) (c.loadedRow r x sh n bytes).1
          (c.rowInFlight x sh n pc (c.loadedRow r x sh n bytes).2)) := by
  subst hc
  have hgood := h.good hm hf (sh.dstBytes n)
  have hrow := State.loadRows_one (k := k) (x := x) rfl (g := (s.core k).moveGeom x (sh.srcBytes n) (sh.dstBytes n)) (by
    rw [h.moveGeom]
    exact hv)
  rw [h.moveGeom] at hrow hgood
  simp only [State.headTload, h.len, h.pos.ne', h.granted, h.flightsFull, h.shape, h.moveGeom, hgood, h.stores, overlaps_nil,
    hrow, Bool.not_true, Bool.false_eq_true, if_false, Nat.sub_self, Nat.zero_mul, Nat.add_zero]
  exact ⟨_, rfl, ((Touches.setCore _ k _).trans (Touches.modCore _ k _)).congr rfl⟩

/-- What a TLOAD writes does not rest on the program counter and dispatch. -/
theorem Core.loadsRow_enqueue (c : Core) (op : EngOp) (w : Nat) (words : List Word32) (fl : Flight) :
    (c.enqueue op).loadsRow w words fl = (c.wrWords w words).placed ((c.regs.pc + 8) % 2 ^ 48)
      { (c.enqueue op).disp with loads := c.disp.loads ++ [fl] } := by
  rw [Core.loadsRow, Core.enqueue_placed, quiet_iff_placed.1 (Core.wrWords_spOp w words).quiet, ← Core.enqueue_loads c op]
  rfl

theorem Core.placed_wrWords (c : Core) (w : Nat) (l : List Word32) (pc : Nat) (d : Disp) :
    ((c.wrWords w l).placed pc d).regs = { c.regs with pc := pc } ∧ ((c.wrWords w l).placed pc d).flags = c.flags := by
  rw [(Core.wrWords_spOp w l).frame]
  exact ⟨rfl, rfl⟩

/-- A TLOAD of one row that is issued: the words and the flight of its core, with its flags as they were; memory and the
other cores stay (R162, R163). -/
theorem Issues.tload_row {bytes : List Byte} (hi : Issues s k g (.tload x) r) (h : (s.core k).OneRow x sh n)
    (hm : sh.srcBytes n % 4 = 0) (hf : fillsWords sh false n = true)
    (hv : s.readVirt r.ctx ((s.core k).areg x.aV).toNat (sh.srcBytes n) = .ok bytes) :
    let row := (s.core k).loadedRow r x sh n bytes
    let t := s.issue k g (.tload x)
    (∃ d, t.core k = ((s.core k).wrWords ((s.core k).wordAddr x.aL) row.1).placed (((s.core k).regs.pc + 8) % 2 ^ 48) d ∧
      d.loads = [(s.core k).rowInFlight x sh n (s.core k).regs.pc row.2] ∧ d.qT = []) ∧
      (∀ a, t.memByte a = s.memByte a) ∧ ∀ j, j ≠ k → t.core j = s.core j := by
  obtain ⟨s1, hd, hload⟩ := State.headTload_row (State.core_modCore s k (Core.enqueue · (.tload x)))
    (pc := (s.core k).regs.pc) (r := r) (e := QEntry.new (s.core k) (.tload x)) (bytes := bytes) (h.enqueue _) hm hf
    (by rw [State.readVirt_modCore]; exact hv)
  obtain ⟨b, hmove⟩ := hi.moves rfl hd
  obtain ⟨hstate, hother, hcore⟩ := hload.trans hmove
  rw [State.core_countLines, State.core_modCore] at hcore
  dsimp only at hcore
  rw [Core.loadsRow_enqueue, h.loads] at hcore
  refine ⟨⟨_, hcore, rfl, ?_⟩, fun a => ?_, fun j hj => ?_⟩
  · exact congrArg (List.drop 1) (hi.enqueue_qT rfl)
  · rw [State.memByte, hstate]
    rfl
  · rw [hother j hj, State.core_countLines, State.core_modCore_ne _ _ hj]

/-! ### Four TLOADs in flight -/

/-- A transfer that waits with nothing changed leaves what is in flight, the scratchpad and memory as they were. -/
theorem Issues.moveWaits_keeps {op : EngOp} (h : Issues s k g op r) (ht : op.unit = .txe)
    (hd : ∀ s' : State, s'.core k = (s.core k).enqueue op →
      s'.runHead k .txe r (QEntry.new (s.core k) op) = .wait s' (QEntry.new (s.core k) op)) :
    let t := s.issue k g op
    (t.core k).disp.qT = [QEntry.new (s.core k) op] ∧ (t.core k).disp.loads = (s.core k).disp.loads ∧
      (t.core k).disp.stores = (s.core k).disp.stores ∧ (t.core k).sp = (s.core k).sp ∧ t.mem = s.mem := by
  obtain ⟨b, hstate, -, hcore⟩ := h.moveWaits ht (hd _ (State.core_modCore _ _ _))
  refine ⟨by rw [hcore], ?_, ?_, by rw [hcore]; rfl, by rw [hstate]⟩
  · rw [hcore]
    exact Core.enqueue_loads _ _
  · rw [hcore]
    exact Core.enqueue_stores _ _

theorem Core.flightsFull_of_le {c : Core} (h : 4 ≤ c.disp.loads.length) : c.flightsFull = true := Nat.ble_eq_true_of_le h

theorem State.headTload_full {c : Core} (hc : s.core k = c) (hn : 0 < (c.sreg x.sN).toNat % 2 ^ 32)
    (hg : c.granted = true) (hfull : c.flightsFull = true) : s.headTload k pc r x e = .wait s e := by
  simp only [State.headTload, hc, hn.ne', hg, hfull, Bool.not_true, Bool.false_eq_true, if_true, if_false]

theorem State.headTstore_full {c : Core} (hc : s.core k = c) {hw : HwFault} (hn : 0 < (c.sreg x.sN).toNat % 2 ^ 32)
    (hg : c.granted = true) (hfull : c.flightsFull = true) (hsh : transferShape x.sfmt x.dfmt = some sh)
    (hva : (c.areg x.aV).toNat % 4 = 0) (hgap : (c.sreg x.sG).toNat % 4 = 0)
    (hm : sh.dstBytes ((c.sreg x.sN).toNat % 2 ^ 32) % 4 = 0)
    (hf : fillsWords sh true ((c.sreg x.sN).toNat % 2 ^ 32) = true) : s.headTstore k pc r x hw e = .wait s e := by
  simp only [State.headTstore, hc, hn.ne', hg, hfull, hsh, Core.moveGeom_good hva hgap hm hf, Bool.not_true, Bool.true_or,
    Bool.false_eq_true, if_true, if_false]

end Sys2Proof.Machine
end

section
/-!
PROOF. A TSTORE of one row within a line (R162, R166, R167, R207), and the transfers of one row together.
-/

namespace Sys2Proof.Machine

open Sys2Proof

variable {s t : State} {k n pc : Nat} {g : BitVec 4} {r : RunTask} {x : TMoveArgs} {sh : TShape} {e : QEntry}

/-! ### Writes to context memory -/

/-- From s to t the bytes of memory and the cores stayed. -/
structure KeepsBytes (s t : State) : Prop where
  cores : t.cores = s.cores
  cells : t.mem.cells = s.mem.cells

theorem KeepsBytes.of_reports (h : Reports s t) : KeepsBytes s t := ⟨h.cores, by rw [h.mem]⟩

theorem State.reportPoison_reports (s : State) : Reports s s.reportPoison :=
  (Reports.foldl (fun s _ => Reports.setEnt s _ _) _ s).trans (Reports.wmLevel _ _ _)

/-- What follows a whole-line write changes poison, refills and reads held for them, and reports (R218, R224). -/
theorem State.clearPoison_keepsBytes (s : State) (line : Nat) : KeepsBytes s (s.clearPoison line) := by
  unfold State.clearPoison
  split
  · obtain ⟨hcores, hcells⟩ := KeepsBytes.of_reports (State.reportPoison_reports (s.modMem fun m => { m with
      poison := SMap.set (fun _ => false) m.poison line false,
      refills := m.refills.filter fun r => r.line != line
      held := m.held.filter fun h => h.1 != line }))
    exact ⟨hcores, hcells⟩
  · exact ⟨rfl, rfl⟩

/-- A write to a line that is not poisoned is performed (R207, R220). -/
theorem State.writeLinePart_keepsBytes {who : LineReader} {pa : Nat} {l : List Byte} (hp : s.poisoned (lineNo pa) = false) :
    KeepsBytes (s.writePhys pa l) (s.writeLinePart who pa l) := by
  unfold State.writeLinePart
  rw [hp]
  split
  · exact State.clearPoison_keepsBytes _ _
  · exact ⟨rfl, rfl⟩

/-- A range within one line has one part. -/
theorem lineParts_within {va len : Nat} (h0 : 0 < len) (h : va % 64 + len ≤ 64) : lineParts va len = [(va, len)] := by
  have hone : (va % 64 + len + 63) / 64 = 1 := by omega
  have hlo : Nat.max va (va / 64 * 64 + 64 * 0) = va := Nat.max_eq_left (by omega)
  have hhi : Nat.min (va + len) (va / 64 * 64 + 64 * 0 + 64) = va + len := Nat.min_eq_left (by omega)
  rw [lineParts, if_neg h0.ne', hone]
  simp only [List.range_one, List.map_cons, List.map_nil, hlo, hhi, Nat.add_sub_cancel_left]

/-- A write within one line of a page mapped for writing is performed (R207, R229, R234). -/
theorem State.writeVirt_line {va pa : Nat} {p : Page} {l : List Byte} (h0 : 0 < l.length) (hl : va % 64 + l.length ≤ 64)
    (hpage : s.page n (va / 2 ^ 21) = some p) (hro : p.ro = false) (hpa : s.translate n va = some pa) :
    s.writeVirt n va l = ⟨s.writeLinePart (.context (Fin.ofNat 64 n)) pa l, none⟩ := by
  simp only [State.writeVirt, lineParts_within h0 hl, State.writeParts, hpage, hpa, hro, Bool.false_eq_true, if_false,
    List.take_length]

/-! ### Stores that other cores race -/

/-- A write at a key that a test leaves out does not change whether some entry passes it. -/
theorem SMap.any_set {V : Type} [DecidableEq V] (d : Nat → V) (m : SMap V) (k : Nat) (v : V) (p : Nat × V → Bool)
    (hp : ∀ w, p (k, w) = false) : (SMap.set d m k v).any p = m.any p := by
  unfold SMap.set
  split
  · induction m with
    | nil => rfl
    | cons e m ih =>
      obtain ⟨j, w⟩ := e
      by_cases hj : j = k
      · subst hj
        simpa [SMap.drop, hp] using ih
      · simpa [SMap.drop, hj] using congrArg (p (j, w) || ·) ih
  · induction m with
    | nil => simp [SMap.put, hp]
    | cons e m ih =>
      obtain ⟨j, w⟩ := e
      simp only [SMap.put]
      split
      · next hj => subst hj; simp [hp]
      · split
        · simp [hp]
        · simp [ih]

/-- A core's own change races none of its stores (R30). -/
theorem State.lineRaced_modCore (s : State) (k : Nat) (f : Core → Core) (n line : Nat) :
    (s.modCore k f).lineRaced k n line = s.lineRaced k n line := by
  unfold State.lineRaced
  exact SMap.any_set (fun _ => Core.init) s.cores k _ _ fun w => by simp

theorem State.bytesStored_alone (va : Nat) (l : List Byte) (h : ∀ line, s.lineRaced k n line = false) :
    s.bytesStored k n va l = (l, s) := by
  rw [State.bytesStored, if_neg]
  simp [h]

/-! ### TSTORE -/

/-- The converted row that core c stores (R162, R163). -/
def Core.storedRow (c : Core) (r : RunTask) (x : TMoveArgs) (sh : TShape) (n : Nat) : List Word32 × FFlags :=
  sh.convert x.sat (fun e => roundOf r x.rnd ((c.sreg x.sT).toNat % 2 ^ 32) ((c.sreg x.sI).toNat + e)) n
    ((wordRun (c.wordAddr x.aL) ((sh.srcBytes n + 3) / 4)).map c.rd)

/-- What a TSTORE makes of its core: the store waits for its acknowledgement, and its flags are set (R163, R167). -/
def Core.storesRow (c : Core) (fl : Flight) (flags : FFlags) : Core :=
  Core.raise { c with disp := { c.disp with stores := c.disp.stores ++ [fl] } } .txe flags

theorem wordRun_map_rd (c : Core) (w m : Nat) : (List.range m).map (fun i => c.rd (w + i)) = (wordRun w m).map c.rd := by
  rw [wordRun, List.map_map]
  rfl

theorem MoveGeom.srcWords_one {g : MoveGeom} (h : g.rows = 1) (sb : Nat) : g.srcWords sb = wordRun g.sp ((sb + 3) / 4) := by
  simp [MoveGeom.srcWords, h]

/-- A row that is stored within one line of a page mapped for writing, raced by no other core's store. -/
structure State.StoresLine (s : State) (k n va : Nat) (l : List Byte) (p : Page) (pa : Nat) : Prop where
  pos : 0 < l.length
  line : va % 64 + l.length ≤ 64
  page : s.page n (va / 2 ^ 21) = some p
  writable : p.ro = false
  at_ : s.translate n va = some pa
  clean : s.poisoned (lineNo pa) = false
  alone : ∀ line, s.lineRaced k n line = false

theorem State.StoresLine.modCore {va pa : Nat} {l : List Byte} {p : Page} (h : s.StoresLine k n va l p pa)
    (f : Core → Core) : (s.modCore k f).StoresLine k n va l p pa :=
  ⟨h.pos, h.line, h.page, h.writable, h.at_, h.clean, fun line => (State.lineRaced_modCore ..).trans (h.alone line)⟩

/-- The state in which bytes have been written at va and the accesses of the core's die counted (R207, R232). -/
def State.storesLine (s : State) (k n va pa len : Nat) (l : List Byte) : State :=
  (s.writeLinePart (.context (Fin.ofNat 64 n)) pa l).countLines n va len (s.coreDie k)

theorem State.storesLine_keepsBytes {va pa len : Nat} {l : List Byte} (hp : s.poisoned (lineNo pa) = false) :
    KeepsBytes (s.writePhys pa l) (s.storesLine k n va pa len l) := by
  obtain ⟨hcores, hcells⟩ := State.writeLinePart_keepsBytes (who := .context (Fin.ofNat 64 n)) (l := l) hp
  exact ⟨hcores, hcells⟩

theorem State.core_storesLine {va pa len : Nat} {l : List Byte} (hp : s.poisoned (lineNo pa) = false) (j : Nat) :
    (s.storesLine k n va pa len l).core j = s.core j := by
  unfold State.core
  rw [(State.storesLine_keepsBytes hp).cores]
  rfl

theorem State.memByte_storesLine {va pa len : Nat} {l : List Byte} (hp : s.poisoned (lineNo pa) = false) (a : Nat) :
    (s.storesLine k n va pa len l).memByte a = (s.writePhys pa l).memByte a :=
  State.memByte_congr (State.storesLine_keepsBytes hp).cells a

/-- The only row of a TSTORE (R162, R165). -/
theorem State.storeRows_one {g : MoveGeom} {row : List Word32 × FFlags} {p : Page} {pa : Nat}
    (hrow : (s.core k).storedRow r x sh g.len = row) (hsp : g.sp = (s.core k).wordAddr x.aL)
    (h : s.StoresLine k r.ctx g.va (bytesOf row.1) p pa) :
    s.storeRows k r x sh g 1 0 0#4 =
      ⟨s.storesLine k r.ctx g.va pa (sh.dstBytes g.len) (bytesOf row.1), row.2, none⟩ := by
  have hconv : sh.convert x.sat ((s.core k).moveMode r x g.len 0) g.len
      ((List.range ((sh.srcBytes g.len + 3) / 4)).map fun w => (s.core k).rd (g.sp + w)) = row := by
    rw [Core.moveMode_zero, wordRun_map_rd, hsp, ← hrow, Core.storedRow]
  simp only [State.storeRows, Nat.zero_mul, Nat.add_zero, hconv, State.bytesStored_alone _ _ h.alone,
    State.writeVirt_line h.pos h.line h.page h.writable h.at_, BitVec.zero_or]
  rfl

/-- A TSTORE of one row at the head runs under its detectors, and stores it. -/
theorem State.headTstore_row {c : Core} (hc : s.core k = c) {va pa : Nat} {row : List Word32 × FFlags} {p : Page}
    (h : c.OneRow x sh n) (hva : (c.areg x.aV).toNat = va) (hrow : c.storedRow r x sh n = row)
    (hm : sh.dstBytes n % 4 = 0) (hf : fillsWords sh true n = true) (hl : s.StoresLine k r.ctx va (bytesOf row.1) p pa) :
    ∃ f fl, s.headTstore k pc r x .none e =
        s.guarded k r.ctx pc .txe .none (wordRun (c.wordAddr x.aL) ((sh.srcBytes n + 3) / 4)) f ∧
      f s = .done ((s.storesLine k r.ctx va pa (sh.dstBytes n) (bytesOf row.1)).modCore k (Core.storesRow · fl row.2)) ∧
      fl.pc = pc := by
  subst hva
  have hgood := h.good hm hf (sh.srcBytes n)
  have hrows := State.storeRows_one (r := r) (x := x) (sh := sh) (g := c.moveGeom x (sh.dstBytes n) (sh.srcBytes n))
    (by rw [hc, h.moveGeom]; exact hrow) (by rw [hc]; rfl) hl
  rw [h.moveGeom] at hrows hgood
  simp only [State.headTstore, hc, h.len, h.pos.ne', h.granted, h.flightsFull, h.shape, h.moveGeom, hgood, h.stores, h.loads,
    overlaps_nil, MoveGeom.srcWords_one, Bool.not_true, Bool.or_self, Bool.false_eq_true, if_false]
  exact ⟨_, _, rfl, by simp only [hrows]; rfl, rfl⟩

/-- A TSTORE of one row that is issued: the store of its core waits for its acknowledgement, the scratchpad as it was; the
row stands in memory, and every other byte and core as before (R162, R167). -/
theorem Issues.tstore_row {p : Page} {pa : Nat} (hi : Issues s k g (.tstore x .none) r) (h : (s.core k).OneRow x sh n)
    (hm : sh.dstBytes n % 4 = 0) (hf : fillsWords sh true n = true)
    (hp : (s.core k).anyPoison (wordRun ((s.core k).wordAddr x.aL) ((sh.srcBytes n + 3) / 4)) = false)
    (hl : s.StoresLine k r.ctx ((s.core k).areg x.aV).toNat (bytesOf ((s.core k).storedRow r x sh n).1) p pa) :
    let row := bytesOf ((s.core k).storedRow r x sh n).1
    let t := s.issue k g (.tstore x .none)
    (∃ fl, (t.core k).disp.stores = [fl] ∧ fl.pc = (s.core k).regs.pc) ∧ (t.core k).sp = (s.core k).sp ∧
      (t.core k).regs = { (s.core k).regs with pc := ((s.core k).regs.pc + 8) % 2 ^ 48 } ∧
      (∀ a, t.memByte a = (s.writePhys pa row).memByte a) ∧ ∀ j, j ≠ k → t.core j = s.core j := by
  have hl' := hl.modCore (Core.enqueue · (.tstore x .none))
  obtain ⟨f, fl, hd, hbody, hpc⟩ := State.headTstore_row (State.core_modCore s k (Core.enqueue · (.tstore x .none)))
    (va := ((s.core k).areg x.aV).toNat) (row := (s.core k).storedRow r x sh n) (pc := (s.core k).regs.pc)
    (e := QEntry.new (s.core k) (.tstore x .none)) (h.enqueue _) rfl rfl hm hf hl'
  obtain ⟨b, z, hmove⟩ := hi.movesGuarded rfl hp hd hbody
  obtain ⟨hstate, hother, hcore⟩ := (Touches.modCore _ k _).trans hmove
  rw [State.core_storesLine hl'.clean, State.core_modCore] at hcore
  refine ⟨⟨fl, ?_, hpc⟩, by rw [hcore]; rfl, by rw [hcore]; rfl, fun a => ?_, fun j hj => ?_⟩
  · have hstores := Core.enqueue_stores (s.core k) (.tstore x .none)
    rw [hcore]
    change ((s.core k).enqueue (.tstore x .none)).disp.stores ++ [fl] = [fl]
    rw [hstores, h.stores]
    rfl
  · have hmem := State.memByte_storesLine (k := k) (n := r.ctx) (va := ((s.core k).areg x.aV).toNat) (len := sh.dstBytes n)
      (l := bytesOf ((s.core k).storedRow r x sh n).1) hl'.clean a
    rw [State.memByte, hstate]
    exact hmem
  · rw [hother j hj, State.core_storesLine hl'.clean, State.core_modCore_ne _ _ hj]

/-! ### Transfers of one row -/

/-- Settles O23: a row is moved by one write of a run of words or of bytes, and the reads after it are those of such a run;
a transfer that finds four TLOADs in flight waits with nothing changed. -/
theorem loadsAndStoresMoveRows : Obligations.LoadsAndStoresMoveRows := by
  unfold Obligations.LoadsAndStoresMoveRows
  refine ⟨fun c x s r sh bytes hi hg hl hs hsh hn hrows hva hgap hm hf hlen hv => ⟨_, rfl, ?_⟩,
    fun c x s r sh p pa hi hg hl hs hsh hn hrows hva hgap hm hf hp hlen hpos hline hpage hro hpa hclean halone =>
      ⟨_, rfl, ?_⟩,
    fun c x s r sh hn hg hfull => ⟨fun hi => ⟨_, rfl, ?_⟩, fun hi hsh hva hgap hm hf => ⟨_, rfl, ?_⟩⟩⟩
  · have hrow : (s.core (coreKey c)).OneRow x sh _ := ⟨hg, hl, hs, hsh, rfl, hn, hrows, hva, hgap⟩
    obtain ⟨⟨d, hcore, hloads, hq⟩, hmem, hother⟩ := hi.tload_row hrow hm hf hv
    obtain ⟨hregs, hflags⟩ := Core.placed_wrWords (s.core (coreKey c)) ((s.core (coreKey c)).wordAddr x.aL)
      ((s.core (coreKey c)).loadedRow r x sh (((s.core (coreKey c)).sreg x.sN).toNat % 2 ^ 32) bytes).1
      (((s.core (coreKey c)).regs.pc + 8) % 2 ^ 48) d
    rw [hcore]
    refine ⟨fun i hi => ?_, fun j hj => ?_, ⟨_, hloads, rfl, rfl⟩, hflags, hq, hregs, hmem, hother⟩
    · refine (Core.rd_wrWords _ _ _ hi hlen).trans ?_
      exact (List.getD_eq_getElem _ _ hi).symm
    · exact Core.rd_wrWords_out _ _ fun i hi => (hj i hi).symm
  · have hrow : (s.core (coreKey c)).OneRow x sh _ := ⟨hg, hl, hs, hsh, rfl, hn, hrows, hva, hgap⟩
    obtain ⟨hstores, hsp, hregs, hmem, hother⟩ := hi.tstore_row hrow hm hf hp
      ⟨hpos, hline, hpage, hro, hpa, hclean, halone⟩
    refine ⟨fun i hi => ?_, fun a ha => ?_, hstores, hsp, hregs, hother⟩
    · refine (hmem _).trans ((State.memByte_writePhys_in _ _ _ _ hi).trans ?_)
      exact (List.getD_eq_getElem _ _ hi).symm
    · exact (hmem _).trans (State.memByte_writePhys_out _ _ _ _ ha)
  · refine hi.moveWaits_keeps rfl fun s' hs => State.headTload_full hs hn ?_ ?_
    · simpa using hg
    · simpa using Core.flightsFull_of_le hfull
  · refine hi.moveWaits_keeps rfl fun s' hs => State.headTstore_full hs hn ?_ ?_ hsh hva hgap hm hf
    · simpa using hg
    · simpa using Core.flightsFull_of_le hfull

end Sys2Proof.Machine
end

section
/-!
PROOF. TSEND to a core of the own partition (R36, R168, R171, R392).
-/

namespace Sys2Proof.Machine

open Sys2Proof

variable {s : State} {k n pc d w : Nat} {g : BitVec 4} {r : RunTask} {x : TSendArgs} {v : Bool} {sh : TShape} {e : QEntry}

/-- The packet of a send of core k to word w of core d of its own partition (R168, R171, R392). -/
def State.sentPacket (s : State) (k n d w : Nat) (v : Bool) (data : List Word32) : Packet :=
  { ctx := n, tag := s.tag n, score := k % 24, scluster := s.relCluster (s.ctxPart n) (k / 24), own := true,
    part := s.ctxPart n, dst := some d, word := w, data := data, sender := some k, reply := none,
    voile := v && decide (data.length ≤ 64), raced := [] }

/-- The converted words that core c sends (R162, R168). -/
def Core.sentWords (c : Core) (r : RunTask) (x : TSendArgs) (sh : TShape) (n : Nat) : List Word32 × FFlags :=
  sh.convert x.sat (fun e => roundOf r x.rnd ((c.sreg x.sT).toNat % 2 ^ 32) ((c.sreg x.sI).toNat + e)) n
    ((wordRun (c.wordAddr x.aL) (sh.srcBytes n / 4)).map c.rd)

/-- The state in which a packet is on its way. -/
def State.withPacket (s : State) (p : Packet) : State :=
  { s with links := { s.links with packets := s.links.packets ++ [p] } }

theorem State.core_withPacket (s : State) (p : Packet) (j : Nat) : (s.withPacket p).core j = s.core j := rfl

/-- A core with one more send not acknowledged (R167). -/
def Core.sends (c : Core) : Core := { c with disp := { c.disp with sends := c.disp.sends + 1 } }

/-- The fields of a destination within the 30 bits that name it (Table 6.6). -/
theorem bitsAt_bitsAt {v lo m l : Nat} (h : lo + l ≤ m) : bitsAt (bitsAt v 0 m) lo l = bitsAt v lo l := by
  unfold bitsAt
  rw [pow_zero, Nat.div_one, ← Nat.add_sub_of_le (Nat.le_of_add_right_le h), pow_add, Nat.mod_mul_right_div_self,
    Nat.mod_mod_of_dvd _ (pow_dvd_pow 2 (by omega))]

/-- Words for a core of the own partition leave as one packet (R36, R168). -/
theorem State.sendTo_own {sR c : Nat} (hcore : bitsAt sR 19 5 < 24)
    (hc : s.globalCluster (s.ctxPart n) (bitsAt sR 24 6) = some c) (data : List Word32) :
    s.sendTo k n (bitsAt sR 0 30) 0 v data =
      (s.withPacket (s.sentPacket k n (24 * c + bitsAt sR 19 5) (bitsAt sR 0 19) v data)).modCore k Core.sends := by
  have hblt : Nat.blt (bitsAt sR 19 5) 24 = true := by rwa [Nat.blt_eq]
  have hble : Nat.ble data.length 64 = decide (data.length ≤ 64) := by
    rw [Bool.eq_iff_iff, Nat.ble_eq, decide_eq_true_iff]
  simp only [State.sendTo, bitsAt_bitsAt (by decide : 19 + 5 ≤ 30), bitsAt_bitsAt (by decide : 24 + 6 ≤ 30),
    bitsAt_bitsAt (by decide : 0 + 19 ≤ 30), hblt, hc, hble, if_true, Option.map_some]
  rfl

/-- A core with a grant and no TLOAD in flight, at a send of n elements to a core of its own partition (R36, R164, R166). -/
structure Core.OwnSend (c : Core) (x : TSendArgs) (sh : TShape) (n : Nat) : Prop where
  granted : c.granted = true
  loads : c.disp.loads = []
  shape : transferShape x.sfmt x.dfmt = some sh
  len : (c.sreg x.sN).toNat % 2 ^ 32 = n
  pos : 0 < n
  src : fillsWords sh true n = true
  dst : fillsWords sh false n = true
  own : bitsAt (c.sreg x.sR).toNat 32 12 = 0
  core : bitsAt (c.sreg x.sR).toNat 19 5 < 24

theorem Core.OwnSend.enqueue {c : Core} (h : c.OwnSend x sh n) (op : EngOp) : (c.enqueue op).OwnSend x sh n :=
  ⟨by simpa using h.granted, by simpa using h.loads, h.shape, h.len, h.pos, h.src, h.dst, h.own, h.core⟩

/-- A send at the head runs under its detectors, and sends its words (R164, R168). -/
theorem State.headTsend_own {c : Core} (hcore : s.core k = c) (h : c.OwnSend x sh n) {gc : Nat}
    (hc : s.globalCluster (s.ctxPart r.ctx) (bitsAt (c.sreg x.sR).toNat 24 6) = some gc)
    {row : List Word32 × FFlags} (hrow : c.sentWords r x sh n = row) :
    ∃ f, s.headTsend k pc r x v .none e =
        s.guarded k r.ctx pc .txe .none (wordRun (c.wordAddr x.aL) (sh.srcBytes n / 4)) f ∧
      f s = .done (((s.withPacket (s.sentPacket k r.ctx (24 * gc + bitsAt (c.sreg x.sR).toNat 19 5)
        (bitsAt (c.sreg x.sR).toNat 0 19) v row.1)).modCore k Core.sends).modCore k fun c => c.raise .txe row.2) := by
  have hfull : c.flightsFull = false := by
    rw [Core.flightsFull, h.loads]
    rfl
  simp only [State.headTsend, hcore, h.len, h.pos.ne', h.granted, hfull, h.loads, h.shape, h.src, h.dst, overlaps_nil, h.own,
    Bool.not_true, Bool.or_self, Bool.false_eq_true, if_false]
  refine ⟨_, rfl, ?_⟩
  rw [State.sendTo_own h.core hc, ← hrow]
  rfl

/-- Settles O24: the send adds its packet to those on their way and one to its core's sends, and no more. -/
theorem sendsLeaveAsPackets : Obligations.SendsLeaveAsPackets := by
  unfold Obligations.SendsLeaveAsPackets
  intro c x v s r sh g k q n sR words hi hg hl hsh hn hsrc hdst hp hpeer hd hc data
  have hsend : q.OwnSend x sh n := ⟨hg, hl, hsh, rfl, hn, hsrc, hdst, hpeer, hd⟩
  refine ⟨_, exec_tsend_form c x v s, ?_⟩
  obtain ⟨f, hhead, hbody⟩ := State.headTsend_own (State.core_modCore s k (Core.enqueue · (.tsend x v .none)))
    (hsend.enqueue _) hc (v := v) (pc := q.regs.pc) (e := QEntry.new q (.tsend x v .none)) (row := q.sentWords r x sh n) rfl
  obtain ⟨b, z, hmove⟩ := hi.movesGuarded rfl hp hhead hbody
  obtain ⟨hstate, hother, hcore⟩ := ((Touches.modCore _ k _).trans (Touches.modCore _ k _)).trans hmove
  rw [State.core_withPacket, State.core_modCore] at hcore
  refine ⟨by rw [hstate]; rfl, ?_, by rw [hcore]; rfl, by rw [hcore]; rfl, by rw [hstate]; rfl, by rw [hstate]; rfl,
    fun j hj => by rw [hother j hj, State.core_withPacket, State.core_modCore_ne _ _ hj]⟩
  rw [hcore]
  exact congrArg (· + 1) (Core.enqueue_sends q (.tsend x v .none))

end Sys2Proof.Machine
end

section
/-!
PROOF. A packet arrives at a core that runs its context (R158, R160, R167).
-/

namespace Sys2Proof.Machine

open Sys2Proof

variable {s t : State} {k n : Nat} {p : Packet} {r : RunTask}

/-! ### Counts of dropped words -/

/-- A count below the top of its type rises by what is added. -/
theorem State.ent_bumpBy_of_lt {i m : Nat} {b : Nat} (hrow : (Catalog.row i).map (·.size) = some b)
    (h : s.ent i + m < 256 ^ b) : (s.bumpBy i m).ent i = s.ent i + m := by
  obtain ⟨row, hfind, rfl⟩ := Option.map_eq_some_iff.1 hrow
  rw [State.bumpBy, State.ent_setEnt, hfind]
  exact Nat.min_eq_left (Nat.le_sub_one_of_lt h)

theorem row_winDropRx (n : Fin 64) : (Catalog.row (Ent.winDropRx n)).map (·.size) = some 4 := by
  revert n
  decide +kernel

theorem row_winDropTx (n : Fin 64) : (Catalog.row (Ent.winDropTx n)).map (·.size) = some 4 := by
  revert n
  decide +kernel

/-- The counts of the log are entries other than those of dropped words. -/
theorem winDrop_ne_log {n i : Nat} (hn : n < 64) (hi : i = Ent.winDropRx n ∨ i = Ent.winDropTx n) :
    i ≠ Ent.logHead ∧ i ≠ Ent.logLost := by
  simp only [Ent.winDropRx, Ent.winDropTx, Ent.logHead, Ent.logLost] at *
  omega

/-- From s to t words were counted as dropped: count i rose by m, and cores, memory and links stayed. -/
structure CountsDrop (s t : State) (i m : Nat) : Prop where
  cores : t.cores = s.cores
  mem : t.mem = s.mem
  links : t.links = s.links
  count : t.ent i = s.ent i + m

theorem CountsDrop.core {i m : Nat} (h : CountsDrop s t i m) (j : Nat) : t.core j = s.core j := by
  rw [State.core, h.cores, State.core]

/-- The first words dropped since a clear are marked and recorded (R160). -/
theorem CountsDrop.record {i m : Nat} (h : CountsDrop s t i m) (hhead : i ≠ Ent.logHead) (hlost : i ≠ Ent.logLost)
    (f : Ctx → Ctx) (code n : Nat) (args : List Nat) : CountsDrop s ((t.modCtx n f).logCtx code n args) i m := by
  have hr := Reports.logCtx (t.modCtx n f) code n args
  refine ⟨hr.cores.trans h.cores, hr.mem.trans h.mem, hr.links.trans h.links, ?_⟩
  exact (State.ent_logRec _ _ hhead hlost).trans h.count

theorem CountsDrop.bumpBy {i m : Nat} (hrow : (Catalog.row i).map (·.size) = some 4) (h : s.ent i + m < 2 ^ 32) :
    CountsDrop s (s.bumpBy i m) i m := ⟨rfl, rfl, rfl, State.ent_bumpBy_of_lt hrow (by omega)⟩

/-- Words dropped at their destination are counted; no words make no record (R160). -/
theorem State.winDropRx_spec {words : Nat} (hn : n < 64) (h : s.ent (Ent.winDropRx n) + words < 2 ^ 32) (args : List Nat) :
    CountsDrop s (s.winDropRx n words args).2 (Ent.winDropRx n) words ∧
      (words = 0 → (s.winDropRx n words args).1 = false) := by
  have hc := CountsDrop.bumpBy (row_winDropRx ⟨n, hn⟩) h
  unfold State.winDropRx
  split
  · exact ⟨hc, fun _ => rfl⟩
  · next hw =>
    obtain ⟨hhead, hlost⟩ := winDrop_ne_log hn (.inl rfl)
    exact ⟨hc.record hhead hlost _ _ _ _, fun h0 => absurd (by simp [h0]) hw⟩

/-- Words dropped elsewhere are counted at their sender (R160). -/
theorem State.winDropTx_spec {words : Nat} (hn : n < 64) (h : s.ent (Ent.winDropTx n) + words < 2 ^ 32) (args : List Nat)
    (recorded : Bool) : CountsDrop s (s.winDropTx n words args recorded) (Ent.winDropTx n) words := by
  have hc := CountsDrop.bumpBy (row_winDropTx ⟨n, hn⟩) h
  unfold State.winDropTx
  split
  · exact hc
  · split
    · exact ⟨hc.cores, hc.mem, hc.links, hc.count⟩
    · obtain ⟨hhead, hlost⟩ := winDrop_ne_log hn (.inr rfl)
      exact hc.record hhead hlost _ _ _ _

/-! ### The words of a packet -/

/-- Words that an open window admits are written in order (R158). -/
theorem State.arriveWords_admitted {win : SMap Window} (l : List Word32) (s : State) (i : Nat) (d : List Nat)
    (h : ∀ j, j < l.length → windowAdmits win p ((p.word + (i + j)) % spSize) = some true) :
    ∃ t, s.arriveWords p win [] (fun s w v => s.modCore k fun c => c.wr w v) l i d = (d, t) ∧
      Touches s t k fun c => c.wrWords (p.word + i) l := by
  induction l generalizing s i with
  | nil => exact ⟨s, rfl, Touches.rfl s k⟩
  | cons v l ih =>
    have hpass : s.wordPasses win p ((p.word + i) % spSize) = (true, s) := by
      have h0 : windowAdmits win p ((p.word + i) % spSize) = some true := h 0 (by simp)
      simp only [State.wordPasses, h0]
    obtain ⟨t, ht, htouch⟩ := ih (s.modCore k fun c => c.wr ((p.word + i) % spSize) v) (i + 1) fun j hj => by
      rw [show i + 1 + j = i + (j + 1) by omega]
      exact h (j + 1) (by simpa using hj)
    refine ⟨t, ?_, ((Touches.modCore s k _).trans htouch).congr ?_⟩
    · simpa only [State.arriveWords, hpass, State.wordStored, List.contains_nil, Bool.false_eq_true, if_false, if_true]
        using ht
    · have hwr (c : Core) : c.wr ((p.word + i) % spSize) v = c.wr (p.word + i) v := by
        simp only [Core.wr, Nat.mod_mod]
      simp only [hwr]
      rfl

/-- Words that no window admits are all dropped (R158). -/
theorem State.arriveWords_dropped {win : SMap Window} {raced : List Nat} {write : State → Nat → Word32 → State}
    (h : ∀ w, windowAdmits win p w = some false) (l : List Word32) (i : Nat) (d : List Nat) :
    ∃ d', s.arriveWords p win raced write l i d = (d', s) ∧ d'.length = d.length + l.length := by
  induction l generalizing i d with
  | nil => exact ⟨d, rfl, rfl⟩
  | cons v l ih =>
    have hpass : s.wordPasses win p ((p.word + i) % spSize) = (false, s) := by
      simp only [State.wordPasses, h]
    obtain ⟨d', hd', hlen⟩ := ih (i + 1) (d ++ [(p.word + i) % spSize])
    refine ⟨d', ?_, ?_⟩
    · simpa only [State.arriveWords, hpass, Bool.false_eq_true, if_false] using hd'
    · simp only [List.length_append, List.length_cons, List.length_nil] at hlen ⊢
      omega

/-- With every window closed no word is admitted (R158). -/
theorem windowAdmits_closed {win : SMap Window} (h : ∀ w, w < 8 → (windowAt win w).isOpen = false) (w : Nat) :
    windowAdmits win p w = some false := by
  have hnone : (((List.range 8).map (windowAt win)).filter fun x =>
      x.isOpen && Nat.ble x.base w && Nat.ble w x.bound) = [] := by
    rw [List.filter_eq_nil_iff]
    intro x hx
    obtain ⟨v, hv, rfl⟩ := List.mem_map.1 hx
    simp [h v (List.mem_range.1 hv)]
  simp only [windowAdmits, hnone]

/-! ### The packet as a whole -/

/-- The acknowledgement of a packet (R160, R167). -/
def Core.acked (c : Core) (a : SendAck) : Core := { c with disp := { c.disp with acks := c.disp.acks ++ [a] } }

/-- What a packet of another core of this package leaves once its words are checked: the words dropped are counted, and the
acknowledgement goes back to the sender with them (R160). -/
theorem State.settlePacket_spec {j owner : Nat} {dropped : List Nat} (hs : p.sender = some j) (hn : owner < 64)
    (h : s.ent (Ent.winDropRx owner) + dropped.length < 2 ^ 32) :
    ∃ u b dst, CountsDrop s u (Ent.winDropRx owner) dropped.length ∧ (dropped = [] → b = false) ∧
      s.settlePacket k p owner dropped = u.modCore j (Core.acked ·
        { ctx := p.ctx, tag := p.tag, dropped := dropped.length, recorded := b, dst := dst }) := by
  obtain ⟨hc, hb⟩ := State.winDropRx_spec hn h [p.score + 32 * p.scluster, (p.reply.map fun h => h.scoord.toNat).getD
    (s.ent Ent.pkgCoord), s.globalAddr p.part k (dropped.headD p.word)]
  refine ⟨_, _, s.globalAddr p.part k (dropped.headD p.word), hc, fun h0 => hb (by rw [h0]; rfl), ?_⟩
  simp only [State.settlePacket, State.ackPacket, hs]
  rfl

/-- The state in which a packet has left the crossings. -/
def State.withoutPacket (s : State) (p : Packet) : State :=
  { s with links := { s.links with packets := s.links.packets.erase p } }

/-- The state in which the words of a packet have been checked against the windows of core k, and the packet settled (R158,
R160). -/
def State.checkedPacket (s : State) (k : Nat) (p : Packet) : State :=
  let d := (s.withoutPacket p).arriveWords p (s.core k).sp.win [] (fun s w v => s.modCore k fun c => c.wr w v) p.data 0 []
  d.2.settlePacket k p p.ctx d.1

/-- A packet at a core that runs its context, with no other writer's on its way to the core: its words are checked against
the core's windows (R158). -/
theorem State.arrive_running (hrun : (s.core k).run = some r) (hr : r.ctx = p.ctx) (he : (s.ctx p.ctx).eval = .none)
    (hraced : p.raced = []) (hone : ∀ q ∈ s.links.packets.erase p, q.dst = p.dst → q.sameWriter p = true)
    (htag : s.tagOk p.ctx p.tag = true) :
    s.arrive k p = s.checkedPacket k p := by
  have hother (q : Packet) (hq : q ∈ s.links.packets.erase p) :
      (q.dst == p.dst && q.ctx == p.ctx && s.tagOk q.ctx q.tag && !q.sameWriter p) = false := by
    by_cases hd : q.dst = p.dst
    · simp [hone q hq hd]
    · simp [hd]
  have hmap : ((s.links.packets.erase p).map fun q =>
      if q.dst == p.dst && q.ctx == p.ctx && s.tagOk q.ctx q.tag && !q.sameWriter p then
        { q with raced := q.raced ++ p.words.filter q.words.contains } else q) = s.links.packets.erase p :=
    (List.map_congr_left fun q hq => if_neg (by rw [hother q hq]; nofun)).trans (List.map_id' _)
  have hfilter : ((s.links.packets.erase p).filter fun q =>
      q.dst == p.dst && q.ctx == p.ctx && s.tagOk q.ctx q.tag && !q.sameWriter p) = [] :=
    List.filter_eq_nil_iff.2 fun q hq => by rw [hother q hq]; nofun
  simp only [State.arrive, htag, he, hrun, hr, hraced, hmap, hfilter, State.coreOwner, Option.getD_some, List.flatMap_nil,
    List.append_nil, beq_self_eq_true, Bool.not_true, Bool.false_eq_true, if_true, if_false]
  rfl

/-- The command of an arrival at a core that the crossings do not hold words for (Table 5.13, R297). -/
theorem exec_remoteWriteArrival {c : CoreId} {pick : Nat} (hpick : (s.packetHeads (coreKey c))[pick]? = some p)
    (hrole : (s.core (coreKey c)).role = .inService) (he : (s.ctx p.ctx).eval = .none) :
    exec (.remoteWriteArrival ⟨c, pick⟩) s = .next (s.arrive (coreKey c) p) := by
  change execRemoteWriteArrival ⟨c, pick⟩ s = _
  simp only [execRemoteWriteArrival, hpick, State.heldInCrossing, hrole, he, Bool.or_self, Bool.false_eq_true, if_false]

/-- A packet whose words are all admitted (R158). -/
theorem State.checkedPacket_admitted {j : Nat} (hs : p.sender = some j) (hj : j ≠ k) (hn : p.ctx < 64)
    (hlim : s.ent (Ent.winDropRx p.ctx) < 2 ^ 32)
    (h : ∀ i, i < p.data.length → windowAdmits (s.core k).sp.win p ((p.word + i) % spSize) = some true) :
    let t := s.checkedPacket k p
    t.links.packets = s.links.packets.erase p ∧ t.core k = (s.core k).wrWords p.word p.data ∧
      t.ent (Ent.winDropRx p.ctx) = s.ent (Ent.winDropRx p.ctx) ∧ ∃ dst, t.core j = (s.core j).acked
        { ctx := p.ctx, tag := p.tag, dropped := 0, recorded := false, dst := dst } := by
  obtain ⟨u, hu, hstate, hother, hcore⟩ := State.arriveWords_admitted (k := k) p.data (s.withoutPacket p) 0 []
    fun i hi => (by rw [Nat.zero_add]; exact h i hi)
  obtain ⟨t, b, dst, hdrop, hb, ht⟩ := State.settlePacket_spec (s := u) (k := k) (dropped := []) hs hn
    (by rw [hstate]; exact hlim)
  rw [State.checkedPacket, hu]
  dsimp only
  rw [ht, hb rfl]
  refine ⟨?_, ?_, ?_, dst, ?_⟩
  · change t.links.packets = _
    rw [hdrop.links, hstate]
    rfl
  · rw [State.core_modCore_ne _ _ hj.symm, hdrop.core, hcore]
    rfl
  · refine hdrop.count.trans ?_
    rw [hstate]
    rfl
  · rw [State.core_modCore, hdrop.core, hother j hj]
    rfl

/-- A packet at a core whose windows are all closed (R158, R160). -/
theorem State.checkedPacket_dropped {j : Nat} (hs : p.sender = some j) (hj : j ≠ k) (hn : p.ctx < 64)
    (hlim : s.ent (Ent.winDropRx p.ctx) + p.data.length < 2 ^ 32)
    (h : ∀ w, w < 8 → (windowAt (s.core k).sp.win w).isOpen = false) :
    let t := s.checkedPacket k p
    t.links.packets = s.links.packets.erase p ∧ t.core k = s.core k ∧
      t.ent (Ent.winDropRx p.ctx) = s.ent (Ent.winDropRx p.ctx) + p.data.length ∧ ∃ b dst, t.core j = (s.core j).acked
        { ctx := p.ctx, tag := p.tag, dropped := p.data.length, recorded := b, dst := dst } := by
  obtain ⟨d, hd, hlen⟩ := State.arriveWords_dropped (s := s.withoutPacket p) (raced := [])
    (write := fun s w v => s.modCore k fun c => c.wr w v) (windowAdmits_closed (p := p) h) p.data 0 []
  rw [List.length_nil, Nat.zero_add] at hlen
  obtain ⟨t, b, dst, hdrop, -, ht⟩ := State.settlePacket_spec (s := s.withoutPacket p) (k := k) (dropped := d) hs hn
    (by rw [hlen]; exact hlim)
  have hkeep (i : Nat) : t.core i = s.core i := hdrop.core i
  rw [State.checkedPacket, hd]
  dsimp only
  rw [ht, hlen]
  refine ⟨congrArg Links.packets hdrop.links, ?_, ?_, b, dst, ?_⟩
  · rw [State.core_modCore_ne _ _ hj.symm, hkeep]
  · refine hdrop.count.trans ?_
    rw [hlen]
    rfl
  · rw [State.core_modCore, hkeep]

end Sys2Proof.Machine
end

section
/-!
PROOF. Grants, completions and acknowledgements of transfers (R136, R137, R160, R163, R167).
-/

namespace Sys2Proof.Machine

open Sys2Proof

variable {s t : State} {k : Nat}

theorem State.pumpQueue_txe_empty (hq : (s.core k).disp.qT = []) :
    s.pumpQueue k .txe ((s.core k).disp.queue .txe).length = s := by
  simp only [Disp.queue, hq, List.length_nil, State.pumpQueue]

/-- A transfer engine with nothing queued returns at most its grant. -/
theorem State.pump_txe_empty (hq : (s.core k).disp.qT = []) :
    ∃ b, Touches s (s.pump k .txe) k fun c => { c with disp := { c.disp with grant := b } } := by
  unfold State.pump
  split
  · exact ⟨(s.core k).disp.grant, (Touches.rfl s k).congr rfl⟩
  · rw [State.pumpQueue_txe_empty hq, if_pos rfl]
    exact Touches.settleGrant s k

/-- A core with a TLOAD in flight keeps its grant (R136). -/
theorem State.pump_txe_loading (hq : (s.core k).disp.qT = []) (hl : (s.core k).disp.loads ≠ []) : s.pump k .txe = s := by
  unfold State.pump
  split
  · rfl
  · rw [State.pumpQueue_txe_empty hq, if_pos rfl, State.settleGrant]
    simp [hl]

/-- A change of a core with nothing queued, after which its transfer engine is moved on. -/
theorem Touches.pump {f : Core → Core} (hq : (f (s.core k)).disp.qT = []) :
    ∃ b, Touches s ((s.modCore k f).pump k .txe) k fun c => { f c with disp := { (f c).disp with grant := b } } := by
  obtain ⟨b, h⟩ := State.pump_txe_empty (s := s.modCore k f) (k := k) (by rw [State.core_modCore]; exact hq)
  exact ⟨b, (Touches.modCore s k f).trans h⟩

/-- The cluster gives a grant to its oldest request while it has given fewer than G (R136, R137). -/
theorem exec_transferGrant {cl : Fin 64} {l : List Nat} {p : Nat} (hg : SMap.get (fun _ => []) s.grants cl = k :: l)
    (hp : s.clusterPart cl = some p) (hroom : s.granted cl < s.ent (Ent.transferGrants p)) :
    exec (.transferGrant cl) s = .next ((({ s with grants := SMap.set (fun _ => []) s.grants cl l } : State).modCore k
      fun c => { c with disp := { c.disp with grant := true } }).pump k .txe) := by
  have hblt : Nat.blt (s.granted cl) (s.ent (Ent.transferGrants p)) = true := by rwa [Nat.blt_eq]
  change execTransferGrant cl s = _
  simp only [execTransferGrant, hg, hp, hblt, if_true]

/-- The oldest TLOAD in flight retires, and its flags are set (R163, R167). -/
theorem exec_tloadComplete {c : CoreId} {fl : Flight} {l : List Flight} (hlate : (s.core (coreKey c)).disp.lateLoads = [])
    (hl : (s.core (coreKey c)).disp.loads = fl :: l) :
    exec (.tloadComplete c) s = .next ((s.modCore (coreKey c) fun c =>
      Core.raise { c with disp := { c.disp with loads := l } } .txe fl.flags).pump (coreKey c) .txe) := by
  change execTloadComplete c s = _
  simp only [execTloadComplete, hlate, hl]

/-- The oldest TSTORE is accepted (R167). -/
theorem exec_tstoreAcknowledged {c : CoreId} {fl : Flight} {l : List Flight}
    (hlate : (s.core (coreKey c)).disp.lateStores = []) (hst : (s.core (coreKey c)).disp.stores = fl :: l) :
    exec (.tstoreAcknowledged c) s = .next ((s.modCore (coreKey c) fun c =>
      { c with disp := { c.disp with stores := l } }).pump (coreKey c) .txe) := by
  change execTstoreAcknowledged c s = _
  simp only [execTstoreAcknowledged, hlate, hst]

/-- An acknowledgement of a send of the current tag ends the send and counts the words dropped (R160, R167). -/
theorem exec_tsendAcknowledged {c : CoreId} {a : SendAck} {m : List SendAck} (ha : (s.core (coreKey c)).disp.acks = a :: m)
    (htag : s.tagOk a.ctx a.tag = true) : exec (.tsendAcknowledged c) s =
      .next (((s.modCore (coreKey c) fun c => { c with disp := { c.disp with acks := m } }).modCore (coreKey c) fun c =>
        { c with disp := { c.disp with sends := c.disp.sends - 1 } }).winDropTx a.ctx a.dropped
          (s.sourceArgs (coreKey c) (s.ctxPart a.ctx) ++ [a.dst]) a.recorded) := by
  change execTsendAcknowledged c s = _
  simp only [execTsendAcknowledged, ha, htag, if_true]

/-- Settles O26: an arrival checks the packet's words and settles it; the other events change one core, whose transfer engine
has nothing to move on, and counts of dropped words. -/
theorem transfersComplete : Obligations.TransfersComplete := by
  unfold Obligations.TransfersComplete
  refine ⟨fun c pick s r p j hrun hr he hrole hpick hraced hone htag hs hj hlen hn hlim => ?_,
    fun c s fl l a m g p hq => ⟨fun hg hp hroom hl => ?_, fun hlate hl => ?_, fun hlate hst => ?_,
      fun ha htag hn hlim => ?_⟩⟩
  · have hexec := exec_remoteWriteArrival hpick hrole he
    rw [State.arrive_running hrun hr he hraced hone htag] at hexec
    refine ⟨fun hadm => ?_, fun hclosed => ?_⟩
    · obtain ⟨hp, hcore, hent, dst, hack⟩ := State.checkedPacket_admitted hs hj hn (by omega) hadm
      refine ⟨_, hexec, hp, fun i hi => ?_, by rw [hcore, (Core.wrWords_spOp _ _).frame], hent, dst, by rw [hack]; rfl⟩
      rw [hcore, Core.rd_wrWords _ _ _ hi hlen, List.getD_eq_getElem _ _ hi]
    · obtain ⟨hp, hcore, hent, b, dst, hack⟩ := State.checkedPacket_dropped hs hj hn hlim hclosed
      exact ⟨_, hexec, hp, by rw [hcore], hent, b, dst, by rw [hack]; rfl⟩
  · refine ⟨_, exec_transferGrant hg hp hroom, ?_⟩
    rw [State.pump_txe_loading (by rw [State.core_modCore]; exact hq) (by rw [State.core_modCore]; exact hl)]
    refine ⟨?_, SMap.get_set_same _ _ _ _, fun j hj => State.core_modCore_ne _ _ hj⟩
    rw [State.core_modCore]
  · obtain ⟨b, hstate, hother, hcore⟩ := Touches.pump (s := s) (k := coreKey c) (f := fun c =>
      Core.raise { c with disp := { c.disp with loads := l } } .txe fl.flags) hq
    exact ⟨_, exec_tloadComplete hlate hl, by rw [hcore]; rfl, by rw [hcore]; rfl, by rw [hcore]; rfl, by rw [hcore]; rfl,
      by rw [hstate], hother⟩
  · obtain ⟨b, hstate, hother, hcore⟩ := Touches.pump (s := s) (k := coreKey c) (f := fun c =>
      { c with disp := { c.disp with stores := l } }) hq
    exact ⟨_, exec_tstoreAcknowledged hlate hst, by rw [hcore], by rw [hcore], by rw [hcore], by rw [hstate], hother⟩
  · have hdrop := State.winDropTx_spec (s := (s.modCore (coreKey c) fun c =>
      { c with disp := { c.disp with acks := m } }).modCore (coreKey c) fun c =>
        { c with disp := { c.disp with sends := c.disp.sends - 1 } }) hn hlim
      (s.sourceArgs (coreKey c) (s.ctxPart a.ctx) ++ [a.dst]) a.recorded
    have hcore := hdrop.core (coreKey c)
    rw [State.core_modCore, State.core_modCore] at hcore
    exact ⟨_, exec_tsendAcknowledged ha htag, by rw [hcore], by rw [hcore], hdrop.count, hdrop.mem⟩

end Sys2Proof.Machine
end

section
/-!
PROOF. Waits that are met and locks that are free or held (R186, R194, R195, R197).
-/

namespace Sys2Proof.Machine

open Sys2Proof

variable {s t : State} {k : Nat} {g : BitVec 4} {r : RunTask} {x : YArgs} {key : Nat}

theorem ActsAs.word {s' : State} (h : ActsAs s s' k) (j : Nat) : s'.word j = s.word j := by
  rw [State.word, h.sync, State.word]

/-- SWAIT with L = 0 goes on where its word has reached b (R186). -/
theorem Issues.swait_retires (h : Issues s k g (.swait false x) r) (he : (s.core k).earlierRetired (qUnit x.q) = true)
    (ha0 : opPeer ((s.core k).opA x) = 0) (ht : s.target r.ctx ((s.core k).opA x) anyMode = .word key)
    (hv : (s.core k).opB x ≤ (s.word key).value) : Retires s (s.issue k g (.swait false x)) k (qUnit x.q) id := by
  refine h.acts (fun _ _ _ => rfl) fun s' hs => ?_
  have ha := ActsAs.of_acting hs
  have he' := Core.earlierRetired_acting (u := (EngOp.swait false x).unit) hs he
  have hact : s'.actSwait k r.ctx (qUnit x.q) (QEntry.new (s.core k) (.swait false x)) x = .done s' := by
    have hb : Nat.ble ((s.core k).opB x) (s.word key).value = true := by rwa [Nat.ble_eq]
    simp [State.actSwait, ha.opA, ha.opB, ha.target, ha.word, ha0, ht, hb]
  exact ⟨s', id, (if_neg (by simp [he'])).trans ((if_neg (by nofun)).trans hact), Touches.rfl _ _⟩

/-- SLOCK of a lock that the core holds answers 2 once a committed segment acquired it, and before that what it answered
(Table 7.3). -/
theorem Issues.slock_held {h : Holder} (hi : Issues s k g (.slock x) r)
    (he : (s.core k).earlierRetired (qUnit x.q) = true) (ha0 : opPeer ((s.core k).opA x) = 0)
    (ht : s.target r.ctx ((s.core k).opA x) [2] = .word key) (hh : (s.word key).holder = some h)
    (hold : s.holds h k r.ctx = true) : Retires s (s.issue k g (.slock x)) k (qUnit x.q)
      (Core.setS · x.d (if h.committed then 2#64 else BitVec.ofNat 64 h.status)) := by
  refine hi.acts (fun _ _ _ => rfl) fun s' hs => ?_
  have ha := ActsAs.of_acting hs
  have he' := Core.earlierRetired_acting (u := (EngOp.slock x).unit) hs he
  have hold' : s'.holds h k r.ctx = true := by rcases hs with rfl | rfl <;> exact hold
  have hact : s'.actSlock k r.ctx (qUnit x.q) (QEntry.new (s.core k) (.slock x)) x = .done (s'.modCore k
      (Core.setS · x.d (if h.committed then 2#64 else BitVec.ofNat 64 h.status))) := by
    simp [State.actSlock, ha.opA, ha.target, ha.word, ha0, ht, hh, hold']
  exact ⟨_, id, (if_neg (by simp [he'])).trans hact, Touches.modCore _ _ _⟩

/-- Core k as the new holder of a lock for context n, with the status it received (R194, Table 7.3). -/
def State.newHolder (s : State) (key k n : Nat) : Holder :=
  { ctx := n, cluster := s.relCluster (s.ctxPart n) (k / 24), core := k % 24, tag := s.tag n,
    status := b2n (s.word key).abandoned, committed := false }

theorem State.holds_newHolder (s : State) (key k n : Nat) : s.holds (s.newHolder key k n) k n = true := by
  simp [State.holds, State.newHolder]

/-- The word of a lock that core k has acquired for context n. -/
def State.acquiredWord (s : State) (key k n : Nat) : SyncWord := { s.word key with holder := some (s.newHolder key k n) }

theorem State.acquire_eq (s : State) (key k n : Nat) (d : BitVec 5) : s.acquire key k n d =
    (s.setWord key (s.acquiredWord key k n)).modCore k (Core.setS · d (BitVec.ofNat 64 (b2n (s.word key).abandoned))) := rfl

/-- SLOCK of a free lock on which nothing is queued acquires it (R195). -/
theorem Issues.slock_acquires (h : Issues s k g (.slock x) r) (he : (s.core k).earlierRetired (qUnit x.q) = true)
    (ha0 : opPeer ((s.core k).opA x) = 0) (ht : s.target r.ctx ((s.core k).opA x) [2] = .word key)
    (hh : (s.word key).holder = none) (hq : s.lockQueued key = false) :
    let t := s.issue k g (.slock x)
    (t.sync = (s.setWord key (s.acquiredWord key k r.ctx)).sync ∧ t.mem = s.mem ∧ ∀ j, j ≠ k → t.core j = s.core j) ∧
      ∃ d, t.core k = ((s.core k).setS x.d (BitVec.ofNat 64 (b2n (s.word key).abandoned))).placed
        (((s.core k).regs.pc + 8) % 2 ^ 48) d := by
  refine h.ends (R := fun u => u.sync = (s.setWord key (s.acquiredWord key k r.ctx)).sync ∧ u.mem = s.mem ∧
      ∀ j, j ≠ k → u.core j = s.core j)
    (fun u f ⟨h1, h2, h3⟩ => ⟨h1, h2, fun j hj => (State.core_modCore_ne _ _ hj).trans (h3 j hj)⟩) fun s' hs => ?_
  have ha := ActsAs.of_acting hs
  have he' := Core.earlierRetired_acting (u := (EngOp.slock x).unit) hs he
  have hq' : s'.lockQueued key = false := by rwa [State.lockQueued, ha.sync]
  have hact : s'.actSlock k r.ctx (qUnit x.q) (QEntry.new (s.core k) (.slock x)) x = .done (s'.acquire key k r.ctx x.d) := by
    simp [State.actSlock, ha.opA, ha.target, ha.word, ha0, ht, hh, hq']
  refine ⟨_, id, (if_neg (by simp [he'])).trans hact, ?_, ?_, ha.mem, fun j hj => ?_⟩
  · rw [State.acquire_eq, State.core_modCore, ha.word]
    exact congrArg (Core.setS · x.d (BitVec.ofNat 64 (b2n (s.word key).abandoned))) ha.core
  · rcases hs with rfl | rfl <;> rfl
  · rw [State.acquire_eq, State.core_modCore_ne _ _ hj]
    exact ha.other j hj

/-- Settles O14: a wait that is met and a lock held already change their core alone; a free lock changes its word too. -/
theorem waitsAndLocks : Obligations.WaitsAndLocks := by
  unfold Obligations.WaitsAndLocks
  refine fun c x s r key => ⟨fun h he ha0 ht hv => ⟨_, rfl, h.swait_retires he ha0 ht hv⟩, fun h he ha0 ht =>
    ⟨fun hh hq => ?_, fun hl hh hold => ⟨_, rfl, h.slock_held he ha0 ht hh hold⟩⟩⟩
  obtain ⟨⟨hsync, hmem, hother⟩, d, hcore⟩ := h.slock_acquires he ha0 ht hh hq
  obtain ⟨hword, hwords⟩ := (KeepsWords.refl (s.setWord key (s.acquiredWord key (coreKey c) r.ctx))).setWord_sync hsync
  refine ⟨_, rfl, ?_, by rw [hcore]; rfl, by rw [hword]; rfl, by rw [hword]; rfl, by rw [hword]; rfl, hwords, hother, hmem⟩
  rw [hcore]
  exact Core.sreg_setS _ _ _

end Sys2Proof.Machine
end

section
/-!
PROOF. The events that end waits (R127, R135, R174, R182, R186, R192, R195).
-/

namespace Sys2Proof.Machine

open Sys2Proof

variable {s : State} {c : CoreId} {r : RunTask} {x : YArgs} {e : QEntry}

theorem Core.waitingAt_seq {q : Core} (hh : q.disp.hold = .op e) (hw : e.waiting = true) : q.waitingAt .seq = some e := by
  simp only [Core.waitingAt, hh, hw, if_true]

/-- What a wait for a counter orders is the period's record alone (R156). -/
theorem Core.sawCounter_regs (q : Core) (u : CoreUnit) : (q.sawCounter u).regs = q.regs := by
  unfold Core.sawCounter
  split
  · split <;> rfl
  · rfl

/-- A wait at dispatch that has been met is over: dispatch goes on after it (R127, R186, R192). -/
theorem exec_syncWaitSatisfied_seq (hrole : (s.core (coreKey c)).role = .inService)
    (hmet : s.waitMet (coreKey c) .seq = true) :
    ∃ t, exec (.syncWaitSatisfied c .seq) s = .next t ∧ (t.core (coreKey c)).disp.hold = .none ∧
      (t.core (coreKey c)).regs =
        { (s.core (coreKey c)).regs with pc := ((s.core (coreKey c)).regs.pc + 8) % 2 ^ 48 } ∧
      t.sync.words = s.sync.words ∧ t.mem = s.mem := by
  have hexec : exec (.syncWaitSatisfied c .seq) s =
      .next (((s.unwatch (coreKey c) .seq).modCore (coreKey c) (Core.sawCounter · .seq)).endWait (coreKey c) .seq) := by
    change execSyncWaitSatisfied c .seq s = _
    simp [execSyncWaitSatisfied, hmet, hrole]
  refine ⟨_, hexec, ?_, ?_, rfl, rfl⟩
  all_goals rw [State.endWait, if_pos rfl, State.core_modCore, State.core_modCore]
  · rfl
  · simp only [Core.next, Core.setPc, Core.sawCounter_regs]
    rfl

/-- A wait for a local counter is met once the counter has reached b (R127). -/
theorem State.waitMet_of_lctr {k : Nat} (hh : (s.core k).disp.hold = .op e) (hw : e.waiting = true)
    (hop : e.op = .swait true x) (hv : (s.core k).opB x ≤ (s.core k).lctr ((s.core k).opA x % 16)) :
    s.waitMet k .seq = true := by
  rw [State.waitMet, Core.waitingAt_seq hh hw, Bool.or_eq_true]
  refine .inr ?_
  simpa only [hop, Nat.ble_eq] using hv

/-- A free lock goes to the first request queued on it, whose wait at dispatch is over (R195). -/
theorem exec_slockGrant_seq {gc : Fin 64} {i : Fin 4096} {w : Watch} (hrun : (s.core w.core).run = some r)
    (hh : (s.core w.core).disp.hold = .op e) (hw : e.waiting = true) (hop : e.op = .slock x) (hu : w.unit = .seq)
    (hmode : (s.word (wordKey gc i)).mode = 2) (hfree : (s.word (wordKey gc i)).holder = none)
    (hfirst : (s.sync.watches.find? fun w => w.isLock && w.cluster == gc.val && w.index == i.val) = some w) :
    exec (.slockGrant gc i) s =
      .next (((s.unwatch w.core .seq).acquire (wordKey gc i) w.core r.ctx x.d).endWait w.core .seq) := by
  change execSlockGrant gc i s = _
  simp [execSlockGrant, hmode, hfree, hfirst, hrun, hu, Core.waitingAt_seq hh hw, hop]

/-- What a core is that has acquired a lock at dispatch and goes on (R195). -/
theorem State.acquire_endWait (s : State) (key k n : Nat) (d : BitVec 5) :
    let t := (s.acquire key k n d).endWait k .seq
    t.word key = s.acquiredWord key k n ∧ (t.core k).sreg d = BitVec.ofNat 64 (b2n (s.word key).abandoned) ∧
      (t.core k).disp.hold = .none ∧ (t.core k).regs.pc = ((s.core k).regs.pc + 8) % 2 ^ 48 := by
  have hcore : ((s.acquire key k n d).endWait k .seq).core k =
      Core.next { (s.core k).setS d (BitVec.ofNat 64 (b2n (s.word key).abandoned)) with
        disp := { (s.core k).disp with hold := .none } } := by
    rw [State.endWait, if_pos rfl, State.core_modCore, State.acquire_eq, State.core_modCore]
    rfl
  refine ⟨State.word_setWord _ _ _, ?_⟩
  rw [hcore]
  exact ⟨Core.sreg_setS _ _ _, rfl, rfl⟩

/-- A local pop at the head takes the oldest entry (R174) and marks its step in the period (R156). -/
theorem State.runHead_hpopLocal {k : Nat} {u : CoreUnit} {v : Word64} {l : List Word64} (hop : e.op = .hpop true x)
    (he : (s.core k).earlierRetired u = true) (hv : (s.core k).local ((s.core k).opA x % 8) = v :: l) :
    ∃ z, s.runHead k u r e = .done ((s.modCore k fun q =>
      (q.setLocal ((s.core k).opA x % 8) l).setS x.d v).modCore k fun q => q.modRaces z) := by
  simp only [State.runHead, hop, he, Bool.not_true, Bool.false_eq_true, if_false, if_true, State.actHpopLocal, hv,
    HeadRes.onDone]
  exact ⟨_, rfl⟩

/-- A local pop that waits at dispatch takes the entry that has come (R174). -/
theorem exec_handleWaitSatisfied_pop {v : Word64} {l : List Word64} (hrun : (s.core (coreKey c)).run = some r)
    (hrole : (s.core (coreKey c)).role = .inService) (hh : (s.core (coreKey c)).disp.hold = .op e)
    (hw : e.waiting = true) (hop : e.op = .hpop true x)
    (hv : (s.core (coreKey c)).local ((s.core (coreKey c)).opA x % 8) = v :: l) :
    ∃ t, exec (.handleWaitSatisfied c .seq) s = .next t ∧ (t.core (coreKey c)).sreg x.d = v ∧
      (t.core (coreKey c)).local ((s.core (coreKey c)).opA x % 8) = l ∧ (t.core (coreKey c)).disp.hold = .none ∧
      (t.core (coreKey c)).regs.pc = ((s.core (coreKey c)).regs.pc + 8) % 2 ^ 48 := by
  obtain ⟨z, hhead⟩ := State.runHead_hpopLocal (r := r) (e := { e with waiting := false }) (u := .seq) hop rfl hv
  have hexec : exec (.handleWaitSatisfied c .seq) s =
      .next (s.runAtDispatch (coreKey c) r { e with waiting := false }) := by
    change execHandleWaitSatisfied c .seq s = _
    simp only [execHandleWaitSatisfied, Core.waitingAt_seq hh hw, hop, hrole, if_true, State.resume, hrun]
  refine ⟨_, hexec, ?_⟩
  rw [State.runAtDispatch, hhead]
  dsimp only
  rw [State.core_modCore, State.core_modCore, State.core_modCore]
  exact ⟨Core.sreg_setS _ _ _, SMap.get_set_same _ _ _ _, rfl, rfl⟩

/-- The awaited kind becomes the period once the current kind has retired (R135). -/
theorem exec_periodChange {p p' : Period} (ha : (s.core (coreKey c)).disp.awaited = some p)
    (hp : (s.core (coreKey c)).disp.period = some p') (hret : (s.core (coreKey c)).kindRetired p' = true) :
    exec (.periodChange c) s = .next (s.modCore (coreKey c) fun q =>
      { q with disp := { q.disp with period := some p, awaited := none, races := Races.none } }) := by
  change execPeriodChange c s = _
  simp only [execPeriodChange, ha, hp, hret, if_true]

/-- Settles O15: each event finds its condition met and lets dispatch go on, by what waits there. -/
theorem waitsEnd : Obligations.WaitsEnd := by
  unfold Obligations.WaitsEnd
  refine fun c s r hrun hrole => ⟨fun b hh hmet => exec_syncWaitSatisfied_seq hrole hmet,
    fun e x hh hw hop hmet => exec_syncWaitSatisfied_seq hrole hmet,
    fun e x hh hw hop hv => exec_syncWaitSatisfied_seq hrole (State.waitMet_of_lctr hh hw hop hv),
    fun e x g i hh hw hop hmode hfree hfirst => ?_,
    fun e x v l hh hw hop hv => exec_handleWaitSatisfied_pop hrun hrole hh hw hop hv,
    fun p p' ha hp hret => exec_periodChange ha hp hret⟩
  obtain ⟨hword, hcore⟩ := State.acquire_endWait (s.unwatch (coreKey c) .seq) (wordKey g i) (coreKey c) r.ctx x.d
  exact ⟨_, s.newHolder (wordKey g i) (coreKey c) r.ctx, exec_slockGrant_seq hrun hh hw hop rfl hmode hfree hfirst,
    congrArg SyncWord.holder hword, s.holds_newHolder _ _ _, hcore⟩

end Sys2Proof.Machine
end

section
/-!
SUPPORT. Arm slots, said once: a test fires each slot that is due, and leaves every other slot and every word as it is
(R202, R203).
-/

namespace Sys2Proof.Machine

open Sys2Proof

variable {s t : State} {k i j : Nat} {a : ArmSlot}

/-- Whether an arm slot of partition k is armed and its word has reached its target (R202). -/
def State.armDue (s : State) (k : Nat) (a : ArmSlot) : Bool :=
  a.enable && ((s.syncKey k a.word).map fun w => Nat.ble a.target (s.word w).value).getD false

/-- An arm slot of partition k after a test: it has fired where it was due (R202). -/
def State.testedArm (s : State) (k : Nat) (a : ArmSlot) : ArmSlot :=
  if s.armDue k a then { a with enable := false, fired := true } else a

/-- The test of slot i of partition k. -/
def State.testArm (s : State) (k i : Nat) : State :=
  if s.armDue k (s.arm (64 * k + i)) then
    (s.setArm (64 * k + i) { s.arm (64 * k + i) with enable := false, fired := true }).msix (k + 1) (s.arm (64 * k + i)).vector
  else s

/-- A test of partition k tests its slots in order; none in restricted signalling (R203). -/
theorem State.testArms_eq (h : s.restricted k = false) :
    s.testArms k = (List.range 64).foldl (fun s i => s.testArm k i) s := by
  rw [State.testArms, if_neg (by simp [h])]
  refine congrArg (fun f => List.foldl f s (List.range 64)) (funext fun u => funext fun i => ?_)
  unfold State.testArm State.armDue
  dsimp only
  cases (u.arm (64 * k + i)).enable
  · rfl
  · cases u.syncKey k (u.arm (64 * k + i)).word <;> rfl

/-- Whether a slot is due rests on the clusters of the partition and the words. -/
theorem State.armDue_congr (hd : t.dict = s.dict) (hw : t.sync.words = s.sync.words) (k : Nat) (a : ArmSlot) :
    t.armDue k a = s.armDue k a := by
  unfold State.armDue State.syncKey State.globalCluster State.partClusters State.ent State.word
  rw [hd, hw]

theorem State.testArm_keeps (s : State) (k i : Nat) :
    (s.testArm k i).dict = s.dict ∧ (s.testArm k i).sync.words = s.sync.words := by
  unfold State.testArm
  split
  · exact ⟨State.msix_dict _ _ _, by rw [(Reports.msix _ _ _).sync]; rfl⟩
  · exact ⟨rfl, rfl⟩

theorem State.testedArm_testArm (s : State) (k i : Nat) (a : ArmSlot) : (s.testArm k i).testedArm k a = s.testedArm k a := by
  obtain ⟨hd, hw⟩ := s.testArm_keeps k i
  rw [State.testedArm, State.armDue_congr hd hw, State.testedArm]

/-- A slot that has fired is not due again. -/
theorem State.testedArm_testedArm (s : State) (k : Nat) (a : ArmSlot) :
    s.testedArm k (s.testedArm k a) = s.testedArm k a := by
  by_cases h : s.armDue k a = true
  · have hf : s.testedArm k a = { a with enable := false, fired := true } := if_pos h
    rw [hf]
    rfl
  · have hf : s.testedArm k a = a := if_neg h
    rw [hf, hf]

theorem State.arm_msix (s : State) (f v j : Nat) : (s.msix f v).arm j = s.arm j := by
  rw [State.arm, (Reports.msix s f v).sync, State.arm]

/-- The test of slot i changes that slot alone. -/
theorem State.arm_testArm (s : State) (k i j : Nat) :
    (s.testArm k i).arm (64 * k + j) = if j = i then s.testedArm k (s.arm (64 * k + j)) else s.arm (64 * k + j) := by
  unfold State.testArm
  by_cases hj : j = i
  · subst hj
    rw [if_pos rfl, State.testedArm]
    split
    · rw [State.arm_msix, State.arm_setArm]
    · rfl
  · rw [if_neg hj]
    split
    · rw [State.arm_msix, State.arm_setArm_ne _ _ (by omega)]
    · rfl

theorem State.arm_foldl_testArm (l : List Nat) (s : State) (k j : Nat) :
    (l.foldl (fun s i => s.testArm k i) s).arm (64 * k + j) =
      if j ∈ l then s.testedArm k (s.arm (64 * k + j)) else s.arm (64 * k + j) := by
  induction l generalizing s with
  | nil => rfl
  | cons i l ih =>
    rw [List.foldl_cons, ih, State.testedArm_testArm, State.arm_testArm]
    by_cases hj : j = i
    · simp [hj, State.testedArm_testedArm]
    · simp [hj]

/-- Each slot of a tested partition is tested (R202). -/
theorem State.arm_testArms (h : s.restricted k = false) (hj : j < 64) :
    (s.testArms k).arm (64 * k + j) = s.testedArm k (s.arm (64 * k + j)) := by
  rw [State.testArms_eq h, State.arm_foldl_testArm, if_pos (List.mem_range.2 hj)]

/-- A slot that is written where it may be, then tested (R202). -/
theorem State.arm_setArm_testArms (h : s.restricted k = false) (hj : j < 64) (a : ArmSlot) :
    ((s.setArm (64 * k + j) a).testArms k).arm (64 * k + j) = s.testedArm k a := by
  have hdue := State.armDue_congr (s := s) (t := s.setArm (64 * k + j) a) rfl rfl k a
  rw [State.arm_testArms (s := s.setArm (64 * k + j) a) h hj, State.arm_setArm, State.testedArm, hdue, State.testedArm]

/-- A slot that is armed on a word fires where the word has reached its target, and stays armed below it (R202). -/
theorem State.testedArm_armed {key : Nat} (he : a.enable = true) (hk : s.syncKey k a.word = some key) :
    s.testedArm k a = if a.target ≤ (s.word key).value then { a with enable := false, fired := true } else a := by
  have hdue : s.armDue k a = Nat.ble a.target (s.word key).value := by
    rw [State.armDue, he, hk]
    rfl
  rw [State.testedArm, hdue]
  simp only [Nat.ble_eq]

/-- A slot that is not armed does not fire (R202). -/
theorem State.testedArm_unarmed (he : a.enable = false) : s.testedArm k a = a := by
  rw [State.testedArm, State.armDue, he]
  rfl

end Sys2Proof.Machine
end

section
/-!
PROOF. Host accesses of the sync window and arm slots (R182, R199 to R203).
-/

namespace Sys2Proof.Machine

open Sys2Proof

variable {s t : State} {f : Fin 17} {cluster : Fin 64} {index : Fin 4096} {v : Word64} {g k rel : Nat}

/-! ### Accesses that are dropped -/

theorem row_syncHostDrop (k : Fin 16) : (Catalog.row (Ent.syncHostDrop k)).map (·.size) = some 4 := by
  revert k
  decide +kernel

/-- From s to t an access of the window was dropped and counted: no word, slot or memory changed (R199). -/
structure DropsAccess (s t : State) (k : Nat) : Prop where
  count : t.ent (Ent.syncHostDrop k) = s.ent (Ent.syncHostDrop k) + 1
  sync : t.sync = s.sync
  mem : t.mem = s.mem

theorem DropsAccess.bump (hk : k < 16) (h : s.ent (Ent.syncHostDrop k) < 2 ^ 32 - 1) :
    DropsAccess s (s.bump (Ent.syncHostDrop k)) k :=
  ⟨State.ent_bumpBy_of_lt (row_syncHostDrop ⟨k, hk⟩) (by omega), rfl, rfl⟩

/-- A dropped access may be recorded (R182). -/
theorem DropsAccess.logPart (hk : k < 16) (h : DropsAccess s t k) (code : Nat) (args : List Nat) :
    DropsAccess s (t.logPart code k args) k := by
  have hr := Reports.logPart t code k args
  refine ⟨?_, hr.sync.trans h.sync, hr.mem.trans h.mem⟩
  have hne : Ent.syncHostDrop k ≠ Ent.logHead ∧ Ent.syncHostDrop k ≠ Ent.logLost := by
    simp only [Ent.syncHostDrop, Ent.logHead, Ent.logLost]
    omega
  exact (State.ent_logRec t _ hne.1 hne.2).trans h.count

theorem State.cause_rel (s : State) (f b : Nat) : (s.cause f b).rel = s.rel := by
  unfold State.cause State.msix
  split_ifs <;> rfl

/-- A record stands first in the log (R376). -/
theorem State.log_logRec (s : State) (x : LogRec) : (s.logRec x).rel.log.head? = some x := by
  have hlog : (s.logRec x).rel.log = (x :: s.rel.log).take logCap := by
    unfold State.logRec
    dsimp only
    split_ifs <;> simp only [State.cause_rel] <;> rfl
  rw [hlog]
  rfl

/-! ### Where an access goes -/

/-- A function that reaches a partition (R421, R422). -/
structure Reaches (s : State) (f : Fin 17) (k : Nat) : Prop where
  part : f.val - 1 = k
  host : s.hostReach f = true
  own : f ≠ 0
  defined : s.partDefined k = true

theorem Reaches.bound (h : Reaches s f k) : k < 16 := by
  have := f.isLt
  have := h.part
  omega

theorem Reaches.reads (h : Reaches s f k) : (!s.hostReach f) = false ∧ (f.val = 0 || !s.partDefined k) = false ∧
    (f = 0 || !s.partDefined k) = false := by
  have hf : f.val ≠ 0 := fun e => h.own (Fin.ext e)
  simp [h.host, h.defined, hf, h.own]

/-- Outside restricted signalling a write of the window acts on the word that it names (R199). -/
theorem Reaches.windowWrite (h : Reaches s f k) (hr : s.restricted k = false) (hg : s.globalCluster k rel = some g)
    (act : State → Nat → Nat → State) : s.windowWrite f rel act = act s k g := by
  obtain ⟨hhost, hpart, -⟩ := h.reads
  obtain rfl := h.part
  simp only [State.windowWrite, hhost, hpart, hr, hg, Bool.false_eq_true, if_false]

/-- In restricted signalling it is dropped and counted (R203). -/
theorem Reaches.windowWrite_restricted (h : Reaches s f k) (hr : s.restricted k = true) (act : State → Nat → Nat → State) :
    s.windowWrite f rel act = s.bump (Ent.syncHostDrop k) := by
  obtain ⟨hhost, hpart, -⟩ := h.reads
  obtain rfl := h.part
  simp only [State.windowWrite, hhost, hpart, hr, Bool.false_eq_true, if_false, if_true]

/-! ### Writes of words -/

/-- The host sets a word that no running task reaches (R201). -/
theorem KeepsWords.hostSet {key : Nat} (h : s.wordInUse k key = false) (v config : Nat) : KeepsWords
    (s.setWord key { value := v, config := config, holder := none, abandoned := false }) (s.hostSet k key v config) := by
  have hv : s.hostValue k key v = (v, s) := if_neg (by simp [h])
  rw [State.hostSet, hv]
  exact .wordChanged _ _

theorem KeepsWords.setWord_word {w : SyncWord} {key : Nat} (h : KeepsWords (s.setWord key w) t) :
    (∀ j, j ≠ key → t.word j = s.word j) ∧ t.word key = w := (h.setWord_sync rfl).symm

/-- A configuration that R182 does not allow: a reserved mode, a barrier of no participants, or an owner that is no context
of the partition. -/
def State.badConfig (s : State) (k : Nat) (v : Word64) : Prop :=
  bitsAt v.toNat 0 2 = 3 ∨ (bitsAt v.toNat 0 2 = 1 ∧ bitsAt v.toNat 16 16 = 0) ∨
    (v.getLsbD 2 = true ∧ s.ctxOf k (bitsAt v.toNat 3 6) = false)

theorem State.badConfig_iff : (bitsAt v.toNat 0 2 = 3 || (bitsAt v.toNat 0 2 == 1 && bitsAt v.toNat 16 16 == 0) ||
    (v.toNat.testBit 2 && !s.ctxOf k (bitsAt v.toNat 3 6))) = true ↔ s.badConfig k v := by
  simp [State.badConfig, BitVec.getLsbD, or_assoc]

theorem Reaches.syncSet (h : Reaches s f k) (hr : s.restricted k = false) (hg : s.globalCluster k cluster = some g) :
    exec (.syncSet f cluster index v) s =
      .next (s.hostSet k (wordKey g index) v.toNat (s.word (wordKey g index)).config) :=
  congrArg Host.Outcome.next (h.windowWrite hr hg _)

theorem Reaches.syncHostPost (h : Reaches s f k) (hr : s.restricted k = false)
    (hg : s.globalCluster k cluster = some g) : exec (.syncHostPost f cluster index v) s =
      .next (if (s.word (wordKey g index)).mode = 2 then s.bump (Ent.syncHostDrop k)
        else s.addWord (wordKey g index) v.toNat) :=
  congrArg Host.Outcome.next (h.windowWrite hr hg _)

theorem Reaches.syncConfigWrite (h : Reaches s f k) (hr : s.restricted k = false)
    (hg : s.globalCluster k cluster = some g) (hb : ¬ s.badConfig k v) :
    exec (.syncConfigWrite f cluster index v) s = .next (s.hostSet k (wordKey g index) 0 v.toNat) :=
  congrArg Host.Outcome.next ((h.windowWrite hr hg _).trans (if_neg (State.badConfig_iff.not.2 hb)))

theorem Reaches.syncConfigWrite_bad (h : Reaches s f k) (hr : s.restricted k = false)
    (hg : s.globalCluster k cluster = some g) (hb : s.badConfig k v) : exec (.syncConfigWrite f cluster index v) s =
      .next ((s.bump (Ent.syncHostDrop k)).logPart Code.syncConfigInvalid k [wordKey g index, v.toNat]) :=
  congrArg Host.Outcome.next ((h.windowWrite hr hg _).trans (if_pos (State.badConfig_iff.2 hb)))

/-! ### Writes of arm slots -/

/-- Only the first register of a slot arms it (Table 7.8). -/
theorem ArmSlot.write_enable (a : ArmSlot) {field : Nat} (hf : field ≠ 0) (v : Nat) (keep : Bool) :
    (a.write field v keep).enable = a.enable := by
  unfold ArmSlot.write
  split
  · exact absurd rfl hf
  all_goals split <;> rfl

/-- A register of an arm slot that is not one of an armed slot's TARGET and VECTOR takes the value written, and the slots
are tested (R202). -/
theorem Reaches.armSlotWrite {slot : Fin 64} {field : Fin 4} (h : Reaches s f k) (hr : s.restricted k = false)
    (hf : field = 0 ∨ (s.arm (64 * k + slot)).enable = false) : exec (.armSlotWrite f slot field v) s =
      .next ((s.setArm (64 * k + slot) ((s.arm (64 * k + slot)).write field v.toNat false)).testArms k) := by
  obtain ⟨hhost, -, hpart⟩ := h.reads
  obtain rfl := h.part
  have hopen : ((s.arm (64 * (f.val - 1) + slot)).enable && (field.val == 1 || field.val == 2)) = false := by
    rcases hf with rfl | he
    · exact Bool.and_false _
    · rw [he, Bool.false_and]
  change Host.Outcome.next (s.armWriteAt f slot field v.toNat) = _
  simp only [State.armWriteAt, hhost, hpart, hr, hopen, Bool.false_eq_true, if_false]

theorem Reaches.armSlotWrite_restricted {slot : Fin 64} {field : Fin 4} (h : Reaches s f k) (hr : s.restricted k = true) :
    exec (.armSlotWrite f slot field v) s = .next (s.bump (Ent.syncHostDrop k)) := by
  obtain ⟨hhost, -, hpart⟩ := h.reads
  obtain rfl := h.part
  change Host.Outcome.next (s.armWriteAt f slot field v.toNat) = _
  simp only [State.armWriteAt, hhost, hpart, hr, Bool.false_eq_true, if_false, if_true]

/-- Settles O49: an access acts on its word or its slot, after which arm slots are tested, or it is dropped and counted. -/
theorem syncWindow : Obligations.SyncWindow := by
  unfold Obligations.SyncWindow
  intro f cluster index slot field v s g key k at_ open_ w reaches others room drops badConfig a
  have hat : at_ → Reaches s f k := fun ⟨hh, hf, hd⟩ => ⟨rfl, hh, hf, hd⟩
  have hdrops {t : State} (h : DropsAccess s t k) : drops t := ⟨h.count, h.sync, h.mem⟩
  refine ⟨fun ⟨⟨hr, ho⟩, hg⟩ hu => ⟨_, (hat hr).syncSet ho hg, (KeepsWords.hostSet hu _ _).setWord_word⟩,
    fun ⟨⟨hr, ho⟩, hg⟩ hm => ⟨_, (hat hr).syncHostPost ho hg, ?_⟩,
    fun ⟨⟨hr, ho⟩, hg⟩ hm hroom => ⟨_, (hat hr).syncHostPost ho hg, ?_⟩,
    fun ⟨⟨hr, ho⟩, hg⟩ hb hu => ⟨_, (hat hr).syncConfigWrite ho hg hb, (KeepsWords.hostSet hu _ _).setWord_word⟩,
    fun ⟨⟨hr, ho⟩, hg⟩ hb hroom => ⟨_, (hat hr).syncConfigWrite_bad ho hg hb, ?_⟩,
    fun ⟨hr, ho⟩ hf he hk => ⟨_, (hat hr).armSlotWrite ho (.inl hf), ?_⟩,
    fun ⟨hr, ho⟩ hf he => ⟨_, (hat hr).armSlotWrite ho (.inr he), ?_, (KeepsWords.testArms _ _).words⟩,
    fun hr ho hroom => ?_⟩
  · rw [if_neg hm]
    exact (KeepsWords.addWordFor _ _ _ _).setWord_word
  · rw [if_pos hm]
    exact hdrops (.bump (hat hr).bound hroom)
  · exact ⟨hdrops ((DropsAccess.bump (hat hr).bound hroom).logPart (hat hr).bound _ _), _, State.log_logRec _ _, rfl, rfl⟩
  · subst hf
    have he' : ((s.arm (64 * k + slot)).write (0 : Fin 4) v.toNat false).enable = true := he
    rw [State.arm_setArm_testArms ho slot.isLt, State.testedArm_armed he' hk]
    split
    · next hv => exact ⟨rfl, fun _ => ⟨rfl, rfl⟩, fun h => absurd hv (Nat.not_le.2 h)⟩
    · next hv => exact ⟨rfl, fun h => absurd h hv, fun _ => ⟨rfl, he⟩⟩
  · rw [State.arm_setArm_testArms ho slot.isLt]
    exact State.testedArm_unarmed ((ArmSlot.write_enable _ (fun e => hf (Fin.ext e)) _ _).trans he)
  · have hd := hdrops (.bump (hat hr).bound hroom)
    simp only [List.forall_mem_cons, List.not_mem_nil, false_implies, implies_true, and_true]
    exact ⟨⟨_, congrArg Host.Outcome.next ((hat hr).windowWrite_restricted ho _), hd⟩,
      ⟨_, congrArg Host.Outcome.next ((hat hr).windowWrite_restricted ho _), hd⟩,
      ⟨_, congrArg Host.Outcome.next ((hat hr).windowWrite_restricted ho _), hd⟩,
      ⟨_, (hat hr).armSlotWrite_restricted ho, hd⟩⟩

end Sys2Proof.Machine
end

section
/-!
SUPPORT. What leaves the memory of the stacks alone: operations that do not touch the memory, and operations that change its
bookkeeping (pages, poison, refills, scrubbing) but none of its bytes.
-/

namespace Sys2Proof.Machine

open Sys2Proof

@[simp] theorem State.ite_mem (p : Prop) [Decidable p] (s t : State) :
    (if p then s else t).mem = if p then s.mem else t.mem := apply_ite State.mem p s t

theorem State.foldl_mem {α : Type} {f : State → α → State} (hf : ∀ s a, (f s a).mem = s.mem) (l : List α) (s : State) :
    (l.foldl f s).mem = s.mem := by
  induction l generalizing s with
  | nil => rfl
  | cons a l ih => exact (ih _).trans (hf s a)

theorem State.foldl_cells {α : Type} {f : State → α → State} (hf : ∀ s a, (f s a).mem.cells = s.mem.cells) (l : List α)
    (s : State) : (l.foldl f s).mem.cells = s.mem.cells := by
  induction l generalizing s with
  | nil => rfl
  | cons a l ih => exact (ih _).trans (hf s a)

/-! ### Reports and the event log -/

@[simp] theorem State.modCores_mem (s : State) (l : List Nat) (f : Core → Core) : (s.modCores l f).mem = s.mem :=
  State.foldl_mem (fun s k => State.modCore_mem s k f) l s

@[simp] theorem State.bumpFn_mem (s : State) (f off : Nat) : (s.bumpFn f off).mem = s.mem := rfl

@[simp] theorem State.hostDrop_mem (s : State) (f : Nat) : (s.hostDrop f).mem = s.mem := rfl

@[simp] theorem State.msix_mem (s : State) (f v : Nat) : (s.msix f v).mem = s.mem := (Reports.msix s f v).mem

@[simp] theorem State.flushPba_mem (s : State) (f : Nat) : (s.flushPba f).mem = s.mem := by
  unfold State.flushPba
  split
  · exact State.foldl_mem (fun t v => by split <;> rfl) _ s
  · rfl

@[simp] theorem State.cause_mem (s : State) (f b : Nat) : (s.cause f b).mem = s.mem := (Reports.cause s f b).mem

@[simp] theorem State.cqEvent_mem (s : State) (n b : Nat) : (s.cqEvent n b).mem = s.mem := (Reports.cqEvent s n b).mem

@[simp] theorem State.logRec_mem (s : State) (r : LogRec) : (s.logRec r).mem = s.mem := (Reports.logRec s r).mem

@[simp] theorem State.log_mem (s : State) (code : Nat) (args : List Nat) : (s.log code args).mem = s.mem :=
  (Reports.log s code args).mem

@[simp] theorem State.logSlot_mem (s : State) (code c slot : Nat) (args : List Nat) :
    (s.logSlot code c slot args).mem = s.mem := (Reports.logSlot s code c slot args).mem

@[simp] theorem State.logTested_mem (s : State) (code c slot : Nat) (args : List Nat) :
    (s.logTested code c slot args).mem = s.mem := (Reports.logTested s code c slot args).mem

@[simp] theorem State.logCtx_mem (s : State) (code n : Nat) (args : List Nat) : (s.logCtx code n args).mem = s.mem :=
  (Reports.logCtx s code n args).mem

@[simp] theorem State.logPart_mem (s : State) (code k : Nat) (args : List Nat) : (s.logPart code k args).mem = s.mem :=
  (Reports.logPart s code k args).mem

@[simp] theorem State.logCore_mem (s : State) (code n k : Nat) (args : List Nat) :
    (s.logCore code n k args).mem = s.mem := (Reports.logCore s code n k args).mem

@[simp] theorem State.logAgent_mem (s : State) (code : Nat) (who : LineReader) (args : List Nat) :
    (s.logAgent code who args).mem = s.mem := (Reports.logAgent s code who args).mem

@[simp] theorem State.logHeld_mem (s : State) (code k : Nat) (args : List Nat) : (s.logHeld code k args).mem = s.mem :=
  (Reports.logHeld s code k args).mem

@[simp] theorem State.staleDropBy_mem (s : State) (n count : Nat) (args : List Nat) :
    (s.staleDropBy n count args).mem = s.mem := by simp [State.staleDropBy]

@[simp] theorem State.staleDrop_mem (s : State) (n : Nat) (args : List Nat) : (s.staleDrop n args).mem = s.mem :=
  by simp [State.staleDrop]

@[simp] theorem State.notify_mem (s : State) (code key : Nat) (votePart : Option Nat) :
    (s.notify code key votePart).mem = s.mem := (Reports.notify s code key votePart).mem

@[simp] theorem State.updateAlertN_mem (s : State) : s.updateAlertN.mem = s.mem := (Reports.updateAlertN s).mem

@[simp] theorem State.alertFor_mem (s : State) (b : Nat) (votePart : Option Nat) : (s.alertFor b votePart).mem = s.mem :=
  (Reports.alertFor s b votePart).mem

@[simp] theorem State.alert_mem (s : State) (b : Nat) : (s.alert b).mem = s.mem := (Reports.alert s b).mem

@[simp] theorem State.wmJudge_mem (s : State) (index : Nat) : (s.wmJudge index).mem = s.mem := (Reports.wmJudge s
    index).mem

@[simp] theorem State.wmLevel_mem (s : State) (index lvl : Nat) : (s.wmLevel index lvl).mem = s.mem :=
  (Reports.wmLevel s index lvl).mem

@[simp] theorem State.wmMark_mem (s : State) (index mark : Nat) : (s.wmMark index mark).mem = s.mem :=
  (Reports.wmMark s index mark).mem

@[simp] theorem State.drain_mem (s : State) : s.drain.mem = s.mem := (Reports.drain s).mem

@[simp] theorem State.setReplace_mem (s : State) (b : Nat) : (s.setReplace b).mem = s.mem := (Reports.setReplace s b).mem

@[simp] theorem State.testArms_mem (s : State) (k : Nat) : (s.testArms k).mem = s.mem := (KeepsWords.testArms s k).mem

/-! ### Synchronization words -/

@[simp] theorem State.wordChanged_mem (s : State) (key : Nat) : (s.wordChanged key).mem = s.mem := by
  unfold State.wordChanged
  split <;> simp

@[simp] theorem State.logSaturated_mem (s : State) (key : Nat) (who : Option (Nat × Nat)) :
    (s.logSaturated key who).mem = s.mem := by
  unfold State.logSaturated
  split <;> simp

@[simp] theorem State.addWordFor_mem (s : State) (key inc : Nat) (who : Option (Nat × Nat)) :
    (s.addWordFor key inc who).mem = s.mem := by simp [State.addWordFor]

@[simp] theorem State.addWord_mem (s : State) (key inc : Nat) : (s.addWord key inc).mem = s.mem := by simp [State.addWord]

@[simp] theorem State.postTo_mem (s : State) (k addr inc : Nat) : (s.postTo k addr inc).mem = s.mem := by
  unfold State.postTo
  split <;> simp

@[simp] theorem State.freeLock_mem (s : State) (key : Nat) (abandoned : Bool) : (s.freeLock key abandoned).mem = s.mem :=
  by simp [State.freeLock]

@[simp] theorem State.abandonLocks_mem (s : State) (n : Nat) : (s.abandonLocks n).mem = s.mem :=
  State.foldl_mem (fun t k => State.freeLock_mem t k true) _ s

@[simp] theorem State.zeroPrivate_mem (s : State) (n : Nat) : (s.zeroPrivate n).mem = s.mem :=
  State.foldl_mem (fun t k => State.setWord_mem t k _) _ s

@[simp] theorem State.sharePrivate_mem (s : State) (n : Nat) : (s.sharePrivate n).mem = s.mem :=
  State.foldl_mem (fun t k => State.setWord_mem t k _) _ s

@[simp] theorem State.dropWatches_mem (s : State) (cores : List Nat) : (s.dropWatches cores).mem = s.mem := rfl

@[simp] theorem State.clearWords_mem (s : State) (clusters : List Nat) (config : Bool) :
    (s.clearWords clusters config).mem = s.mem := rfl

@[simp] theorem State.disarm_mem (s : State) (p : Nat → Bool) : (s.disarm p).mem = s.mem := rfl

@[simp] theorem State.clearArms_mem (s : State) (k : Nat) : (s.clearArms k).mem = s.mem := rfl

/-! ### Ports and messages -/

@[simp] theorem State.setPort_mem (s : State) (p : Nat) (x : Port) : (s.setPort p x).mem = s.mem := rfl

@[simp] theorem State.modPort_mem (s : State) (p : Nat) (f : Port → Port) : (s.modPort p f).mem = s.mem := rfl

@[simp] theorem State.sendFlit_mem (s : State) (p kind seq vc : Nat) (payload : List Byte) :
    (s.sendFlit p kind seq vc payload).mem = s.mem := rfl

@[simp] theorem State.sendBare_mem (s : State) (p kind seq : Nat) : (s.sendBare p kind seq).mem = s.mem := rfl

@[simp] theorem State.returnCredits_mem (s : State) (p : Nat) : (s.returnCredits p).mem = s.mem :=
  State.foldl_mem (fun t v => by split <;> simp) _ s

@[simp] theorem State.sendSequenced_mem (s : State) (p : Nat) (f : TxFlit) : (s.sendSequenced p f).mem = s.mem :=
  by simp [State.sendSequenced]

@[simp] theorem State.sendNext_mem (s : State) (p vc : Nat) : (s.sendNext p vc).mem = s.mem := by
  simp only [State.sendNext]
  split <;> simp

@[simp] theorem State.drive_mem (s : State) (p fuel : Nat) : (s.drive p fuel).mem = s.mem := by
  induction fuel generalizing s with
  | zero => rfl
  | succ fuel ih =>
    simp only [State.drive]
    repeat' split
    all_goals simp [ih]

@[simp] theorem State.flushPort_mem (s : State) (p : Nat) : (s.flushPort p).mem = s.mem := State.drive_mem s p _

@[simp] theorem State.sendQueued_mem (s : State) (p fuel : Nat) : (s.sendQueued p fuel).mem = s.mem := by
  induction fuel generalizing s with
  | zero => rfl
  | succ fuel ih =>
    simp only [State.sendQueued]
    repeat' split
    all_goals simp [ih]

@[simp] theorem State.enqueue_mem (s : State) (p vc : Nat) (m : Msg) : (s.enqueue p vc m).mem = s.mem := rfl

@[simp] theorem State.transmit_mem (s : State) (p vc : Nat) (m : Msg) : (s.transmit p vc m).2.mem = s.mem := by
  dsimp only [State.transmit]
  repeat' split
  all_goals simp

@[simp] theorem State.resend_mem (s : State) (p seq : Nat) : (s.resend p seq).mem = s.mem :=
  State.foldl_mem (fun s _ => State.sendFlit_mem s p _ _ _ _) _ s

@[simp] theorem State.linkDrop_mem (s : State) (n peer status : Nat) : (s.linkDrop n peer status).mem = s.mem :=
  by simp [State.linkDrop]

@[simp] theorem State.winDropTx_mem (s : State) (n words : Nat) (args : List Nat) (recorded : Bool) :
    (s.winDropTx n words args recorded).mem = s.mem := by simp [State.winDropTx]

@[simp] theorem State.completeSent_mem (s : State) (e : Sent) (status words : Nat) :
    (s.completeSent e status words).mem = s.mem := by simp [State.completeSent]

@[simp] theorem State.noteRecorded_mem (s : State) (h : MsgHeader) : (s.noteRecorded h).mem = s.mem :=
  by simp [State.noteRecorded]

@[simp] theorem State.takeAck_mem (s : State) (h : MsgHeader) : (s.takeAck h).mem = s.mem := by
  dsimp only [State.takeAck]
  repeat' split
  all_goals simp

@[simp] theorem State.sendAck_mem (s : State) (h : MsgHeader) (status words : Nat) :
    (s.sendAck h status words).mem = s.mem := by
  dsimp only [State.sendAck]
  repeat' split
  all_goals simp

@[simp] theorem State.failMsg_mem (s : State) (m : Msg) : (s.failMsg m).mem = s.mem := by
  dsimp only [State.failMsg]
  repeat' split
  all_goals simp

@[simp] theorem State.forward_mem (s : State) (m : Msg) : (s.forward m).mem = s.mem := by
  dsimp only [State.forward]
  repeat' split
  all_goals simp

/-- A message that is admitted acts; any other is answered, which leaves the stacks alone (R319). -/
theorem State.admitAny_mem (s : State) (h : MsgHeader) (kind : Nat) {f : State → State} (hf : ∀ t, (f t).mem = t.mem) :
    (s.admitAny h kind f).mem = s.mem := by
  unfold State.admitAny
  split
  · simp
  · split <;> simp [hf]

theorem State.admitMsg_mem (s : State) (h : MsgHeader) (kind : Nat) {f : State → State} (hf : ∀ t, (f t).mem = t.mem) :
    (s.admitMsg h kind f).mem = s.mem :=
  State.admitAny_mem s h kind fun t => by split <;> simp [hf]

@[simp] theorem State.takeWrite_mem (s : State) (m : Msg) : (s.takeWrite m).mem = s.mem :=
  State.admitMsg_mem s m.h m.kind fun t => by
    dsimp only
    split
    · rfl
    · simp

@[simp] theorem State.dropPost_mem (s : State) (h : MsgHeader) : (s.dropPost h).mem = s.mem := by simp [State.dropPost]

@[simp] theorem State.takePost_mem (s : State) (h : MsgHeader) : (s.takePost h).mem = s.mem :=
  State.admitMsg_mem s h Kind.post fun t => by
    dsimp only
    repeat' split
    all_goals simp

@[simp] theorem State.sendMsg_mem (s : State) (m : Msg) : (s.sendMsg m).mem = s.mem := by
  dsimp only [State.sendMsg]
  repeat' split
  all_goals simp

@[simp] theorem State.sendPeer_mem (s : State) (core n tag peer kind : Nat) (p : Peer) (daddr : Nat) (aux : Nat)
    (send : Bool) (payload : List Byte) :
    (s.sendPeer core n tag peer kind p daddr aux send payload).mem = s.mem := by simp [State.sendPeer]

/-! ### Poison, pages and counts -/

@[simp] theorem State.reportPoison_mem (s : State) : (s.reportPoison).mem = s.mem := s.reportPoison_reports.mem

@[simp] theorem State.poisonLine_cells (s : State) (line : Nat) : (s.poisonLine line).mem.cells = s.mem.cells := by
  unfold State.poisonLine
  split
  · rfl
  · split
    · rw [State.reportPoison_mem]; rfl
    · rw [State.setReplace_mem, State.log_mem]; rfl

@[simp] theorem State.clearPoison_cells (s : State) (line : Nat) : (s.clearPoison line).mem.cells = s.mem.cells :=
  (s.clearPoison_keepsBytes line).cells

@[simp] theorem State.clearFramePoison_cells (s : State) (stack frame : Nat) :
    (s.clearFramePoison stack frame).mem.cells = s.mem.cells := by
  unfold State.clearFramePoison
  rw [State.reportPoison_mem]
  rfl

@[simp] theorem State.noteRefilled_cells (s : State) (line : Nat) : (s.noteRefilled line).mem.cells = s.mem.cells := by
  unfold State.noteRefilled
  dsimp only
  split
  · rfl
  · split <;> rfl

@[simp] theorem State.setPage_cells (s : State) (n v : Nat) (p : Option Page) :
    (s.setPage n v p).mem.cells = s.mem.cells := rfl

@[simp] theorem State.reportFrames_mem (s : State) : (s.reportFrames).mem = s.mem := by
  simp only [State.reportFrames, State.wmLevel_mem, State.setEnt_mem]
  exact State.foldl_mem (fun s d => State.setEnt_mem s _ _) _ s

@[simp] theorem State.reportResv_mem (s : State) : s.reportResv.mem = s.mem :=
  State.foldl_mem (fun t d => by simp only [State.setEnt_mem]) _ s

@[simp] theorem State.countLines_cells (s : State) (n va len die : Nat) :
    (s.countLines n va len die).mem.cells = s.mem.cells := rfl

/-! ### Resets -/

@[simp] theorem State.sendHop_mem (s : State) (n p kind daddr aux : Nat) (payload : List Byte) :
    (s.sendHop n p kind daddr aux payload).mem = s.mem := by
  simp only [State.sendHop]
  split <;> simp

@[simp] theorem State.sendAbort_mem (s : State) (n : Nat) (t : AbortToken) : (s.sendAbort n t).mem = s.mem := by
  dsimp only [State.sendAbort]
  repeat' split
  all_goals simp

@[simp] theorem State.abortLanes_mem (s : State) (n gen : Nat) (d : CollDesc) (mismatch : Bool) :
    (s.abortLanes n gen d mismatch).mem = s.mem :=
  State.foldl_mem (fun t _ => State.sendAbort_mem t n _) _ s

@[simp] theorem State.advanceTag_mem (s : State) (n : Nat) : (s.advanceTag n).mem = s.mem := by simp [State.advanceTag]

@[simp] theorem State.resetLevel_mem (s : State) (l : Nat) : (s.resetLevel l).mem = s.mem := rfl

@[simp] theorem State.retarget_mem (s : State) (n : Nat) : (s.retarget n).mem = s.mem := by
  unfold State.retarget
  split <;> simp

@[simp] theorem State.dropGrants_mem (s : State) (cores : List Nat) : (s.dropGrants cores).mem = s.mem := rfl

@[simp] theorem State.dropColls_mem (s : State) (n : Nat) : (s.dropColls n).mem = s.mem := by
  have habort : ∀ (l : List Coll) (t : State),
      (l.foldl (fun s x => if x.ended then s else s.abortLanes n x.gen x.desc false) t).mem = t.mem :=
    State.foldl_mem fun t x => by split <;> simp
  unfold State.dropColls
  dsimp only
  split <;> simp [habort]

@[simp] theorem State.stopSeq_mem (s : State) (k : Nat) : (s.stopSeq k).mem = s.mem := rfl

@[simp] theorem State.dropSweep_mem (s : State) (n : Nat) : (s.dropSweep n).mem = s.mem := by simp [State.dropSweep]

@[simp] theorem State.dropTasks_mem (s : State) (n : Nat) : (s.dropTasks n).mem = s.mem := by simp [State.dropTasks]

@[simp] theorem State.dropQueue_mem (s : State) (n : Nat) : (s.dropQueue n).mem = s.mem := rfl

@[simp] theorem State.dropLive_mem (s : State) (n : Nat) : (s.dropLive n).mem = s.mem := rfl

@[simp] theorem State.endSlot_mem (s : State) (n : Nat) : (s.endSlot n).mem = s.mem := by
  dsimp only [State.endSlot]
  repeat' split
  all_goals simp

@[simp] theorem State.ctxResetSteps_mem (s : State) (n cause : Nat) : (s.ctxResetSteps n cause).mem = s.mem := by
  simp only [State.ctxResetSteps, State.endSlot_mem, State.dropLive_mem]
  refine (State.foldl_mem (fun t k => by split <;> simp) _ _).trans ?_
  simp

@[simp] theorem State.ctxReset_mem (s : State) (n cause : Nat) : (s.ctxReset n cause).mem = s.mem := by
  unfold State.ctxReset
  split <;> simp

@[simp] theorem State.coreFault_mem (s : State) (k n code pc : Nat) (args : List Nat) :
    (s.coreFault k n code pc args).mem = s.mem := by simp [State.coreFault]

@[simp] theorem State.unitFault_mem (s : State) (n code va : Nat) : (s.unitFault n code va).mem = s.mem := by
  simp [State.unitFault]

@[simp] theorem State.escEnded_mem (s : State) (p : EscRec → Bool) : (s.escEnded p).mem = s.mem := rfl

@[simp] theorem State.ctxResetDone_mem (s : State) (n : Nat) : (s.ctxResetDone n).mem = s.mem := by
  unfold State.ctxResetDone
  split
  · simp
  · split <;> simp

@[simp] theorem State.partResetSteps_mem (s : State) (k cause : Nat) (config : Bool) :
    (s.partResetSteps k cause config).mem = s.mem := by
  have hctxs : ∀ (l : List Nat) (t : State), (l.foldl (fun s n => s.ctxResetSteps n cause) t).mem = t.mem :=
    State.foldl_mem fun t n => State.ctxResetSteps_mem t n cause
  simp [State.partResetSteps, hctxs]

@[simp] theorem State.partReset_mem (s : State) (k : Nat) : (s.partReset k).mem = s.mem := by
  unfold State.partReset
  split <;> simp

@[simp] theorem State.compReset_cells (s : State) : s.compReset.mem.cells = s.mem.cells := by
  unfold State.compReset
  split
  · rfl
  · simp only [State.alert_mem, State.resetLevel_mem, State.setEnt_mem, State.disarm_mem]
    exact State.foldl_cells (fun t k => by split <;> simp) _ _

@[simp] theorem State.powerCycleReq_cells (s : State) : s.powerCycleReq.mem.cells = s.mem.cells := by
  simp [State.powerCycleReq]

@[simp] theorem State.takeReset_cells (s : State) (level n cause : Nat) :
    (s.takeReset level n cause).mem.cells = s.mem.cells := by
  unfold State.takeReset
  split <;> simp

/-! ### Fencing and spares -/

@[simp] theorem State.judgeDie_mem (s : State) (d : Nat) : (s.judgeDie d).mem = s.mem := by simp [State.judgeDie]

@[simp] theorem State.coreReplaced_mem (s : State) (k : Nat) : (s.coreReplaced k).mem = s.mem := rfl

@[simp] theorem State.loseCore_mem (s : State) (k : Nat) : (s.loseCore k).mem = s.mem := by
  unfold State.loseCore
  split <;> simp

@[simp] theorem State.markFenced_mem (s : State) (c slot : Nat) : (s.markFenced c slot).mem = s.mem :=
  by simp [State.markFenced]

@[simp] theorem State.orphanSends_mem (s : State) (k : Nat) : (s.orphanSends k).mem = s.mem := rfl

@[simp] theorem State.fence_mem (s : State) (k : Nat) : (s.fence k).mem = s.mem := by
  dsimp only [State.fence]
  repeat' split
  all_goals simp

@[simp] theorem State.fenceParity_mem (s : State) (k : Nat) : (s.fenceParity k).mem = s.mem :=
  by simp [State.fenceParity]

@[simp] theorem State.addSpare_mem (s : State) (c slot : Nat) : (s.addSpare c slot).mem = s.mem := by
  have hfenced := State.setEntBit_mem s (Ent.fenced c) slot false
  unfold State.addSpare
  generalize s.setEntBit (Ent.fenced c) slot false = t at hfenced
  generalize (384 : Nat) = lo
  split
  · rfl
  · dsimp only
    split
    · rw [State.judgeDie_mem, State.modCore_mem, State.setEnt_mem, hfenced]
    · split
      · rw [State.judgeDie_mem, State.setEntBits_mem, hfenced]
      · exact hfenced

theorem State.withRel_mem (s : State) (r : Rel) : ({ s with rel := r } : State).mem = s.mem := rfl

@[simp] theorem State.useSpare_mem (s : State) (c : Nat) : (s.useSpare c).mem = s.mem := by
  unfold State.useSpare
  split
  · exact (State.withRel_mem _ _).trans (State.setEntBits_mem s _ _ _ _)
  · exact State.setEntBits_mem s _ _ _ _

/-! ### Engines and windows -/

@[simp] theorem State.noteAccess_mem (t : State) (k : Nat) (u : CoreUnit) (s : State) (words : List Nat) :
    (t.noteAccess k u s words).mem = t.mem :=
  State.foldl_mem (f := fun t w => t.freeNat.2.modCore k fun c => c.putWord w (BitVec.ofNat 32 t.freeNat.1))
    (fun _ _ => rfl) _ t

@[simp] theorem State.misread_mem (s : State) (k : Nat) (words : List (Fin 524288)) : (s.misread k words).mem = s.mem :=
  State.foldl_mem (fun t w => by simp) _ s

@[simp] theorem State.reread_mem (t : State) (k : Nat) (words : List (Fin 524288)) (s wrong : State) :
    (t.reread k words s wrong).mem = t.mem :=
  State.foldl_mem (fun t w => by split <;> rfl) _ t

@[simp] theorem State.illegal_mem (s : State) (k n pc : Nat) (word : Word64) :
    (s.illegal k n pc word).mem = s.mem := by simp [State.illegal]

@[simp] theorem State.fillCache_mem (s : State) (k line : Nat) : (s.fillCache k line).mem = s.mem :=
  by simp [State.fillCache]

@[simp] theorem State.requestGrant_mem (s : State) (k : Nat) : (s.requestGrant k).mem = s.mem := by simp
    [State.requestGrant]

@[simp] theorem State.settleGrant_mem (s : State) (k : Nat) : (s.settleGrant k).mem = s.mem := by simp [State.settleGrant]

@[simp] theorem State.bytesStored_mem (s : State) (k n va : Nat) (l : List Byte) :
    (s.bytesStored k n va l).2.mem = s.mem := by
  unfold State.bytesStored
  split <;> simp

@[simp] theorem State.winDropRx_mem (s : State) (n words : Nat) (args : List Nat) :
    (s.winDropRx n words args).2.mem = s.mem := by
  unfold State.winDropRx
  split <;> simp

@[simp] theorem State.sendWords_mem (s : State) (k n tag j : Nat) (p : Peer) (dest : Nat) (voile : Bool) (b : List Byte) :
    (s.sendWords k n tag j p dest voile b).mem = s.mem := by
  unfold State.sendWords
  split
  · simp
  · exact State.foldl_mem (fun t m => State.sendPeer_mem t _ _ _ _ _ _ _ _ _ _) _ s

@[simp] theorem State.dropSend_mem (s : State) (k n tag words dest : Nat) : (s.dropSend k n tag words dest).mem = s.mem :=
  by simp [State.dropSend]

@[simp] theorem State.sendTo_mem (s : State) (k n dest peer : Nat) (voile : Bool) (data : List Word32) :
    (s.sendTo k n dest peer voile data).mem = s.mem := by
  dsimp only [State.sendTo]
  repeat' split
  all_goals simp

@[simp] theorem State.wordPasses_mem (s : State) (t : SMap Window) (p : Packet) (w : Nat) :
    (s.wordPasses t p w).2.mem = s.mem := by
  unfold State.wordPasses
  split <;> simp

@[simp] theorem State.wordStored_mem (s : State) (raced : Bool) (v : Word32) : (s.wordStored raced v).2.mem = s.mem := by
  unfold State.wordStored
  split <;> simp

@[simp] theorem State.ackPacket_mem (s : State) (p : Packet) (dst dropped : Nat) (recorded : Bool) :
    (s.ackPacket p dst dropped recorded).mem = s.mem := by
  unfold State.ackPacket
  split <;> simp

@[simp] theorem State.settlePacket_mem (s : State) (k : Nat) (p : Packet) (owner : Nat) (dropped : List Nat) :
    (s.settlePacket k p owner dropped).mem = s.mem := by simp [State.settlePacket]

@[simp] theorem State.unwatch_mem (s : State) (k : Nat) (u : CoreUnit) : (s.unwatch k u).mem = s.mem := rfl

@[simp] theorem State.watch_mem (s : State) (k : Nat) (u : CoreUnit) (key target : Nat) (isLock : Bool) :
    (s.watch k u key target isLock).mem = s.mem := by simp [State.watch]

@[simp] theorem State.acquire_mem (s : State) (key k n : Nat) (d : BitVec 5) : (s.acquire key k n d).mem = s.mem := rfl

@[simp] theorem State.release_mem (s : State) (k : Nat) (e : PostEntry) : (s.release k e).mem = s.mem := by
  dsimp only [State.release]
  repeat' split
  all_goals simp

@[simp] theorem State.beginCommit_mem (s : State) (k : Nat) (h : SeqHold) : (s.beginCommit k h).mem = s.mem := rfl

@[simp] theorem State.commitLocks_mem (s : State) (k n : Nat) : (s.commitLocks k n).mem = s.mem := rfl

@[simp] theorem State.commitSegment_mem (s : State) (k : Nat) (r : RunTask) (next : Nat) (bar : Option BarRef) :
    (s.commitSegment k r next bar).mem = s.mem := by simp [State.commitSegment]

/-! ### Live entries and the governor -/

@[simp] theorem State.loadPeers_mem (s : State) (n : Nat) : (s.loadPeers n).mem = s.mem := by
  unfold State.loadPeers
  split
  · simp
  · split <;> simp

@[simp] theorem State.applyLive1_mem (s : State) (k v : Nat) : (s.applyLive1 k v).mem = s.mem := by
  unfold State.applyLive1
  dsimp only
  repeat' split
  all_goals simp

@[simp] theorem State.applyLive_mem (s : State) (n : Nat) : (s.applyLive n).mem = s.mem := by
  have hdue : ∀ (l : List (Nat × Nat)) (t : State), (l.foldl (fun s d => s.applyLive1 d.1 d.2) t).mem = t.mem :=
    State.foldl_mem fun t d => State.applyLive1_mem t d.1 d.2
  unfold State.applyLive
  dsimp only
  split <;> simp [hdue]

@[simp] theorem State.modGov_mem (s : State) (k : Nat) (f : Gov → Gov) : (s.modGov k f).mem = s.mem := rfl

@[simp] theorem State.reportGov_mem (s : State) (k : Nat) : (s.reportGov k).mem = s.mem := rfl

@[simp] theorem State.relearn_mem (s : State) (k : Nat) : (s.relearn k).mem = s.mem := rfl

@[simp] theorem State.relearnAll_mem (s : State) : s.relearnAll.mem = s.mem :=
  State.foldl_mem (fun t k => by simp) _ s

@[simp] theorem State.lowerPart_mem (s : State) (k : Nat) : (s.lowerPart k).mem = s.mem := by simp [State.lowerPart]

@[simp] theorem State.lowerRest_mem (s : State) : s.lowerRest.mem = s.mem := by simp [State.lowerRest]

@[simp] theorem State.reportLimiting_mem (s : State) : s.reportLimiting.mem = s.mem := by simp [State.reportLimiting]

@[simp] theorem State.settleFall_mem (s : State) (draw : Nat) : (s.settleFall draw).mem = s.mem := rfl

@[simp] theorem State.limit_mem (s : State) (r : PowerReading) : (s.limit r).mem = s.mem := by
  have hlower : ∀ (l : List Nat) (t : State), (l.foldl State.lowerPart t).mem = t.mem :=
    State.foldl_mem fun t k => State.lowerPart_mem t k
  unfold State.limit
  split
  · rfl
  · split
    · split <;> simp
    · simp [hlower]

@[simp] theorem State.setPlan_mem (s : State) (k plan : Nat) : (s.setPlan k plan).mem = s.mem := rfl

@[simp] theorem State.governAt_mem (s : State) (n : Nat) : (s.governAt n).mem = s.mem := by simp [State.governAt]

@[simp] theorem State.idleGoverned_mem (s : State) (n : Nat) : (s.idleGoverned n).mem = s.mem := by simp
    [State.idleGoverned]

/-! ### Core slots and their tests -/

@[simp] theorem State.setSlotOf_mem (s : State) (k c slot : Nat) : (s.setSlotOf k c slot).mem = s.mem := rfl

@[simp] theorem State.exchange_mem (s : State) (k : Nat) : (s.exchange k).mem = s.mem := by
  unfold State.exchange
  dsimp only
  split <;> simp

@[simp] theorem State.endSeqTask_mem (s : State) (k : Nat) : (s.endSeqTask k).mem = s.mem := by simp [State.endSeqTask]

@[simp] theorem State.endInst_mem (s : State) (n inst : Nat) : (s.endInst n inst).mem = s.mem := by
  dsimp only [State.endInst]
  repeat' split
  all_goals simp

@[simp] theorem State.barrierWait_mem (s : State) (k : Nat) (b : BarRef) : (s.barrierWait k b).mem = s.mem :=
  by simp [State.barrierWait]

@[simp] theorem State.escalate_cells (s : State) (source scope n cause : Nat) (core : Option Nat) :
    (s.escalate source scope n cause core).mem.cells = s.mem.cells := by
  simp only [State.escalate]
  split <;> simp

@[simp] theorem State.setNextOrd_mem (s : State) (d o : Nat) : (s.setNextOrd d o).mem = s.mem := rfl

@[simp] theorem State.slotTestStatus_mem (s : State) (state fails : Nat) : (s.slotTestStatus state fails).mem = s.mem :=
  by simp [State.slotTestStatus]

@[simp] theorem State.stopVisit_mem (s : State) (d : Nat) : (s.stopVisit d).mem = s.mem := by
  unfold State.stopVisit
  split
  · simp
  · split <;> simp

@[simp] theorem State.noteThrottled_mem (s : State) (k : Nat) : (s.noteThrottled k).mem = s.mem :=
  by simp [State.noteThrottled]

@[simp] theorem State.beginVisit_mem (s : State) (c slot : Nat) (kind : VisitKind) :
    (s.beginVisit c slot kind).mem = s.mem := by
  unfold State.beginVisit
  split <;> simp

@[simp] theorem State.calicoLast_mem (s : State) (c slot cond result kernel : Nat) :
    (s.calicoLast c slot cond result kernel).mem = s.mem := rfl

@[simp] theorem State.calicoFail_mem (s : State) (c slot cond kernel : Nat) :
    (s.calicoFail c slot cond kernel).mem = s.mem := by simp [State.calicoFail]

@[simp] theorem State.dropSpare_mem (s : State) (c slot : Nat) : (s.dropSpare c slot).mem = s.mem := by
  unfold State.dropSpare
  split <;> simp

@[simp] theorem State.fenceSpare_mem (s : State) (c slot : Nat) : (s.fenceSpare c slot).mem = s.mem :=
  by simp [State.fenceSpare]

@[simp] theorem State.fenceTested_mem (s : State) (c slot : Nat) : (s.fenceTested c slot).mem = s.mem :=
  by simp [State.fenceTested]

@[simp] theorem State.addBadCols_mem (s : State) (c slot : Nat) (bad : List (Fin 66)) :
    (s.addBadCols c slot bad).mem = s.mem := rfl

@[simp] theorem State.standBy_mem (s : State) (c slot : Nat) : (s.standBy c slot).mem = s.mem := by
  unfold State.standBy
  split <;> simp

@[simp] theorem State.endVisit_mem (s : State) (v : Visit) (fails : Nat) : (s.endVisit v fails).mem = s.mem := by
  unfold State.endVisit
  split <;> simp

@[simp] theorem State.nextCond_mem (s : State) (v : Visit) : (s.nextCond v).mem = s.mem := by
  unfold State.nextCond
  split <;> simp

@[simp] theorem State.visitFails_mem (s : State) (v : Visit) : (s.visitFails v).mem = s.mem := by
  simp [State.visitFails]

@[simp] theorem State.testedFaults_mem (s : State) (v : Visit) : (s.testedFaults v).mem = s.mem := by
  rw [State.testedFaults, State.visitFails_mem, State.calicoFail_mem, State.calicoLast_mem]

@[simp] theorem State.returnStatus_mem (s : State) (state kind unit : Nat) :
    (s.returnStatus state kind unit).mem = s.mem := rfl

@[simp] theorem State.returnEnds_mem (s : State) (kind unit : Nat) (back : Bool) :
    (s.returnEnds kind unit back).mem = s.mem := by simp [State.returnEnds]

@[simp] theorem State.dieGone_mem (s : State) (d : Nat) : (s.dieGone d).mem = s.mem := by
  unfold State.dieGone
  split
  · rfl
  · refine (State.foldl_mem (fun t k => by split <;> simp) _ _).trans ?_
    simp

@[simp] theorem State.loseDie_mem (s : State) (d : Nat) : (s.loseDie d).mem = s.mem := by
  unfold State.loseDie
  split <;> simp

@[simp] theorem State.judgeEdge_mem (s : State) (e : Nat) : (s.judgeEdge e).mem = s.mem := by
  unfold State.judgeEdge
  split
  · rfl
  · refine (State.foldl_mem (fun t d => State.loseDie_mem t d) _ _).trans ?_
    simp

/-! ### Frames and rows -/

theorem State.pickFrame_mem (s : State) (l : List Nat) {r} (h : s.pickFrame l = some r) : r.2.mem = s.mem := by
  grind [State.pickFrame]

theorem State.placeStack_cells (s : State) (stack : Nat) {r} (h : s.placeStack stack = some r) :
    r.2.2.mem.cells = s.mem.cells := by
  simp only [State.placeStack] at h
  split at h
  · cases h
  · obtain ⟨x, hx, rfl⟩ := Option.map_eq_some_iff.1 h
    simp [State.modMem, State.pickFrame_mem s _ hx]

theorem State.placeOn_cells (s : State) (l : List Nat) {r} (h : s.placeOn l = some r) : r.2.2.mem.cells = s.mem.cells :=
    by
  induction l with
  | nil => cases h
  | cons stack l ih =>
    simp only [State.placeOn] at h
    split at h
    · next hp => cases h; exact State.placeStack_cells s stack hp
    · exact ih h

theorem State.placePage_cells (s : State) (d i : Nat) {r} (h : s.placePage d i = some r) : r.2.2.mem.cells = s.mem.cells
    :=
  State.placeOn_cells s _ h

theorem State.placeSpare_mem (s : State) (d : Nat) {r} (h : (s.placeSpare d) = some r) : r.2.2.mem = s.mem := by
  grind [State.placeSpare]

@[simp] theorem State.shrinkResv_mem (s : State) (d old new : Nat) : (s.shrinkResv d old new).mem = s.mem := by
  simp only [State.shrinkResv, State.reportResv_mem, State.bump_mem, State.log_mem]
  exact State.foldl_mem (fun t n => State.setEntBits_mem t _ _ _ _) _ s

@[simp] theorem State.leaveGroup_cells (s : State) (stack g : Nat) : (s.leaveGroup stack g).mem.cells = s.mem.cells := by
  unfold State.leaveGroup
  split
  · rfl
  · simp [State.modMem]

@[simp] theorem State.planMove_cells (s : State) (p : Page) : (s.planMove p).mem.cells = s.mem.cells := by
  unfold State.planMove
  dsimp only
  split
  · next hr => exact State.placeOn_cells s _ hr
  · split
    · next hr => simpa [State.modMem] using congrArg Mem.cells (State.placeSpare_mem s _ hr)
    · rfl

@[simp] theorem State.retireGroup_cells (s : State) (stack g : Nat) : (s.retireGroup stack g).mem.cells = s.mem.cells :=
    by
  unfold State.retireGroup
  split
  · rfl
  · rw [State.leaveGroup_cells]
    exact State.foldl_cells (fun t p => State.planMove_cells t p) _ _

@[simp] theorem State.retireRow_cells (s : State) (row : Nat) : (s.retireRow row).mem.cells = s.mem.cells := by
  unfold State.retireRow
  split
  · rfl
  · dsimp only
    split
    · simp
    · rw [State.log_mem, State.bump_mem]; rfl

@[simp] theorem State.eraseWire_cells (s : State) (stack ch w : Nat) : (s.eraseWire stack ch w).mem.cells = s.mem.cells
    := by
  unfold State.eraseWire
  split
  · simp
  · rw [State.log_mem, State.bump_mem]; rfl

@[simp] theorem State.countCorrected_cells (s : State) (stack frame x : Nat) (found : List Nat) :
    (s.countCorrected stack frame x found).mem.cells = s.mem.cells := by
  have hwire : ∀ (l : List Nat) (t : State), (l.foldl (fun s w =>
      let r := s.wire (wireKey stack (lineChannel frame x) w)
      if !r.erased && (Nat.ble 16 r.run || Nat.ble 256 (r.hits.filter fun h => s.counts h.2).length) then
        s.eraseWire stack (lineChannel frame x) w
      else s) t).mem.cells = t.mem.cells :=
    State.foldl_cells fun t w => by dsimp only; split <;> simp
  unfold State.countCorrected
  dsimp only
  split
  · rw [State.retireRow_cells, hwire, State.wmLevel_mem, State.wmLevel_mem]
    rfl
  · rw [hwire, State.wmLevel_mem, State.wmLevel_mem]
    rfl

@[simp] theorem State.countUncorrectable_cells (s : State) (stack frame x : Nat) :
    (s.countUncorrectable stack frame x).mem.cells = s.mem.cells := by
  unfold State.countUncorrectable
  dsimp only
  split
  · rw [State.retireGroup_cells]; rfl
  · rfl

/-! ### Memory commands -/

@[simp] theorem State.writeCompletion_mem (s : State) (f : Nat) (data : List Byte) :
    (s.writeCompletion f data).mem = s.mem := by simp [State.writeCompletion]

@[simp] theorem State.completeCmd_mem (s : State) (f : Nat) (c : MemCmd) (status pages dies : Nat) :
    (s.completeCmd f c status pages dies).mem = s.mem := by simp [State.completeCmd]

@[simp] theorem State.refuseReserved_mem (s : State) (f fuel : Nat) : (s.refuseReserved f fuel).mem = s.mem := by
  induction fuel generalizing s with
  | zero => rfl
  | succ fuel ih =>
    simp only [State.refuseReserved]
    repeat' split
    all_goals simp [ih]

@[simp] theorem State.freePage_cells (s : State) (n v : Nat) : (s.freePage n v).mem.cells = s.mem.cells := by
  unfold State.freePage
  split
  · rfl
  · rw [State.leaveGroup_cells, State.clearFramePoison_cells]; rfl

@[simp] theorem State.reportScrub_mem (s : State) : s.reportScrub.mem = s.mem := rfl

theorem State.scrubNext_cells (s : State) (stack : Nat) {r} (h : s.scrubNext stack = some r) :
    r.2.mem.cells = s.mem.cells := by
  unfold State.scrubNext at h
  split at h
  · cases h; rfl
  · obtain ⟨p, -, rfl⟩ := Option.map_eq_some_iff.1 h
    simp [State.modMem]

@[simp] theorem State.rescanFrame_cells (s : State) (stack frame x : Nat) :
    (s.rescanFrame stack frame x).mem.cells = s.mem.cells := by
  unfold State.rescanFrame
  split
  · rfl
  · rw [State.reportScrub_mem]; rfl

@[simp] theorem State.localPage_cells (s : State) (key : Nat) (p : Page) : (s.localPage key p).mem.cells = s.mem.cells
    := by
  unfold State.localPage
  dsimp only
  split
  · rfl
  · split
    · next hr => simpa [State.modMem] using State.placeOn_cells s _ hr
    · rfl

@[simp] theorem State.countUpe_cells (s : State) (n : Nat) (f : Nat → Nat) (l : List (Nat × Nat)) :
    (s.countUpe n f l).mem.cells = s.mem.cells :=
  State.foldl_cells (fun t _ => State.countLines_cells t _ _ _ _) _ s

/-! ### Exports and updates -/

theorem State.ringPut_mem (s : State) (n : Nat) (r : List Byte) {t} (h : s.ringPut n r = some t) : t.mem = s.mem := by
  unfold State.ringPut at h
  dsimp only at h
  split at h
  · cases h
  · rw [Option.ite_none_left_eq_some, Option.some.injEq] at h
    rw [← h.2, State.setEnt_mem, State.emit_mem, State.ite_mem, State.emit_mem, ite_self]

@[simp] theorem State.modExp_mem (s : State) (n : Nat) (f : Export → Export) : (s.modExp n f).mem = s.mem := rfl

@[simp] theorem State.flushGap_mem (s : State) (n : Nat) : (s.flushGap n).mem = s.mem := by
  unfold State.flushGap
  dsimp only
  split
  · split
    · next hr => simpa using State.ringPut_mem s n _ hr
    · rfl
  · rfl

@[simp] theorem State.drainSpill_mem (s : State) (n fuel : Nat) : (s.drainSpill n fuel).mem = s.mem := by
  induction fuel generalizing s with
  | zero => simp [State.drainSpill]
  | succ fuel ih =>
    simp only [State.drainSpill]
    split
    · simp
    · split
      · split
        · next hr => simpa [ih] using State.ringPut_mem _ n _ hr
        · rfl
      · split <;> simp [ih]

@[simp] theorem State.shardOf_mem (s : State) (n : Nat) (t : UpdTable) : (s.shardOf n t).mem = s.mem := by
  unfold State.shardOf
  split <;> simp

@[simp] theorem State.formShard_mem (s : State) (n : Nat) : (s.formShard n).mem = s.mem := by
  unfold State.formShard
  split
  · simp
  · split <;> simp

@[simp] theorem State.modUpd_mem (s : State) (n : Nat) (f : Upd → Upd) : (s.modUpd n f).mem = s.mem := rfl

@[simp] theorem State.modVote_mem (s : State) (n : Nat) (f : Vote → Vote) : (s.modVote n f).mem = s.mem := rfl

@[simp] theorem State.startStep_mem (s : State) (n : Nat) : (s.startStep n).mem = s.mem := by
  unfold State.startStep
  split
  · rfl
  · split <;> simp

@[simp] theorem State.nextStep_mem (s : State) (n fuel : Nat) : (s.nextStep n fuel).mem = s.mem := by
  induction fuel generalizing s with
  | zero => rfl
  | succ fuel ih =>
    simp only [State.nextStep]
    repeat' split
    all_goals simp [ih]

@[simp] theorem State.decideStep_mem (s : State) (n sum : Nat) (nonfin : Bool) :
    (s.decideStep n sum nonfin).mem = s.mem := by simp [State.decideStep]

@[simp] theorem State.tryDecide_mem (s : State) (n : Nat) : (s.tryDecide n).mem = s.mem := by simp [State.tryDecide]

@[simp] theorem State.takeNorm_mem (s : State) (h : MsgHeader) (step sum : Nat) (nonfin : Bool) :
    (s.takeNorm h step sum nonfin).mem = s.mem :=
  State.admitMsg_mem s h Kind.norm fun t => by
    split
    · rfl
    · split <;> simp

@[simp] theorem State.sendNorm_mem (s : State) (n : Nat) : (s.sendNorm n).mem = s.mem :=
  State.foldl_mem (fun t j => by
    split
    · dsimp only
      split <;> simp
    · rfl) _ s

@[simp] theorem State.failUpe_mem (s : State) (u : Nat) : (s.failUpe u).mem = s.mem := by
  simp only [State.failUpe, State.setReplace_mem]
  refine (State.foldl_mem (fun t n => State.setEntBit_mem t _ _ _) _ _).trans ?_
  simp

@[simp] theorem State.nextSlotDue_mem (s : State) (n : Nat) : (s.nextSlotDue n).mem = s.mem := by
  unfold State.nextSlotDue
  split <;> simp

@[simp] theorem State.markBoundary_mem (s : State) (n : Nat) : (s.markBoundary n).mem = s.mem := by simp
    [State.markBoundary]

@[simp] theorem State.finishStep_mem (s : State) (n t : Nat) : (s.finishStep n t).mem = s.mem := by
  simp [State.finishStep]

@[simp] theorem State.tryVote_mem (s : State) (n : Nat) (timeout : Bool) : (s.tryVote n timeout).mem = s.mem := by
  have hlog : ∀ (l : List Nat) (t : State), (l.foldl (fun s p => s.logCtx Code.damaskPeerOdd n [p]) t).mem = t.mem :=
    State.foldl_mem fun t p => State.logCtx_mem t _ _ _
  unfold State.tryVote
  dsimp only
  split
  · rfl
  · split
    · rfl
    · split <;> simp [hlog]

@[simp] theorem State.takeDigest_mem (s : State) (h : MsgHeader) (step digest : Nat) :
    (s.takeDigest h step digest).mem = s.mem :=
  State.admitMsg_mem s h Kind.norm fun t => by
    split
    · rfl
    · split <;> simp

@[simp] theorem State.openVote_mem (s : State) (n t digest : Nat) : (s.openVote n t digest).mem = s.mem := by
  simp only [State.openVote, State.tryVote_mem, State.modVote_mem]
  refine State.foldl_mem (fun u j => ?_) _ s
  split
  · split <;> simp
  · rfl

@[simp] theorem State.startShard_mem (s : State) (n : Nat) : (s.startShard n).mem = s.mem := rfl

/-! ### Tasks and contexts -/

@[simp] theorem State.enterTask_mem (s : State) (t : TaskReq) (keys : List Nat) (seq : Option Nat) :
    (s.enterTask t keys seq).mem = s.mem := by simp [State.enterTask]

@[simp] theorem State.markStarted_mem (s : State) (t : TaskDesc) : (s.markStarted t).mem = s.mem := rfl

@[simp] theorem State.badGroup_mem (s : State) (n taskid : Nat) : (s.badGroup n taskid).mem = s.mem :=
  by simp [State.badGroup]

@[simp] theorem State.issueRead_mem (s : State) (n fuel : Nat) : (s.issueRead n fuel).mem = s.mem := by
  induction fuel generalizing s with
  | zero => rfl
  | succ fuel ih =>
    simp only [State.issueRead]
    repeat' split
    · rfl
    · rfl
    · exact State.badGroup_mem s _ _
    · rw [ih, State.enterTask_mem, State.modCtx_mem]
    · rfl

@[simp] theorem State.issueTasks_mem (s : State) (n : Nat) : (s.issueTasks n).mem = s.mem := State.issueRead_mem s n _

@[simp] theorem State.issueFor_mem (s : State) (cluster : Nat) : (s.issueFor cluster).mem = s.mem :=
  State.foldl_mem (fun t n => by split <;> simp) _ s

@[simp] theorem State.seqIssue_mem (s : State) (k : Nat) : (s.seqIssue k).mem = s.mem := by
  unfold State.seqIssue
  dsimp only
  repeat' split
  · rfl
  · rfl
  · exact State.badGroup_mem s _ _
  · rw [State.modPart_mem, State.enterTask_mem]
  · rfl

@[simp] theorem State.slotFreed_mem (s : State) (cluster : Nat) : (s.slotFreed cluster).mem = s.mem := by
  rw [State.slotFreed, State.issueFor_mem]
  split
  · exact State.seqIssue_mem s _
  · rfl

@[simp] theorem State.restoreCore_mem (s : State) (n e k : Nat) : (s.restoreCore n e k).mem = s.mem := by
  unfold State.restoreCore
  split <;> simp

@[simp] theorem State.setPartClusters_mem (s : State) (k mask : Nat) : (s.setPartClusters k mask).mem = s.mem := by
  unfold State.setPartClusters
  dsimp only
  split
  · simp
  · split <;> simp

@[simp] theorem State.freshCores_mem (s : State) (keys : List Nat) : (s.freshCores keys).mem = s.mem :=
  by simp [State.freshCores]

@[simp] theorem State.ctxDefaults_mem (s : State) (n : Nat) : (s.ctxDefaults n).mem = s.mem := rfl

@[simp] theorem State.pageDefaults_mem (s : State) (n : Nat) : (s.pageDefaults n).mem = s.mem := rfl

@[simp] theorem State.ctxCreate_mem (s : State) (n value : Nat) : (s.ctxCreate n value).mem = s.mem :=
  by simp [State.ctxCreate]

@[simp] theorem State.freeAll_cells (s : State) (n : Nat) : (s.freeAll n).mem.cells = s.mem.cells := by
  simp only [State.freeAll, State.reportFrames_mem, State.modMem]
  exact State.foldl_cells (fun t v => State.freePage_cells t n v) _ s

@[simp] theorem State.setCtxClusters_mem (s : State) (n mask : Nat) : (s.setCtxClusters n mask).mem = s.mem :=
  by simp [State.setCtxClusters]

@[simp] theorem State.setSeqCtl_mem (s : State) (k value : Nat) : (s.setSeqCtl k value).mem = s.mem :=
  by simp [State.setSeqCtl]

@[simp] theorem State.slotOver_mem (s : State) (n : Nat) : (s.slotOver n).mem = s.mem := by
  simp [State.slotOver]

/-! ### Collectives -/

@[simp] theorem State.modColl_mem (s : State) (n gen : Nat) (f : Coll → Coll) : (s.modColl n gen f).mem = s.mem := rfl

@[simp] theorem State.freeBuffers_mem (s : State) (c : Coll) : (s.freeBuffers c).mem = s.mem := rfl

@[simp] theorem State.endColl_mem (s : State) (n gen status : Nat) : (s.endColl n gen status).mem = s.mem := by
  unfold State.endColl
  split <;> simp

@[simp] theorem State.abortColl_mem (s : State) (n gen status : Nat) : (s.abortColl n gen status).mem = s.mem := by
  dsimp only [State.abortColl]
  repeat' split
  all_goals simp

@[simp] theorem State.confirmColl_mem (s : State) (n gen : Nat) : (s.confirmColl n gen).mem = s.mem := rfl

@[simp] theorem State.abortOnPort_mem (s : State) (port : Nat) : (s.abortOnPort port).mem = s.mem :=
  State.foldl_mem (fun t n => State.foldl_mem (fun u c => by split <;> simp) _ t) _ s

@[simp] theorem State.sendToken_mem (s : State) (n : Nat) (d : CollDesc) (t : OpenToken) :
    (s.sendToken n d t).mem = s.mem := by
  dsimp only [State.sendToken]
  repeat' split
  all_goals simp

@[simp] theorem State.meetToken_mem (s : State) (n port : Nat) (t : OpenToken) : (s.meetToken n port t).mem = s.mem := by
  unfold State.meetToken
  split
  · rfl
  · dsimp only
    repeat' split
    all_goals simp

@[simp] theorem State.meetHeld_mem (s : State) (n gen : Nat) : (s.meetHeld n gen).mem = s.mem :=
  State.foldl_mem (fun t (p : Fin 6 × OpenToken) => State.meetToken_mem t n p.1.val p.2) _ _

theorem State.admitColl_mem (s : State) (h : MsgHeader) (kind : Nat) {f : Nat → State → State}
    (hf : ∀ n t, (f n t).mem = t.mem) : (s.admitColl h kind f).mem = s.mem :=
  State.admitMsg_mem s h.clean kind fun t => hf _ t

@[simp] theorem State.takeOpen_mem (s : State) (port : Fin 6) (h : MsgHeader) (t : OpenToken) :
    (s.takeOpen port h t).mem = s.mem :=
  State.admitColl_mem s h Kind.token fun n u => by
    split
    · simp
    · split <;> rfl

@[simp] theorem State.takeAbort_mem (s : State) (h : MsgHeader) (t : AbortToken) : (s.takeAbort h t).mem = s.mem :=
  State.admitColl_mem s h Kind.token fun n u => by
    dsimp only
    repeat' split
    all_goals simp

@[simp] theorem State.collSend_mem (s : State) (n : Nat) (c : Coll) (lane : Nat) (up : Bool) (ph : CollPhase) (first :
    Nat)
    (fl : FFlags) (v : List Nat) : (s.collSend n c lane up ph first fl v).mem = s.mem := by
  unfold State.collSend
  dsimp only
  split
  · exact State.foldl_mem (fun t i => State.sendHop_mem t _ _ _ _ _ _) _ s
  · rfl

/-- A block that cannot be read resets its context; one that can is handed on (R333). -/
theorem State.withContribs_mem (s : State) (n : Nat) (c : Coll) (dies : List Nat) (base first len : Nat)
    {f : List (List Word32) → State} (hf : ∀ xs, (f xs).mem = s.mem) :
    (s.withContribs n c dies base first len f).mem = s.mem := by
  unfold State.withContribs
  split
  · rfl
  · split
    · exact State.unitFault_mem s _ _ _
    · exact hf _

@[simp] theorem State.collOnward_mem (s : State) (n : Nat) (c : Coll) (lane : Nat) (up : Bool) (ph : CollPhase) (first :
    Nat)
    (fl : FFlags) (dies : List Nat) (v : List (Option Nat)) :
    (s.collOnward n c lane up ph first fl dies v).mem = s.mem :=
  State.withContribs_mem s n c dies 0 first v.length fun _ => State.collSend_mem s _ _ _ _ _ _ _ _

@[simp] theorem State.collSums_mem (s : State) (n : Nat) (c : Coll) (lane : Nat) (x : Seat) (first : Nat) (codes : List
    Nat) :
    (s.collSums n c lane x first codes).mem = s.mem :=
  State.foldl_mem (fun t _ => State.collOnward_mem t _ _ _ _ _ _ _ _ _) _ s

@[simp] theorem State.collSpread_mem (s : State) (n : Nat) (c : Coll) (lane : Nat) (x : Seat) (ph : CollPhase) (first :
    Nat)
    (fl : FFlags) (v : List Nat) : (s.collSpread n c lane x ph first fl v).mem = s.mem :=
  State.foldl_mem (fun t _ => State.collSend_mem t _ _ _ _ _ _ _ _) _ s

@[simp] theorem State.lastStep_mem (s : State) (n gen : Nat) : (s.lastStep n gen).mem = s.mem := by
  unfold State.lastStep
  split <;> simp

@[simp] theorem State.openColl_mem (s : State) (n gen : Nat) (d : CollDesc) : (s.openColl n gen d).mem = s.mem := by
  have hlap : ∀ (l : List Nat) (t : State), (l.foldl (fun s l => s.sendToken n d (s.ownToken n gen d l)) t).mem = t.mem :=
    State.foldl_mem fun t l => State.sendToken_mem t n d _
  unfold State.openColl
  dsimp only
  repeat' split
  all_goals simp [hlap]

/-! ### Links and time -/

@[simp] theorem State.reportCoord_mem (s : State) (p : Nat) : (s.reportCoord p).mem = s.mem := by simp [State.reportCoord]

@[simp] theorem State.replayFrom_mem (s : State) (p seq : Nat) : (s.replayFrom p seq).mem = s.mem := by
  dsimp only [State.replayFrom]
  repeat' split
  all_goals simp

@[simp] theorem State.setRingStatus_mem (s : State) (k r v : Nat) : (s.setRingStatus k r v).mem = s.mem := rfl

@[simp] theorem State.endCheck_mem (s : State) (k r v : Nat) : (s.endCheck k r v).mem = s.mem := rfl

@[simp] theorem State.sendRingToken_mem (s : State) (k r : Nat) : (s.sendRingToken k r).mem = s.mem :=
  by simp [State.sendRingToken]

@[simp] theorem State.startCheck_mem (s : State) (k r : Nat) : (s.startCheck k r).mem = s.mem := by
  unfold State.startCheck
  split
  · simp
  · split <;> simp

@[simp] theorem State.takeRingToken_mem (s : State) (k r inPort position : Nat) :
    (s.takeRingToken k r inPort position).mem = s.mem := by
  dsimp only [State.takeRingToken]
  repeat' split
  all_goals simp

@[simp] theorem State.sendTime_mem (s : State) (p : Nat) (t : TimeMsg) : (s.sendTime p t).mem = s.mem :=
  by simp [State.sendTime]

@[simp] theorem State.stepTime_mem (s : State) (up : Nat) : (s.stepTime up).mem = s.mem := by simp [State.stepTime]

@[simp] theorem State.steerTime_mem (s : State) : s.steerTime.mem = s.mem := rfl

@[simp] theorem State.takeTime_mem (s : State) (p : Nat) (t : TimeMsg) : (s.takeTime p t).mem = s.mem := by
  unfold State.takeTime
  split <;> simp

@[simp] theorem State.takeToken_mem (s : State) (p : Fin 6) (m : Msg) : (s.takeToken p m).mem = s.mem := by
  unfold State.takeToken
  dsimp only
  repeat' split
  all_goals simp

@[simp] theorem State.flitReturns_mem (s : State) (p ack cvc credits : Nat) :
    (s.flitReturns p ack cvc credits).mem = s.mem := by simp [State.flitReturns]

@[simp] theorem State.askReplay_mem (s : State) (p : Nat) : (s.askReplay p).mem = s.mem := by simp [State.askReplay]

/-! ### Start-up and power -/

@[simp] theorem State.applyTrim_mem (s : State) (eff fact delta : Nat) : (s.applyTrim eff fact delta).mem = s.mem := by
  rw [State.applyTrim, State.setEnt_mem]

@[simp] theorem State.applyTxeq_mem (s : State) (p : Nat) : (s.applyTxeq p).mem = s.mem := by
  rw [State.applyTxeq, State.setEnt_mem]

@[simp] theorem State.applyTrims_mem (s : State) : s.applyTrims.mem = s.mem := by
  have htrim : ∀ (eff fact delta : Nat → Nat) (l : List Nat) (t : State),
      (l.foldl (fun s i => s.applyTrim (eff i) (fact i) (delta i)) t).mem = t.mem := fun _ _ _ =>
    State.foldl_mem fun t i => State.applyTrim_mem t _ _ _
  have htxeq : ∀ (l : List Nat) (t : State), (l.foldl State.applyTxeq t).mem = t.mem :=
    State.foldl_mem fun t p => State.applyTxeq_mem t p
  simp only [State.applyTrims, htxeq, htrim]

@[simp] theorem State.applyRoles_mem (s : State) : (s.applyRoles).mem = s.mem :=
  State.foldl_mem (fun t k => by
    split
    · rfl
    · split <;> rfl) _ s

@[simp] theorem State.applySpares_mem (s : State) : (s.applySpares).mem = s.mem :=
  State.foldl_mem (fun t p => by split <;> simp) _ _

@[simp] theorem State.applyRecords_cells (s : State) : (s.applyRecords).mem.cells = s.mem.cells := by
  have hdies : ∀ (l : List Nat) (t : State), (l.foldl State.judgeDie t).mem = t.mem :=
    State.foldl_mem fun t d => State.judgeDie_mem t d
  refine (State.foldl_cells (fun t g => State.leaveGroup_cells t _ _) _ _).trans ?_
  rw [hdies, State.applySpares_mem, State.applyRoles_mem]

@[simp] theorem State.fenceSlot_mem (s : State) (c slot : Nat) : (s.fenceSlot c slot).mem = s.mem := by
  unfold State.fenceSlot
  split
  · simp
  · split <;> simp

@[simp] theorem State.judgeStart_cells (s : State) (found : StartFindings) :
    (s.judgeStart found).mem.cells = s.mem.cells := by
  have hslots : ∀ (l : List (Fin 64 × Fin 25)) (t : State),
      (l.foldl (fun s p => s.fenceSlot p.1.val p.2.val) t).mem = t.mem := State.foldl_mem fun t p => State.fenceSlot_mem
          t _ _
  have hmodules : ∀ (l : List (Fin 8 × Fin 32 × Bool)) (t : State), (l.foldl (fun s p =>
      ((s.setEdgeModule p.1.val p.2.1.val (if p.2.2 then 1 else 2)).log Code.edgeRetrain
        [p.1.val, p.2.1.val, if p.2.2 then 8 else 0]).judgeEdge p.1.val) t).mem = t.mem := State.foldl_mem fun t p => by
            simp
  have hdies : ∀ (l : List (Fin 4)) (t : State), (l.foldl (fun s d => s.dieGone d.val) t).mem = t.mem :=
    State.foldl_mem fun t d => State.dieGone_mem t d.val
  have hchannels : ∀ (l : List (Fin 16 × Fin 128)) (t : State),
      (l.foldl (fun s p => s.retireGroup p.1.val (p.2.val / 8)) t).mem.cells = t.mem.cells :=
    State.foldl_cells fun t p => State.retireGroup_cells t _ _
  unfold State.judgeStart
  dsimp only
  split
  · rw [hchannels, hdies, hmodules, hslots]
  · rw [State.log_mem, State.freeNat_mem, hchannels, hdies, hmodules, hslots]

@[simp] theorem State.testStatus_mem (s : State) (state kind fails : Nat) : (s.testStatus state kind fails).mem = s.mem :=
  rfl

@[simp] theorem State.spdmAnswer_mem (s : State) (p : DictPort) (need next : Nat) (ok : Bool) (code : Nat)
    (data : List Byte) :
    (s.spdmAnswer p need next ok code data).mem = s.mem := by simp [State.spdmAnswer]

@[simp] theorem State.spdmFree_mem (s : State) (code : Nat) : (s.spdmFree code).2.mem = s.mem := rfl

@[simp] theorem State.countLow_mem (s : State) (d : Nat) (now : List Int) : (s.countLow d now).mem = s.mem := rfl

@[simp] theorem State.enterStage_mem (s : State) (d t : Nat) : (s.enterStage d t).mem = s.mem := by
  have hnote : ∀ (l : List Nat) (u : State), (l.foldl State.noteThrottled u).mem = u.mem :=
    State.foldl_mem fun u k => State.noteThrottled_mem u k
  unfold State.enterStage
  dsimp only
  split <;> simp [hnote]

@[simp] theorem State.judgeStage_mem (s : State) (prev now : List Int) (d : Nat) : (s.judgeStage prev now d).mem = s.mem
    := by
  unfold State.judgeStage
  dsimp only
  split
  · exact State.foldl_mem (fun u t => State.enterStage_mem u d t) _ s
  · rfl

@[simp] theorem State.slotPowerFails_mem (s : State) (c slot : Nat) : (s.slotPowerFails c slot).mem = s.mem := by
  unfold State.slotPowerFails
  repeat' split
  all_goals simp

/-! ### The host -/

@[simp] theorem State.writeMqBase_mem (s : State) (f v : Nat) : (s.writeMqBase f v).mem = s.mem := by
  rw [State.writeMqBase, State.ite_mem, State.hostDrop_mem, State.setMemq_mem, State.setFn_mem, ite_self]

@[simp] theorem State.fnWrite_mem (s : State) (f off v : Nat) : (s.fnWrite f off v).mem = s.mem := by
  unfold State.fnWrite
  split
  · exact State.hostDrop_mem s f
  · split
    iterate 4 rfl
    iterate 5 exact State.setFn_mem _ _ _ _
    · rw [State.ite_mem, State.hostDrop_mem, State.setFn_mem, ite_self]
    · rw [State.setFn_mem]
    · exact State.writeMqBase_mem s f v
    iterate 2 rw [State.ite_mem, State.hostDrop_mem, State.setFn_mem, ite_self]
    iterate 2 exact State.setFn_mem _ _ _ _
    · exact State.hostDrop_mem s f

@[simp] theorem State.writeTail_mem (s : State) (n v : Nat) : (s.writeTail n v).mem = s.mem := by simp [State.writeTail]

@[simp] theorem State.pageWrite_mem (s : State) (n off v : Nat) : (s.pageWrite n off v).mem = s.mem := by
  unfold State.pageWrite
  split <;> simp

@[simp] theorem State.fnDefaults_mem (s : State) (f : Nat) : (s.fnDefaults f).mem = s.mem := rfl

@[simp] theorem State.partPages_mem (s : State) (k : Nat) : (s.partPages k).mem = s.mem :=
  State.foldl_mem (fun t n => by simp) _ s

@[simp] theorem State.flrOf_cells (s : State) (f : Nat) : (s.flrOf f).mem.cells = s.mem.cells := by
  have hparts : ∀ (l : List Nat) (t : State), (l.foldl State.partPages t).mem = t.mem :=
    State.foldl_mem fun t k => State.partPages_mem t k
  have hfns : ∀ (l : List Nat) (t : State), (l.foldl State.fnDefaults t).mem = t.mem :=
    State.foldl_mem fun t k => State.fnDefaults_mem t k
  unfold State.flrOf
  dsimp only
  split
  · split <;> simp [hparts, hfns]
  · split <;> simp

@[simp] theorem State.aptDrop_mem (s : State) (f : Nat) (noted : Bool) : (s.aptDrop f noted).mem = s.mem :=
  by simp [State.aptDrop]

@[simp] theorem State.hostValue_mem (s : State) (k key v : Nat) : (s.hostValue k key v).2.mem = s.mem := by
  unfold State.hostValue
  split <;> simp

@[simp] theorem State.hostSet_mem (s : State) (k key v config : Nat) : (s.hostSet k key v config).mem = s.mem :=
  by simp [State.hostSet]

/-- A host access that reaches its cluster acts there; any other is dropped (R199, R201). -/
theorem State.windowWrite_mem (s : State) (f rel : Nat) {act : State → Nat → Nat → State}
    (hact : ∀ t k c, (act t k c).mem = t.mem) : (s.windowWrite f rel act).mem = s.mem := by
  unfold State.windowWrite
  dsimp only
  repeat' split
  all_goals simp [hact]

@[simp] theorem State.syncSetAt_mem (s : State) (f : Fin 17) (cluster index v : Nat) :
    (s.syncSetAt f cluster index v).mem = s.mem :=
  State.windowWrite_mem s f cluster fun t k c => by simp

@[simp] theorem State.syncPostAt_mem (s : State) (f : Fin 17) (cluster index v : Nat) :
    (s.syncPostAt f cluster index v).mem = s.mem :=
  State.windowWrite_mem s f cluster fun t k c => by split <;> simp

@[simp] theorem State.syncConfigAt_mem (s : State) (f : Fin 17) (cluster index v : Nat) :
    (s.syncConfigAt f cluster index v).mem = s.mem :=
  State.windowWrite_mem s f cluster fun t k c => by split <;> simp

@[simp] theorem State.armWriteAt_mem (s : State) (f : Fin 17) (slot field v : Nat) :
    (s.armWriteAt f slot field v).mem = s.mem := by
  dsimp only [State.armWriteAt]
  repeat' split
  all_goals simp

/-! ### The dictionary -/

@[simp] theorem State.testStart_mem (s : State) (kind : Nat) : (s.testStart kind).mem = s.mem := by simp [State.testStart]

@[simp] theorem State.returnStart_mem (s : State) (kind unit : Nat) : (s.returnStart kind unit).mem = s.mem := rfl

@[simp] theorem State.writeStatic_mem (s : State) (key v size : Nat) : (s.writeStatic key v size).mem = s.mem := by
  dsimp only [State.writeStatic]
  repeat' split
  all_goals simp

@[simp] theorem State.clearFirst_mem (s : State) (n b : Nat) : (s.clearFirst n b).mem = s.mem := rfl

@[simp] theorem State.peerTag_mem (s : State) (n entry tag : Nat) : (s.peerTag n entry tag).mem = s.mem := by
  unfold State.peerTag
  split <;> simp

@[simp] theorem State.voteRelease_mem (s : State) (n : Nat) : (s.voteRelease n).mem = s.mem := by
  unfold State.voteRelease
  split <;> simp

@[simp] theorem State.exportCtlWrite_mem (s : State) (n v : Nat) : (s.exportCtlWrite n v).mem = s.mem :=
  by simp [State.exportCtlWrite]

@[simp] theorem State.writeOnes_mem (s : State) (key v : Nat) : (s.writeOnes key v).mem = s.mem := rfl

@[simp] theorem State.gtCtlWrite_mem (s : State) (v : Nat) : (s.gtCtlWrite v).mem = s.mem := by simp [State.gtCtlWrite]

@[simp] theorem State.readLog_mem (s : State) (port : DictPort) : (s.readLog port).2.mem = s.mem := by
  simp only [State.readLog]
  split <;> simp

@[simp] theorem State.dictReadAt_mem (s : State) (port : DictPort) (key : Nat) :
    (s.dictReadAt port key).2.2.mem = s.mem := by
  dsimp only [State.dictReadAt]
  repeat' split
  all_goals simp

@[simp] theorem State.dictAnswer_mem (s : State) (port : DictPort) (op : Nat) (sent : List Byte) (code : Nat)
    (data : List Byte) :
    (s.dictAnswer port op sent code data).mem = s.mem := by
  unfold State.dictAnswer
  split <;> simp

@[simp] theorem State.dictFetch_mem (s : State) (port : DictPort) (key : Nat) : (s.dictFetch port key).mem = s.mem :=
  by simp [State.dictFetch]

@[simp] theorem State.msixWrite_mem (s : State) (f off size v : Nat) : (s.msixWrite f off size v).mem = s.mem :=
  by simp [State.msixWrite]

@[simp] theorem State.syncWindowWrite_mem (s : State) (f : Fin 17) (off size v : Nat) :
    (s.syncWindowWrite f off size v).mem = s.mem := by
  unfold State.syncWindowWrite
  dsimp only
  repeat' split
  all_goals simp

/-! ### Tests and the test port -/

@[simp] theorem State.slotFails_mem (s : State) (c slot : Nat) (r : KernelResult) :
    (s.slotFails c slot r).mem = s.mem := by
  dsimp only [State.slotFails]
  repeat' split
  all_goals simp

@[simp] theorem State.testFails_cells (s : State) (kind : Nat) (u : FailUnit) :
    (s.testFails kind u).mem.cells = s.mem.cells := by
  unfold State.testFails
  split
  all_goals split <;> simp

@[simp] theorem State.groupBack_cells (s : State) (stack g : Nat) : (s.groupBack stack g).mem.cells = s.mem.cells := by
  simp only [State.groupBack, State.reportResv_mem]
  refine (State.foldl_cells (fun t p => ?_) _ _).trans (by simp)
  split
  · rfl
  · split
    · rfl
    · next hr => simpa [State.modMem] using congrArg Mem.cells (State.pickFrame_mem t _ hr)

@[simp] theorem State.upeBack_mem (s : State) (u : Nat) : (s.upeBack u).mem = s.mem := by
  unfold State.upeBack
  dsimp only
  split
  · exact State.foldl_mem (fun t n => State.setEntBit_mem t _ _ _) _ _
  · rfl

@[simp] theorem State.tapSelect_mem (s : State) (code len bits : Nat) : (s.tapSelect code len bits).mem = s.mem :=
  by simp [State.tapSelect]

@[simp] theorem State.boundary_mem (s : State) : s.boundary.2.mem = s.mem := rfl

@[simp] theorem State.tapStart_mem (s : State) (kind at_ : Nat) : (s.tapStart kind at_).mem = s.mem :=
  by simp [State.tapStart]

@[simp] theorem State.countTick_mem (s : State) : s.countTick.mem = s.mem := rfl

end Sys2Proof.Machine
end

section
/-!
SUPPORT. The canonical form of the stacks' bytes (R207): what writes bytes keeps it, the engines of the cores with it.
-/

namespace Sys2Proof.Machine

open Sys2Proof

/-- The canonical form of the stacks' bytes: addresses rise strictly, and no byte that reads as one never written is
listed. -/
def Canonical (cells : List Host.Cell) : Prop := SMap.wf (fun _ => (0#8 : Byte)) cells = true

variable {s t : State} {k n : Nat}

theorem canonical_iff_wf (m : Mem) : Canonical m.cells ↔ Memory.wf m = true := Iff.rfl

@[simp] theorem canonical_nil : Canonical [] := rfl

@[simp] theorem canonical_memWrite {cells : List Host.Cell} (h : Canonical cells) (pa : Nat) (l : List Byte) :
    Canonical (memWrite cells pa l) := wf_memWrite l pa h

@[simp] theorem canonical_dropKeys {cells : List Host.Cell} (h : Canonical cells) (p : Nat → Bool) :
    Canonical (SMap.dropKeys p cells) := SMap.wf_dropKeys _ p h

/-- What every step of a fold keeps, the fold keeps. -/
theorem canonical_foldl {α : Type} {f : State → α → State}
    (hf : ∀ t a, Canonical t.mem.cells → Canonical (f t a).mem.cells) (l : List α) (h : Canonical s.mem.cells) :
    Canonical (l.foldl f s).mem.cells := by
  induction l generalizing s with
  | nil => exact h
  | cons a l ih => exact ih (hf s a h)

/-! ### Writes of bytes -/

@[simp] theorem State.writePhys_canonical (h : Canonical s.mem.cells) (pa : Nat) (l : List Byte) :
    Canonical (s.writePhys pa l).mem.cells := canonical_memWrite h pa l

@[simp] theorem State.zeroFrame_canonical (h : Canonical s.mem.cells) (stack frame : Nat) :
    Canonical (s.zeroFrame stack frame).mem.cells := s.zeroFrame_wf stack frame h

@[simp] theorem State.writeLinePart_canonical (h : Canonical s.mem.cells) (who : LineReader) (pa : Nat) (l : List Byte) :
    Canonical (s.writeLinePart who pa l).mem.cells := by
  unfold State.writeLinePart
  split
  · simp [h]
  · split <;> simp [h]

@[simp] theorem State.writeParts_canonical (h : Canonical s.mem.cells) (n : Nat) (parts : List (Nat × Nat)) (d : List
    Byte) :
    Canonical (s.writeParts n parts d).s.mem.cells := by
  induction parts generalizing s d with
  | nil => exact h
  | cons p l ih =>
    simp only [State.writeParts]
    split
    · split
      · exact h
      · exact ih (State.writeLinePart_canonical h _ _ _) _
    · exact h

@[simp] theorem State.writeVirt_canonical (h : Canonical s.mem.cells) (n va : Nat) (d : List Byte) :
    Canonical (s.writeVirt n va d).s.mem.cells := State.writeParts_canonical h n _ d

/-! ### Corrupted and guarded instructions -/

@[simp] theorem State.putWrong_canonical (h : Canonical s.mem.cells) (k : Nat) (p : WrongAt) (v : Nat) :
    Canonical (s.putWrong k p v).mem.cells := by
  cases p with
  | byte a b => exact State.writePhys_canonical h _ _
  | _ => exact h

@[simp] theorem State.corrupt_canonical (h : Canonical s.mem.cells) (k : Nat) (l : List WrongAt) :
    Canonical (s.corrupt k l).mem.cells :=
  canonical_foldl (fun t p ht => State.putWrong_canonical (s := t.freeNat.2) ht k p _) l h

@[simp] theorem State.sag_canonical (h : Canonical s.mem.cells) : Canonical s.sag.mem.cells :=
  canonical_foldl (fun _ _ ht => State.corrupt_canonical ht _ _) _ h

/-- The state that an instruction at the head of its queue leaves, however it ends. -/
def HeadRes.state : HeadRes → State
  | .done s => s
  | .wait s _ => s
  | .gone s => s

@[simp] theorem HeadRes.state_done (s : State) : (HeadRes.done s).state = s := rfl
@[simp] theorem HeadRes.state_wait (s : State) (e : QEntry) : (HeadRes.wait s e).state = s := rfl
@[simp] theorem HeadRes.state_gone (s : State) : (HeadRes.gone s).state = s := rfl
@[simp] theorem HeadRes.state_map (r : HeadRes) (f : State → State) : (r.map f).state = f r.state := by cases r <;> rfl

theorem HeadRes.onward_canonical {r : HeadRes} {f : State → State} (hf : ∀ t, Canonical t.mem.cells → Canonical (f
    t).mem.cells)
    (h : Canonical r.state.mem.cells) : Canonical (r.onward f).state.mem.cells := by
  cases r with
  | done s => exact hf s h
  | wait s e => exact hf s h
  | gone s => exact h

@[simp] theorem HeadRes.onDone_modCore_mem (r : HeadRes) (k : Nat) (f : Core → Core) :
    (r.onDone fun t => t.modCore k f).state.mem = r.state.mem := by cases r <;> rfl

/-- An instruction under its detectors keeps the form when what it does keeps it: a fence, a fault and a misread word
leave
the stacks alone, and corrupted bytes are writes. -/
theorem State.guarded_canonical (h : Canonical s.mem.cells) (k n pc : Nat) (u : CoreUnit) (hw : HwFault) (words : List
    Nat)
    {f : State → HeadRes} (hf : ∀ t, Canonical t.mem.cells → Canonical (f t).state.mem.cells) :
    Canonical (s.guarded k n pc u hw words f).state.mem.cells := by
  unfold State.guarded
  split
  · simpa using h
  · simpa using h
  · split
    · simpa using h
    · refine HeadRes.onward_canonical (fun t ht => State.corrupt_canonical (by simpa using ht) _ _) ?_
      rw [HeadRes.state_map, State.reread_mem]
      refine hf _ ?_
      rw [State.misread_mem]
      split <;> simpa using h

/-! ### Engine instructions -/

@[simp] theorem State.mismatch_mem (s : State) (k n pc : Nat) (codes : List Nat) :
    (s.mismatch k n pc codes).state.mem = s.mem := State.coreFault_mem s _ _ _ _ _

@[simp] theorem State.misaligned_mem (s : State) (k n pc : Nat) (args : List Nat) :
    (s.misaligned k n pc args).state.mem = s.mem := State.coreFault_mem s _ _ _ _ _

@[simp] theorem State.headMswap_mem (s : State) (k : Nat) (e : QEntry) : (s.headMswap k e).state.mem = s.mem := by
  unfold State.headMswap
  split <;> rfl

@[simp] theorem State.headVec_mem (s : State) (k pc : Nat) (r : RunTask) (op : VOp) (x : VArgs) :
    (s.headVec k pc r op x).state.mem = s.mem := by
  unfold State.headVec
  split <;> simp

theorem State.headMload_canonical (h : Canonical s.mem.cells) (k pc : Nat) (r : RunTask) (x : MLoadArgs) (hw : HwFault)
    (e : QEntry) : Canonical (s.headMload k pc r x hw e).state.mem.cells := by
  unfold State.headMload
  dsimp only
  split
  · exact h
  · split
    · simpa using h
    · simpa using h
    · exact State.guarded_canonical h _ _ _ _ _ _ fun t ht => ht

theorem State.headMstream_canonical (h : Canonical s.mem.cells) (k pc : Nat) (r : RunTask) (x : MStreamArgs) (hw :
    HwFault)
    (e : QEntry) : Canonical (s.headMstream k pc r x hw e).state.mem.cells := by
  unfold State.headMstream
  dsimp only
  split
  · exact h
  · split
    · simpa using h
    · exact State.guarded_canonical h _ _ _ _ _ _ fun t ht => ht

theorem State.headGather_canonical (h : Canonical s.mem.cells) (k pc : Nat) (r : RunTask) (x : MStreamArgs) (hw : HwFault)
    (e : QEntry) : Canonical (s.headGather k pc r x hw e).state.mem.cells := by
  unfold State.headGather
  dsimp only
  split
  · simpa using h
  · split
    · exact h
    · split
      · exact h
      · split
        · exact h
        · refine State.guarded_canonical h _ _ _ _ _ _ fun t ht => ?_
          split <;> split <;> exact ht

theorem State.headMdrain_canonical (h : Canonical s.mem.cells) (k pc : Nat) (r : RunTask) (x : MDrainArgs) (hw : HwFault)
    (e : QEntry) : Canonical (s.headMdrain k pc r x hw e).state.mem.cells := by
  unfold State.headMdrain
  dsimp only
  split
  · exact h
  · split
    · simpa using h
    · exact State.guarded_canonical h _ _ _ _ _ _ fun t ht => ht

theorem State.headVmem_canonical (h : Canonical s.mem.cells) (k pc : Nat) (r : RunTask) (op : MOp) (x : EArgs) (hw :
    HwFault) :
    Canonical (s.headVmem k pc r op x hw).state.mem.cells := by
  have hcore : ∀ (hw : HwFault) (words : List Nat) (f : Core → Core),
      Canonical (s.guarded k r.ctx pc .vxe hw words fun s => .done (s.modCore k f)).state.mem.cells := fun _ _ _ =>
    State.guarded_canonical h _ _ _ _ _ _ fun t ht => ht
  unfold State.headVmem
  dsimp only
  repeat' split
  all_goals simp [h, hcore]

theorem State.loadRows_cells (s : State) (k : Nat) (r : RunTask) (x : TMoveArgs) (t : TShape) (g : MoveGeom) (m i : Nat)
    (fl : FFlags) : (s.loadRows k r x t g m i fl).s.mem.cells = s.mem.cells := by
  induction m generalizing s i fl with
  | zero => rfl
  | succ m ih =>
    simp only [State.loadRows]
    split
    · rfl
    · exact ih _ _ _

@[simp] theorem State.headTload_cells (s : State) (k pc : Nat) (r : RunTask) (x : TMoveArgs) (e : QEntry) :
    (s.headTload k pc r x e).state.mem.cells = s.mem.cells := by
  unfold State.headTload
  dsimp only
  repeat' split
  all_goals simp [State.loadRows_cells]

theorem State.storeRows_canonical (h : Canonical s.mem.cells) (k : Nat) (r : RunTask) (x : TMoveArgs) (t : TShape)
    (g : MoveGeom) (m i : Nat) (fl : FFlags) : Canonical (s.storeRows k r x t g m i fl).s.mem.cells := by
  induction m generalizing s i fl with
  | zero => exact h
  | succ m ih =>
    simp only [State.storeRows]
    split
    · simp [h]
    · exact ih (by simp [h]) _ _

theorem State.headTstore_canonical (h : Canonical s.mem.cells) (k pc : Nat) (r : RunTask) (x : TMoveArgs) (hw : HwFault)
    (e : QEntry) : Canonical (s.headTstore k pc r x hw e).state.mem.cells := by
  unfold State.headTstore
  dsimp only
  repeat' split
  · exact h
  · simpa using h
  · simpa using h
  · simpa using h
  · exact h
  · refine State.guarded_canonical h _ _ _ _ _ _ fun u hu => ?_
    have hrows := State.storeRows_canonical hu k r x
    split
    · simpa using hrows _ _ _ _ _
    · exact hrows _ _ _ _ _

theorem State.headTsend_canonical (h : Canonical s.mem.cells) (k pc : Nat) (r : RunTask) (x : TSendArgs) (voile : Bool)
    (hw : HwFault) (e : QEntry) : Canonical (s.headTsend k pc r x voile hw e).state.mem.cells := by
  unfold State.headTsend
  dsimp only
  repeat' split
  · exact h
  · simpa using h
  · simpa using h
  · simpa using h
  · exact h
  · exact State.guarded_canonical h _ _ _ _ _ _ fun u hu => by simpa using hu

/-! ### Synchronisation instructions -/

@[simp] theorem State.syncFault_mem (s : State) (k n pc code : Nat) (args : List Nat) :
    (s.syncFault k n pc code args).state.mem = s.mem := State.coreFault_mem s _ _ _ _ _

@[simp] theorem waiting_mem (s : State) (e : QEntry) : (waiting s e).state.mem = s.mem := rfl

theorem State.holdPost_mem (s : State) (k n : Nat) (e : QEntry) (kind : PostKind) {f : State → State}
    (hf : ∀ t, (f t).mem = t.mem) : (s.holdPost k n e kind f).state.mem = s.mem := by
  unfold State.holdPost
  split
  · exact hf _
  · rfl
  · simp

@[simp] theorem State.actSpost_mem (s : State) (k n : Nat) (e : QEntry) (x : YArgs) :
    (s.actSpost k n e x).state.mem = s.mem := by
  unfold State.actSpost
  dsimp only
  repeat' split
  all_goals simp [State.holdPost_mem]

@[simp] theorem State.actSpostLocal_mem (s : State) (k n : Nat) (e : QEntry) (x : YArgs) :
    (s.actSpostLocal k n e x).state.mem = s.mem := by
  unfold State.actSpostLocal
  simp

@[simp] theorem State.actSwait_mem (s : State) (k n : Nat) (u : CoreUnit) (e : QEntry) (x : YArgs) :
    (s.actSwait k n u e x).state.mem = s.mem := by
  unfold State.actSwait
  dsimp only
  repeat' split
  all_goals simp

@[simp] theorem State.actSwaitLocal_mem (s : State) (k : Nat) (e : QEntry) (x : YArgs) :
    (s.actSwaitLocal k e x).state.mem = s.mem := by
  unfold State.actSwaitLocal
  dsimp only
  split <;> rfl

@[simp] theorem State.actSlock_mem (s : State) (k n : Nat) (u : CoreUnit) (e : QEntry) (x : YArgs) :
    (s.actSlock k n u e x).state.mem = s.mem := by
  unfold State.actSlock
  dsimp only
  repeat' split
  all_goals simp

@[simp] theorem State.actSunlock_mem (s : State) (k n : Nat) (e : QEntry) (x : YArgs) :
    (s.actSunlock k n e x).state.mem = s.mem := by
  unfold State.actSunlock
  dsimp only
  repeat' split
  all_goals simp [State.holdPost_mem]

@[simp] theorem State.actHpush_mem (s : State) (k n : Nat) (e : QEntry) (x : YArgs) :
    (s.actHpush k n e x).state.mem = s.mem := by
  unfold State.actHpush
  dsimp only
  repeat' split
  · simp
  · rfl
  · exact State.holdPost_mem s _ _ _ _ fun t => State.modCore_mem t _ _

@[simp] theorem State.actHpushLocal_mem (s : State) (k : Nat) (e : QEntry) (x : YArgs) :
    (s.actHpushLocal k e x).state.mem = s.mem := by
  unfold State.actHpushLocal
  dsimp only
  split <;> rfl

@[simp] theorem State.actHpop_mem (s : State) (k n : Nat) (e : QEntry) (x : YArgs) :
    (s.actHpop k n e x).state.mem = s.mem := by
  unfold State.actHpop
  dsimp only
  repeat' split
  · simp
  · rfl
  · exact State.holdPost_mem s.freeNat.2 _ _ _ _ fun t => State.modCore_mem t _ _
  · exact State.holdPost_mem s _ _ _ _ fun t => State.modCore_mem t _ _
  · rfl

@[simp] theorem State.actHpopLocal_mem (s : State) (k : Nat) (e : QEntry) (x : YArgs) :
    (s.actHpopLocal k e x).state.mem = s.mem := by
  unfold State.actHpopLocal
  dsimp only
  split <;> rfl

/-! ### Queues and dispatch -/

theorem State.runHead_canonical (h : Canonical s.mem.cells) (k : Nat) (u : CoreUnit) (r : RunTask) (e : QEntry) :
    Canonical (s.runHead k u r e).state.mem.cells := by
  unfold State.runHead
  split
  · exact State.headMload_canonical h _ _ _ _ _ _
  · simpa using h
  · exact State.headMstream_canonical h _ _ _ _ _ _
  · exact State.headGather_canonical h _ _ _ _ _ _
  · exact State.headMdrain_canonical h _ _ _ _ _ _
  · simpa using h
  · exact State.headVmem_canonical h _ _ _ _ _ _
  · simpa using h
  · exact State.headTstore_canonical h _ _ _ _ _ _
  · exact State.headTsend_canonical h _ _ _ _ _ _ _
  · exact h
  · exact h
  all_goals
    repeat' split
    all_goals simpa using h

theorem State.pumpQueue_canonical (h : Canonical s.mem.cells) (k : Nat) (u : CoreUnit) (fuel : Nat) :
    Canonical (s.pumpQueue k u fuel).mem.cells := by
  induction fuel generalizing s with
  | zero => exact h
  | succ fuel ih =>
    simp only [State.pumpQueue]
    split
    · split
      · exact h
      · next r e l hr hq hw =>
        have hrun := State.runHead_canonical h k u r e
        split
        · next s1 hd => rw [hd] at hrun; exact ih hrun
        · next s1 e1 hd => rw [hd] at hrun; exact hrun
        · next s1 hd => rw [hd] at hrun; exact hrun
    · exact h

@[simp] theorem State.pump_canonical (h : Canonical s.mem.cells) (k : Nat) (u : CoreUnit) :
    Canonical (s.pump k u).mem.cells := by
  have hq := State.pumpQueue_canonical h k u ((s.core k).disp.queue u).length
  unfold State.pump
  dsimp only
  split
  · exact h
  · split
    · simpa using hq
    · exact hq

@[simp] theorem State.runAtDispatch_canonical (h : Canonical s.mem.cells) (k : Nat) (r : RunTask) (e : QEntry) :
    Canonical (s.runAtDispatch k r e).mem.cells := by
  have hrun := State.runHead_canonical h k .seq r e
  unfold State.runAtDispatch
  split
  · next s1 hd => rw [hd] at hrun; exact hrun
  · next s1 e1 hd => rw [hd] at hrun; exact hrun
  · next s1 hd => rw [hd] at hrun; exact hrun

@[simp] theorem State.retryHold_canonical (h : Canonical s.mem.cells) (k : Nat) : Canonical (s.retryHold k).mem.cells :=
    by
  unfold State.retryHold
  split
  · split <;> simp [h]
  · exact h

@[simp] theorem State.pumpAll_canonical (h : Canonical s.mem.cells) (k : Nat) : Canonical (s.pumpAll k).mem.cells :=
  State.retryHold_canonical (State.pump_canonical (State.pump_canonical (State.pump_canonical h k _) k _) k _) k

theorem State.fetch_cells {n pc : Nat} (h : s.fetch k n pc = .ok t) : t.mem.cells = s.mem.cells := by
  rcases s.fetch_cases k n pc with ⟨e, he⟩ | ⟨-, -, he⟩ | ⟨-, -, -, he⟩
  · rw [he] at h; cases h
  · rw [he] at h; cases h; rfl
  · rw [he] at h; cases h; simp

/-- What is dispatched keeps the form when its effect does: a fetch, a false guard and an interlock leave the bytes
alone. -/
theorem State.dispatch_canonical (h : Canonical s.mem.cells) (k : Nat) (g : BitVec 4) (rd wr : List RegName)
    {f : RunTask → State → State} (hf : ∀ r t, Canonical t.mem.cells → Canonical (f r t).mem.cells) :
    Canonical (s.dispatch k g rd wr f).mem.cells := by
  rcases s.dispatch_cases k g rd wr f with hd | ⟨r, -, ⟨e, -, hd⟩ | ⟨s1, h1, ⟨-, hd⟩ | ⟨-, -, hd⟩ | ⟨-, -, hd⟩⟩⟩
  · rwa [hd]
  · rw [hd]; simpa using h
  all_goals
    rw [← State.fetch_cells h1] at h
    rw [hd]
  · simpa using h
  · exact h
  · exact hf r s1 h

@[simp] theorem State.issue_canonical (h : Canonical s.mem.cells) (k : Nat) (g : BitVec 4) (op : EngOp) :
    Canonical (s.issue k g op).mem.cells :=
  State.dispatch_canonical h k g _ _ fun r t ht => by
    dsimp only
    repeat' split
    · simpa using ht
    · exact State.runAtDispatch_canonical ht k r _
    · exact ht
    · exact ht
    · exact State.pump_canonical (s := t.modCore k _) ht k _

@[simp] theorem State.scalar_canonical (h : Canonical s.mem.cells) (k : Nat) (g : BitVec 4) (rd wr : List RegName)
    (f : Core → Core) : Canonical (s.scalar k g rd wr f).mem.cells :=
  State.dispatch_canonical h k g rd wr fun _ _ ht => ht

@[simp] theorem State.illegalWord_canonical (h : Canonical s.mem.cells) (k : Nat) (word : Word64) :
    Canonical (s.illegalWord k word).mem.cells :=
  State.dispatch_canonical h k _ _ _ fun _ _ ht => by simpa using ht

@[simp] theorem State.afterEngines_canonical (h : Canonical s.mem.cells) (k : Nat) (g : BitVec 4) (wr : List RegName)
    (f : Core → Core) : Canonical (s.afterEngines k g wr f).mem.cells :=
  State.dispatch_canonical h k g _ wr fun _ _ ht => by split <;> exact ht

@[simp] theorem State.resume_canonical (h : Canonical s.mem.cells) (k : Nat) (u : CoreUnit) :
    Canonical (s.resume k u).mem.cells := by
  unfold State.resume
  split
  · split
    · exact State.runAtDispatch_canonical h k _ _
    · exact h
  · split
    · exact State.pump_canonical (s := s.modCore k _) h k u
    · exact h

@[simp] theorem State.endWait_canonical (h : Canonical s.mem.cells) (k : Nat) (u : CoreUnit) :
    Canonical (s.endWait k u).mem.cells := by
  unfold State.endWait
  split
  · exact h
  · exact State.pump_canonical (s := s.modCore k _) h k u

end Sys2Proof.Machine
end

section
/-!
SUPPORT. The canonical form through refills, remote words, pages, updates, collectives, ports and rails.
-/

namespace Sys2Proof.Machine

open Sys2Proof

variable {s t : State} {k n : Nat}

theorem State.admitAny_canonical (hs : Canonical s.mem.cells) (h : MsgHeader) (kind : Nat) {f : State → State}
    (hf : ∀ t, Canonical t.mem.cells → Canonical (f t).mem.cells) : Canonical (s.admitAny h kind f).mem.cells := by
  unfold State.admitAny
  split
  · simpa using hs
  · split
    · simpa using hs
    · exact hf s hs

theorem State.admitMsg_canonical (hs : Canonical s.mem.cells) (h : MsgHeader) (kind : Nat) {f : State → State}
    (hf : ∀ t, Canonical t.mem.cells → Canonical (f t).mem.cells) : Canonical (s.admitMsg h kind f).mem.cells :=
  State.admitAny_canonical hs h kind fun t ht => by
    split
    · simpa using ht
    · exact hf t ht

/-! ### Poison and refills -/

@[simp] theorem State.consumePoison_canonical (h : Canonical s.mem.cells) (who : LineReader) (pa : Nat) :
    Canonical (s.consumePoison who pa).mem.cells := by
  unfold State.consumePoison
  split
  · split <;> simpa using h
  · split <;> simpa using h
  · simpa using h
  · dsimp only
    split
    · refine canonical_foldl (fun t m ht => ?_) _ h
      split
      · split <;> simpa using ht
      · exact ht
    · rw [State.clearPoison_cells]
      exact State.writePhys_canonical (by simpa using h) _ _
  all_goals exact h

@[simp] theorem State.failHeld_canonical (h : Canonical s.mem.cells) (line : Nat) :
    Canonical (s.failHeld line).mem.cells :=
  canonical_foldl (fun _ _ ht => State.consumePoison_canonical ht _ _) _ h

@[simp] theorem State.refillFail_canonical (h : Canonical s.mem.cells) (line : Nat) :
    Canonical (s.refillFail line).mem.cells :=
  State.failHeld_canonical (by simpa [State.modMem] using h) line

@[simp] theorem State.refillNotNow_canonical (h : Canonical s.mem.cells) (r : Refill) :
    Canonical (s.refillNotNow r).mem.cells := by
  unfold State.refillNotNow
  split
  · exact State.refillFail_canonical h _
  · exact h

@[simp] theorem State.takeRefillLine_canonical (h : Canonical s.mem.cells) (line : Nat) (d : Option (BitVec 512)) :
    Canonical (s.takeRefillLine line d).mem.cells := by
  cases d with
  | none => exact State.refillFail_canonical h line
  | some v => simp [State.takeRefillLine, h]

@[simp] theorem State.takeRefillLines_canonical (h : Canonical s.mem.cells) (req : Nat) (lines : List (Option (BitVec
    512)))
    (notNow : Bool) : Canonical (s.takeRefillLines req lines notNow).mem.cells :=
  canonical_foldl (fun t r ht => by split <;> simp [ht]) _ h

@[simp] theorem State.refillRefused_canonical (h : Canonical s.mem.cells) (req status : Nat) :
    Canonical (s.refillRefused req status).mem.cells :=
  canonical_foldl (fun t r ht => by split <;> simp [ht]) _ h

@[simp] theorem State.takeRefillResp_canonical (hs : Canonical s.mem.cells) (h : MsgHeader)
    (lines : List (Option (BitVec 512))) (notNow : Bool) : Canonical (s.takeRefillResp h lines notNow).mem.cells := by
  have hin := State.admitMsg_canonical hs h Kind.refillResp fun t ht =>
    State.takeRefillLines_canonical ht h.msgid.toNat lines notNow
  unfold State.takeRefillResp
  dsimp only
  split
  · exact State.refillRefused_canonical hin _ _
  · exact hin

@[simp] theorem State.sendRefillResp_canonical (hs : Canonical s.mem.cells) (h : MsgHeader) (p : Peer) (aux : Nat)
    (payload : List Byte) : Canonical (s.sendRefillResp h p aux payload).mem.cells := by
  unfold State.sendRefillResp
  dsimp only
  split
  · exact State.takeRefillResp_canonical hs _ _ _
  · simpa using hs

@[simp] theorem State.takeRefillReq_canonical (hs : Canonical s.mem.cells) (h : MsgHeader) (lines : List Nat) (step :
    Nat) :
    Canonical (s.takeRefillReq h lines step).mem.cells :=
  State.admitAny_canonical hs h Kind.refillReq fun t ht => by
    split
    · exact ht
    · split <;> exact State.sendRefillResp_canonical ht _ _ _ _

@[simp] theorem State.askRefill_canonical (h : Canonical s.mem.cells) (lines : List Nat) :
    Canonical (s.askRefill lines).mem.cells := by
  have hfail : ∀ t : State, Canonical t.mem.cells → Canonical (lines.foldl State.refillFail t).mem.cells := fun t ht =>
    canonical_foldl (fun _ _ hu => State.refillFail_canonical hu _) lines ht
  unfold State.askRefill
  dsimp only
  split
  · exact hfail s h
  · split
    · exact hfail s h
    · split
      · split
        · exact State.takeRefillReq_canonical (by exact h) _ _ _
        · exact State.refillRefused_canonical (State.takeRefillReq_canonical (by exact h) _ _ _) _ _
      · split
        · rw [State.sendMsg_mem]; exact h
        · exact hfail _ h

@[simp] theorem State.askRefills_canonical (h : Canonical s.mem.cells) (lines : List Nat) (fuel : Nat) :
    Canonical (s.askRefills lines fuel).mem.cells := by
  induction fuel generalizing s lines with
  | zero => cases lines <;> exact h
  | succ fuel ih =>
    cases lines with
    | nil => exact h
    | cons line l => exact ih (State.askRefill_canonical h _) _

@[simp] theorem State.startRefills_canonical (h : Canonical s.mem.cells) (lines : List Nat) :
    Canonical (s.startRefills lines).mem.cells := State.askRefills_canonical (by exact h) _ _

@[simp] theorem State.startRefill_canonical (h : Canonical s.mem.cells) (line : Nat) :
    Canonical (s.startRefill line).mem.cells := State.startRefills_canonical h _

@[simp] theorem State.retryRefills_canonical (h : Canonical s.mem.cells) (n : Nat) :
    Canonical (s.retryRefills n).mem.cells := State.askRefills_canonical h _ _

@[simp] theorem State.idleBoundary_canonical (h : Canonical s.mem.cells) (n : Nat) :
    Canonical (s.idleBoundary n).mem.cells := by
  unfold State.idleBoundary
  split <;> simp [h]

@[simp] theorem State.writeLive_canonical (h : Canonical s.mem.cells) (key v : Nat) :
    Canonical (s.writeLive key v).mem.cells := by
  unfold State.writeLive
  dsimp only
  split
  · exact h
  · split
    · exact State.idleBoundary_canonical (by exact h) _
    · split <;> exact h
    · exact h

@[simp] theorem State.endTask_canonical (h : Canonical s.mem.cells) (k : Nat) (r : RunTask) :
    Canonical (s.endTask k r).mem.cells := by
  rw [State.endTask, State.idleGoverned_mem]
  exact State.idleBoundary_canonical (by simpa using h) _

/-! ### Remote words -/

@[simp] theorem State.saveWord_canonical (h : Canonical s.mem.cells) (n va : Nat) (v : Word32) :
    Canonical (s.saveWord n va v).mem.cells := by
  unfold State.saveWord
  dsimp only
  split <;> simp [h]

theorem State.arriveWords_canonical (h : Canonical s.mem.cells) (p : Packet) (w : SMap Window) (raced : List Nat)
    {write : State → Nat → Word32 → State} (hw : ∀ t i v, Canonical t.mem.cells → Canonical (write t i v).mem.cells)
    (l : List Word32) (i : Nat) (d : List Nat) : Canonical (s.arriveWords p w raced write l i d).2.mem.cells := by
  induction l generalizing s i d with
  | nil => exact h
  | cons v l ih =>
    simp only [State.arriveWords]
    split
    · exact ih (hw _ _ _ (by simpa using h)) _ _
    · exact ih (by simpa using h) _ _

/-- The words of a packet to a saved core go to its save area, whatever place `va` gives them there (R295). -/
theorem State.arriveSaved_canonical (h : Canonical s.mem.cells) (p : Packet) (w : SMap Window) (raced : List Nat)
    (k ctx : Nat) (va : State → Nat → Nat) (l : List Word32) (i : Nat) (d : List Nat) :
    Canonical (s.arriveWords p w raced (fun s w v => (s.modCore k (Core.clearHeld · w)).saveWord ctx (va s w) v) l i
      d).2.mem.cells :=
  State.arriveWords_canonical h _ _ _ (fun _ _ _ ht => State.saveWord_canonical (by exact ht) _ _ _) _ _ _

@[simp] theorem State.arrive_canonical (h : Canonical s.mem.cells) (k : Nat) (p : Packet) :
    Canonical (s.arrive k p).mem.cells := by
  unfold State.arrive
  extract_lets c owner other raced links s0 s1 ctxOk d
  have h0 : Canonical s0.mem.cells := h
  have h1 : Canonical s1.mem.cells := by rwa [State.staleDropBy_mem]
  have hd : Canonical d.2.mem.cells := by
    have hb : ∀ b : Bool, Canonical (if b then s0.arriveWords p c.sp.win raced
        (fun s w v => s.modCore k fun c => c.wr w v) p.data 0 [] else (p.words, s0)).2.mem.cells := by
      intro b
      cases b with
      | false => exact h0
      | true => exact State.arriveWords_canonical h0 _ _ _ (fun t i v ht => by exact ht) _ _ _
    exact hb ctxOk
  clear_value c owner other raced links s0 s1 ctxOk d
  split
  · split
    · simpa using h1
    · exact h1
  · split
    · rw [State.settlePacket_mem]
      exact State.arriveSaved_canonical h0 _ _ _ _ _ (fun s w => s.savePage p.ctx _ k * 2 ^ 21 + 4 * w) _ _ _
    · rwa [State.settlePacket_mem]

/-! ### Pages -/

theorem Mem.repoint_cells (m : Mem) (stack frame stack' frame' : Nat) : (m.repoint stack frame stack' frame').cells =
    m.cells :=
  rfl

@[simp] theorem State.movePage_canonical (h : Canonical s.mem.cells) (n v stack frame : Nat) :
    Canonical (s.movePage n v stack frame).mem.cells := by
  unfold State.movePage
  split
  · exact h
  · next p hp =>
    have hmove := Mem.moveFrame_wf { s.mem with migr := s.mem.migr.filter fun g => !(g.ctx == n && g.vpage == v) }
      (65536 * p.stack + p.frame) (65536 * stack + frame)
      (65536 - (s.poisonCount stack - if p.stack = stack then
        (s.mem.poison.filter fun e => e.1 / 32768 == 65536 * p.stack + p.frame).length else 0)) h
    dsimp only
    rw [State.leaveGroup_cells, State.reportPoison_mem, State.reportFrames_mem, State.ite_mem, State.setReplace_mem,
      State.log_mem, ite_self]
    exact hmove

@[simp] theorem State.mapPage_canonical (h : Canonical s.mem.cells) (n v stack frame : Nat) (pin : Bool) :
    Canonical (s.mapPage n v stack frame pin).mem.cells := by
  simp [State.mapPage, h]

theorem State.allocPages_canonical (h : Canonical s.mem.cells) (c : MemCmd) (home : Nat) (l : List Nat) (dies : Nat)
    {r : State × Nat} (hr : s.allocPages c home l dies = some r) : Canonical r.1.mem.cells := by
  induction l generalizing s dies with
  | nil => cases hr; exact h
  | cons i l ih =>
    simp only [State.allocPages] at hr
    split at hr
    · cases hr
    · next hp => exact ih (State.mapPage_canonical (by rw [State.placePage_cells s home i hp]; exact h) _ _ _ _ _) _ hr

theorem State.migratePages_canonical (h : Canonical s.mem.cells) (c : MemCmd) (l : List Nat)
    (hr : s.migratePages c l = some t) : Canonical t.mem.cells := by
  induction l generalizing s with
  | nil => cases hr; exact h
  | cons i l ih =>
    simp only [State.migratePages] at hr
    split at hr
    · exact ih h hr
    · split at hr
      · exact ih h hr
      · split at hr
        · cases hr
        · next hp => exact ih (State.movePage_canonical (by rw [State.placeOn_cells s _ hp]; exact h) _ _ _ _) hr

@[simp] theorem State.scrubLost_canonical (h : Canonical s.mem.cells) (stack frame x : Nat) :
    Canonical (s.scrubLost stack frame x).mem.cells := by
  unfold State.scrubLost
  dsimp only
  split <;> simp [h]

/-- A command of the memory manager keeps the form when its effect does (R226). -/
theorem State.performCmd_canonical (h : Canonical s.mem.cells) (f op : Nat) (c : MemCmd) {act : State → CmdRes}
    (hact : ∀ t, Canonical t.mem.cells → Canonical (act t).s.mem.cells) : Canonical (s.performCmd f op c act).mem.cells
        := by
  unfold State.performCmd
  split
  · split
    · exact h
    · dsimp only
      rw [State.refuseReserved_mem, State.completeCmd_mem]
      split
      · exact h
      · exact hact _ h
  · exact h

/-! ### Updates and exports -/

/-- A write to the spill area (R279) whose size and place are any functions of the state: with the model's own ones the
kernel would unfold products with 2^21. -/
def SpillKeepsForm (f : State → Nat → Nat → List Byte → VWrite) : Prop :=
  ∀ s n off b, Canonical s.mem.cells → Canonical (f s n off b).s.mem.cells

theorem VWrite.andThen_canonical {w v : VWrite} (hw : Canonical w.s.mem.cells) (p : Prop) [Decidable p]
    (hv : Canonical v.s.mem.cells) : Canonical (match w.fail with
      | some _ => w
      | none => if p then w else v).s.mem.cells := by
  split
  · exact hw
  · split
    · exact hw
    · exact hv

theorem spillKeepsForm (size : State → Nat → Nat) (place : State → Nat → Nat → Nat) : SpillKeepsForm fun s n off b =>
    let room := size s n - off
    let w := s.writeVirt n (place s n off) (b.take room)
    match w.fail with
    | some _ => w
    | none => if b.length ≤ room then w else w.s.writeVirt n (place s n 0) (b.drop room) := by
  intro s n off b h
  have hw := State.writeVirt_canonical h n (place s n off) (b.take (size s n - off))
  exact VWrite.andThen_canonical hw _ (State.writeVirt_canonical hw _ _ _)

theorem State.spillWrite_keepsForm : SpillKeepsForm State.spillWrite := spillKeepsForm State.spillSize State.spillAt

@[simp] theorem State.spillWrite_canonical (h : Canonical s.mem.cells) (n off : Nat) (b : List Byte) :
    Canonical (s.spillWrite n off b).s.mem.cells := State.spillWrite_keepsForm s n off b h

/-- What the spill area takes, or a fault of it, keeps the form (R279). -/
theorem State.spilled_canonical {w : VWrite} (h : Canonical s.mem.cells) (hw : Canonical w.s.mem.cells) (full : Prop)
    [Decidable full] (n : Nat) (p : Nat × Nat) (hr : (if full then none else match w.fail with
      | some (code, a) => some ((s.logCtx code n [a]).ctxReset n code)
      | none => some (w.s.modExp n fun e => { e with spill := e.spill ++ [p] })) = some t) : Canonical t.mem.cells := by
  split at hr
  · cases hr
  · split at hr
    · cases hr; simpa using h
    · cases hr; exact hw

theorem State.exportPut_canonical (h : Canonical s.mem.cells) (n : Nat) (r : List Byte) (hr : s.exportPut n r = some t) :
    Canonical t.mem.cells := by
  unfold State.exportPut at hr
  extract_lets u e used off w spilled at hr
  have hu : Canonical u.mem.cells := by rwa [State.flushGap_mem]
  have hspill : spilled () = some t → Canonical t.mem.cells :=
    State.spilled_canonical hu (State.spillWrite_canonical hu _ _ _) _ n _
  clear_value u e used off w spilled
  split at hr
  · cases hr
  · split at hr
    · split at hr
      · next s2 h2 => cases hr; rwa [State.ringPut_mem u n r h2]
      · exact hspill hr
    · exact hspill hr

@[simp] theorem State.exportStep_canonical (h : Canonical s.mem.cells) (n : Nat) (r : List Byte) :
    Canonical (s.exportStep n r).mem.cells := by
  unfold State.exportStep
  split
  · exact h
  · dsimp only
    split
    · next hr => exact State.exportPut_canonical (by simpa using h) n r hr
    · simpa using h

@[simp] theorem State.exportSweep_canonical (h : Canonical s.mem.cells) (n : Nat) (digest : Option Nat) :
    Canonical (s.exportSweep n digest).mem.cells := by
  unfold State.exportSweep
  dsimp only
  split
  · exact h
  · split
    · exact State.exportStep_canonical (s := s.modExp n _) h _ _
    · split
      · simpa using h
      · refine State.exportStep_canonical (canonical_foldl (fun _ _ ht => State.exportStep_canonical ht _ _) _ ?_) _ _
        split <;> exact h

@[simp] theorem State.flushShard_canonical (h : Canonical s.mem.cells) (n fuel : Nat) :
    Canonical (s.flushShard n fuel).mem.cells := by
  induction fuel generalizing s with
  | zero => exact h
  | succ fuel ih =>
    simp only [State.flushShard]
    split
    · exact h
    · split
      · exact h
      · next hr =>
        have hput := State.exportPut_canonical h n _ hr
        split
        · exact hput
        · exact ih hput

theorem State.sweepWrite_canonical (h : Canonical s.mem.cells) (n : Nat) (x : SweepWrite) :
    Canonical (s.sweepWrite n x).s.mem.cells := State.writeVirt_canonical h n x.va x.bytes

@[simp] theorem State.sweepWrites_canonical (h : Canonical s.mem.cells) (n : Nat) (l : List SweepWrite) :
    Canonical (s.sweepWrites n l).s.mem.cells := by
  induction l generalizing s with
  | nil => exact h
  | cons x l ih =>
    simp only [State.sweepWrites]
    split
    · exact State.sweepWrite_canonical h n x
    · exact ih (State.sweepWrite_canonical h n x)

@[simp] theorem State.writeGroups_canonical (h : Canonical s.mem.cells) (n base step : Nat) (l : List (UpdGroup × Nat)) :
    Canonical (s.writeGroups n base step l).s.mem.cells := by
  induction l generalizing s with
  | nil => exact h
  | cons g l ih =>
    simp only [State.writeGroups]
    split
    · exact ih h
    · split
      · exact State.writeVirt_canonical h _ _ _
      · exact ih (State.writeVirt_canonical h _ _ _)

@[simp] theorem State.closeStep_canonical (h : Canonical s.mem.cells) (n : Nat) (digest : Option Nat) :
    Canonical (s.closeStep n digest).mem.cells := by
  unfold State.closeStep
  extract_lets u w written fresh s1 s2 s3 s4
  have hw : Canonical w.s.mem.cells := by
    rw [show w = _ from rfl, apply_ite VWrite.s, State.ite_mem, apply_ite Mem.cells]
    split
    · exact h
    · exact State.writeGroups_canonical h _ _ _ _
  have h2 : Canonical s2.mem.cells := by rwa [State.applyLive_mem]
  have h3 : Canonical s3.mem.cells := by
    have ho : ∀ o : Option Nat, Canonical (match o with
        | some _ => s2
        | none => s2.setEnt (Ent.step n) (u.step + 1)).mem.cells := by
      intro o
      cases o <;> exact h2
    exact ho written
  have h4 : Canonical s4.mem.cells := State.retryRefills_canonical (by rwa [State.startShard_mem]) n
  clear_value u w written fresh s1 s2 s3 s4
  split
  · simpa using hw
  · split
    · split <;> simpa using h4
    · simpa using h4

/-! ### Evaluation slots and contexts -/

@[simp] theorem State.saveCore_canonical (h : Canonical s.mem.cells) (n e k : Nat) :
    Canonical (s.saveCore n e k).mem.cells := by
  have hfold : ∀ (base : Nat) (l : List (Nat × Word32)) (cells : List Host.Cell), Canonical cells →
      Canonical (l.foldl (fun m w =>
        memWrite m (base + 4 * (w.1 % spSize)) (leBytes 4 ((s.core k).rd w.1).toNat)) cells) := by
    intro base l
    induction l with
    | nil => exact fun _ hc => hc
    | cons w l ih => exact fun _ hc => ih _ (canonical_memWrite hc _ _)
  unfold State.saveCore
  split
  · exact h
  · exact hfold _ _ _ (by simp [h])

/-! ### Collectives -/

@[simp] theorem State.collWrites_canonical (h : Canonical s.mem.cells) (n : Nat) (d : CollDesc) (first : Nat)
    (v : List Word32) (l : List (Nat × Nat)) : Canonical (s.collWrites n d first v l).s.mem.cells := by
  induction l generalizing s with
  | nil => exact h
  | cons p l ih =>
    simp only [State.collWrites]
    split
    · exact State.writeVirt_canonical h _ _ _
    · exact ih (State.writeVirt_canonical h _ _ _)

@[simp] theorem State.collDeliver_canonical (h : Canonical s.mem.cells) (n : Nat) (c : Coll) (b : Block) (first : Nat)
    (fl : FFlags) (v : List Word32) : Canonical (s.collDeliver n c b first fl v).mem.cells := by
  unfold State.collDeliver
  split
  · exact h
  · dsimp only
    split <;> simp [h]

@[simp] theorem State.collResult_canonical (h : Canonical s.mem.cells) (n : Nat) (c : Coll) (lane : Nat) (b : Block)
    (x : Seat) (first : Nat) (fl : FFlags) (v : List Word32) :
    Canonical (s.collResult n c lane b x first fl v).mem.cells := by
  unfold State.collResult
  dsimp only
  split <;> simp [h]

theorem State.withContribs_canonical (h : Canonical s.mem.cells) (n : Nat) (c : Coll) (dies : List Nat)
    (base first len : Nat) {f : List (List Word32) → State} (hf : ∀ xs, Canonical (f xs).mem.cells) :
    Canonical (s.withContribs n c dies base first len f).mem.cells := by
  unfold State.withContribs
  split
  · exact h
  · split
    · simpa using h
    · exact hf _

@[simp] theorem State.collArrived_canonical (h : Canonical s.mem.cells) (n : Nat) (c : Coll) (lane : Nat) (b : Block)
    (x : Seat) (ph : CollPhase) (first : Nat) (fl : FFlags) (v : List Nat) :
    Canonical (s.collArrived n c lane b x ph first fl v).mem.cells :=
  State.withContribs_canonical h _ _ _ _ _ _ fun xs => by
    dsimp only
    split
    · simpa using h
    · exact State.collResult_canonical h _ _ _ _ _ _ _ _

@[simp] theorem State.collTake_canonical (h : Canonical s.mem.cells) (n : Nat) (c : Coll) (b : Block) (up : Bool)
    (m : CollMsg) : Canonical (s.collTake n c b up m).mem.cells := by
  unfold State.collTake
  dsimp only
  split
  · rw [State.collSums_mem]
    split <;> simpa using h
  · split <;> simp [h]
  · split
    · simpa using h
    · split
      · exact State.collArrived_canonical h _ _ _ _ _ _ _ _ _
      · split
        · exact h
        · exact State.collArrived_canonical (s := s.modColl n c.gen _) h _ _ _ _ _ _ _ _ _

@[simp] theorem State.collBegin_canonical (h : Canonical s.mem.cells) (n : Nat) (c : Coll) (lane : Nat) (b : Block) :
    Canonical (s.collBegin n c lane b).mem.cells := by
  unfold State.collBegin
  dsimp only
  split
  · split
    · exact State.withContribs_canonical h _ _ _ _ _ _ fun xs => State.collResult_canonical h _ _ _ _ _ _ _ _
    · exact h
  · exact canonical_foldl (fun t up ht => by simpa using ht) _ h

@[simp] theorem State.collStep_canonical (h : Canonical s.mem.cells) (n gen : Nat) (up : Bool) (m : CollMsg) :
    Canonical (s.collStep n gen up m).mem.cells := by
  unfold State.collStep
  split
  · exact h
  · split
    · exact h
    · dsimp only
      generalize (if phaseInward m.phase then _ else _ : Bool) = off
      split
      · exact h
      · exact State.collTake_canonical (s := s.modColl n gen _) h _ _ _ _ _

@[simp] theorem State.openChunk_canonical (h : Canonical s.mem.cells) (n gen lane : Nat) :
    Canonical (s.openChunk n gen lane).mem.cells := by
  unfold State.openChunk
  split
  · exact h
  · exact canonical_foldl (fun _ _ ht => State.collStep_canonical ht _ _ _ _) _
      (canonical_foldl (s := s.modColl n gen _) (fun _ _ ht => State.collBegin_canonical ht _ _ _ _) _ h)

@[simp] theorem State.nextChunks_canonical (h : Canonical s.mem.cells) (n gen lane fuel : Nat) :
    Canonical (s.nextChunks n gen lane fuel).mem.cells := by
  induction fuel generalizing s with
  | zero => exact h
  | succ fuel ih =>
    simp only [State.nextChunks]
    split
    · exact h
    · split
      · exact h
      · exact ih (State.openChunk_canonical (s := s.modColl n gen _) h _ _ _)

@[simp] theorem State.collAdvance_canonical (h : Canonical s.mem.cells) (n gen : Nat) (lanes : List Nat) :
    Canonical (s.collAdvance n gen lanes).mem.cells := by
  rw [State.collAdvance, State.lastStep_mem]
  refine canonical_foldl (fun t l ht => ?_) _ h
  split
  · exact State.nextChunks_canonical ht _ _ _ _
  · exact ht

@[simp] theorem State.collAlone_canonical (h : Canonical s.mem.cells) (n gen : Nat) :
    Canonical (s.collAlone n gen).mem.cells := by
  unfold State.collAlone
  split
  · exact h
  · next c hc =>
    have hwhole : ∀ (l : List Block) (dies : Block → List Nat) (base : Block → Nat), Canonical (l.foldl (fun s b =>
        s.withContribs n c (dies b) (base b) b.first b.len fun xs =>
          s.collDeliver n c b b.first (FFlags.all ((xs.map c.desc.combine).map (·.2))) ((xs.map c.desc.combine).map
              (·.1))) s).mem.cells :=
      fun l dies base => canonical_foldl (fun t b ht =>
        State.withContribs_canonical ht _ _ _ _ _ _ fun xs => State.collDeliver_canonical ht _ _ _ _ _ _) l h
    dsimp only
    split
    · simpa using hwhole _ _ _
    · exact hwhole _ _ _

@[simp] theorem State.collStart_canonical (h : Canonical s.mem.cells) (n gen : Nat) :
    Canonical (s.collStart n gen).mem.cells := by
  unfold State.collStart
  split
  · exact h
  · split
    · exact State.collAlone_canonical h n gen
    · exact State.collAdvance_canonical
        (canonical_foldl (fun _ _ ht => State.openChunk_canonical ht _ _ _) _ h) _ _ _

@[simp] theorem State.takeColl_canonical (hs : Canonical s.mem.cells) (port : Fin 6) (h : MsgHeader) (m : CollMsg) :
    Canonical (s.takeColl port h m).mem.cells :=
  State.admitMsg_canonical hs _ _ fun t ht => by
    dsimp only
    split
    · exact ht
    · split
      · exact ht
      · split
        · exact State.collAdvance_canonical (State.collStep_canonical ht _ _ _ _) _ _ _
        · exact ht

/-! ### Ports and messages -/

@[simp] theorem State.loseMsg_canonical (h : Canonical s.mem.cells) (m : Msg) : Canonical (s.loseMsg m).mem.cells := by
  unfold State.loseMsg
  dsimp only
  split <;> simp [h]

@[simp] theorem State.failPort_canonical (h : Canonical s.mem.cells) (p : Nat) : Canonical (s.failPort p).mem.cells :=
  canonical_foldl (s := s.setPort p _) (fun _ _ ht => State.loseMsg_canonical ht _) _ h

@[simp] theorem State.downPort_canonical (h : Canonical s.mem.cells) (p cause : Nat) :
    Canonical (s.downPort p cause).mem.cells := by
  rw [State.downPort, State.abortOnPort_mem, State.alert_mem, State.log_mem]
  exact State.failPort_canonical (s := (s.modPort p _).setEnt _ 0) h p

@[simp] theorem State.miscablePort_canonical (h : Canonical s.mem.cells) (p : Nat) :
    Canonical (s.miscablePort p).mem.cells := by
  rw [State.miscablePort, State.alert_mem, State.log_mem]
  exact State.failPort_canonical (s := s.modPort p _) h p

@[simp] theorem State.setPortEnable_canonical (h : Canonical s.mem.cells) (p v : Nat) :
    Canonical (s.setPortEnable p v).mem.cells := by
  unfold State.setPortEnable
  dsimp only
  split
  · split
    · exact h
    · rw [State.abortOnPort_mem]
      exact State.failPort_canonical (s := (s.setEnt _ v).modPort p _) h p
  · split <;> exact h

@[simp] theorem State.takeAckMsg_canonical (hs : Canonical s.mem.cells) (h : MsgHeader) :
    Canonical (s.takeAckMsg h).mem.cells := by
  unfold State.takeAckMsg
  dsimp only
  split
  · split
    · exact hs
    · split <;> simp [hs]
  · simpa using hs

@[simp] theorem State.takeMessage_canonical (h : Canonical s.mem.cells) (m : Msg) :
    Canonical (s.takeMessage m).mem.cells := by
  unfold State.takeMessage
  dsimp only
  repeat' split
  all_goals simp [h]

@[simp] theorem State.takeFromPort_canonical (h : Canonical s.mem.cells) (p : Fin 6) (m : Msg) :
    Canonical (s.takeFromPort p m).mem.cells := by
  unfold State.takeFromPort
  repeat' split
  all_goals simp [h]

@[simp] theorem State.gatherFlit_canonical (h : Canonical s.mem.cells) (p : Fin 6) (vc : Nat) (payload : List Byte) :
    Canonical (s.gatherFlit p vc payload).mem.cells := by
  unfold State.gatherFlit
  dsimp only
  split
  · rw [State.returnCredits_mem]
    exact State.takeFromPort_canonical (s := s.modPort p _) h _ _
  · exact h

@[simp] theorem State.takeFlit_canonical (h : Canonical s.mem.cells) (p : Fin 6) (flit : List Byte) :
    Canonical (s.takeFlit p flit).mem.cells := by
  unfold State.takeFlit
  dsimp only
  split
  · split
    · exact h
    · simpa using h
  · split
    · exact State.gatherFlit_canonical (s := s.setPort p _) h _ _ _
    · exact h

/-! ### Resets, rails and tests -/

@[simp] theorem State.unpower_canonical (s : State) : Canonical s.unpower.mem.cells := Mem.lost_wf s.mem

@[simp] theorem State.resetDone_canonical (h : Canonical s.mem.cells) (n : Nat) : Canonical (s.resetDone n).mem.cells :=
    by
  unfold State.resetDone
  split <;> simp [h]

@[simp] theorem State.partContextsDone_canonical (h : Canonical s.mem.cells) (k : Nat) :
    Canonical (s.partContextsDone k).mem.cells :=
  canonical_foldl (fun _ _ ht => State.resetDone_canonical ht _) _ h

@[simp] theorem State.mainOff_canonical (s : State) (removed : Bool) : Canonical (s.mainOff removed).mem.cells := by
  rw [State.mainOff, State.updateAlertN_mem]
  exact s.unpower_canonical

@[simp] theorem State.thermTrip_canonical (s : State) (l : List Nat) : Canonical (s.thermTrip l).mem.cells := by
  rw [State.thermTrip, State.updateAlertN_mem]
  exact State.unpower_canonical _

@[simp] theorem State.testClears_canonical (h : Canonical s.mem.cells) (kind : Nat) :
    Canonical (s.testClears kind).mem.cells := by
  unfold State.testClears
  dsimp only
  split
  · exact h
  · rw [State.reportPoison_mem]
    exact canonical_dropKeys (cells := s.mem.cells) h fun a =>
      s.testsGroup (a / 2 ^ 21 / 65536) (frameGroup (a / 2 ^ 21 % 65536))

/-! ### The host -/

@[simp] theorem State.aptWrite_canonical (h : Canonical s.mem.cells) (f : Fin 17) (l : List (Nat × Nat)) (d : List Byte) :
    Canonical (s.aptWrite f l d).mem.cells := by
  induction l generalizing s d with
  | nil => exact h
  | cons p l ih => exact ih (State.writeLinePart_canonical h _ _ _) _

end Sys2Proof.Machine
end

section
/-!
SUPPORT. The canonical form through the memory commands, the dictionary, the registers of the host and time.
-/

namespace Sys2Proof.Machine

open Sys2Proof

variable {s t : State} {k n : Nat}

/-! ### Memory commands -/

/-- The memory that a result leaves, where it has a next state, is in the form. -/
def FormAfter (r : Res) : Prop :=
  match r with
  | .next t => Canonical t.mem.cells
  | .fault _ => True
  | .refused _ => True

@[simp] theorem formAfter_next (t : State) : FormAfter (.next t) ↔ Canonical t.mem.cells := Iff.rfl

theorem Res.stateOr_canonical {r : Res} (hr : FormAfter r) (h : Canonical s.mem.cells) :
    Canonical (r.stateOr s).mem.cells := by
  cases r with
  | next t => exact hr
  | fault e => exact h
  | refused e => exact h

theorem execAlloc_form (h : Canonical s.mem.cells) (f : Fin 17) (cmd : MemCmd) : FormAfter (execAlloc f cmd s) :=
  State.performCmd_canonical h _ _ _ fun t ht => by
    dsimp only
    split
    · exact ht
    · split
      · exact ht
      · split
        · exact ht
        · split
          · next h1 => simpa using State.allocPages_canonical ht _ _ _ _ h1
          · exact ht

theorem execFree_form (h : Canonical s.mem.cells) (f : Fin 17) (cmd : MemCmd) : FormAfter (execFree f cmd s) :=
  State.performCmd_canonical h _ _ _ fun t ht => by
    dsimp only
    split
    · exact ht
    · rw [State.reportFrames_mem]
      exact canonical_foldl (fun _ _ hu => by simpa using hu) _ ht

theorem execShareRo_form (h : Canonical s.mem.cells) (f : Fin 17) (cmd : MemCmd) : FormAfter (execShareRo f cmd s) :=
  State.performCmd_canonical h _ _ _ fun t ht => by
    dsimp only
    split
    · exact ht
    · split
      · exact ht
      · exact canonical_foldl (fun _ _ hu => by simpa using hu) _ ht

theorem execReplReg_form (h : Canonical s.mem.cells) (f : Fin 17) (cmd : MemCmd) : FormAfter (execReplReg f cmd s) :=
  State.performCmd_canonical h _ _ _ fun t ht => by
    split
    · split
      · exact ht
      · exact canonical_foldl (fun _ _ hu => by simpa using hu) _ ht
    · exact ht

theorem execReplUnreg_form (h : Canonical s.mem.cells) (f : Fin 17) (cmd : MemCmd) : FormAfter (execReplUnreg f cmd s) :=
  State.performCmd_canonical h _ _ _ fun _ ht => ht

theorem execMigrate_form (h : Canonical s.mem.cells) (f : Fin 17) (cmd : MemCmd) : FormAfter (execMigrate f cmd s) :=
  State.performCmd_canonical h _ _ _ fun t ht => by
    split
    · exact ht
    · split
      · next h1 => exact State.migratePages_canonical ht _ _ h1
      · exact ht

@[simp] theorem State.finishCmds_canonical (h : Canonical s.mem.cells) (n : Nat) (f : Fin 17) (fuel : Nat) :
    Canonical (s.finishCmds n f fuel).mem.cells := by
  induction fuel generalizing s with
  | zero => exact h
  | succ fuel ih =>
    simp only [State.finishCmds]
    split
    · exact h
    · split
      · refine ih (Res.stateOr_canonical ?_ h)
        split
        · exact execAlloc_form h _ _
        · exact execFree_form h _ _
        · exact execShareRo_form h _ _
        · exact execReplReg_form h _ _
        · exact execReplUnreg_form h _ _
        · exact execMigrate_form h _ _
      · exact h

@[simp] theorem State.ctxDestroy_canonical (h : Canonical s.mem.cells) (n : Nat) :
    Canonical (s.ctxDestroy n).mem.cells := by
  have h0 := canonical_foldl (fun t f ht => State.finishCmds_canonical ht n f (t.memq f).cmds.length) (List.finRange 17) h
  simp only [State.ctxDestroy]
  simpa using h0

/-! ### The dictionary and the registers of the host -/

@[simp] theorem State.dictApply_canonical (h : Canonical s.mem.cells) (port : DictPort) (r : ERow) (key v : Nat) :
    Canonical (s.dictApply port r key v).mem.cells := by
  unfold State.dictApply
  dsimp only
  split
  case h_18 => exact canonical_foldl (fun _ _ ht => by simpa using ht) _ h
  all_goals
    repeat' split
    all_goals simp [h]

@[simp] theorem State.dictWriteAt_canonical (h : Canonical s.mem.cells) (port : DictPort) (key : Nat) (data : List Byte) :
    Canonical (s.dictWriteAt port key data).2.mem.cells := by
  unfold State.dictWriteAt
  dsimp only
  split
  · exact h
  · dsimp only
    split
    · exact State.dictApply_canonical h _ _ _ _
    · exact h

@[simp] theorem State.dictRequest_canonical (h : Canonical s.mem.cells) (port : DictPort) (key : Nat) (data : List Byte) :
    Canonical (s.dictRequest port key data).mem.cells := by
  unfold State.dictRequest
  split
  · exact h
  · rw [State.dictAnswer_mem]
    exact State.dictWriteAt_canonical h _ _ _

@[simp] theorem State.mailboxWrite_canonical (h : Canonical s.mem.cells) (f : Fin 17) (off v : Nat) :
    Canonical (s.mailboxWrite f off v).mem.cells := by
  unfold State.mailboxWrite
  dsimp only
  split
  · split
    · split
      · simpa using h
      · split
        · exact State.dictRequest_canonical h _ _ _
        · simpa using h
    · exact h
  · repeat' split
    all_goals simpa using h

@[simp] theorem State.bar0Write_canonical (h : Canonical s.mem.cells) (f : Fin 17) (off size v : Nat) :
    Canonical (s.bar0Write f off size v).mem.cells := by
  unfold State.bar0Write
  dsimp only
  repeat' split
  all_goals simp [h]

/-! ### The passing of time -/

@[simp] theorem State.tick_canonical (h : Canonical s.mem.cells) : Canonical s.tick.mem.cells := by
  have hs : Canonical (if s.sagging then s.sag else s).mem.cells := by
    split
    · exact State.sag_canonical h
    · exact h
  unfold State.tick
  extract_lets u u1
  have h1 : Canonical u.mem.cells := hs
  clear_value u
  repeat' split
  all_goals exact h1

end Sys2Proof.Machine
end

section
/-!
SUPPORT. The canonical form after the commands whose next state has a shape of its own.
-/

namespace Sys2Proof.Machine

open Sys2Proof

variable {s t : State} {k n : Nat}

/-! ### Cores -/

theorem State.withPlat_mem (s : State) (p : Plat) : { s with plat := p }.mem = s.mem := rfl

theorem execRowGathererFire_form (h : Canonical s.mem.cells) (c : CoreId) (hw : HwFault) :
    FormAfter (execRowGathererFire c hw s) := by
  unfold execRowGathererFire
  dsimp only
  rw [formAfter_next]
  split
  · next r hr =>
    split
    · have hg := State.guarded_canonical h (coreKey c) r.ctx (s.core (coreKey c)).regs.pc .mxe hw []
        (f := fun s => .done (s.modCore (coreKey c) Core.fireAll)) fun t ht => ht
      split
      all_goals
        next s1 hd =>
        rw [hd] at hg
        simp at hg
        simp [hg]
    · exact h
  · exact h

theorem execBr_form (h : Canonical s.mem.cells) (c : CoreId) (x : SArgs) : FormAfter (execBr c x s) :=
  State.dispatch_canonical h _ _ _ _ fun _ _ ht => ht

theorem execLoop_form (h : Canonical s.mem.cells) (c : CoreId) (x : SArgs) : FormAfter (execLoop c x s) :=
  State.dispatch_canonical h _ _ _ _ fun _ _ ht => ht

theorem execEnd_form (h : Canonical s.mem.cells) (c : CoreId) (x : SArgs) : FormAfter (execEnd c x s) :=
  State.dispatch_canonical h _ _ _ _ fun _ _ ht => ht

theorem execPhase_form (h : Canonical s.mem.cells) (c : CoreId) (x : SArgs) : FormAfter (execPhase c x s) := by
  rw [execPhase, formAfter_next, State.notePhase_mem]
  exact State.scalar_canonical h _ _ _ _ _

theorem execCsrrd_form (h : Canonical s.mem.cells) (c : CoreId) (x : SArgs) : FormAfter (execCsrrd c x s) := by
  unfold execCsrrd
  rw [formAfter_next]
  split
  · exact State.dispatch_canonical h _ _ _ _ fun _ _ ht => ht
  · exact State.illegalWord_canonical h _ _

theorem execSbar_form (h : Canonical s.mem.cells) (c : CoreId) (x : YArgs) : FormAfter (execSbar c x s) := by
  unfold execSbar
  rw [formAfter_next]
  split
  · exact State.illegalWord_canonical h _ _
  · refine State.dispatch_canonical h _ _ _ _ fun r t ht => ?_
    dsimp only
    split
    · simpa using ht
    · split
      · simpa using ht
      · exact ht

theorem execScommit_form (h : Canonical s.mem.cells) (c : CoreId) (x : YArgs) : FormAfter (execScommit c x s) := by
  unfold execScommit
  rw [formAfter_next]
  split
  · exact State.illegalWord_canonical h _ _
  · refine State.dispatch_canonical h _ _ _ _ fun r t ht => ?_
    dsimp only
    split
    · simpa using ht
    · exact ht

theorem execSyncWaitSatisfied_form (h : Canonical s.mem.cells) (c : CoreId) (u : CoreUnit) :
    FormAfter (execSyncWaitSatisfied c u s) := by
  unfold execSyncWaitSatisfied
  dsimp only
  rw [formAfter_next]
  split
  · exact State.endWait_canonical (s := (s.unwatch (coreKey c) u).modCore _ _) h _ _
  · exact h

theorem execSlockGrant_form (h : Canonical s.mem.cells) (cluster : Fin 64) (index : Fin 4096) :
    FormAfter (execSlockGrant cluster index s) := by
  unfold execSlockGrant
  dsimp only
  rw [formAfter_next]
  split
  · exact h
  · split
    · exact h
    · split
      · split
        · exact State.endWait_canonical (by rwa [State.acquire_mem, State.unwatch_mem]) _ _
        · exact h
      · exact h

theorem execTransferGrant_form (h : Canonical s.mem.cells) (cluster : Fin 64) :
    FormAfter (execTransferGrant cluster s) := by
  unfold execTransferGrant
  dsimp only
  rw [formAfter_next]
  split
  · split
    · exact State.pump_canonical (by exact h) _ _
    · exact h
  · exact h

theorem execTloadComplete_form (h : Canonical s.mem.cells) (c : CoreId) : FormAfter (execTloadComplete c s) := by
  unfold execTloadComplete
  dsimp only
  rw [formAfter_next]
  split
  · simpa using h
  · exact State.pump_canonical (s := s.modCore _ _) h _ _
  · exact h

theorem execTstoreAcknowledged_form (h : Canonical s.mem.cells) (c : CoreId) :
    FormAfter (execTstoreAcknowledged c s) := by
  unfold execTstoreAcknowledged
  dsimp only
  rw [formAfter_next]
  split
  · simpa using h
  · exact State.pump_canonical (s := s.modCore _ _) h _ _
  · exact h

theorem execResetStuck_form (h : Canonical s.mem.cells) (scope : ResetScope) : FormAfter (execResetStuck scope s) := by
  unfold execResetStuck
  rw [formAfter_next]
  repeat' split
  all_goals simp [h]

theorem execCreditStarved_form (h : Canonical s.mem.cells) (port vc : Fin 6) :
    FormAfter (execCreditStarved port vc s) := by
  unfold execCreditStarved
  extract_lets x waits s1 again rel s2
  have h2 : Canonical s2.mem.cells := by rwa [State.withRel_mem, State.log_mem]
  clear_value again s2
  rw [formAfter_next]
  split
  · exact h
  · split
    · simp [h2]
    · exact h2

theorem execReplayStart_form (h : Canonical s.mem.cells) (c : CoreId) : FormAfter (execReplayStart c s) := by
  unfold execReplayStart
  extract_lets k s0 s1
  have h0 : Canonical s0.mem.cells := by rwa [State.noteThrottled_mem, State.notePhase_mem, State.modCore_mem]
  have h1 : Canonical s1.mem.cells := by rwa [show s1 = _ from rfl, State.ite_mem, State.coreReplaced_mem, ite_self]
  clear_value s0 s1
  rw [formAfter_next]
  split
  · exact h
  · split
    · simpa using h
    · split
      · simpa using h1
      · exact h1

theorem execTaskStart_form (h : Canonical s.mem.cells) (c : CoreId) : FormAfter (execTaskStart c s) := by
  unfold execTaskStart
  dsimp only
  rw [formAfter_next]
  split
  · split
    · exact h
    · rw [State.slotFreed_mem]
      split
      · rw [State.coreFault_mem, State.markStarted_mem, State.notePhase_mem]
        exact h
      · rw [State.markStarted_mem, State.notePhase_mem]
        exact h
  · exact h

/-! ### Tests and power -/

theorem execCalicoConditionEnd_form (h : Canonical s.mem.cells) (die : Fin 4) (r : KernelResult) (kernel : BitVec 32) :
    FormAfter (execCalicoConditionEnd die r kernel s) := by
  unfold execCalicoConditionEnd
  rw [formAfter_next]
  split
  · exact h
  · dsimp only
    split
    · rw [State.nextCond_mem, State.calicoLast_mem]
      exact h
    · rw [State.nextCond_mem, State.logTested_mem]
      exact h
    · rw [State.ite_mem, State.standBy_mem, State.endVisit_mem, State.visitFails_mem, ite_self, State.addBadCols_mem,
        State.calicoFail_mem, State.calicoLast_mem]
      exact h
    · rw [State.visitFails_mem, State.calicoFail_mem, State.calicoLast_mem]
      exact h

theorem execSelftestComplete_form (h : Canonical s.mem.cells) (fails : List FailUnit) :
    FormAfter (execSelftestComplete fails s) := by
  unfold execSelftestComplete
  rw [formAfter_next]
  split
  · exact h
  · extract_lets n s1 tap rel s2
    have h1 : Canonical s1.mem.cells :=
      State.testClears_canonical (canonical_foldl (fun t u ht => by simpa using ht) _ h) _
    have h2 : Canonical s2.mem.cells := h1
    clear_value s2
    rw [State.testStatus_mem]
    exact canonical_foldl (fun t k ht => by simpa using ht) _ h2

theorem execThermalSensorRead_form (h : Canonical s.mem.cells) (raw : List Int) :
    FormAfter (execThermalSensorRead raw s) := by
  unfold execThermalSensorRead
  extract_lets now word hottest power s1 s2 trip prev s3
  have h2 : Canonical s2.mem.cells := by rwa [State.wmLevel_mem, State.wmLevel_mem]
  have h3 : Canonical s3.mem.cells := canonical_foldl (fun t d ht => by simpa using ht) _ h2
  clear_value s2 s3
  rw [formAfter_next]
  split
  · exact h
  · split
    · exact h2
    · split
      · exact State.thermTrip_canonical _ _
      · exact canonical_foldl (fun t k ht => by simpa using ht) _ h3

theorem execStartPoint_form (h : Canonical s.mem.cells) (found : StartFindings) :
    FormAfter (execStartPoint found s) := by
  have hports : ∀ (t : State) (l : List Nat), (l.foldl (fun s p => if s.ent (Ent.portEnable p) = 1 then
      s.modPort p fun x => { x with state := 1 } else s) t).mem = t.mem := fun t l =>
    State.foldl_mem (fun t p => by rw [State.ite_mem, State.modPort_mem, ite_self]) l t
  unfold execStartPoint
  rw [formAfter_next]
  split
  · exact h
  · rw [State.judgeStart_cells, hports, State.applyTrims_mem]
    exact h

theorem execFlashRecordsApply_form (h : Canonical s.mem.cells) : FormAfter (execFlashRecordsApply s) := by
  unfold execFlashRecordsApply
  rw [formAfter_next]
  split
  · exact h
  · rw [State.withPlat_mem, State.applyRecords_cells]
    exact h

theorem execMemoryInitComplete_form (h : Canonical s.mem.cells) : FormAfter (execMemoryInitComplete s) := by
  unfold execMemoryInitComplete
  extract_lets s1 lost plat s2 s3 rel
  have h2 : Canonical s2.mem.cells := Mem.lost_wf s1.mem
  have h3 : Canonical s3.mem.cells := by rwa [State.reportResv_mem, State.reportFrames_mem]
  clear_value s3
  rw [formAfter_next]
  split
  · exact h
  · split
    · rwa [State.testStatus_mem]
    · exact h3

/-! ### Memory -/

theorem execMemoryLineRead_form (h : Canonical s.mem.cells) (at_ : LineAddr) (errs : List SymErr) (who : LineReader) :
    FormAfter (execMemoryLineRead at_ errs who s) := by
  unfold execMemoryLineRead
  extract_lets stack frame x pa
  clear_value stack frame x pa
  have hu : Canonical (s.countUncorrectable stack frame x).mem.cells := by rwa [State.countUncorrectable_cells]
  rw [formAfter_next]
  split
  · exact h
  · split
    · exact State.consumePoison_canonical h _ _
    · split
      · exact h
      · simpa using h
      · split
        · exact State.startRefill_canonical (by exact hu) _
        · exact State.consumePoison_canonical (by rwa [State.poisonLine_cells]) _ _

theorem execMemoryLineWrite_form (h : Canonical s.mem.cells) (at_ : LineAddr) (mask : Word64) (data : BitVec 512)
    (errs : List SymErr) (who : LineReader) : FormAfter (execMemoryLineWrite at_ mask data errs who s) := by
  unfold execMemoryLineWrite
  extract_lets stack frame x pa s1 s2
  have h1 : Canonical s1.mem.cells := by rwa [State.countUncorrectable_cells]
  have h2 : Canonical s2.mem.cells := by
    show Canonical (if _ then _ else _ : State).mem.cells
    split
    · exact State.startRefill_canonical h1 _
    · rwa [State.poisonLine_cells]
  clear_value stack frame x pa s2
  rw [formAfter_next]
  split
  · exact h
  · split
    · simp [h]
    · split
      · simpa using h
      · split
        · exact State.writePhys_canonical (by split <;> simp [h]) _ _
        · simpa using h2

theorem execScrubRead_form (h : Canonical s.mem.cells) (stack : Fin 16) (errs : List SymErr) :
    FormAfter (execScrubRead stack errs s) := by
  unfold execScrubRead
  rw [formAfter_next]
  split
  · exact h
  · split
    · exact h
    · next p s1 hn =>
      have h1 : Canonical s1.mem.cells := by rwa [State.scrubNext_cells s stack hn]
      dsimp only
      split
      · exact h
      · split
        · simp [h1]
        · split
          · simp [h1]
          · split
            · exact h1
            · simp [h1]

theorem execMigrationWindowEnd_form (h : Canonical s.mem.cells) : FormAfter (execMigrationWindowEnd s) := by
  unfold execMigrationWindowEnd
  dsimp only
  rw [formAfter_next]
  have hl : Canonical (if s.ent Ent.migrateEn = 0 then s else
      ((s.mem.pages.filter ownMapping).filterMap fun e => e.2.map fun p => (e.1, p)).foldl
        (fun s e => s.localPage e.1 e.2) s).mem.cells := by
    split
    · exact h
    · exact canonical_foldl (fun t e ht => by simpa using ht) _ h
  exact hl

theorem execSpareRowCopyComplete_form (h : Canonical s.mem.cells) (stack : Fin 16) (channel : Fin 128) (bank : Fin 32)
    (row : Fin 12288) : FormAfter (execSpareRowCopyComplete stack channel bank row s) := by
  unfold execSpareRowCopyComplete
  rw [formAfter_next]
  split <;> exact h

/-! ### Updates, contexts and resets -/

theorem execUpeGroup_form (h : Canonical s.mem.cells) (n : Fin 64) (record group residueFails : Nat) :
    FormAfter (execUpeGroup n record group residueFails s) := by
  unfold execUpeGroup
  dsimp only
  rw [formAfter_next]
  repeat' split
  all_goals simp [h]

theorem State.eachBound_canonical {f : State → Nat → State} (h : Canonical s.mem.cells) (n : Nat)
    (hf : ∀ t k, Canonical t.mem.cells → Canonical (f t k).mem.cells) : Canonical (s.eachBound n f).mem.cells :=
  canonical_foldl hf _ h

theorem execStepBoundary_form (h : Canonical s.mem.cells) (n : Fin 64) : FormAfter (execStepBoundary n s) := by
  have hx : ∀ (t : State) (g : Option Nat), Canonical t.mem.cells → Canonical (if ((t.exportSweep n g).ctx n).upd.stage =
      .idle then t.exportSweep n g else ((t.exportSweep n g).closeStep n g).governAt n).mem.cells := by
    intro t g ht
    have h2 := State.exportSweep_canonical ht n g
    split
    · exact h2
    · rw [State.governAt_mem]
      exact State.closeStep_canonical h2 _ _
  unfold execStepBoundary
  rw [formAfter_next]
  dsimp only
  split
  · exact h
  · split
    · simpa using h
    · exact hx _ _ (by rwa [State.ite_mem, State.setEnt_mem, ite_self])

theorem execEvalSlotSave_form (h : Canonical s.mem.cells) (n : Fin 64) : FormAfter (execEvalSlotSave n s) := by
  unfold execEvalSlotSave
  rw [formAfter_next]
  split
  · next e he =>
    split
    · exact h
    · dsimp only
      split
      · simpa using h
      · split
        · simpa using h
        · exact State.eachBound_canonical h n fun t k ht => State.saveCore_canonical ht _ _ _
  · exact h

theorem execEvalRestoreComplete_form (h : Canonical s.mem.cells) (n : Fin 64) :
    FormAfter (execEvalRestoreComplete n s) := by
  unfold execEvalRestoreComplete
  rw [formAfter_next]
  split
  · next e he =>
    split
    · exact h
    · have h1 := State.eachBound_canonical (f := fun s k => s.restoreCore n e k) h n fun t k ht => by
        rwa [State.restoreCore_mem]
      refine State.idleBoundary_canonical ?_ _
      rwa [State.slotOver_mem, State.bump_mem]
  · exact h

theorem execComputeResetComplete_form (h : Canonical s.mem.cells) : FormAfter (execComputeResetComplete s) := by
  have h1 : Canonical (s.definedParts.foldl (fun s k => (s.partContextsDone k).modPart k fun p =>
      { p with resetting := false }) s).mem.cells :=
    canonical_foldl (fun t k ht => by exact State.partContextsDone_canonical ht k) _ h
  unfold execComputeResetComplete
  extract_lets s1 rel mem host s2 s3
  have h3 : Canonical s3.mem.cells := by
    rw [State.escEnded_mem, State.log_mem, State.applyTrims_mem]
    exact h1
  clear_value s3
  rw [formAfter_next]
  split
  · exact h
  · exact canonical_foldl (fun t k ht => by simpa using ht) _ h3

theorem execTagAdvanceDelayExpiry_form (h : Canonical s.mem.cells) (n : Fin 64) :
    FormAfter (execTagAdvanceDelayExpiry n s) := by
  unfold execTagAdvanceDelayExpiry
  extract_lets old new s1
  have h1 : Canonical s1.mem.cells := h
  clear_value s1
  rw [formAfter_next]
  split
  · exact h
  · split
    · exact h1
    · exact State.resetDone_canonical h1 _

theorem execResetInputAssert_form (h : Canonical s.mem.cells) (pin : ResetPin) (ns : Nat) :
    FormAfter (execResetInputAssert pin ns s) := by
  unfold execResetInputAssert
  dsimp only
  rw [formAfter_next]
  split
  · exact h
  · split
    · exact h
    · rw [State.updateAlertN_mem]
      exact State.unpower_canonical _

theorem execResetInputRelease_form (h : Canonical s.mem.cells) (pin : ResetPin) :
    FormAfter (execResetInputRelease pin s) := by
  unfold execResetInputRelease
  dsimp only
  rw [formAfter_next]
  split <;> exact h

/-! ### Ports, messages and collectives -/

theorem execPortUp_form (h : Canonical s.mem.cells) (port : Fin 6) (coord : BitVec 16) (authentic : Bool) :
    FormAfter (execPortUp port coord authentic s) := by
  unfold execPortUp
  extract_lets init s1 s2
  have h1 : Canonical s1.mem.cells := h
  have h2 : Canonical s2.mem.cells := by rwa [State.reportCoord_mem, State.setEnt_mem]
  clear_value s1 s2
  rw [formAfter_next]
  split
  · exact h
  · split
    · exact State.downPort_canonical h1 _ _
    · split
      · exact State.miscablePort_canonical h2 _
      · rwa [State.sendQueued_mem, State.modPort_mem]

theorem execRetrainWindow_form (h : Canonical s.mem.cells) : FormAfter (execRetrainWindow s) := by
  rw [execRetrainWindow, formAfter_next]
  refine canonical_foldl (fun t p ht => ?_) _ h
  dsimp only
  split <;> exact ht

theorem execTrainingQueueTimeout_form (h : Canonical s.mem.cells) (port : Fin 6) :
    FormAfter (execTrainingQueueTimeout port s) := by
  unfold execTrainingQueueTimeout
  dsimp only
  rw [formAfter_next]
  split
  · exact State.loseMsg_canonical (s := s.setPort port _) h _
  · exact h

theorem execPortRetrainComplete_form (h : Canonical s.mem.cells) (port : Fin 6) :
    FormAfter (execPortRetrainComplete port s) := by
  unfold execPortRetrainComplete
  dsimp only
  rw [formAfter_next]
  split
  · exact h
  · rw [State.flushPort_mem]
    exact canonical_foldl (s := s.setPort port _) (fun t f ht => by simpa using ht) _ h

theorem execRefillRespMessage_form (hs : Canonical s.mem.cells) (h : MsgHeader) (lines : List (Option (BitVec 512)))
    (notNow : Bool) : FormAfter (execRefillRespMessage h lines notNow s) := by
  unfold execRefillRespMessage
  dsimp only
  rw [formAfter_next]
  split
  · simpa using hs
  · exact State.takeRefillResp_canonical hs _ _ _

theorem execCollDataPhaseStart_form (h : Canonical s.mem.cells) (n : Fin 64) (gen : Nat) :
    FormAfter (execCollDataPhaseStart n gen s) := by
  unfold execCollDataPhaseStart
  dsimp only
  rw [formAfter_next]
  split
  · split
    · exact h
    · exact State.collStart_canonical (by exact h) _ _
  · exact h

theorem execCollComplete_form (h : Canonical s.mem.cells) (n : Fin 64) : FormAfter (execCollComplete n s) := by
  unfold execCollComplete
  rw [formAfter_next]
  split
  · exact h
  · dsimp only
    split
    · exact h
    · split
      · exact h
      · next c l hl _ st hst hm =>
        have hw : ∀ b, Canonical ((s.modCtx n fun x => { x with colls := l }).writeVirt n (c.addr + 112) b).s.mem.cells :=
          fun b => State.writeVirt_canonical (by exact h) _ _ b
        split
        · simpa using hw _
        · split
          · rw [State.postTo_mem]
            split <;> exact hw _
          · split <;> exact hw _

theorem execBusMasterEnableSet_form (h : Canonical s.mem.cells) (f : Fin 17) :
    FormAfter (execBusMasterEnableSet f s) := by
  unfold execBusMasterEnableSet
  dsimp only
  rw [formAfter_next]
  split
  · exact h
  · rw [State.flushPba_mem]
    exact canonical_foldl (fun t d ht => by simpa using ht) _ (by simpa using h)

end Sys2Proof.Machine
end

section
/-!
PROOF. Every step keeps the memory of the stacks in its canonical form (R207, R239, R464).
-/

namespace Sys2Proof.Machine

open Sys2Proof

variable {s t : State}

/-- Every command leaves the memory in the form. -/
theorem exec_form (h : Canonical s.mem.cells) (i : Instr) : FormAfter (exec i s) := by
  cases i with
  | add | sub | mul | and | or | xor | shl | shr | sra | min | max | minu | maxu | ceq | cne | clt | cltu | cle | cleu
    | li | lih | adda | movas | movsa | pand | por | pxor | pnot | pset | nop =>
    exact State.scalar_canonical h _ _ _ _ _
  | mload | mswap | mstream | gatheredSubmission | mdrain | spost | spostLocal | swait | swaitLocal | slock | sunlock
    | hpush | hpushLocal | hpop | hpopLocal | vadd | vsub | vmul | vfma | vmin | vmax | vabs | vneg | vsel | vceq |
    vcne | vclt | vcle | viadd | vand | vor | vxor | vshl | vshr | vbcast | vlane | vredsum | vredmax | vrcp | vrsqrt
    | vsqrt | vexp2 | vlog2 | vexp | vln | vsigm | vtanh | vsilu | vcvt | vcvtfi | vcvtif | vrand | vdrop | vld | vst
    | sld | sldd | sst | sstd | tload | tstore | tsend | tsendVoile | wopen | wclose =>
    exact State.issue_canonical h _ _ _
  | flagrd | flagclr | drain =>
    exact State.afterEngines_canonical h _ _ _ _
  | resvWrite | voteRelease | exportHeadWrite | keyreq | shardreq | partClustersWrite | ctxClustersWrite |
    portEnableWrite | peerUpdate | ringCfgWrite | ringVerify | collDoorbellWrite | ctxReset | partReset | computeReset
    | selftestLogic | selftestMemory | selftestSlot | returnCoreSlot | returnChannelGroup | returnUpe | powerCapWrite
    | slopeWrite | govRelearn =>
    exact State.dictRequest_canonical h _ _ _
  | rowGathererFire => exact execRowGathererFire_form h _ _
  | br => exact execBr_form h _ _
  | loop => exact execLoop_form h _ _
  | endTask => exact execEnd_form h _ _
  | phase => exact execPhase_form h _ _
  | csrrd => exact execCsrrd_form h _ _
  | sbar => exact execSbar_form h _ _
  | scommit => exact execScommit_form h _ _
  | syncWaitSatisfied => exact execSyncWaitSatisfied_form h _ _
  | slockGrant => exact execSlockGrant_form h _ _
  | transferGrant => exact execTransferGrant_form h _
  | tloadComplete => exact execTloadComplete_form h _
  | tstoreAcknowledged => exact execTstoreAcknowledged_form h _
  | creditStarved => exact execCreditStarved_form h _ _
  | resetStuck => exact execResetStuck_form h _
  | replayStart => exact execReplayStart_form h _
  | calicoConditionEnd => exact execCalicoConditionEnd_form h _ _ _
  | memoryLineRead => exact execMemoryLineRead_form h _ _ _
  | memoryLineWrite => exact execMemoryLineWrite_form h _ _ _ _ _
  | scrubRead => exact execScrubRead_form h _ _
  | migrationWindowEnd => exact execMigrationWindowEnd_form h
  | alloc => exact execAlloc_form h _ _
  | free => exact execFree_form h _ _
  | shareRo => exact execShareRo_form h _ _
  | replReg => exact execReplReg_form h _ _
  | replUnreg => exact execReplUnreg_form h _ _
  | migrate => exact execMigrate_form h _ _
  | upeGroup => exact execUpeGroup_form h _ _ _ _
  | stepBoundary => exact execStepBoundary_form h _
  | taskStart => exact execTaskStart_form h _
  | evalSlotSave => exact execEvalSlotSave_form h _
  | evalRestoreComplete => exact execEvalRestoreComplete_form h _
  | portUp => exact execPortUp_form h _ _ _
  | retrainWindow => exact execRetrainWindow_form h
  | trainingQueueTimeout => exact execTrainingQueueTimeout_form h _
  | refillRespMessage => exact execRefillRespMessage_form h _ _ _
  | collDataPhaseStart => exact execCollDataPhaseStart_form h _ _
  | collComplete => exact execCollComplete_form h _
  | computeResetComplete => exact execComputeResetComplete_form h
  | tagAdvanceDelayExpiry => exact execTagAdvanceDelayExpiry_form h _
  | resetInputAssert => exact execResetInputAssert_form h _ _
  | busMasterEnableSet => exact execBusMasterEnableSet_form h _
  | selftestComplete => exact execSelftestComplete_form h _
  | thermalSensorRead => exact execThermalSensorRead_form h _
  | startPoint => exact execStartPoint_form h _
  | flashRecordsApply => exact execFlashRecordsApply_form h
  | memoryInitComplete => exact execMemoryInitComplete_form h
  | resetInputRelease => exact execResetInputRelease_form h _
  | portRetrainComplete => exact execPortRetrainComplete_form h _
  | spareRowCopyComplete => exact execSpareRowCopyComplete_form h _ _ _ _
  | gatherTimeout | illegalInstruction | periodChange | segmentCommit | postBufferRelease | handleWaitSatisfied |
    tsendAcknowledged | remoteWriteArrival | seqStall | qheadStall | waitTimeout | heartbeat | collStall | segmentLong
    | spareSubstitution | calicoVisitStart | diagnosisVisit | edgeModuleLaneLoss | edgeRetrainComplete |
    refillHoldTimeout | pageMigrationComplete | mqFetch | updateTrigger | prePassEnd | normReceive | normTimeout |
    digestReceive | voteTimeout | exportSpillDrain | shardExportComplete | ctxCreate | ctxDestroy | cqTailWrite |
    descriptorFetch | descriptorReadCompletion | seqRun | seqStop | seqPassStart | seqEntryIssue | evalSlotRun |
    evalBudgetExpiry | evalSlotEnd | portDown | laneDrop | laneReadd | flitReceive | replayRequest | writeMessage |
    voileMessage | postMessage | ackMessage | ackTimeout | refillReqMessage | ringVerifyToken | ringVerifyTimeout |
    timeExchange | timeMessage | gtHoldoverExpiry | collectiveIssue | openingToken | abortToken | collMessage |
    contextResetComplete | partitionResetComplete | resetHeld | functionLevelReset | busMasterEnableClear |
    pcieLinkDown | apertureRead | apertureWrite | mqTailWrite | mqBaseWrite | syncSet | syncHostPost | syncConfigWrite
    | armSlotWrite | dictRead | dictWrite | registerWrite | watermarkMarkWrite | returnComplete | powerSample |
    rampGridInstant | ivrPhase | mainRailApply | mainRailLoss | auxRailRise | auxRailLoss | refclkLoss |
    managementBootComplete | devReady | startupStepStuck | firmwareUpdate | pldmSensorRead | getVersion |
    getCapabilities | negotiateAlgorithms | getDigests | getCertificate | challenge | getMeasurements | extest |
    samplePreload | idcode | clamp | highz | netSel | bypass | tapReset | sibUpdate | lbistStart | ioBistStart |
    mbStart | portTraining | pcieLinkUp | hostInterfaceConfigLoaded | flashEntryWritten =>
    refine (formAfter_next _).2 ?_
    repeat' split
    all_goals simp [h]

/-- Settles O4, by cases on what the step does: each command leaves the memory in the form, and so does a nanosecond of an
idle step. -/
theorem memoryStaysCanonical : Obligations.MemoryStaysCanonical := by
  unfold Obligations.MemoryStaysCanonical
  intro s t h hstep
  have hc : Canonical s.mem.cells := h
  unfold step at hstep
  split at hstep
  · next i rest _ =>
    have hf := exec_form (s := { s with pending := rest }) hc i
    rw [hstep] at hf
    exact hf
  · cases hstep
    exact State.tick_canonical hc

end Sys2Proof.Machine
end

section
/-!
PROOF. Requests of memory, updates, export and collectives through the dictionary (R240, R276, R277, R280, R300, R332,
R353, R368, R449).
-/

namespace Sys2Proof.Machine

open Sys2Proof

variable {s t : State} {port : DictPort} {key v : Nat} {data : List Byte} {r : ERow}

/-! ### A request and its answer -/

/-- A number of n bytes is what its bytes spell. -/
theorem leNat_leBytes {n v : Nat} (h : v < 256 ^ n) : leNat (leBytes n v) = v := by
  induction n generalizing v with
  | zero => simp_all [leBytes, leNat]
  | succ n ih =>
    have hd : v / 256 < 256 ^ n := Nat.div_lt_of_lt_mul (by rwa [Nat.pow_succ, Nat.mul_comm] at h)
    have hl : leBytes (n + 1) v = BitVec.ofNat 8 v :: leBytes n (v / 256) := by
      simp [leBytes, List.range_succ_eq_map, Function.comp_def, Nat.pow_succ, Nat.div_div_eq_div_mul, Nat.mul_comm]
    rw [hl, leNat, ih hd]
    simp only [BitVec.toNat_ofNat]
    omega

theorem State.dictAnswer_dict (t : State) (port : DictPort) (op : Nat) (sent : List Byte) (code : Nat) (data : List
    Byte) :
    (t.dictAnswer port op sent code data).dict = t.dict := by cases port <;> rfl

theorem State.dictAnswer_live (t : State) (port : DictPort) (op : Nat) (sent : List Byte) (code : Nat) (data : List
    Byte) :
    (t.dictAnswer port op sent code data).live = t.live := by cases port <;> rfl

theorem State.dictAnswer_ctxs (t : State) (port : DictPort) (op : Nat) (sent : List Byte) (code : Nat) (data : List
    Byte) :
    (t.dictAnswer port op sent code data).ctxs = t.ctxs := by cases port <;> rfl

theorem State.dictAnswer_sync (t : State) (port : DictPort) (op : Nat) (sent : List Byte) (code : Nat) (data : List
    Byte) :
    (t.dictAnswer port op sent code data).sync = t.sync := by cases port <;> rfl

theorem State.dictAnswer_rel (t : State) (port : DictPort) (op : Nat) (sent : List Byte) (code : Nat) (data : List Byte) :
    (t.dictAnswer port op sent code data).rel = t.rel := by cases port <;> rfl

section
variable (t : State) (port : DictPort) (key : Nat) (data : List Byte)

@[simp] theorem State.answerOk_ent (k : Nat) : (t.answerOk port key data).ent k = t.ent k :=
  State.ent_congr (State.dictAnswer_dict t _ _ _ _ _) k

@[simp] theorem State.answerOk_entBit (k b : Nat) : (t.answerOk port key data).entBit k b = t.entBit k b := by
  rw [State.entBit, State.answerOk_ent, State.entBit]

@[simp] theorem State.answerOk_mem : (t.answerOk port key data).mem = t.mem := State.dictAnswer_mem t _ _ _ _ _

@[simp] theorem State.answerOk_live : (t.answerOk port key data).live = t.live := State.dictAnswer_live t _ _ _ _ _

@[simp] theorem State.answerOk_ctxs : (t.answerOk port key data).ctxs = t.ctxs := State.dictAnswer_ctxs t _ _ _ _ _

@[simp] theorem State.answerOk_ctx (n : Nat) : (t.answerOk port key data).ctx n = t.ctx n := by
  rw [State.ctx, State.answerOk_ctxs, State.ctx]

@[simp] theorem State.answerOk_word (k : Nat) : (t.answerOk port key data).word k = t.word k :=
  congrArg (fun y : Sync => SMap.get (fun _ => SyncWord.zero) y.words k) (State.dictAnswer_sync t _ _ _ _ _)

@[simp] theorem State.answerOk_rel : (t.answerOk port key data).rel = t.rel := State.dictAnswer_rel t _ _ _ _ _

end

/-- An accepted request has its effect, and the answer OK (R442). -/
theorem Accepted.dictRequest (h : Accepted s port key data) (hr : Catalog.row key = some r) :
    s.dictRequest port key data = (s.dictApply port r key (leNat data)).answerOk port key data := by
  obtain ⟨hopen, hcheck⟩ := h
  simp only [State.dictRequest, hopen, State.dictWriteAt, hcheck, hr]
  rfl

/-! ### The effects of the requests -/

/-- The entries of Table 17.x whose writes have effects of their own. -/
def ownEffects : List Nat := [0x1002, 0x1010, 0x4000, 0x4002, 0x4014, 0x5000, 0x5002, 0x5010, 0x5011, 0x5021,
  0x5070, 0x5071, 0x5094, 0x5095, 0x7003, 0x7012, 0x7014, 0x7024, 0x7030, 0x8000, 0x8034, 0x9027, 0xA000, 0xA010]

/-- An entry of no own effect takes the write that its access asks for. -/
theorem State.dictApply_of_not_mem (h : key / 256 ∉ ownEffects) : s.dictApply port r key v =
    if r.acc == .w1c then s.writeOnes key v
    else if r.acc == .rwl then s.writeLive key v
    else if r.acc == .rws then s.writeStatic key v r.size
    else if r.acc == .wo then s
    else if key % 256 == 2 && [0x4030, 0x4031, 0x4032, 0x6030, 0x6031, 0x6032].contains (key / 256) then
      (if key / 256 = 0x6030 then s.setEnt (256 * 0x6030 + 1) s.correctedRate else s).wmMark (key / 256) v
    else s.setEnt key v := by
  unfold State.dictApply
  dsimp only
  split
  case h_25 => rfl
  all_goals exact absurd (by simp [*, ownEffects]) h

theorem row_resv (n : Fin 64) : (Catalog.row (Ent.resv n)).map (fun r => (r.acc, r.scope)) = some (.rwl, .ctx) := by
  revert n
  decide +kernel

theorem row_exportHead (n : Fin 64) : (Catalog.row (Ent.exportHead n)).map (·.acc) = some .rw := by
  revert n
  decide +kernel

theorem row_collDoorbell (n : Fin 64) : (Catalog.row (Ent.collDoorbell n)).map (·.acc) = some .rws := by
  revert n
  decide +kernel

theorem row_voteRelease (n : Fin 64) : (Catalog.row (Ent.voteRelease n)).isSome = true := by
  revert n
  decide +kernel

theorem row_exportCtl (n : Fin 64) : (Catalog.row (Ent.exportCtl n)).isSome = true := by
  revert n
  decide +kernel

theorem State.dictApply_voteRelease (n : Fin 64) : s.dictApply port r (Ent.voteRelease n) v =
    if v = 1 then s.voteRelease n else s := by
  have hi : Ent.voteRelease n / 256 = 0x8034 := by simp only [Ent.voteRelease]; omega
  have hn : Ent.voteRelease n % 256 - 1 = n := by simp only [Ent.voteRelease]; omega
  simp only [State.dictApply, hi, hn]

theorem State.dictApply_exportCtl (n : Fin 64) : s.dictApply port r (Ent.exportCtl n) v = s.exportCtlWrite n v := by
  have hi : Ent.exportCtl n / 256 = 0x9027 := by simp only [Ent.exportCtl]; omega
  have hn : Ent.exportCtl n % 256 - 1 = n := by simp only [Ent.exportCtl]; omega
  simp only [State.dictApply, hi, hn]

/-! ### Reservations -/

theorem State.retryRefills_none (h : s.mem.refills = []) (n : Nat) : s.retryRefills n = s := by
  simp [State.retryRefills, h, State.askRefills]

theorem State.applyLive_single (n : Fin 64) {v : Nat} {r : ERow} (hl : s.live = [(Ent.resv n, some v)])
    (hr : Catalog.row (Ent.resv n) = some r) (hs : r.scope = .ctx) :
    s.applyLive n = State.reportResv (State.setEnt { s with live := [] } (Ent.resv n) v) := by
  have hn : Ent.resv n % 256 = n + 1 := by simp only [Ent.resv]; omega
  have hi : Ent.resv n / 256 = 0x6010 := by simp only [Ent.resv]; omega
  have hd : s.dueLive n = [(Ent.resv n, v)] := by simp [State.dueLive, hl, hr, hs, hn]
  simp [State.applyLive, hd, hl, State.applyLive1, hi]

theorem State.reportResv_ent (s : State) {k : Nat} (h : ∀ d < 4, k ≠ Ent.resvPeak d ∧ k ≠ Ent.resvSum d) :
    s.reportResv.ent k = s.ent k := by
  have hf : ∀ (l : List Nat) (t : State), (∀ d ∈ l, d < 4) → (l.foldl (fun s d =>
      (s.setEnt (Ent.resvPeak d) (diePeak (s.dieGroups d))).setEnt (Ent.resvSum d)
        ((List.range 64).foldl (fun a n => a + s.entBits (Ent.resv n) (16 * d) 16) 0)) t).ent k = t.ent k := by
    intro l
    induction l with
    | nil => exact fun _ _ => rfl
    | cons d l ih =>
      intro t hl
      obtain ⟨hpeak, hsum⟩ := h d (hl d (List.mem_cons_self ..))
      rw [List.foldl_cons, ih _ fun x hx => hl x (List.mem_cons_of_mem _ hx), State.ent_setEnt_ne _ _ hsum,
        State.ent_setEnt_ne _ _ hpeak]
  exact hf _ s fun d hd => List.mem_range.1 hd

theorem State.reportResv_live (s : State) : s.reportResv.live = s.live := by
  simp [State.reportResv, List.range_succ]

/-- The write of a reservation waits as a live value, or is in force at once at the boundary of its context (R240,
R300). -/
theorem State.writeLive_resv (n : Fin 64) (hv : s.ctxValid n = true) (hl : s.live = []) (hm : s.mem.refills = []) :
    (s.writeLive (Ent.resv n) v).mem = s.mem ∧
      (s.atBoundary n = true → (s.writeLive (Ent.resv n) v).ent (Ent.resv n) = v ∧
        (s.writeLive (Ent.resv n) v).live = []) ∧
      (s.atBoundary n = false → (s.writeLive (Ent.resv n) v).ent (Ent.resv n) = s.ent (Ent.resv n) ∧
        (s.writeLive (Ent.resv n) v).live = [(Ent.resv n, some v)]) := by
  obtain ⟨r, hr, hacc⟩ := Option.map_eq_some_iff.1 (row_resv n)
  have hs : r.scope = .ctx := (Prod.mk.inj hacc).2
  have hn : Ent.resv n % 256 - 1 = n := by simp only [Ent.resv]; omega
  have hne : ∀ d < 4, Ent.resv n ≠ Ent.resvPeak d ∧ Ent.resv n ≠ Ent.resvSum d := fun d hd => by
    simp only [Ent.resv, Ent.resvPeak, Ent.resvSum]; omega
  let u : State := { s with live := [(Ent.resv n, some v)] }
  have hw : s.writeLive (Ent.resv n) v = if s.ctxValid n && s.atBoundary n then (u.applyLive n).retryRefills n else u :=
      by
    simp only [State.writeLive, hr, hs, hn, hl]
    rfl
  have hu : u.applyLive n = State.reportResv (s.setEnt (Ent.resv n) v) := by
    have hs0 : ({ s with live := [] } : State) = s := by rw [← hl]
    rw [State.applyLive_single n rfl hr hs]
    exact congrArg (fun x : State => State.reportResv (x.setEnt (Ent.resv n) v)) hs0
  have hr0 : (State.reportResv (s.setEnt (Ent.resv n) v)).retryRefills n = State.reportResv (s.setEnt (Ent.resv n) v) :=
    State.retryRefills_none (by rwa [State.reportResv_mem]) n
  rw [hw, hu, hr0]
  cases hb : s.atBoundary n with
  | true =>
    simp [hv, hl, State.reportResv_live, State.reportResv_ent _ hne]
  | false =>
    have hlive : u.live = [(Ent.resv n, some v)] := rfl
    have hent : u.ent (Ent.resv n) = s.ent (Ent.resv n) := rfl
    have hmem : u.mem = s.mem := rfl
    simp [hlive, hent, hmem]

/-! ### Votes -/

theorem foldl_keeps {α β : Type} {f : State → α → State} {g : State → β} (hf : ∀ s a, g (f s a) = g s) (l : List α)
    (s : State) : g (l.foldl f s) = g s := by
  induction l generalizing s with
  | nil => rfl
  | cons a l ih => exact (ih _).trans (hf s a)

theorem State.testArms_ctxs (s : State) (k : Nat) : (s.testArms k).ctxs = s.ctxs := by
  unfold State.testArms
  split
  · rfl
  · refine foldl_keeps (g := State.ctxs) (fun s i => ?_) _ s
    dsimp only
    split
    · split
      · split
        · exact (Reports.msix _ _ _).ctxs
        · rfl
      · rfl
    · rfl

theorem State.addWordFor_ctxs (s : State) (key inc : Nat) (who : Option (Nat × Nat)) :
    (s.addWordFor key inc who).ctxs = s.ctxs := by
  have hlog : ∀ u : State, (u.logSaturated key who).ctxs = u.ctxs := fun u => by
    cases who with
    | none => exact (Reports.logPart _ _ _ _).ctxs
    | some p => exact (Reports.logCore _ _ _ _ _).ctxs
  have hchanged : ∀ u : State, (u.wordChanged key).ctxs = u.ctxs := fun u => by
    unfold State.wordChanged
    split
    · exact State.testArms_ctxs u _
    · rfl
  unfold State.addWordFor
  rw [hchanged]
  split
  · exact hlog _
  · rfl

theorem State.nextSlotDue_ctx (s : State) (n : Nat) : ((s.nextSlotDue n).ctx n).vote = (s.ctx n).vote ∧
    ((s.nextSlotDue n).ctx n).upd = (s.ctx n).upd := by
  unfold State.nextSlotDue
  split
  · rw [State.ctx_modCtx]
    exact ⟨rfl, rfl⟩
  · exact ⟨rfl, rfl⟩

theorem State.nextSlotDue_sync (s : State) (n : Nat) : (s.nextSlotDue n).sync = s.sync := by
  unfold State.nextSlotDue
  split <;> rfl

theorem State.markBoundary_ctxs (s : State) (n : Nat) : (s.markBoundary n).ctxs = s.ctxs := by
  unfold State.markBoundary
  dsimp only
  split <;> rfl

theorem State.markBoundary_sync (s : State) (n : Nat) : (s.markBoundary n).sync = s.sync := by
  unfold State.markBoundary
  dsimp only
  split <;> rfl

/-- The end of a step posts its DONE, and leaves the votes of its context (R270). -/
theorem State.finishStep_spec (n : Fin 64) {word : Nat} (hq : (s.ctx n).upd.queued = 0)
    (hk : s.syncKey (s.ctxPart n) (s.entBits (Ent.updDone n) 0 18) = some word) (step : Nat) :
    ((s.finishStep n step).ctx n).vote = (s.ctx n).vote ∧
      ((s.finishStep n step).word word).value = sat64 ((s.word word).value + 1) := by
  have hpost : s.postTo (s.ctxPart n) (s.entBits (Ent.updDone n) 0 18) 1 = s.addWordFor word 1 none := by
    simp only [State.postTo, hk, State.addWord]
  let u := s.addWordFor word 1 none
  let w := (u.modCtx n fun c => { c with evalDue := u.slotsDue n step }).nextSlotDue n
  have hu : u.ctx n = s.ctx n := by simp only [State.ctx, u, State.addWordFor_ctxs]
  obtain ⟨hvote, hupd⟩ := State.nextSlotDue_ctx (u.modCtx n fun c => { c with evalDue := u.slotsDue n step }) n
  rw [State.ctx_modCtx, hu] at hvote hupd
  have hf : s.finishStep n step = w.markBoundary n := by
    have hq' : (w.ctx n).upd.queued = 0 := (congrArg Upd.queued hupd).trans hq
    simp only [State.finishStep, hpost]
    change (w.markBoundary n).nextStep n (w.ctx n).upd.queued = _
    rw [hq', State.nextStep]
  have hctx : (w.markBoundary n).ctx n = w.ctx n := by simp only [State.ctx, State.markBoundary_ctxs]
  have hsync : (w.markBoundary n).sync = u.sync := (State.markBoundary_sync w n).trans (State.nextSlotDue_sync _ n)
  rw [hf, hctx]
  refine ⟨hvote, congrArg SyncWord.value ((KeepsWords.addWordFor s word 1 none).setWord_sync hsync).1⟩

/-! ### The export registers -/

theorem State.exportCtlWrite_key (n : Nat) : s.exportCtlWrite n 1 = s.setEntBit (Ent.exportCtl n) 0 true := by
  have h0 : Nat.testBit 1 0 = true := rfl
  have h1 : Nat.testBit 1 1 = false := rfl
  simp [State.exportCtlWrite, h0, h1]

theorem State.exportCtlWrite_shard {n : Nat} (h : s.entBit (Ent.exportCtl n) 1 = false) :
    s.exportCtlWrite n 2 = (s.setEntBit (Ent.exportCtl n) 1 true).modExp n fun e =>
      if s.stepOpen n then { e with held := true } else { e with shard := true } := by
  have h0 : Nat.testBit 2 0 = false := rfl
  have h1 : Nat.testBit 2 1 = true := rfl
  simp [State.exportCtlWrite, h0, h1, h]

theorem testBit_putBits_low (v : Nat) : (putBits v 0 1 1).testBit 1 = v.testBit 1 := by
  have h : (putBits v 0 1 1) / 2 = v / 2 := by
    simp only [putBits, bitsAt, Nat.pow_zero, Nat.pow_one, Nat.div_one, Nat.mul_one]
    omega
  rw [Nat.testBit_succ, Nat.testBit_succ, h]

theorem State.entBit_setEntBit_on (s : State) (k b : Nat) : (s.setEntBit k b true).entBit k b = true := by
  rw [State.entBit, State.setEntBit, State.setEntBits, State.ent_setEnt]
  exact testBit_putBits_one _ _

theorem State.entBit_setEntBit_low (s : State) (k : Nat) : (s.setEntBit k 0 true).entBit k 1 = s.entBit k 1 := by
  rw [State.entBit, State.setEntBit, State.setEntBits, State.ent_setEnt]
  exact testBit_putBits_low _

/-! ### Watermarks -/

/-- From s to t nothing changed but the reports of a crossing: entries other than those of the log, of the alerts and the
count `count`, and which watermarks are crossed, stay. -/
structure Crossing (s t : State) (count : Nat) : Prop where
  ent : ∀ k, k ≠ Ent.logHead → k ≠ Ent.logLost → k ≠ Ent.alertStatus → k ≠ count → t.ent k = s.ent k
  beyond : t.rel.beyond = s.rel.beyond

namespace Crossing

variable {u : State} {c : Nat}

theorem refl (s : State) (c : Nat) : Crossing s s c := ⟨fun _ _ _ _ _ => rfl, rfl⟩

theorem trans (h : Crossing s t c) (h' : Crossing t u c) : Crossing s u c :=
  ⟨fun k hh hl ha hc => (h'.ent k hh hl ha hc).trans (h.ent k hh hl ha hc), h'.beyond.trans h.beyond⟩

theorem of_dict (hd : t.dict = s.dict) (hr : t.rel = s.rel) : Crossing s t c :=
  ⟨fun k _ _ _ _ => State.ent_congr hd k, by rw [hr]⟩

theorem bump (s : State) (c : Nat) : Crossing s (s.bump c) c :=
  ⟨fun _ _ _ _ hc => State.ent_bumpBy_ne s 1 hc, rfl⟩

theorem cause (s : State) (f b : Nat) : Crossing s (s.cause f b) c :=
  of_dict (State.cause_dict s f b) (State.cause_rel s f b)

theorem log (s : State) (code : Nat) (args : List Nat) : Crossing s (s.log code args) c :=
  ⟨fun _ hh hl _ _ => State.ent_logRec s _ hh hl, by
    unfold State.log State.logRec
    dsimp only
    split_ifs <;> simp only [State.cause_rel] <;> rfl⟩

theorem notify (s : State) (code key : Nat) : Crossing s (s.notify code key none) c := by
  have h1 : Crossing s (if s.ent Ent.notifyEn = 0 then s
      else s.emit (.notify (key / 256) (key % 256) s.gtime.count (s.ent Ent.alertStatus))) c := by
    split
    · exact refl s c
    · exact of_dict rfl rfl
  exact (h1.trans (cause _ 0 2)).trans (log _ _ _)

theorem updateAlertN (s : State) : Crossing s s.updateAlertN c := by
  unfold State.updateAlertN
  dsimp only
  split
  · exact of_dict (State.cause_dict _ _ _) (State.cause_rel _ _ _)
  · exact of_dict rfl rfl

theorem alert (s : State) (b : Nat) : Crossing s (s.alert b) c := by
  unfold State.alert State.alertFor
  split
  · exact refl s c
  · have h1 : Crossing s (s.setEntBit Ent.alertStatus b true) c :=
      ⟨fun k _ _ ha _ => State.ent_setEnt_ne s _ ha, rfl⟩
    exact (h1.trans (updateAlertN _)).trans (notify _ _ _)

end Crossing

/-- A mark restarts its watermark and judges the level (R449). -/
theorem State.wmMark_spec (s : State) {index : Nat} (mark : Nat) (hi : 0x4030 ≤ index ∧ index ≤ 0x6032) :
    let level := s.ent (256 * index + 1)
    let beyond := if wmFalls index then level < mark else mark < level
    let t := s.wmMark index mark
    t.ent (256 * index + 1) = level ∧ t.ent (256 * index + 2) = mark ∧
      SMap.get (fun _ => false) t.rel.beyond index = decide beyond ∧ (beyond → t.ent (256 * index + 3) = 1) ∧
      (¬ beyond → t.ent (256 * index + 3) = s.ent (256 * index + 3) ∧ t.rel.log = s.rel.log) := by
  intro level beyond t
  let u : State := { s.setEnt (256 * index + 2) mark with
    rel := { s.rel with beyond := SMap.set (fun _ => false) s.rel.beyond index false } }
  have hlevel : u.ent (256 * index + 1) = level := State.ent_setEnt_ne s _ (by omega)
  have hmark : u.ent (256 * index + 2) = mark := State.ent_setEnt s _ _
  have hcrossed : u.ent (256 * index + 3) = s.ent (256 * index + 3) := State.ent_setEnt_ne s _ (by omega)
  have hwas : SMap.get (fun _ => false) u.rel.beyond index = false :=
    SMap.get_set_same (fun _ => false) s.rel.beyond index false
  have hnow : (if wmFalls index then Nat.blt level mark else Nat.blt mark level) = decide beyond := by
    rw [Bool.eq_iff_iff, decide_eq_true_iff]
    simp only [beyond]
    split <;> exact Iff.of_eq Nat.blt_eq
  let v : State := { u with rel := { u.rel with beyond := SMap.set (fun _ => false) u.rel.beyond index (decide beyond) } }
  have hv : SMap.get (fun _ => false) v.rel.beyond index = decide beyond :=
    SMap.get_set_same (fun _ => false) u.rel.beyond index (decide beyond)
  let w := ((v.setEnt (256 * index + 3) 1).bump (256 * index + 4)).notify Code.watermark (256 * index + 3) none
  have ht : t = if decide beyond then (if w.entBit Ent.wmAlert (wmBit index) then w.alert 6 else w) else v := by
    change u.wmJudge index = _
    simp only [State.wmJudge, hlevel, hmark, hwas, hnow, Bool.not_false, Bool.and_true]
    rfl
  by_cases hb : beyond
  · have hc : Crossing (v.setEnt (256 * index + 3) 1) t (256 * index + 4) := by
      have hw := (Crossing.bump (v.setEnt (256 * index + 3) 1) (256 * index + 4)).trans
        (Crossing.notify _ Code.watermark (256 * index + 3))
      rw [ht, if_pos (decide_eq_true hb)]
      split
      · exact hw.trans (Crossing.alert w 6)
      · exact hw
    have hent : ∀ j, j < 4 → t.ent (256 * index + j) = (v.setEnt (256 * index + 3) 1).ent (256 * index + j) := fun j hj =>
      hc.ent _ (by simp only [Ent.logHead]; omega) (by simp only [Ent.logLost]; omega)
        (by simp only [Ent.alertStatus]; omega) (by omega)
    refine ⟨?_, ?_, ?_, fun _ => ?_, fun h => absurd hb h⟩
    · rw [hent 1 (by omega), State.ent_setEnt_ne _ _ (by omega)]
      exact hlevel
    · rw [hent 2 (by omega), State.ent_setEnt_ne _ _ (by omega)]
      exact hmark
    · rw [hc.beyond]
      exact hv
    · rw [hent 3 (by omega), State.ent_setEnt]
  · rw [ht, if_neg (by simpa using hb)]
    exact ⟨hlevel, hmark, hv, fun h => absurd h hb, fun _ => ⟨hcrossed, rfl⟩⟩

/-! ### The doorbell of the collectives -/

theorem State.writeStatic_collDoorbell (n : Fin 64) {size word : Nat} (hc : (s.ctx n).colls = [])
    (hk : s.syncKey (s.ctxPart n) (bitsAt v 0 18) = some word) :
    s.writeStatic (Ent.collDoorbell n) v size = (s.setEnt (Ent.collDoorbell n) v).setEnt (Ent.collDbBase n)
      (s.word word).value := by
  have hn : Ent.collDoorbell n % 256 - 1 = n := by simp only [Ent.collDoorbell]; omega
  have hi : Ent.collDoorbell n / 256 = 0x7042 := by simp only [Ent.collDoorbell]; omega
  have hpart : (s.setEnt (Ent.collDoorbell n) v).ctxPart n = s.ctxPart n := by
    rw [State.ctxPart, State.entBits, State.ent_setEnt_ne _ _ (by simp only [Ent.collDoorbell, Ent.ctxDef]; omega)]
    rfl
  have hlt : s.ctxPart n < 16 := Nat.mod_lt _ (by decide)
  have hkey : (s.setEnt (Ent.collDoorbell n) v).syncKey (s.ctxPart n) (bitsAt v 0 18) = some word := by
    rwa [State.syncKey, State.globalCluster, State.partClusters,
      State.ent_setEnt_ne _ _ (by simp only [Ent.collDoorbell, Ent.partClusters]; omega)]
  have hword : (s.setEnt (Ent.collDoorbell n) v).word word = s.word word := rfl
  simp [State.writeStatic, hn, hi, hc, hpart, hkey, hword, State.entBits]

/-! ### The requests -/

section
variable {n : Fin 64} {v : Word64} {d m : BitVec 32} {index : BitVec 16}

theorem exec_resvWrite (h : Accepted s port (Ent.resv n) (leBytes 8 v.toNat)) : exec (.resvWrite port n v) s =
    .next ((s.writeLive (Ent.resv n) v.toNat).answerOk port (Ent.resv n) (leBytes 8 v.toNat)) := by
  obtain ⟨r, hr, hacc⟩ := Option.map_eq_some_iff.1 (row_resv n)
  have hi : Ent.resv n / 256 = 0x6010 := by simp only [Ent.resv]; omega
  have ha : r.acc = .rwl := (Prod.mk.inj hacc).1
  change Host.Outcome.next (s.dictRequest _ _ _) = _
  rw [h.dictRequest hr, State.dictApply_of_not_mem (by rw [hi]; decide), leNat_leBytes v.isLt, ha]
  rfl

theorem exec_voteRelease (h : Accepted s port (Ent.voteRelease n) [1#8]) : exec (.voteRelease port n) s =
    .next ((s.voteRelease n).answerOk port (Ent.voteRelease n) [1#8]) := by
  obtain ⟨r, hr⟩ := Option.isSome_iff_exists.1 (row_voteRelease n)
  change Host.Outcome.next (s.dictRequest _ _ _) = _
  rw [h.dictRequest hr, State.dictApply_voteRelease, if_pos (by decide)]

theorem exec_exportHeadWrite (h : Accepted s port (Ent.exportHead n) (leBytes 8 v.toNat)) :
    exec (.exportHeadWrite port n v) s =
      .next ((s.setEnt (Ent.exportHead n) v.toNat).answerOk port (Ent.exportHead n) (leBytes 8 v.toNat)) := by
  obtain ⟨r, hr, ha⟩ := Option.map_eq_some_iff.1 (row_exportHead n)
  have hi : Ent.exportHead n / 256 = 0x9023 := by simp only [Ent.exportHead]; omega
  change Host.Outcome.next (s.dictRequest _ _ _) = _
  rw [h.dictRequest hr, State.dictApply_of_not_mem (by rw [hi]; decide), leNat_leBytes v.isLt, ha, hi]
  simp

theorem exec_keyreq (h : Accepted s port (Ent.exportCtl n) [1#8]) : exec (.keyreq port n) s =
    .next ((s.exportCtlWrite n 1).answerOk port (Ent.exportCtl n) [1#8]) := by
  obtain ⟨r, hr⟩ := Option.isSome_iff_exists.1 (row_exportCtl n)
  change Host.Outcome.next (s.dictRequest _ _ _) = _
  rw [h.dictRequest hr, State.dictApply_exportCtl]
  rfl

theorem exec_shardreq (h : Accepted s port (Ent.exportCtl n) [2#8]) : exec (.shardreq port n) s =
    .next ((s.exportCtlWrite n 2).answerOk port (Ent.exportCtl n) [2#8]) := by
  obtain ⟨r, hr⟩ := Option.isSome_iff_exists.1 (row_exportCtl n)
  change Host.Outcome.next (s.dictRequest _ _ _) = _
  rw [h.dictRequest hr, State.dictApply_exportCtl]
  rfl

theorem exec_collDoorbellWrite (h : Accepted s port (Ent.collDoorbell n) (leBytes 4 d.toNat)) :
    ∃ size, exec (.collDoorbellWrite port n d) s =
      .next ((s.writeStatic (Ent.collDoorbell n) d.toNat size).answerOk port (Ent.collDoorbell n) (leBytes 4 d.toNat))
          := by
  obtain ⟨r, hr, ha⟩ := Option.map_eq_some_iff.1 (row_collDoorbell n)
  have hi : Ent.collDoorbell n / 256 = 0x7042 := by simp only [Ent.collDoorbell]; omega
  refine ⟨r.size, ?_⟩
  change Host.Outcome.next (s.dictRequest _ _ _) = _
  rw [h.dictRequest hr, State.dictApply_of_not_mem (by rw [hi]; decide), leNat_leBytes d.isLt, ha]
  rfl

/-- The indexes of the watermarks (R449). -/
def wmIndexes : List Nat := [0x4030, 0x4031, 0x4032, 0x6030, 0x6031, 0x6032]

theorem row_wmMark : ∀ i ∈ wmIndexes, (Catalog.row (256 * i + 2)).map (·.acc) = some .rw := by decide +kernel

theorem request_watermarkMarkWrite {x : DictPort × Nat × List Byte}
    (h : request (.watermarkMarkWrite port index m) = some x) :
    index.toNat ∈ wmIndexes ∧ x = (port, 256 * index.toNat + 2, leBytes 4 m.toNat) := by
  simp only [request] at h
  split at h
  · next hi => exact ⟨List.contains_iff_mem.1 hi, (Option.some.inj h).symm⟩
  · cases h

theorem exec_watermarkMarkWrite (hw : index.toNat ∈ wmIndexes)
    (h : Accepted s port (256 * index.toNat + 2) (leBytes 4 m.toNat)) : exec (.watermarkMarkWrite port index m) s =
      .next (((if index.toNat = 0x6030 then s.setEnt (256 * 0x6030 + 1) s.correctedRate else s).wmMark index.toNat
        m.toNat).answerOk port (256 * index.toNat + 2) (leBytes 4 m.toNat)) := by
  obtain ⟨r, hr, ha⟩ := Option.map_eq_some_iff.1 (row_wmMark _ hw)
  have hi : (256 * index.toNat + 2) / 256 = index.toNat := by omega
  have hsub : (256 * index.toNat + 2) % 256 = 2 := by omega
  have hc : [0x4030, 0x4031, 0x4032, 0x6030, 0x6031, 0x6032].contains index.toNat = true := List.contains_iff_mem.2 hw
  have hown : index.toNat ∉ ownEffects := by
    have hall : ∀ i ∈ wmIndexes, i ∉ ownEffects := by decide
    exact hall _ hw
  change execWatermarkMarkWrite port index m s = _
  rw [execWatermarkMarkWrite, if_pos hc, h.dictRequest hr, State.dictApply_of_not_mem (by rwa [hi]),
    leNat_leBytes m.isLt, ha, hi, hsub, hc]
  rfl

end

/-- Settles O51: each accepted request is its effect, then the answer OK. -/
theorem dataRequests : Obligations.DataRequests := by
  unfold Obligations.DataRequests
  intro port n v d m index s key ok wm level beyond
  refine ⟨?_, ?_, ?_, ?_, ?_, ?_, ?_⟩
  · rintro ⟨_, hreq, ha⟩ hv hl hm
    cases hreq
    refine ⟨_, exec_resvWrite ha, ?_⟩
    simpa using State.writeLive_resv n hv hl hm
  · rintro ⟨_, hreq, ha⟩ hw hq he hk
    cases hreq
    have hv : s.voteRelease n = State.finishStep (s.modVote n fun v => { v with withheld := false }) n
      (s.ent (Ent.step n) - 1) := if_pos hw
    have hctx : (s.modVote n fun v => { v with withheld := false }).ctx n =
        { s.ctx n with vote := { (s.ctx n).vote with withheld := false } } := State.ctx_modCtx s n _
    obtain ⟨hvote, hword⟩ := State.finishStep_spec (s := s.modVote n fun v => { v with withheld := false }) n
      (by rw [hctx]; exact hq) hk (s.ent (Ent.step n) - 1)
    refine ⟨_, exec_voteRelease ha, ?_, ?_⟩
    · rw [State.answerOk_ctx, hv, hvote, hctx]
    · rw [State.answerOk_word, hv, hword]
      rfl
  · rintro ⟨_, hreq, ha⟩
    cases hreq
    exact ⟨_, exec_exportHeadWrite ha, by simp, fun k hk => by simp [State.ent_setEnt_ne _ _ hk], by simp⟩
  · rintro ⟨_, hreq, ha⟩
    cases hreq
    exact ⟨_, exec_keyreq ha, by simp [State.exportCtlWrite_key, State.entBit_setEntBit_on],
      by simp [State.exportCtlWrite_key, State.entBit_setEntBit_low], by simp [State.exportCtlWrite_key]⟩
  · rintro ⟨_, hreq, ha⟩ h1
    cases hreq
    refine ⟨_, exec_shardreq ha, ?_, ?_⟩
    · rw [State.answerOk_entBit, State.exportCtlWrite_shard h1]
      exact State.entBit_setEntBit_on s _ _
    · rw [State.answerOk_ctx, State.exportCtlWrite_shard h1, State.modExp, State.ctx_modCtx]
      rfl
  · rintro ⟨_, hreq, ha⟩
    obtain ⟨hw, rfl⟩ := request_watermarkMarkWrite hreq
    refine ⟨_, exec_watermarkMarkWrite hw ha, ?_⟩
    have hi : ∀ i ∈ wmIndexes, 0x4030 ≤ i ∧ i ≤ 0x6032 := by decide
    let u := if index.toNat = 0x6030 then s.setEnt (256 * 0x6030 + 1) s.correctedRate else s
    have hsame : index = 0x6030#16 ↔ index.toNat = 0x6030 := BitVec.toNat_inj.symm
    have hlevel : u.ent (256 * index.toNat + 1) = level := by
      simp only [u, level, hsame]
      split
      · next h6 => rw [h6, State.ent_setEnt]
      · rfl
    have hcrossed : u.ent (256 * index.toNat + 3) = s.ent (256 * index.toNat + 3) := by
      simp only [u]
      split
      · exact State.ent_setEnt_ne s _ (by omega)
      · rfl
    have hlog : u.rel.log = s.rel.log := by
      simp only [u]
      split <;> rfl
    have hmark := State.wmMark_spec u m.toNat (hi _ hw)
    rw [hlevel, hcrossed, hlog] at hmark
    simp only [State.answerOk_ent, State.answerOk_rel]
    exact hmark
  · rintro ⟨_, hreq, ha⟩ hc hk
    cases hreq
    obtain ⟨size, hexec⟩ := exec_collDoorbellWrite ha
    refine ⟨_, hexec, ?_⟩
    rw [State.writeStatic_collDoorbell n hc hk]
    refine ⟨?_, by simp, by simp⟩
    rw [State.answerOk_ent, State.ent_setEnt_ne _ _ (by simp only [Ent.collDoorbell, Ent.collDbBase]; omega),
      State.ent_setEnt]

end Sys2Proof.Machine
end

section
/-!
SUPPORT. The queue of memory commands, the registers of its function, and the page tables under the operations of the memory
manager: what each key reads after a page is placed, mapped or set (R226, R227, R428).
-/

namespace Sys2Proof.Machine

open Sys2Proof

/-! ### A queue of memory commands and the registers of its function -/

@[simp] theorem State.memq_setMemq (s : State) (f : Nat) (q : MemQ) : (s.setMemq f q).memq f = q := SMap.get_set_same _
    _ _ _

@[simp] theorem State.setMemq_bme (s : State) (f : Nat) (q : MemQ) (g : Nat) : (s.setMemq f q).bme g = s.bme g := rfl

@[simp] theorem State.setFn_memq (s : State) (f off v g : Nat) : (s.setFn f off v).memq g = s.memq g := rfl

theorem State.fn_setFn_off (s : State) (f v : Nat) {off off' : Nat} (h : off' ≠ off) :
    (s.setFn f off v).fn f off' = s.fn f off' :=
  SMap.get_set_ne _ _ _ (by omega)

theorem Reports.memq {s t : State} (h : Reports s t) (f : Nat) : t.memq f = s.memq f := by
  unfold State.memq
  rw [h.host]

theorem State.msix_fn (s : State) (f v g off : Nat) : (s.msix f v).fn g off = s.fn g off := by
  unfold State.msix
  split
  · rfl
  · split <;> rfl

/-- What a cause leaves of the registers of its function: all but the causes at 0x010. -/
theorem State.cause_fn (s : State) (f b : Nat) {off : Nat} (h : off ≠ 0x010) : (s.cause f b).fn f off = s.fn f off := by
  unfold State.cause
  split
  · rfl
  · split
    · rw [State.msix_fn, State.fn_setFn_off _ _ _ h]
    · rw [State.fn_setFn_off _ _ _ h]

/-- A cause is set afterwards. -/
theorem State.testBit_cause (s : State) (f b : Nat) : ((s.cause f b).fn f 0x010).testBit b = true := by
  unfold State.cause
  split
  · next h => exact h
  · split
    · rw [State.msix_fn, State.fn_setFn, testBit_putBits_one]
    · rw [State.fn_setFn, testBit_putBits_one]

theorem State.mem_out_msix {s : State} {o : Out} (h : o ∈ s.out) (f v : Nat) : o ∈ (s.msix f v).out := by
  unfold State.msix
  split
  · exact h
  · split
    · exact List.mem_append_left _ h
    · exact h

theorem State.mem_out_cause {s : State} {o : Out} (h : o ∈ s.out) (f b : Nat) : o ∈ (s.cause f b).out := by
  unfold State.cause
  split
  · exact h
  · split
    · exact State.mem_out_msix (by exact h) f _
    · exact h

theorem State.mem_out_emit (s : State) (o : Out) : o ∈ (s.emit o).out :=
  List.mem_append_right _ (List.mem_singleton.2 rfl)

/-! ### Pages and bytes under the page operations -/

theorem State.page_eq (s : State) (n v : Nat) : s.page n v = SMap.get (fun _ => none) s.mem.pages (134217728 * n + v) :=
    rfl

theorem State.page_congr {s t : State} (h : t.mem = s.mem) (n v : Nat) : t.page n v = s.page n v := by
  rw [State.page_eq, State.page_eq, h]

theorem SMap.get_dropKeys {V : Type} (d : Nat → V) (p : Nat → Bool) (m : SMap V) (k : Nat) :
    SMap.get d (SMap.dropKeys p m) k = if p k then d k else SMap.get d m k := by
  induction m with
  | nil => simp [SMap.dropKeys]
  | cons e m ih =>
    unfold SMap.dropKeys at ih ⊢
    by_cases hk : e.1 = k
    · subst hk
      cases hp : p e.1 <;> simp_all [SMap.get]
    · cases hp : p e.1 <;> simp_all [SMap.get]

theorem SMap.get_eq_default {V : Type} {d : Nat → V} {m : SMap V} {k : Nat} (h : ∀ v, (k, v) ∉ m) :
    SMap.get d m k = d k := by
  induction m with
  | nil => rfl
  | cons e m ih =>
    obtain ⟨j, v⟩ := e
    have hne : j ≠ k := fun hj => h v (hj ▸ List.mem_cons_self)
    simp only [SMap.get, hne, if_false]
    exact ih fun v hv => h v (List.mem_cons_of_mem _ hv)

theorem SMap.mem_of_get_eq {V : Type} {d : Nat → V} {m : SMap V} {k : Nat} {v : V} (h : SMap.get d m k = v)
    (hv : v ≠ d k) : (k, v) ∈ m := by
  induction m with
  | nil => exact absurd h.symm hv
  | cons e m ih =>
    obtain ⟨j, w⟩ := e
    simp only [SMap.get] at h
    split at h
    · next hj => rw [hj, h]; exact List.mem_cons_self
    · exact List.mem_cons_of_mem _ (ih h)

/-- A change of every listed value that keeps an unlisted one is a change of what every key reads. -/
theorem SMap.get_mapVals_of_default {V : Type} [DecidableEq V] {d : Nat → V} {f : Nat → V → V} (hf : ∀ k, f k (d k) = d k)
    (m : SMap V) (k : Nat) : SMap.get d (SMap.mapVals d f m) k = f k (SMap.get d m k) := by
  rw [SMap.get_mapVals]
  split
  · rfl
  · next h => rw [SMap.get_eq_default fun v hv => h (List.mem_map.2 ⟨(k, v), hv, rfl⟩), hf]

/-- Placing a page takes note of the group it used, and of nothing else. -/
theorem State.placeStack_mem {s : State} {stack : Nat} {r} (h : s.placeStack stack = some r) :
    r.1 = stack ∧ r.2.2.mem = { s.mem with lastGroup := r.2.2.mem.lastGroup } := by
  simp only [State.placeStack] at h
  split at h
  · cases h
  · obtain ⟨x, hx, rfl⟩ := Option.map_eq_some_iff.1 h
    simp [State.modMem, State.pickFrame_mem s _ hx]

theorem State.placeOn_mem {s : State} {l : List Nat} {r} (h : s.placeOn l = some r) :
    r.1 ∈ l ∧ r.2.2.mem = { s.mem with lastGroup := r.2.2.mem.lastGroup } := by
  induction l with
  | nil => cases h
  | cons stack l ih =>
    simp only [State.placeOn] at h
    split at h
    · next hp =>
      cases h
      obtain ⟨hst, hm⟩ := State.placeStack_mem hp
      exact ⟨by rw [hst]; exact List.mem_cons_self, hm⟩
    · obtain ⟨hst, hm⟩ := ih h
      exact ⟨List.mem_cons_of_mem _ hst, hm⟩

@[simp] theorem State.clearFramePoison_pages (s : State) (stack frame : Nat) :
    (s.clearFramePoison stack frame).mem.pages = s.mem.pages := by
  unfold State.clearFramePoison
  rw [State.reportPoison_mem]; rfl

/-- A group that leaves is retiring no more, and nothing else changes in the manager. -/
theorem State.leaveGroup_mem (s : State) (stack g : Nat) :
    (s.leaveGroup stack g).mem = { s.mem with retiring := (s.leaveGroup stack g).mem.retiring } := by
  unfold State.leaveGroup
  split
  · rfl
  · simp [State.modMem]

theorem State.get_setPage (s : State) (n v : Nat) (p : Option Page) (key : Nat) :
    SMap.get (fun _ => none) (s.setPage n v p).mem.pages key =
      if key = 134217728 * n + v then p else SMap.get (fun _ => none) s.mem.pages key :=
  SMap.get_set ..

/-- The page that ALLOC maps. -/
def freshPage (n v stack frame : Nat) (pin : Bool) : Page :=
  { stack := stack, frame := frame, owner := n, opage := v, ro := false, pin := pin, repl := none }

theorem State.get_mapPage (s : State) (n v stack frame : Nat) (pin : Bool) (key : Nat) :
    SMap.get (fun _ => none) (s.mapPage n v stack frame pin).mem.pages key =
      if key = 134217728 * n + v then some (freshPage n v stack frame pin) else SMap.get (fun _ => none) s.mem.pages key
          := by
  unfold State.mapPage
  rw [State.get_setPage, State.clearFramePoison_pages]
  rfl

theorem State.zeroFrame_cells (s : State) (stack frame : Nat) : (s.zeroFrame stack frame).mem.cells =
    SMap.dropKeys (fun a => Nat.ble (paOf stack frame 0) a && Nat.blt a (paOf stack frame 0 + 2 ^ 21)) s.mem.cells := rfl

/-- A page mapped zeroes its frame, and no byte outside it changes. -/
theorem State.memByte_mapPage (s : State) (n v stack frame : Nat) (pin : Bool) (a : Nat) :
    (s.mapPage n v stack frame pin).memByte a =
      if paOf stack frame 0 ≤ a ∧ a < paOf stack frame 0 + 2 ^ 21 then 0#8 else s.memByte a := by
  unfold State.memByte State.mapPage
  rw [State.setPage_cells, State.clearFramePoison_cells, State.zeroFrame_cells, SMap.get_dropKeys]
  simp

end Sys2Proof.Machine
end

section
/-!
SUPPORT. Runs of pages that ALLOC maps, FREE removes and the other commands set (R227 to R230).
-/

namespace Sys2Proof.Machine

open Sys2Proof

/-! ### ALLOC -/

/-- Page i of an ALLOC is mapped as the command asks, and its frame is zero. -/
def State.Allocated (s : State) (c : MemCmd) (i : Nat) : Prop :=
  ∃ p, s.page c.ctx (c.vpage + i) = some p ∧ p.owner = c.ctx ∧ p.opage = c.vpage + i ∧ p.ro = false ∧ p.pin = c.pin ∧
    p.repl = none ∧ ∀ off, off < 2 ^ 21 → s.memByte (paOf p.stack p.frame off) = 0#8

theorem State.Allocated.congr {s t : State} {c : MemCmd} {i : Nat} (h : s.Allocated c i) (ht : t.mem = s.mem) :
    t.Allocated c i := by
  obtain ⟨p, hp, how, hop, hro, hpin, hrepl, hz⟩ := h
  exact ⟨p, by rw [State.page_congr ht, hp], how, hop, hro, hpin, hrepl, fun off ho => by
    rw [show t.memByte _ = s.memByte _ from memByte_congr (congrArg Mem.cells ht) _]; exact hz off ho⟩

theorem State.mapPage_allocated (s : State) (c : MemCmd) (i stack frame : Nat) :
    (s.mapPage c.ctx (c.vpage + i) stack frame c.pin).Allocated c i := by
  refine ⟨freshPage c.ctx (c.vpage + i) stack frame c.pin, ?_, rfl, rfl, rfl, rfl, rfl, fun off ho => ?_⟩
  · rw [State.page_eq, State.get_mapPage, if_pos rfl]
  · rw [State.memByte_mapPage, if_pos]
    simp only [freshPage, paOf]
    omega

/-- What ALLOC's pages in turn make of the stacks: each is mapped and zero, other keys keep their pages, and no byte that
was zero is another afterwards. -/
theorem State.allocPages_spec {c : MemCmd} {home : Nat} {l : List Nat} (hl : l.Nodup) {s : State} {dies : Nat} {r}
    (h : s.allocPages c home l dies = some r) :
    (∀ i ∈ l, r.1.Allocated c i) ∧
    (∀ key, (∀ i ∈ l, key ≠ 134217728 * c.ctx + (c.vpage + i)) →
      SMap.get (fun _ => none) r.1.mem.pages key = SMap.get (fun _ => none) s.mem.pages key) ∧
    ∀ a, s.memByte a = 0#8 → r.1.memByte a = 0#8 := by
  induction l generalizing s dies with
  | nil => cases h; simp
  | cons i l ih =>
    obtain ⟨hi, hl⟩ := List.nodup_cons.1 hl
    simp only [State.allocPages] at h
    split at h
    · cases h
    · next st fr s1 hp =>
      obtain ⟨-, hm⟩ := State.placeOn_mem hp
      have hcells : s1.mem.cells = s.mem.cells := by simpa using congrArg Mem.cells hm
      have hpages : s1.mem.pages = s.mem.pages := by simpa using congrArg Mem.pages hm
      obtain ⟨hall, hkeep, hzero⟩ := ih hl h
      refine ⟨List.forall_mem_cons.2 ⟨?_, hall⟩, fun key hk => ?_, fun a ha => hzero a ?_⟩
      · obtain ⟨p, hp, how, hop, hro, hpin, hrepl, hz⟩ := s1.mapPage_allocated c i st fr
        refine ⟨p, ?_, how, hop, hro, hpin, hrepl, fun off ho => hzero _ (hz off ho)⟩
        rw [State.page_eq, hkeep _ (fun j hj => ?_)]
        · exact hp
        · rintro he
          have : i = j := by omega
          exact hi (this ▸ hj)
      · rw [hkeep key fun j hj => hk j (List.mem_cons_of_mem _ hj), State.get_mapPage, if_neg (hk i List.mem_cons_self),
          hpages]
      · rw [State.memByte_mapPage]
        split
        · rfl
        · rw [show s1.memByte a = s.memByte a from memByte_congr hcells a]; exact ha

/-! ### FREE -/

theorem State.get_freePage {s : State} {n v : Nat} (h : (s.page n v).isSome = true) (key : Nat) :
    SMap.get (fun _ => none) (s.freePage n v).mem.pages key =
      (SMap.get (fun _ => none) s.mem.pages key).filter fun p => !(p.owner = n && p.opage = v) := by
  obtain ⟨p, hp⟩ := Option.isSome_iff_exists.1 h
  unfold State.freePage
  simp only [hp]
  rw [State.leaveGroup_mem]
  dsimp only
  rw [State.clearFramePoison_pages]
  unfold State.modMem
  dsimp only
  rw [SMap.get_mapVals_of_default]
  · cases SMap.get (fun _ => none) s.mem.pages key with
    | none => rfl
    | some g => simp [Option.filter]; grind
  · exact fun _ => rfl

/-- A run of pages removed, each mapped by its owner: no mapping of any of them is left, and every other stays. -/
theorem State.get_freePages {n first : Nat} {l : List Nat} (hl : l.Nodup) {s : State}
    (h : ∀ i ∈ l, ∃ p, s.page n (first + i) = some p ∧ p.owner = n ∧ p.opage = first + i) (key : Nat) :
    SMap.get (fun _ => none) (l.foldl (fun s i => s.freePage n (first + i)) s).mem.pages key =
      (SMap.get (fun _ => none) s.mem.pages key).filter fun p => !(p.owner = n && l.any fun i => p.opage = first + i) :=
          by
  induction l generalizing s with
  | nil => cases hg : SMap.get (fun _ => none) s.mem.pages key <;> simp [hg, Option.filter]
  | cons i l ih =>
    obtain ⟨hi, hl⟩ := List.nodup_cons.1 hl
    obtain ⟨p, hp, -⟩ := h i List.mem_cons_self
    have hfree := State.get_freePage (s := s) (n := n) (v := first + i) (by rw [hp]; rfl)
    have hrest : ∀ j ∈ l, ∃ p, (s.freePage n (first + i)).page n (first + j) = some p ∧ p.owner = n ∧ p.opage = first +
        j := by
      intro j hj
      obtain ⟨q, hq, how, hop⟩ := h j (List.mem_cons_of_mem _ hj)
      refine ⟨q, ?_, how, hop⟩
      have hne : i ≠ j := fun he => hi (he ▸ hj)
      rw [State.page_eq, hfree, ← State.page_eq, hq]
      simp [Option.filter, how, hop]; omega
    rw [List.foldl_cons, ih hl hrest, hfree, Option.filter_filter]
    congr 1
    funext p
    simp; grind

/-! ### SHARE_RO, REPL_REG and REPL_UNREG -/

/-- A run of pages set from what the state shows of others, none of which is itself set: each key of the run holds its
page,
and every other is as it was. -/
theorem State.get_setPages {n first n' first' : Nat} {f : Nat → Page → Page} {l : List Nat} (hl : l.Nodup) {s : State}
    (hsrc : ∀ i ∈ l, ∀ j ∈ l, i ≠ j → 134217728 * n' + (first' + i) ≠ 134217728 * n + (first + j)) (key : Nat) :
    SMap.get (fun _ => none) (l.foldl (fun s i => s.setPage n (first + i)
        ((s.page n' (first' + i)).map (f i))) s).mem.pages key =
      match l.find? fun i => key == 134217728 * n + (first + i) with
      | some i => (s.page n' (first' + i)).map (f i)
      | none => SMap.get (fun _ => none) s.mem.pages key := by
  induction l generalizing s with
  | nil => rfl
  | cons i l ih =>
    obtain ⟨hi, hl⟩ := List.nodup_cons.1 hl
    rw [List.foldl_cons, ih hl fun a ha b hb => hsrc a (List.mem_cons_of_mem _ ha) b (List.mem_cons_of_mem _ hb)]
    by_cases hk : key = 134217728 * n + (first + i)
    · have hnone : (l.find? fun j => key == 134217728 * n + (first + j)) = none := by
        rw [List.find?_eq_none]
        intro j hj
        have hne : i ≠ j := fun he => hi (he ▸ hj)
        simp; omega
      rw [hnone, State.get_setPage, if_pos hk, List.find?_cons_of_pos (by simpa using hk)]
    · rw [List.find?_cons_of_neg (by simpa using hk)]
      split
      · next j hj =>
        have hj := List.mem_of_find?_eq_some hj
        have hne : j ≠ i := fun he => hi (he ▸ hj)
        rw [State.page_eq, State.get_setPage, if_neg (hsrc j (List.mem_cons_of_mem _ hj) i List.mem_cons_self hne),
          State.page_eq]
      · rw [State.get_setPage, if_neg hk]

end Sys2Proof.Machine
end

section
/-!
SUPPORT. Pages that move (R232, R233), and commands at the front of a queue (R226).
-/

namespace Sys2Proof.Machine

open Sys2Proof

/-! ### MIGRATE -/

/-- A page where its frame has moved: another frame keeps its page as it is. -/
def Page.moved (g p : Page) (stack frame : Nat) : Page :=
  if g.stack = p.stack && g.frame = p.frame then { g with stack := stack, frame := frame } else g

theorem State.get_movePage {s : State} {n v : Nat} {p : Page} (h : s.page n v = some p) (stack frame key : Nat) :
    SMap.get (fun _ => none) (s.movePage n v stack frame).mem.pages key =
      (SMap.get (fun _ => none) s.mem.pages key).map fun g => g.moved p stack frame := by
  unfold State.movePage
  simp only [h]
  rw [State.leaveGroup_mem]
  dsimp only
  rw [State.reportPoison_mem, State.reportFrames_mem, apply_ite State.mem, State.setReplace_mem, State.log_mem, ite_self]
  unfold State.modMem Mem.repoint
  dsimp only
  rw [SMap.get_mapVals_of_default]
  · unfold Mem.moveFrame
    dsimp only
    cases SMap.get (fun _ => none) s.mem.pages key with
    | none => rfl
    | some g => simp only [Page.moved, Option.map_some]; split <;> rfl
  · exact fun _ => rfl

/-- A key that holds a page of die d. -/
def State.onDie (s : State) (key d : Nat) : Prop := ∃ p, SMap.get (fun _ => none) s.mem.pages key = some p ∧ p.stack / 4
    = d

theorem dieStacks_die {d i st : Nat} (h : st ∈ dieStacks d i) : st / 4 = d := by
  simp only [dieStacks, List.mem_map, List.mem_range] at h
  obtain ⟨k, -, rfl⟩ := h
  omega

theorem Page.moved_die {g p : Page} {stack frame d : Nat} (hd : stack / 4 = d) (hg : g.stack / 4 = d ∨ g = p) :
    (g.moved p stack frame).stack / 4 = d := by
  unfold Page.moved
  split
  · exact hd
  · next h =>
    rcases hg with hg | rfl
    · exact hg
    · simp at h

/-- MIGRATE leaves every page of its run on the target die, and takes none from it. -/
theorem State.migratePages_onDie {c : MemCmd} {l : List Nat} {s t : State} (h : s.migratePages c l = some t)
    (hmap : ∀ i ∈ l, (s.page c.ctx (c.vpage + i)).isSome = true) :
    (∀ i ∈ l, t.onDie (134217728 * c.ctx + (c.vpage + i)) c.tdie) ∧ ∀ key, s.onDie key c.tdie → t.onDie key c.tdie := by
  induction l generalizing s with
  | nil => cases h; simp
  | cons i l ih =>
    obtain ⟨p, hp⟩ := Option.isSome_iff_exists.1 (hmap i List.mem_cons_self)
    have hl := fun j hj => hmap j (List.mem_cons_of_mem _ hj)
    simp only [State.migratePages, hp] at h
    split at h
    · next hd =>
      obtain ⟨hall, hkeep⟩ := ih h hl
      exact ⟨List.forall_mem_cons.2 ⟨hkeep _ ⟨p, hp, hd⟩, hall⟩, hkeep⟩
    · split at h
      · cases h
      · next st fr s1 hpl =>
        obtain ⟨hst, hm⟩ := State.placeOn_mem hpl
        have hdie : st / 4 = c.tdie := dieStacks_die hst
        have hpages : s1.mem.pages = s.mem.pages := by simpa using congrArg Mem.pages hm
        have hp1 : s1.page c.ctx (c.vpage + i) = some p := by rw [State.page_eq, hpages]; exact hp
        have hget := fun key => State.get_movePage hp1 st fr key
        simp only [hpages] at hget
        obtain ⟨hall, hkeep⟩ := ih h fun j hj => by
          rw [State.page_eq, hget, Option.isSome_map]; exact hl j hj
        refine ⟨List.forall_mem_cons.2 ⟨hkeep _ ⟨p.moved p st fr, ?_, Page.moved_die hdie (.inr rfl)⟩, hall⟩,
          fun key hk => hkeep key ?_⟩
        · rw [hget, ← State.page_eq, hp]; rfl
        · obtain ⟨g, hg, hgd⟩ := hk
          exact ⟨g.moved p st fr, by rw [hget, hg]; rfl, Page.moved_die hdie (.inl hgd)⟩

/-! ### Commands at the front of the queue -/

/-- A command that passes its checks leaves the stacks as its effect makes them. -/
theorem State.performCmd_mem {s : State} {f op : Nat} {c : MemCmd} {act : State → CmdRes}
    (hq : (s.memq f).cmds.head? = some c) (hop : c.op = op) (hc : s.rel.creset = false) (hok : s.cmdCheck f c = none) :
    (s.performCmd f op c act).mem = (act (s.setMemq f { s.memq f with cmds := (s.memq f).cmds.tail })).s.mem := by
  have hok' : ∀ q, (s.setMemq f q).cmdCheck f c = none := fun _ => hok
  unfold State.performCmd
  cases hl : (s.memq f).cmds with
  | nil => rw [hl] at hq; cases hq
  | cons d l =>
    rw [hl] at hq
    obtain rfl : d = c := by simpa using hq
    simp [hop, hc, hok']

/-- No key of a range that finds no page mapped shows one. -/
theorem State.get_eq_none_of_anyMapped {s : State} {n first count : Nat} (h : s.anyMapped n first count = false) {i : Nat}
    (hi : i < count) : s.page n (first + i) = none := by
  by_contra hne
  obtain ⟨p, hp⟩ := Option.ne_none_iff_exists'.1 hne
  have hmem : (134217728 * n + (first + i), some p) ∈ s.mem.pages := SMap.mem_of_get_eq hp (by simp)
  rw [State.anyMapped, List.any_eq_false] at h
  have := h _ hmem
  simp at this
  omega

theorem State.allOwned_page {s : State} {c : MemCmd} (h : s.allOwned c = true) {i : Nat} (hi : i < c.count) :
    ∃ p, s.page c.ctx (c.vpage + i) = some p ∧ p.owner = c.ctx ∧ p.opage = c.vpage + i := by
  simp only [State.allOwned, Bool.and_eq_true, List.all_eq_true, List.mem_range] at h
  have hp := h.2 i hi
  split at hp
  · next p hsome => exact ⟨p, hsome, by simpa using hp⟩
  · cases hp

end Sys2Proof.Machine
end

section
/-!
PROOF. The six memory commands and the fetch (R226 to R232, R428).
-/

namespace Sys2Proof.Machine

open Sys2Proof

/-! ### The six commands and the fetch -/

/-- The command at the front of a queue is taken with an opcode and passes the checks of R226. -/
def State.Fronts (s : State) (f : Nat) (c : MemCmd) (op : Nat) : Prop :=
  (s.memq f).cmds.head? = some c ∧ c.op = op ∧ s.rel.creset = false ∧ s.cmdCheck f c = none

/-- The state in which the command at the front takes effect. -/
def State.taken (s : State) (f : Nat) : State := s.setMemq f { s.memq f with cmds := (s.memq f).cmds.tail }

section

variable {f : Fin 17} {c : MemCmd} {s : State}

/-- A command at the front that passes its checks leaves the stacks as its effect does. -/
theorem State.Fronts.next {op : Nat} {act : State → CmdRes} {m : Mem} (h : s.Fronts f c op)
    (hact : (act (s.taken f)).s.mem = m) : ∃ t, (Host.Outcome.next (s.performCmd f op c act) : Res) = .next t ∧ t.mem =
        m := by
  obtain ⟨hq, hop, hc, hok⟩ := h
  exact ⟨_, rfl, (State.performCmd_mem hq hop hc hok).trans hact⟩

/-- ALLOC (R227). -/
theorem exec_alloc_maps (h : s.Fronts f c 1) (hfree : s.anyMapped c.ctx c.vpage c.count = false)
    (hquota : s.ent (Ent.memQuota (s.ctxPart c.ctx)) = 0) (hcount : c.count ≤ s.ent Ent.freeFrames)
    (hall : ((s.taken f).allocPages c (if c.home = 4 then s.homeDie (s.ctxPart c.ctx) else c.home)
      (List.range c.count) 0).isSome = true) :
    ∃ t, exec (.alloc f c) s = .next t ∧ (∀ i, i < c.count → t.Allocated c i) ∧
      ∀ key, (∀ i, i < c.count → key ≠ 134217728 * c.ctx + (c.vpage + i)) →
        SMap.get (fun _ => none) t.mem.pages key = SMap.get (fun _ => none) s.mem.pages key := by
  obtain ⟨⟨u, dies⟩, hu⟩ := Option.isSome_iff_exists.1 hall
  obtain ⟨hpages, hkeep, -⟩ := State.allocPages_spec List.nodup_range hu
  have hq : (s.taken f).ent (Ent.memQuota ((s.taken f).ctxPart c.ctx)) = 0 := hquota
  have hn : Nat.blt ((s.taken f).ent Ent.freeFrames) c.count = false := by
    rw [show (s.taken f).ent Ent.freeFrames = s.ent Ent.freeFrames from rfl, Bool.eq_false_iff, ne_eq,
      Nat.blt_eq]
    omega
  have hm : (s.taken f).anyMapped c.ctx c.vpage c.count = false := hfree
  have hu : (s.taken f).allocPages c (if c.home = 4 then (s.taken f).homeDie ((s.taken f).ctxPart c.ctx) else c.home)
      (List.range c.count) 0 = some (u, dies) := hu
  have ht : ∃ t, exec (.alloc f c) s = .next t ∧ t.mem = u.mem := h.next (by simp [hm, hq, hn, hu])
  obtain ⟨t, ht, hmem⟩ := ht
  refine ⟨t, ht, fun i hi => (hpages i (List.mem_range.2 hi)).congr hmem, fun key hk => ?_⟩
  rw [hmem]
  exact hkeep key fun i hi => hk i (List.mem_range.1 hi)

/-- FREE (R228). -/
theorem exec_free_unmaps (h : s.Fronts f c 2) (hown : s.allOwned c = true) :
    ∃ t, exec (.free f c) s = .next t ∧ ∀ key, SMap.get (fun _ => none) t.mem.pages key =
      (SMap.get (fun _ => none) s.mem.pages key).filter
        fun p => !(p.owner = c.ctx && (List.range c.count).any fun i => p.opage = c.vpage + i) := by
  have ho : (s.taken f).allOwned c = true := hown
  have hget := State.get_freePages (s := s.taken f) List.nodup_range fun i hi =>
    State.allOwned_page ho (List.mem_range.1 hi)
  have ht : ∃ t, exec (.free f c) s = .next t ∧ t.mem = ((List.range c.count).foldl
      (fun s i => s.freePage c.ctx (c.vpage + i)) (s.taken f)).mem := h.next (by simp [ho])
  obtain ⟨t, ht, hmem⟩ := ht
  exact ⟨t, ht, fun key => by rw [hmem]; exact hget key⟩

/-- Page i of a run that a fold over the run has set. -/
theorem State.page_setPages {n first n' first' count : Nat} {g : Nat → Page → Page} {t : State}
    (hsrc : ∀ i < count, ∀ j < count, i ≠ j → 134217728 * n' + (first' + i) ≠ 134217728 * n + (first + j))
    (ht : t.mem = ((List.range count).foldl (fun s i => s.setPage n (first + i)
      ((s.page n' (first' + i)).map (g i))) s).mem) {i : Nat} (hi : i < count) :
    t.page n (first + i) = (s.page n' (first' + i)).map (g i) := by
  have hfind : ((List.range count).find? fun j => 134217728 * n + (first + i) == 134217728 * n + (first + j)) = some i
      := by
    rw [List.find?_range_eq_some]
    refine ⟨by simp, List.mem_range.2 hi, fun j hj => by simp; omega⟩
  rw [State.page_eq, ht, State.get_setPages List.nodup_range (by simpa using hsrc), hfind]

theorem State.get_setPages_of_notin {n first n' first' count : Nat} {g : Nat → Page → Page} {t : State}
    (hsrc : ∀ i < count, ∀ j < count, i ≠ j → 134217728 * n' + (first' + i) ≠ 134217728 * n + (first + j))
    (ht : t.mem = ((List.range count).foldl (fun s i => s.setPage n (first + i)
      ((s.page n' (first' + i)).map (g i))) s).mem) {key : Nat}
    (hkey : ∀ i, i < count → key ≠ 134217728 * n + (first + i)) :
    SMap.get (fun _ => none) t.mem.pages key = SMap.get (fun _ => none) s.mem.pages key := by
  have hfind : ((List.range count).find? fun j => key == 134217728 * n + (first + j)) = none := by
    rw [List.find?_eq_none]
    intro j hj
    simpa using hkey j (List.mem_range.1 hj)
  rw [ht, State.get_setPages List.nodup_range (by simpa using hsrc), hfind]

/-- SHARE_RO (R229). -/
theorem exec_shareRo_maps (h : s.Fronts f c 3) (hown : s.allOwned c = true)
    (hfree : s.anyMapped c.dctx c.aux c.count = false) : ∃ t, exec (.shareRo f c) s = .next t ∧
      (∀ i, i < c.count → t.page c.dctx (c.aux + i) =
        (s.page c.ctx (c.vpage + i)).map fun p => { p with ro := true, pin := false, repl := none }) ∧
      ∀ key, (∀ i, i < c.count → key ≠ 134217728 * c.dctx + (c.aux + i)) →
        SMap.get (fun _ => none) t.mem.pages key = SMap.get (fun _ => none) s.mem.pages key := by
  have ho : (s.taken f).allOwned c = true := hown
  have hm : (s.taken f).anyMapped c.dctx c.aux c.count = false := hfree
  have hsrc : ∀ i < c.count, ∀ j < c.count, i ≠ j →
      134217728 * c.ctx + (c.vpage + i) ≠ 134217728 * c.dctx + (c.aux + j) := by
    intro i hi j hj _ he
    obtain ⟨p, hp, -⟩ := State.allOwned_page hown hi
    rw [State.page_eq, he, ← State.page_eq, State.get_eq_none_of_anyMapped hfree hj] at hp
    cases hp
  have ht : ∃ t, exec (.shareRo f c) s = .next t ∧ t.mem = ((List.range c.count).foldl (fun s i => s.setPage c.dctx
      (c.aux + i) ((s.page c.ctx (c.vpage + i)).map fun p => { p with ro := true, pin := false, repl := none }))
      (s.taken f)).mem := h.next (by simp [ho, hm])
  obtain ⟨t, ht, hmem⟩ := ht
  exact ⟨t, ht, fun i hi => State.page_setPages (s := s.taken f) hsrc hmem hi,
    fun key hk => State.get_setPages_of_notin (s := s.taken f) hsrc hmem hk⟩

/-- REPL_REG (R230). -/
theorem exec_replReg_registers {peer : Peer} (h : s.Fronts f c 4) (hpeer : s.peerOf c.ctx c.peer = some peer)
    (hown : s.allOwned c = true) : ∃ t, exec (.replReg f c) s = .next t ∧ t.mem.cells = s.mem.cells ∧
      ∀ i, i < c.count → t.page c.ctx (c.vpage + i) =
        (s.page c.ctx (c.vpage + i)).map fun p => { p with repl := some (c.peer, c.aux + i) } := by
  have ho : (s.taken f).allOwned c = true := hown
  have hp : (s.taken f).peerOf c.ctx c.peer = some peer := hpeer
  have ht : ∃ t, exec (.replReg f c) s = .next t ∧ t.mem = ((List.range c.count).foldl (fun s i => s.setPage c.ctx
      (c.vpage + i) ((s.page c.ctx (c.vpage + i)).map fun p => { p with repl := some (c.peer, c.aux + i) }))
      (s.taken f)).mem := h.next (by simp [ho, hp])
  obtain ⟨t, ht, hmem⟩ := ht
  refine ⟨t, ht, ?_, fun i hi => State.page_setPages (s := s.taken f)
    (g := fun i p => { p with repl := some (c.peer, c.aux + i) }) (by omega) hmem hi⟩
  rw [hmem]
  exact State.foldl_cells (fun t i => State.setPage_cells t _ _ _) _ _

/-- REPL_UNREG (R230). -/
theorem exec_replUnreg_unregisters (h : s.Fronts f c 5) : ∃ t, exec (.replUnreg f c) s = .next t ∧
    t.mem.cells = s.mem.cells ∧ ∀ i, i < c.count → t.page c.ctx (c.vpage + i) = (s.page c.ctx (c.vpage + i)).map fun p =>
      if ownMapping (134217728 * c.ctx + (c.vpage + i), some p) then { p with repl := none } else p := by
  obtain ⟨t, ht, hmem⟩ : ∃ t, exec (.replUnreg f c) s = .next t ∧ t.mem = _ := h.next rfl
  refine ⟨t, ht, by rw [hmem]; rfl, fun i hi => ?_⟩
  rw [State.page_eq, hmem]
  unfold State.modMem
  dsimp only
  rw [SMap.get_mapVals_of_default]
  · have hlt : Nat.blt (134217728 * c.ctx + (c.vpage + i)) (134217728 * c.ctx + c.vpage + c.count) = true := by
      rw [Nat.blt_eq]; omega
    have hle : 134217728 * c.ctx + c.vpage ≤ 134217728 * c.ctx + (c.vpage + i) := by omega
    simp only [Nat.ble_eq_true_of_le hle, hlt, Bool.true_and]
    change (if ownMapping (_, s.page c.ctx (c.vpage + i)) = true then (s.page c.ctx (c.vpage + i)).map _ else
      s.page c.ctx (c.vpage + i)) = _
    cases s.page c.ctx (c.vpage + i) with
    | none => rfl
    | some p => simp only [Option.map_some]; split <;> rfl
  · intro k
    split <;> rfl

/-- MIGRATE (R232). -/
theorem exec_migrate_moves (h : s.Fronts f c 6) (hown : s.allOwned c = true)
    (hall : ((s.taken f).migratePages c (List.range c.count)).isSome = true) : ∃ t, exec (.migrate f c) s = .next t ∧
      ∀ i, i < c.count → ∃ p, t.page c.ctx (c.vpage + i) = some p ∧ p.stack / 4 = c.tdie := by
  have ho : (s.taken f).allOwned c = true := hown
  obtain ⟨u, hu⟩ := Option.isSome_iff_exists.1 hall
  obtain ⟨hdie, -⟩ := State.migratePages_onDie hu fun i hi => by
    obtain ⟨p, hp, -⟩ := State.allOwned_page ho (List.mem_range.1 hi)
    rw [hp]; rfl
  have ht : ∃ t, exec (.migrate f c) s = .next t ∧ t.mem = u.mem := h.next (by simp [ho, hu])
  obtain ⟨t, ht, hmem⟩ := ht
  refine ⟨t, ht, fun i hi => ?_⟩
  rw [State.page_congr hmem]
  exact hdie i (List.mem_range.2 hi)

/-- A function that may read the next command of its ring. -/
def State.MayFetch (s : State) (f : Nat) : Prop :=
  (s.memq f).error = false ∧ s.bme f = true ∧ s.fn f 0x060 < s.fn f 0x080 ∧
    s.fn f 0x060 < s.fn f 0x088 + s.fn f 0x050

/-- The state in which the read of the next command has left. -/
def State.readCommand (s : State) (f : Nat) : State :=
  s.emit (.read f (s.fn f 0x048 + 32 * (s.fn f 0x060 % s.fn f 0x050)) 32)

theorem exec_mqFetch (h : s.MayFetch f) (st : ReadStatus) : exec (.mqFetch f st c) s = .next (match st with
    | .ok =>
      let s2 := ((s.readCommand f).setMemq f { s.memq f with cmds := (s.memq f).cmds ++ [c] }).setFn f 0x060
        (s.fn f 0x060 + 1)
      if (s.memq f).cmds.isEmpty then s2.refuseReserved f 1 else s2
    | _ => ((s.readCommand f).setMemq f { s.memq f with error := true }).cause f 1) := by
  obtain ⟨he, hb, hlt, hroom⟩ := h
  change Host.Outcome.next (if (s.memq f).error || !s.bme f || Nat.ble (s.fn f 0x080) (s.fn f 0x060) ||
    Nat.ble (s.fn f 0x088 + s.fn f 0x050) (s.fn f 0x060) then s else _) = _
  rw [if_neg (by simp [he, hb, hlt, hroom])]
  rfl

/-- A command read waits behind those of the queue (R428). -/
theorem exec_mqFetch_ok (h : s.MayFetch f) (hne : (s.memq f).cmds ≠ []) : ∃ t, exec (.mqFetch f .ok c) s = .next t ∧
    (t.memq f).cmds = (s.memq f).cmds ++ [c] ∧ t.fn f 0x060 = s.fn f 0x060 + 1 ∧ t.mem = s.mem ∧
    Out.read f (s.fn f 0x048 + 32 * (s.fn f 0x060 % s.fn f 0x050)) 32 ∈ t.out := by
  refine ⟨_, exec_mqFetch h .ok, ?_⟩
  dsimp only
  rw [if_neg (by simpa using hne)]
  exact ⟨by simp, State.fn_setFn .., rfl, State.mem_out_emit s _⟩

/-- A read that fails stops fetching, and MQ_ERROR says so (R428). -/
theorem exec_mqFetch_fails (h : s.MayFetch f) {st : ReadStatus} (hst : st ≠ .ok) : ∃ t, exec (.mqFetch f st c) s = .next
    t ∧
    (t.memq f).error = true ∧ (t.memq f).cmds = (s.memq f).cmds ∧ t.fn f 0x060 = s.fn f 0x060 ∧
    (t.fn f 0x010).testBit 1 = true := by
  have ht : exec (.mqFetch f st c) s =
      .next (((s.readCommand f).setMemq f { s.memq f with error := true }).cause f 1) := by
    rw [exec_mqFetch h st]
    cases st with
    | ok => exact absurd rfl hst
    | unsupported | completerAbort | poisoned | timeout => rfl
  refine ⟨_, ht, ?_, ?_, State.cause_fn _ _ _ (by decide), State.testBit_cause _ _ _⟩
  all_goals rw [(Reports.cause _ _ _).memq, State.memq_setMemq]

end

/-- Settles O32, command by command: what each makes of the page tables key by key, by induction on the run of its
pages. -/
theorem memoryCommands : Obligations.MemoryCommands := by
  unfold Obligations.MemoryCommands
  intro f c s
  refine ⟨exec_mqFetch_ok, fun st hst h => exec_mqFetch_fails h hst, exec_alloc_maps, fun h hown => ?_, exec_shareRo_maps,
    fun peer => exec_replReg_registers, exec_replUnreg_unregisters, exec_migrate_moves⟩
  obtain ⟨t, ht, hget⟩ := exec_free_unmaps h hown
  refine ⟨t, ht, fun i hi => ?_, fun key p hp => ?_, fun key p hp hkeep => ?_⟩
  · obtain ⟨p, hp, how, hop⟩ := State.allOwned_page hown hi
    rw [State.page_eq, hget, ← State.page_eq, hp]
    simp [Option.filter, how, hop, hi]
  · rw [hget, Option.filter_eq_some_iff] at hp
    rintro ⟨how, hle, hlt⟩
    have := hp.2
    simp [how] at this
    exact this (p.opage - c.vpage) (by omega) (by omega)
  · rw [hget, hp, Option.filter_eq_some_iff]
    refine ⟨rfl, ?_⟩
    simp only [Bool.not_eq_true', Bool.and_eq_false_iff, decide_eq_false_iff_not, List.any_eq_false, List.mem_range,
      decide_eq_true_eq]
    by_cases how : p.owner = c.ctx
    · exact .inr fun i hi hop => hkeep ⟨how, by omega, by omega⟩
    · exact .inl how

end Sys2Proof.Machine
end

section
/-!
SUPPORT. What error counts, retirements and poison marks leave of the stacks, and the facts of the state that the decoder
and the replicas depend on (R217 to R219, R225, R230, R235 to R237).
-/

namespace Sys2Proof.Machine

open Sys2Proof

/-! ### What the error counts and the retirement of rows and groups leave unchanged (R225, R235 to R237) -/

/-- From m to m' only the counts of errors, the rows and groups under retirement and the moves planned changed: bytes,
poison, refills, held reads, the scrubber's place and the page tables stay. -/
def Mem.SameLines (m m' : Mem) : Prop :=
  m' = { m with wires := m'.wires, rowErr := m'.rowErr, ues := m'.ues, spare := m'.spare, copying := m'.copying,
                lastGroup := m'.lastGroup, migr := m'.migr, retiring := m'.retiring, corrected := m'.corrected }

namespace Mem.SameLines

variable {m m' m'' : Mem}

theorem refl (m : Mem) : m.SameLines m := rfl

theorem trans (h : m.SameLines m') (h' : m'.SameLines m'') : m.SameLines m'' := by
  unfold Mem.SameLines at *
  rw [h', h]

theorem of_eq (h : m' = m) : m.SameLines m' := h ▸ refl m

theorem cells (h : m.SameLines m') : m'.cells = m.cells := by rw [h]
theorem pages (h : m.SameLines m') : m'.pages = m.pages := by rw [h]
theorem rescan (h : m.SameLines m') : m'.rescan = m.rescan := by rw [h]
theorem scrubAt (h : m.SameLines m') : m'.scrubAt = m.scrubAt := by rw [h]

theorem foldl {α : Type} {f : State → α → State} (hf : ∀ (s : State) a, s.mem.SameLines (f s a).mem) (l : List α) (s :
    State) :
    s.mem.SameLines (l.foldl f s).mem := by
  induction l generalizing s with
  | nil => exact refl _
  | cons a l ih => exact (hf s a).trans (ih _)

end Mem.SameLines

theorem State.placeOn_sameLines {s : State} {l : List Nat} {r} (h : s.placeOn l = some r) :
    s.mem.SameLines r.2.2.mem := by
  obtain ⟨-, hm⟩ := State.placeOn_mem h
  rw [hm]; rfl

theorem State.leaveGroup_sameLines (s : State) (stack g : Nat) : s.mem.SameLines (s.leaveGroup stack g).mem := by
  rw [State.leaveGroup_mem]; rfl

theorem State.planMove_sameLines (s : State) (p : Page) : s.mem.SameLines (s.planMove p).mem := by
  unfold State.planMove
  dsimp only
  split
  · next hr =>
    exact (State.placeOn_sameLines hr).trans rfl
  · split
    · next hr =>
      rw [State.setReplace_mem, State.log_mem]
      exact (Mem.SameLines.of_eq (State.placeSpare_mem s _ hr)).trans rfl
    · exact Mem.SameLines.refl _

theorem State.retireGroup_sameLines (s : State) (stack g : Nat) : s.mem.SameLines (s.retireGroup stack g).mem := by
  unfold State.retireGroup
  split
  · exact Mem.SameLines.refl _
  · refine Mem.SameLines.trans ?_ (State.leaveGroup_sameLines _ _ _)
    refine Mem.SameLines.trans ?_ (Mem.SameLines.foldl State.planMove_sameLines _ _)
    rfl

theorem State.retireRow_sameLines (s : State) (row : Nat) : s.mem.SameLines (s.retireRow row).mem := by
  unfold State.retireRow
  split
  · exact Mem.SameLines.refl _
  · dsimp only
    split
    · exact State.retireGroup_sameLines _ _ _
    · rw [State.log_mem, State.bump_mem]; rfl

theorem State.countUncorrectable_sameLines (s : State) (stack frame x : Nat) :
    s.mem.SameLines (s.countUncorrectable stack frame x).mem := by
  unfold State.countUncorrectable
  dsimp only
  split
  · refine Mem.SameLines.trans ?_ (State.retireGroup_sameLines _ _ _)
    rfl
  · rfl

/-- A channel's first uncorrectable line in its interval is counted, and retires nothing. -/
theorem State.countUncorrectable_first {s : State} {stack frame x : Nat}
    (h : SMap.get (fun _ => []) s.mem.ues (128 * stack + lineChannel frame x) = []) :
    s.countUncorrectable stack frame x = s.modMem fun m => { m with
      ues := SMap.set (fun _ => []) m.ues (128 * stack + lineChannel frame x)
        [(rowKey stack frame x, s.gtime.count)] } := by
  unfold State.countUncorrectable
  simp only [h, List.filter_nil, List.nil_append, List.map_cons, List.map_nil]
  rw [if_neg]
  simp [List.eraseDups_cons]

/-- A row that is not being copied is from its retirement on, where its bank has a spare row left. -/
theorem State.copying_retireRow {s : State} {row : Nat} (h : s.mem.copying.contains row = false)
    (hspare : SMap.get (fun _ => 0) s.mem.spare (row / 12288) < 16) :
    (s.retireRow row).mem.copying = s.mem.copying ++ [row] := by
  unfold State.retireRow
  simp only [h, Bool.false_eq_true, if_false]
  rw [if_neg (by simpa using hspare), State.log_mem, State.bump_mem]
  rfl

/-! ### Poison, replicas and the decoder, as functions of the stacks' state -/

theorem State.replica_congr {s t : State} (h : t.mem.pages = s.mem.pages) (line : Nat) : t.replica line = s.replica line
    := by
  unfold State.replica State.frameOwner
  rw [h]

theorem State.decodeLine_congr {s t : State} (h : t.mem.wires = s.mem.wires) (stack frame x : Nat) (errs : List SymErr) :
    t.decodeLine stack frame x errs = s.decodeLine stack frame x errs := by
  unfold State.decodeLine State.decodeSymbols State.erasedWires State.wire
  rw [h]

theorem State.scrubPos_congr {s t : State} (h : t.mem.scrubAt = s.mem.scrubAt) (stack : Nat) :
    t.scrubPos stack = s.scrubPos stack := by
  unfold State.scrubPos
  rw [h]

theorem State.poisoned_of_marks {s t : State} (h : t.mem.poison = s.mem.poison)
    (hf : t.mem.poisonFrames = s.mem.poisonFrames) (line : Nat) : t.poisoned line = s.poisoned line := by
  unfold State.poisoned
  rw [h, hf]

/-- A line entered in the poison table reads as poisoned (R218, R219). -/
theorem State.poisoned_poisonLine (s : State) (line : Nat) : (s.poisonLine line).poisoned line = true := by
  unfold State.poisonLine
  split
  · next h => exact h
  · split
    · rw [State.poisoned_congr (State.reportPoison_mem _)]
      simp [State.poisoned, State.modMem]
    · rw [State.poisoned_congr ((State.setReplace_mem _ _).trans (State.log_mem _ _ _))]
      simp [State.poisoned, State.modMem]

/-- Poisoning a line changes the marks of the stacks and reports, and nothing else. -/
theorem State.poisonLine_reports (s : State) (line : Nat) : ∃ m : Mem,
    m = { s.mem with poison := m.poison, poisonFrames := m.poisonFrames } ∧
      Reports (s.modMem fun _ => m) (s.poisonLine line) := by
  unfold State.poisonLine
  split
  · exact ⟨s.mem, rfl, Reports.refl _⟩
  · split
    · exact ⟨_, rfl, State.reportPoison_reports _⟩
    · exact ⟨_, rfl, (Reports.log _ _ _).trans (Reports.setReplace _ _)⟩

theorem State.poisonLine_mem (s : State) (line : Nat) : (s.poisonLine line).mem =
    { s.mem with poison := (s.poisonLine line).mem.poison, poisonFrames := (s.poisonLine line).mem.poisonFrames } := by
  obtain ⟨m, hm, hr⟩ := s.poisonLine_reports line
  rw [hr.mem]
  exact hm

theorem State.poisonLine_cores (s : State) (line : Nat) : (s.poisonLine line).cores = s.cores := by
  obtain ⟨m, -, hr⟩ := s.poisonLine_reports line
  rw [hr.cores]
  rfl

/-- A line without an error is decoded as it stands (R217). -/
theorem symbolDecode_nil (erased : List Nat) : symbolDecode [] erased = some [] := by
  unfold symbolDecode
  simp [syndrome]

end Sys2Proof.Machine
end

section
/-!
SUPPORT. Refills leave the scrubbers where they stand (R223, R231).
-/

namespace Sys2Proof.Machine

open Sys2Proof

/-! ### The scrubber's place while lines are refilled (R223, R231) -/

/-- Where the scrubbers stand: the frames that are read at once, and the place of each pass. -/
def Mem.scrubPlace (m : Mem) : List Rescan × SMap Nat := (m.rescan, m.scrubAt)

@[simp] theorem State.poisonLine_scrubPlace (s : State) (line : Nat) :
    (s.poisonLine line).mem.scrubPlace = s.mem.scrubPlace := by
  rw [State.poisonLine_mem]; rfl

@[simp] theorem State.writePhys_scrubPlace (s : State) (pa : Nat) (l : List Byte) :
    (s.writePhys pa l).mem.scrubPlace = s.mem.scrubPlace := rfl

@[simp] theorem State.clearPoison_scrubPlace (s : State) (line : Nat) :
    (s.clearPoison line).mem.scrubPlace = s.mem.scrubPlace := by
  unfold State.clearPoison
  split
  · rw [State.reportPoison_mem]; rfl
  · rfl

@[simp] theorem State.noteRefilled_scrubPlace (s : State) (line : Nat) :
    (s.noteRefilled line).mem.scrubPlace = s.mem.scrubPlace := by
  unfold State.noteRefilled
  dsimp only
  split
  · rfl
  · split <;> rfl

@[simp] theorem State.consumePoison_scrubPlace (s : State) (who : LineReader) (pa : Nat) :
    (s.consumePoison who pa).mem.scrubPlace = s.mem.scrubPlace := by
  unfold State.consumePoison
  split
  · split <;> simp
  · split <;> simp
  · simp
  · dsimp only
    split
    · refine foldl_keeps (g := fun s => s.mem.scrubPlace) (fun t m => ?_) _ s
      split
      · split <;> simp
      · rfl
    · simp
  all_goals rfl

@[simp] theorem State.failHeld_scrubPlace (s : State) (line : Nat) :
    (s.failHeld line).mem.scrubPlace = s.mem.scrubPlace :=
  foldl_keeps (g := fun s => s.mem.scrubPlace) (fun _ _ => State.consumePoison_scrubPlace _ _ _) _ _

@[simp] theorem State.refillFail_scrubPlace (s : State) (line : Nat) :
    (s.refillFail line).mem.scrubPlace = s.mem.scrubPlace := by
  unfold State.refillFail
  simp only [State.failHeld_scrubPlace, State.poisonLine_scrubPlace, State.log_mem, State.bump_mem]
  rfl

@[simp] theorem State.refillNotNow_scrubPlace (s : State) (r : Refill) :
    (s.refillNotNow r).mem.scrubPlace = s.mem.scrubPlace := by
  unfold State.refillNotNow
  split
  · exact State.refillFail_scrubPlace s _
  · rfl

@[simp] theorem State.takeRefillLine_scrubPlace (s : State) (line : Nat) (d : Option (BitVec 512)) :
    (s.takeRefillLine line d).mem.scrubPlace = s.mem.scrubPlace := by
  cases d <;> simp [State.takeRefillLine]

@[simp] theorem State.takeRefillLines_scrubPlace (s : State) (req : Nat) (lines : List (Option (BitVec 512)))
    (notNow : Bool) : (s.takeRefillLines req lines notNow).mem.scrubPlace = s.mem.scrubPlace :=
  foldl_keeps (g := fun s => s.mem.scrubPlace) (fun _ _ => by split <;> simp) _ _

@[simp] theorem State.refillRefused_scrubPlace (s : State) (req status : Nat) :
    (s.refillRefused req status).mem.scrubPlace = s.mem.scrubPlace :=
  foldl_keeps (g := fun s => s.mem.scrubPlace) (fun _ _ => by split <;> simp) _ _

theorem State.admitAny_scrubPlace (s : State) (h : MsgHeader) (kind : Nat) {f : State → State}
    (hf : ∀ t, (f t).mem.scrubPlace = t.mem.scrubPlace) : (s.admitAny h kind f).mem.scrubPlace = s.mem.scrubPlace := by
  unfold State.admitAny
  split
  · simp
  · split
    · simp
    · exact hf s

@[simp] theorem State.takeRefillResp_scrubPlace (s : State) (h : MsgHeader) (lines : List (Option (BitVec 512)))
    (notNow : Bool) : (s.takeRefillResp h lines notNow).mem.scrubPlace = s.mem.scrubPlace := by
  have hin : (s.admitMsg h Kind.refillResp fun s => s.takeRefillLines h.msgid.toNat lines notNow).mem.scrubPlace =
      s.mem.scrubPlace := State.admitAny_scrubPlace s h _ fun t => by split <;> simp
  unfold State.takeRefillResp
  dsimp only
  split
  · rw [State.refillRefused_scrubPlace, hin]
  · exact hin

@[simp] theorem State.sendRefillResp_scrubPlace (s : State) (h : MsgHeader) (p : Peer) (aux : Nat) (payload : List Byte) :
    (s.sendRefillResp h p aux payload).mem.scrubPlace = s.mem.scrubPlace := by
  unfold State.sendRefillResp
  dsimp only
  split <;> simp

@[simp] theorem State.takeRefillReq_scrubPlace (s : State) (h : MsgHeader) (lines : List Nat) (step : Nat) :
    (s.takeRefillReq h lines step).mem.scrubPlace = s.mem.scrubPlace :=
  State.admitAny_scrubPlace s h _ fun t => by
    split
    · rfl
    · split <;> exact State.sendRefillResp_scrubPlace t _ _ _ _

@[simp] theorem State.askRefill_scrubPlace (s : State) (lines : List Nat) :
    (s.askRefill lines).mem.scrubPlace = s.mem.scrubPlace := by
  have hfail : ∀ t : State, (lines.foldl State.refillFail t).mem.scrubPlace = t.mem.scrubPlace :=
    foldl_keeps (g := fun s => s.mem.scrubPlace) State.refillFail_scrubPlace lines
  unfold State.askRefill
  dsimp only
  split
  · exact hfail s
  · split
    · exact hfail s
    · split
      · split
        · rw [State.takeRefillReq_scrubPlace]; rfl
        · rw [State.refillRefused_scrubPlace, State.takeRefillReq_scrubPlace]; rfl
      · split
        · rw [State.sendMsg_mem]; rfl
        · rw [hfail]; rfl

@[simp] theorem State.askRefills_scrubPlace (s : State) (lines : List Nat) (fuel : Nat) :
    (s.askRefills lines fuel).mem.scrubPlace = s.mem.scrubPlace := by
  induction fuel generalizing s lines with
  | zero => cases lines <;> rfl
  | succ fuel ih =>
    cases lines with
    | nil => rfl
    | cons line l => exact (ih _ _).trans (State.askRefill_scrubPlace s _)

@[simp] theorem State.startRefill_scrubPlace (s : State) (line : Nat) :
    (s.startRefill line).mem.scrubPlace = s.mem.scrubPlace := by
  unfold State.startRefill State.startRefills
  rw [State.askRefills_scrubPlace]
  rfl

end Sys2Proof.Machine
end

section
/-!
SUPPORT. Lines read and written (R207, R215, R217, R218, R220).
-/

namespace Sys2Proof.Machine

open Sys2Proof

section

variable {at_ : LineAddr} {errs : List SymErr} {who : LineReader} {mask : Word64} {data : BitVec 512} {s : State}

/-- The device physical address of a line. -/
def linePa (at_ : LineAddr) : Nat := paOf at_.stack.val at_.frame.val (64 * at_.line.val)

/-! ### Reads (R217, R218) -/

theorem exec_memoryLineRead_clean (hs : s.lineServed at_.stack.val at_.frame.val at_.line.val = true)
    (hp : s.poisoned (lineNo (linePa at_)) = false)
    (hd : s.decodeLine at_.stack.val at_.frame.val at_.line.val errs = some []) :
    exec (.memoryLineRead at_ errs who) s = .next s := by
  change execMemoryLineRead at_ errs who s = _
  unfold linePa at hp
  simp [execMemoryLineRead, hs, hp, hd]

theorem exec_memoryLineRead_lost (hs : s.lineServed at_.stack.val at_.frame.val at_.line.val = true)
    (hp : s.poisoned (lineNo (linePa at_)) = false)
    (hd : s.decodeLine at_.stack.val at_.frame.val at_.line.val errs = none)
    (hr : s.replica (lineNo (linePa at_)) = none) : exec (.memoryLineRead at_ errs .exporter) s =
      .next ((s.countUncorrectable at_.stack.val at_.frame.val at_.line.val).poisonLine (lineNo (linePa at_))) := by
  have hrep := (State.replica_congr (s.countUncorrectable_sameLines at_.stack.val at_.frame.val at_.line.val).pages
    (lineNo (linePa at_))).trans hr
  change execMemoryLineRead at_ errs _ s = _
  unfold linePa at *
  simp [execMemoryLineRead, hs, hp, hd, hrep, State.consumePoison]

/-- A line lost without a replica is poisoned, and its bytes stay. -/
theorem exec_memoryLineRead_poisons (hs : s.lineServed at_.stack.val at_.frame.val at_.line.val = true)
    (hp : s.poisoned (lineNo (linePa at_)) = false)
    (hd : s.decodeLine at_.stack.val at_.frame.val at_.line.val errs = none)
    (hr : s.replica (lineNo (linePa at_)) = none)
    (hu : SMap.get (fun _ => []) s.mem.ues (128 * at_.stack.val + lineChannel at_.frame.val at_.line.val) = []) :
    ∃ t, exec (.memoryLineRead at_ errs .exporter) s = .next t ∧ t.poisoned (lineNo (linePa at_)) = true ∧
      (∀ a, t.memByte a = s.memByte a) ∧ t.cores = s.cores := by
  refine ⟨_, exec_memoryLineRead_lost hs hp hd hr, State.poisoned_poisonLine _ _, State.memByte_congr ?_, ?_⟩
  · rw [State.poisonLine_cells, State.countUncorrectable_cells]
  · rw [State.poisonLine_cores, State.countUncorrectable_first hu]
    rfl

/-! ### Writes (R207, R220) -/

theorem mergeLine_length (old : List Byte) (mask : Word64) (data : BitVec 512) : (mergeLine old mask data).length = 64
    := by
  simp [mergeLine]

/-- A merged line written at an address: its bytes there, every other byte as it was. -/
theorem State.memByte_merged {t : State} {pa : Nat} {old : List Byte}
    (h : t.mem.cells = (s.writePhys pa (mergeLine old mask data)).mem.cells) :
    (∀ i, i < 64 → t.memByte (pa + i) = if mask.getLsbD i then data.extractLsb' (8 * i) 8 else old.getD i 0#8) ∧
    ∀ a, (a < pa ∨ pa + 64 ≤ a) → t.memByte a = s.memByte a := by
  refine ⟨fun i hi => ?_, fun a ha => ?_⟩
  · rw [State.memByte_congr h, State.memByte_writePhys_in _ _ _ _ (by simpa [mergeLine_length] using hi)]
    simp [mergeLine]
  · rw [State.memByte_congr h, State.memByte_writePhys_out _ _ _ _ (by simpa [mergeLine_length] using ha)]

/-- A whole-line write leaves no entry of the line in the poison table. -/
theorem State.get_clearPoison (s : State) (line : Nat) :
    SMap.get (fun _ => false) (s.clearPoison line).mem.poison line = false := by
  unfold State.clearPoison
  split
  · rw [State.reportPoison_mem]
    unfold State.modMem
    exact SMap.get_set_same (fun _ => false) s.mem.poison line false
  · next h =>
    simp only [Bool.or_eq_true, not_or, Bool.not_eq_true] at h
    exact h.1

theorem exec_memoryLineWrite_whole (hs : s.lineServed at_.stack.val at_.frame.val at_.line.val = true) :
    exec (.memoryLineWrite at_ (BitVec.allOnes 64) data errs who) s =
      .next ((s.writePhys (linePa at_) (mergeLine [] (BitVec.allOnes 64) data)).clearPoison (lineNo (linePa at_))) := by
  change execMemoryLineWrite at_ _ data errs who s = _
  simp [execMemoryLineWrite, hs, linePa]

theorem exec_memoryLineWrite_replaces (hs : s.lineServed at_.stack.val at_.frame.val at_.line.val = true) :
    ∃ t, exec (.memoryLineWrite at_ (BitVec.allOnes 64) data errs who) s = .next t ∧
      (∀ i, i < 64 → t.memByte ((linePa at_) + i) = data.extractLsb' (8 * i) 8) ∧
      (∀ a, (a < (linePa at_) ∨ (linePa at_) + 64 ≤ a) → t.memByte a = s.memByte a) ∧
      SMap.get (fun _ => false) t.mem.poison (lineNo (linePa at_)) = false := by
  obtain ⟨hin, hout⟩ := State.memByte_merged (mask := BitVec.allOnes 64) (data := data) (old := [])
    ((s.writePhys (linePa at_) (mergeLine [] (BitVec.allOnes 64) data)).clearPoison_cells (lineNo (linePa at_)))
  refine ⟨_, exec_memoryLineWrite_whole hs, fun i hi => ?_, hout, State.get_clearPoison _ _⟩
  rw [hin i hi, BitVec.getLsbD_allOnes, if_pos (by simpa using hi)]

theorem exec_memoryLineWrite_merges (hs : s.lineServed at_.stack.val at_.frame.val at_.line.val = true)
    (hm : mask ≠ BitVec.allOnes 64) (hp : s.poisoned (lineNo (linePa at_)) = false)
    (hd : (s.decodeLine at_.stack.val at_.frame.val at_.line.val errs).isSome = true) :
    ∃ t, exec (.memoryLineWrite at_ mask data errs who) s = .next t ∧
      (∀ a, (a < (linePa at_) ∨ (linePa at_) + 64 ≤ a) → t.memByte a = s.memByte a) ∧
      ∀ i, i < 64 → t.memByte ((linePa at_) + i) = if mask.getLsbD i then data.extractLsb' (8 * i) 8
        else (s.lineRead at_.stack.val at_.frame.val at_.line.val errs).getD i 0#8 := by
  obtain ⟨found, hd⟩ := Option.isSome_iff_exists.1 hd
  have ht : exec (.memoryLineWrite at_ mask data errs who) s = .next ((if found.isEmpty then s else
      s.countCorrected at_.stack.val at_.frame.val at_.line.val found).writePhys (linePa at_)
        (mergeLine (s.lineRead at_.stack.val at_.frame.val at_.line.val errs) mask data)) := by
    change execMemoryLineWrite at_ mask data errs who s = _
    unfold linePa at *
    simp [execMemoryLineWrite, -BitVec.reduceAllOnes, hs, hm, hp, hd]
  have hcells : (if found.isEmpty then s else
      s.countCorrected at_.stack.val at_.frame.val at_.line.val found).mem.cells = s.mem.cells := by
    split <;> simp
  obtain ⟨hin, hout⟩ := State.memByte_merged (s := if found.isEmpty then s else
    s.countCorrected at_.stack.val at_.frame.val at_.line.val found) (mask := mask) (data := data)
    (old := s.lineRead at_.stack.val at_.frame.val at_.line.val errs) (pa := (linePa at_)) rfl
  exact ⟨_, ht, fun a ha => (hout a ha).trans (State.memByte_congr hcells a), hin⟩

theorem exec_memoryLineWrite_discards (hs : s.lineServed at_.stack.val at_.frame.val at_.line.val = true)
    (hm : mask ≠ BitVec.allOnes 64) (hp : s.poisoned (lineNo (linePa at_)) = true) :
    exec (.memoryLineWrite at_ mask data errs who) s = .next (s.logAgent Code.poisonPartialWrite who [linePa at_]) := by
  change execMemoryLineWrite at_ mask data errs who s = _
  unfold linePa at *
  simp [execMemoryLineWrite, -BitVec.reduceAllOnes, hs, hm, hp]

/-- What is recorded for an agent stands first in the log, with its code and arguments. -/
theorem State.log_logAgent (s : State) (code : Nat) (who : LineReader) (args : List Nat) :
    ∃ r, (s.logAgent code who args).rel.log.head? = some r ∧ r.code = code ∧ r.args = args := by
  unfold State.logAgent
  split
  · split <;> exact ⟨_, State.log_logRec _ _, rfl, rfl⟩
  · exact ⟨_, State.log_logRec _ _, rfl, rfl⟩
  · split <;> exact ⟨_, State.log_logRec _ _, rfl, rfl⟩
  all_goals exact ⟨_, State.log_logRec _ _, rfl, rfl⟩

/-! ### What a line without errors delivers (R215) -/

theorem State.readPhys_getD (s : State) (pa : Nat) {i n : Nat} (h : i < n) : (s.readPhys pa n)[i]? = some (s.memByte (pa
    + i)) := by
  simp [State.readPhys, h]

theorem State.lineRead_nil (s : State) (stack frame x : Nat) {i : Nat} (h : i < 64) :
    (s.lineRead stack frame x []).getD i 0#8 = s.memByte (paOf stack frame (64 * x) + i) := by
  have hsym : s.decodeSymbols stack frame x [] = some [] := symbolDecode_nil _
  simp [State.lineRead, hsym, symbolDiffs, State.readPhys_getD _ _ h]

end

end Sys2Proof.Machine
end

section
/-!
PROOF. Lines are delivered, corrected, poisoned, written and scrubbed (R207, R217 to R223, R235).
-/

namespace Sys2Proof.Machine

open Sys2Proof

section

variable {stack : Fin 16} {errs : List SymErr} {s s1 : State} {p : Nat} {r : Rescan}

/-- The scrubber of a stack may read line p: the stacks serve, the pass is on, no self-test holds it, and the line's row
is
not being copied. -/
def State.MayScrub (s : State) (stack p : Nat) : Prop :=
  s.mem.served = true ∧ s.ent Ent.scrubPeriod ≠ 0 ∧ s.rel.selftest ≠ some 1 ∧ s.rel.selftest ≠ some 2 ∧
    s.mem.copying.contains (rowKey stack (p / 32768) (p % 32768)) = false

/-- The state in which the pass of a stack has gone beyond line p. -/
def State.passedLine (s : State) (stack p : Nat) : State :=
  (s.modMem fun m => { m with scrubAt := SMap.set (fun _ => 0) m.scrubAt stack ((p + 1) % 1610612736) }).reportScrub

theorem State.scrubNext_pass {stack : Nat} (h : (s.mem.rescan.find? fun r => r.stack == stack) = none)
    (hp : s.scrubFrom stack (s.scrubPos stack) 17 = some p) : s.scrubNext stack = some (p, s.passedLine stack p) := by
  unfold State.scrubNext
  rw [h, hp]
  rfl

/-- The state in which a line of a frame that is read at once has been taken, where more are left. -/
def State.rescannedLine (s : State) (r : Rescan) : State :=
  s.modMem fun m => { m with
    rescan := (s.mem.rescan.filter fun x => x != r) ++ [{ r with next := (r.next + 1) % 32768, left := r.left - 1 }] }

theorem State.scrubNext_rescan {stack : Nat} (h : (s.mem.rescan.find? fun r => r.stack == stack) = some r)
    (hl : 1 < r.left) : s.scrubNext stack = some (32768 * r.frame + r.next, s.rescannedLine r) := by
  have hle : Nat.ble r.left 1 = false := by
    rw [Bool.eq_false_iff, ne_eq, Nat.ble_eq]; omega
  unfold State.scrubNext
  rw [h]
  dsimp only
  rw [hle]
  rfl

/-- What a scrub read comes to once its line is found. -/
theorem exec_scrubRead (h : s.MayScrub stack p) (hn : s.scrubNext stack = some (p, s1)) :
    exec (.scrubRead stack errs) s = .next (match s1.decodeLine stack (p / 32768) (p % 32768) errs with
      | none => ((s1.countUncorrectable stack (p / 32768) (p % 32768)).retireRow
          (rowKey stack (p / 32768) (p % 32768))).scrubLost stack (p / 32768) (p % 32768)
      | some f =>
        if s1.poisoned (stack.val * 2147483648 + p) then s1.scrubLost stack (p / 32768) (p % 32768)
        else if f.isEmpty then s1
        else (s1.countCorrected stack (p / 32768) (p % 32768) f).writePhys (64 * (stack.val * 2147483648 + p))
          (s1.lineRead stack (p / 32768) (p % 32768) errs)) := by
  obtain ⟨hserved, hperiod, htest1, htest2, hcopy⟩ := h
  change execScrubRead stack errs s = _
  unfold execScrubRead
  rw [if_neg (by simp [hserved, hperiod, htest1, htest2]), hn]
  dsimp only
  rw [hcopy]
  rfl

theorem exec_scrubRead_clean (h : s.MayScrub stack p) (hn : s.scrubNext stack = some (p, s1))
    (hd : s1.decodeLine stack (p / 32768) (p % 32768) errs = some [])
    (hp : s1.poisoned (stack.val * 2147483648 + p) = false) : exec (.scrubRead stack errs) s = .next s1 := by
  rw [exec_scrubRead h hn, hd]
  simp [hp]

/-- The state in which the scrubber has counted an uncorrectable line and retired its row. -/
def State.scrubRetired (s : State) (stack p : Nat) : State :=
  (s.countUncorrectable stack (p / 32768) (p % 32768)).retireRow (rowKey stack (p / 32768) (p % 32768))

theorem State.scrubRetired_sameLines (s : State) (stack p : Nat) : s.mem.SameLines (s.scrubRetired stack p).mem :=
  (State.countUncorrectable_sameLines _ _ _ _).trans (State.retireRow_sameLines _ _)

theorem exec_scrubRead_lost (h : s.MayScrub stack p) (hn : s.scrubNext stack = some (p, s1))
    (hd : s1.decodeLine stack (p / 32768) (p % 32768) errs = none) : exec (.scrubRead stack errs) s =
      .next ((s1.scrubRetired stack p).scrubLost stack (p / 32768) (p % 32768)) := by
  rw [exec_scrubRead h hn, hd]
  rfl

/-! ### The pass -/

theorem State.passedLine_mem (s : State) (stack p : Nat) : (s.passedLine stack p).mem =
    { s.mem with scrubAt := SMap.set (fun _ => 0) s.mem.scrubAt stack ((p + 1) % 1610612736) } :=
  State.reportScrub_mem _

theorem State.scrubPos_passedLine (s : State) (stack p : Nat) :
    (s.passedLine stack p).scrubPos stack = (p + 1) % 1610612736 := by
  unfold State.scrubPos
  rw [State.passedLine_mem]
  exact SMap.get_set_same (fun _ => 0) s.mem.scrubAt stack _

theorem State.passedLine_decodeLine (s : State) (stack p : Nat) (errs : List SymErr) (k frame x : Nat) :
    (s.passedLine stack p).decodeLine k frame x errs = s.decodeLine k frame x errs :=
  State.decodeLine_congr (by rw [State.passedLine_mem]) ..

theorem State.passedLine_poisoned (s : State) (stack p line : Nat) :
    (s.passedLine stack p).poisoned line = s.poisoned line :=
  State.poisoned_of_marks (by rw [State.passedLine_mem]) (by rw [State.passedLine_mem]) line

theorem State.passedLine_replica (s : State) (stack p line : Nat) :
    (s.passedLine stack p).replica line = s.replica line :=
  State.replica_congr (by rw [State.passedLine_mem]) line

theorem exec_scrubRead_passes (h : s.MayScrub stack p)
    (hr : (s.mem.rescan.find? fun r => r.stack == stack.val) = none)
    (hf : s.scrubFrom stack (s.scrubPos stack) 17 = some p) (hp : s.poisoned (stack.val * 2147483648 + p) = false)
    (hd : s.decodeLine stack (p / 32768) (p % 32768) errs = some []) :
    ∃ t, exec (.scrubRead stack errs) s = .next t ∧ t.scrubPos stack = (p + 1) % 1610612736 ∧
      ∀ a, t.memByte a = s.memByte a :=
  ⟨_, exec_scrubRead_clean h (State.scrubNext_pass hr hf) ((State.passedLine_decodeLine ..).trans hd)
      ((State.passedLine_poisoned ..).trans hp), State.scrubPos_passedLine ..,
    State.memByte_congr (by rw [State.passedLine_mem])⟩

theorem exec_scrubRead_rescans (h : s.MayScrub stack p)
    (hr : (s.mem.rescan.find? fun r => r.stack == stack.val) = some r) (hpr : p = 32768 * r.frame + r.next)
    (hl : 1 < r.left) (hp : s.poisoned (stack.val * 2147483648 + p) = false)
    (hd : s.decodeLine stack (p / 32768) (p % 32768) errs = some []) :
    ∃ t, exec (.scrubRead stack errs) s = .next t ∧ t.scrubPos stack = s.scrubPos stack ∧
      { r with next := (r.next + 1) % 32768, left := r.left - 1 } ∈ t.mem.rescan ∧ ∀ a, t.memByte a = s.memByte a := by
  have hn := State.scrubNext_rescan hr hl
  rw [← hpr] at hn
  exact ⟨_, exec_scrubRead_clean h hn hd hp, rfl, List.mem_append_right _ (List.mem_singleton.2 rfl), fun _ => rfl⟩

/-! ### Uncorrectable lines -/

/-- The rest of a frame is read at once where no frame of its stack is already (R223). -/
theorem State.rescanFrame_mem {stack frame x : Nat} (h : (s.mem.rescan.find? fun r => r.stack == stack) = none) :
    (s.rescanFrame stack frame x).mem = { s.mem with
      rescan := s.mem.rescan ++ [{ stack := stack, frame := frame, next := (x + 1) % 32768, left := 32767 }]
      scrubAt := SMap.set (fun _ => 0) s.mem.scrubAt stack ((frame + 1) * 32768 % 1610612736) } := by
  unfold State.rescanFrame
  rw [if_neg (by simpa using h), State.reportScrub_mem]
  rfl

/-- The number of a line of the pass by its frame and its place there. -/
theorem passLine_eq (stack p : Nat) : stack * 2147483648 + (32768 * (p / 32768) + p % 32768) = stack * 2147483648 + p :=
    by
  omega

/-- An uncorrectable line of a replicated frame lets the rest of the frame be read at once (R223). -/
theorem State.scrubLost_rescans {stack : Nat} (hrep : (s.replica (stack * 2147483648 + p)).isSome = true)
    (hr : (s.mem.rescan.find? fun r => r.stack == stack) = none) :
    { stack := stack, frame := p / 32768, next := (p % 32768 + 1) % 32768, left := 32767 } ∈
      (s.scrubLost stack (p / 32768) (p % 32768)).mem.rescan ∧
    (s.scrubLost stack (p / 32768) (p % 32768)).scrubPos stack = (p / 32768 + 1) * 32768 % 1610612736 := by
  have hlost : s.scrubLost stack (p / 32768) (p % 32768) =
      (s.startRefill (stack * 2147483648 + p)).rescanFrame stack (p / 32768) (p % 32768) := by
    unfold State.scrubLost
    dsimp only
    rw [passLine_eq, if_pos hrep]
  have hrescan : (s.startRefill (stack * 2147483648 + p)).mem.rescan = s.mem.rescan :=
    congrArg Prod.fst (s.startRefill_scrubPlace (stack * 2147483648 + p))
  have hmem := State.rescanFrame_mem (s := s.startRefill (stack * 2147483648 + p)) (frame := p / 32768)
    (x := p % 32768) (hrescan ▸ hr)
  refine ⟨?_, ?_⟩
  · rw [hlost, hmem]
    exact List.mem_append_right _ (List.mem_singleton.2 rfl)
  · unfold State.scrubPos
    rw [hlost, hmem]
    exact SMap.get_set_same (fun _ => 0) _ stack _

/-- An uncorrectable line without a replica is poisoned, counted and recorded (R223). -/
theorem State.scrubLost_poisons {stack : Nat} (h : s.replica (stack * 2147483648 + p) = none) :
    s.scrubLost stack (p / 32768) (p % 32768) =
      ((s.poisonLine (stack * 2147483648 + p)).bump Ent.scrubUe).log Code.scrubUe [64 * (stack * 2147483648 + p)] := by
  unfold State.scrubLost
  dsimp only
  rw [passLine_eq, h]
  rfl

theorem exec_scrubRead_refills (h : s.MayScrub stack p)
    (hr : (s.mem.rescan.find? fun r => r.stack == stack.val) = none)
    (hf : s.scrubFrom stack (s.scrubPos stack) 17 = some p)
    (hd : s.decodeLine stack (p / 32768) (p % 32768) errs = none)
    (hrep : (s.replica (stack.val * 2147483648 + p)).isSome = true) :
    ∃ t, exec (.scrubRead stack errs) s = .next t ∧
      { stack := stack.val, frame := p / 32768, next := (p % 32768 + 1) % 32768, left := 32767 } ∈ t.mem.rescan ∧
      t.scrubPos stack = (p / 32768 + 1) * 32768 % 1610612736 := by
  have hsame := (s.passedLine stack p).scrubRetired_sameLines stack p
  refine ⟨_, exec_scrubRead_lost h (State.scrubNext_pass hr hf) ((State.passedLine_decodeLine ..).trans hd),
    State.scrubLost_rescans ?_ ?_⟩
  · rw [State.replica_congr hsame.pages, State.passedLine_replica, hrep]
  · rw [hsame.rescan, State.passedLine_mem]
    exact hr

theorem exec_scrubRead_poisons (h : s.MayScrub stack p)
    (hr : (s.mem.rescan.find? fun r => r.stack == stack.val) = none)
    (hf : s.scrubFrom stack (s.scrubPos stack) 17 = some p)
    (hd : s.decodeLine stack (p / 32768) (p % 32768) errs = none)
    (hrep : s.replica (stack.val * 2147483648 + p) = none)
    (hu : SMap.get (fun _ => []) s.mem.ues (128 * stack.val + lineChannel (p / 32768) (p % 32768)) = [])
    (hspare : SMap.get (fun _ => 0) s.mem.spare (rowKey stack (p / 32768) (p % 32768) / 12288) < 16) :
    ∃ t, exec (.scrubRead stack errs) s = .next t ∧ t.scrubPos stack = (p + 1) % 1610612736 ∧
      t.poisoned (stack.val * 2147483648 + p) = true ∧
      t.mem.copying.contains (rowKey stack (p / 32768) (p % 32768)) = true ∧
      ∃ rec_, t.rel.log.head? = some rec_ ∧ rec_.code = 0x0304 := by
  have ht := exec_scrubRead_lost h (State.scrubNext_pass hr hf) ((State.passedLine_decodeLine ..).trans hd)
  obtain ⟨-, -, -, -, hcopy⟩ := h
  have hsame := (s.passedLine stack p).scrubRetired_sameLines stack p
  have hlost := State.scrubLost_poisons (s := (s.passedLine stack p).scrubRetired stack p) (stack := stack.val) (p := p)
      (by
    rw [State.replica_congr hsame.pages, State.passedLine_replica, hrep])
  have hrow : ((s.passedLine stack p).scrubRetired stack p).mem.copying =
      s.mem.copying ++ [rowKey stack (p / 32768) (p % 32768)] := by
    unfold State.scrubRetired
    rw [State.countUncorrectable_first (by rw [State.passedLine_mem]; exact hu), State.copying_retireRow]
    · rfl
    · exact hcopy
    · exact hspare
  have hmem : (((s.passedLine stack p).scrubRetired stack p).scrubLost stack (p / 32768) (p % 32768)).mem =
      (((s.passedLine stack p).scrubRetired stack p).poisonLine (stack.val * 2147483648 + p)).mem := by
    rw [hlost, State.log_mem, State.bump_mem]
  refine ⟨_, ht, ?_, ?_, ?_, ?_⟩
  · rw [State.scrubPos_congr (s := s.passedLine stack p), State.scrubPos_passedLine]
    rw [hmem, State.poisonLine_mem]
    exact hsame.scrubAt
  · rw [State.poisoned_congr hmem, State.poisoned_poisonLine]
  · rw [hmem, State.poisonLine_mem]
    dsimp only
    rw [hrow]
    simp
  · rw [hlost]
    exact ⟨_, State.log_logRec _ _, rfl⟩

end

/-- Settles O30, clause by clause: each command's case as an equation, and what the counts, retirements and refills on its
way leave of the stacks. -/
theorem linesAreReadAndWritten : Obligations.LinesAreReadAndWritten := by
  unfold Obligations.LinesAreReadAndWritten
  intro at_ errs who mask data s
  refine ⟨fun hs hc => ?_, exec_memoryLineRead_poisons, exec_memoryLineWrite_replaces, exec_memoryLineWrite_merges,
    fun i => State.lineRead_nil s _ _ _, fun hs hm hp => ?_, fun p h hp hd => ?_, fun p r h hr hpr _ hl hp hd => ?_,
    fun p h hd hrep => ?_, fun p h hd hrep hu hspare => ?_⟩
  · obtain ⟨hp, hd⟩ := hc
    exact exec_memoryLineRead_clean hs hp hd
  · exact ⟨_, exec_memoryLineWrite_discards hs hm hp, State.logAgent_mem .., State.log_logAgent ..⟩
  · obtain ⟨hat, hr, hf⟩ := h
    exact exec_scrubRead_passes hat hr hf hp hd
  · exact exec_scrubRead_rescans h hr hpr hl hp hd
  · obtain ⟨hat, hr, hf⟩ := h
    exact exec_scrubRead_refills hat hr hf hd hrep
  · obtain ⟨hat, hr, hf⟩ := h
    exact exec_scrubRead_poisons hat hr hf hd hrep hu hspare

end Sys2Proof.Machine
end

section
/-!
SUPPORT. The bytes of a page that moves, and the end of its move (R233).
-/

namespace Sys2Proof.Machine

open Sys2Proof

/-! ### Bytes of a frame that moves (R233) -/

theorem SMap.get_setAll_mem {V : Type} [DecidableEq V] (d : Nat → V) {l : List (Nat × V)} (hl : (l.map Prod.fst).Nodup)
    {k : Nat} {v : V} (hm : (k, v) ∈ l) (m : SMap V) : SMap.get d (SMap.setAll d m l) k = v := by
  induction l generalizing m with
  | nil => cases hm
  | cons e l ih =>
    obtain ⟨he, hl⟩ := List.nodup_cons.1 hl
    rcases List.mem_cons.1 hm with rfl | hm
    · refine (SMap.get_setAll_notin d l k (SMap.set d m k v) fun x hx hk => he ?_).trans (SMap.get_set_same ..)
      exact List.mem_map.2 ⟨x, hx, hk⟩
    · exact ih hl hm _

theorem SMap.get_eq_of_mem {V : Type} [DecidableEq V] {d : Nat → V} {m : SMap V} (hm : SMap.wf d m = true) {k : Nat} {v
    : V}
    (h : (k, v) ∈ m) : SMap.get d m k = v := by
  obtain ⟨hrise, -⟩ := (SMap.wf_iff d m).1 hm
  induction m with
  | nil => cases h
  | cons e m ih =>
    obtain ⟨hlt, hrise'⟩ := List.pairwise_cons.1 hrise
    rcases List.mem_cons.1 h with rfl | h
    · exact if_pos rfl
    · rw [show SMap.get d (e :: m) k = if e.1 = k then e.2 else SMap.get d m k from rfl, if_neg (Nat.ne_of_lt (hlt _ h))]
      exact ih (SMap.wf_sublist d (List.sublist_cons_self ..) hm) h hrise'

/-- A run of n keys from b, moved to c in a map from which what stood there is dropped: the keys from c read as those
from b
did. -/
theorem SMap.get_moveRun {V : Type} [DecidableEq V] (v0 : V) {m : SMap V} (hm : SMap.wf (fun _ => v0) m = true)
    {b c n off : Nat} (ho : off < n) {p : Nat → Bool} (hp : p (c + off) = true) :
    SMap.get (fun _ => v0) (SMap.setAll (fun _ => v0) (SMap.dropKeys p m)
      ((m.filter fun e => Nat.ble b e.1 && Nat.blt e.1 (b + n)).map fun e => (e.1 - b + c, e.2))) (c + off) =
      SMap.get (fun _ => v0) m (b + off) := by
  by_cases hv : ∃ v, (b + off, v) ∈ m
  · obtain ⟨v, hv⟩ := hv
    rw [SMap.get_eq_of_mem hm hv]
    refine SMap.get_setAll_mem _ ?_ (List.mem_map.2 ⟨(b + off, v), List.mem_filter.2 ⟨hv, ?_⟩, ?_⟩) _
    · obtain ⟨hrise, -⟩ := (SMap.wf_iff _ m).1 hm
      rw [List.map_map, List.Nodup, List.pairwise_map]
      refine (hrise.filter _).imp_of_mem fun {x y} hx hy hxy => ?_
      simp only [List.mem_filter, Bool.and_eq_true, Nat.ble_eq, Nat.blt_eq] at hx hy
      simp only [Function.comp]
      omega
    · simp only [Bool.and_eq_true, Nat.ble_eq, Nat.blt_eq]
      omega
    · simp only [Prod.mk.injEq, and_true]
      omega
  · rw [SMap.get_setAll_notin, SMap.get_dropKeys, if_pos hp, SMap.get_eq_default fun v h => hv ⟨v, h⟩]
    intro e he hk
    obtain ⟨x, hx, rfl⟩ := List.mem_map.1 he
    simp only [List.mem_filter, Bool.and_eq_true, Nat.ble_eq, Nat.blt_eq] at hx
    obtain ⟨hx, hlo, hhi⟩ := hx
    refine hv ⟨x.2, ?_⟩
    have : x.1 = b + off := by simp only at hk; omega
    rwa [← this]

/-- The first device physical address of a frame, numbered over all stacks. -/
def frameBase (f : Nat) : Nat := f / 65536 * 2 ^ 37 + f % 65536 * 2 ^ 21

theorem paOf_eq_frameBase (stack off : Nat) {frame : Nat} (h : frame < 65536) :
    paOf stack frame off = frameBase (65536 * stack + frame) + off := by
  have hdiv : (65536 * stack + frame) / 65536 = stack := by omega
  have hmod : (65536 * stack + frame) % 65536 = frame := by omega
  rw [frameBase, hdiv, hmod]
  rfl

/-- A frame that moves takes its bytes along. -/
theorem Mem.get_moveFrame {m : Mem} (hm : Memory.wf m = true) (f g room : Nat) {off : Nat} (ho : off < 2 ^ 21) :
    SMap.get (fun _ => (0#8 : Byte)) (m.moveFrame f g room).cells (frameBase g + off) =
      SMap.get (fun _ => (0#8 : Byte)) m.cells (frameBase f + off) := by
  refine SMap.get_moveRun (0#8 : Byte) hm ho ?_
  change (Nat.ble (frameBase f) (frameBase g + off) && Nat.blt (frameBase g + off) (frameBase f + 2 ^ 21) ||
    Nat.ble (frameBase g) (frameBase g + off) && Nat.blt (frameBase g + off) (frameBase g + 2 ^ 21)) = true
  generalize frameBase f = b
  generalize frameBase g = c
  have hlt : Nat.blt (c + off) (c + 2 ^ 21) = true := by
    rw [Nat.blt_eq]
    exact Nat.add_lt_add_left ho c
  rw [Nat.ble_eq_true_of_le (Nat.le_add_right c off), hlt]
  simp

/-- The bytes of a frame that moves depend on no other part of the stacks, and not on the room in the poison table. -/
theorem Mem.moveFrame_cells {m m' : Mem} (h : m'.cells = m.cells) (f g room room' : Nat) :
    (m'.moveFrame f g room').cells = (m.moveFrame f g room).cells := by
  unfold Mem.moveFrame
  dsimp only
  rw [h]

/-- What a page that moves makes of the bytes: its frame's contents move, and no other change. -/
theorem State.movePage_cells {s : State} {n v : Nat} {p : Page} (h : s.page n v = some p) (stack frame : Nat) :
    (s.movePage n v stack frame).mem.cells =
      (s.mem.moveFrame (65536 * p.stack + p.frame) (65536 * stack + frame) 0).cells := by
  unfold State.movePage
  simp only [h]
  rw [State.leaveGroup_mem]
  dsimp only
  rw [State.reportPoison_mem, State.reportFrames_mem, apply_ite State.mem, State.setReplace_mem, State.log_mem, ite_self]
  unfold State.modMem
  dsimp only
  rw [Mem.repoint_cells]
  apply Mem.moveFrame_cells
  rfl

theorem State.memByte_movePage {s : State} {n v : Nat} {p : Page} (h : s.page n v = some p) (hp : p.frame < 65536)
    {stack frame : Nat} (hf : frame < 65536) (hm : Memory.wf s.mem = true) {off : Nat} (ho : off < 2 ^ 21) :
    (s.movePage n v stack frame).memByte (paOf stack frame off) = s.memByte (paOf p.stack p.frame off) := by
  unfold State.memByte
  rw [State.movePage_cells h, paOf_eq_frameBase _ _ hf, paOf_eq_frameBase _ _ hp, Mem.get_moveFrame hm _ _ _ ho]

theorem exec_pageMigrationComplete_moves {n : Fin 64} {v : Nat} {s : State} {g : Migr} {p : Page}
    (hg : (s.mem.migr.find? fun g => g.ctx == n.val && g.vpage == v) = some g) (hs : s.mem.served = true)
    (h : s.page n v = some p) (hp : p.frame < 65536) (hf : g.frame < 65536) (hm : Memory.wf s.mem = true) :
    ∃ t, exec (.pageMigrationComplete n v) s = .next t ∧ t.page n v = some { p with stack := g.stack, frame := g.frame } ∧
      ∀ off, off < 2 ^ 21 → t.memByte (paOf g.stack g.frame off) = s.memByte (paOf p.stack p.frame off) := by
  have ht : exec (.pageMigrationComplete n v) s = .next (s.movePage n v g.stack g.frame) := by
    change execPageMigrationComplete n v s = _
    unfold execPageMigrationComplete
    rw [hg]
    dsimp only
    rw [if_pos hs]
  refine ⟨_, ht, ?_, fun off ho => State.memByte_movePage h hp hf hm ho⟩
  rw [State.page_eq, State.get_movePage h, ← State.page_eq, h]
  simp [Page.moved]

end Sys2Proof.Machine
end

section
/-!
PROOF. Reads held for a refill, the migration rule, spare rows, and commands that fail a check (R224, R226, R232, R233,
R235, R428).
-/

namespace Sys2Proof.Machine

open Sys2Proof

section

variable {s : State}

/-! ### Held reads and rows that are copied (R224, R235) -/

/-- Giving poison to reads of an export alone lets them go, and does nothing else. -/
theorem State.failHeld_exporters {line : Nat} (h : ∀ x ∈ s.mem.held, x.1 = line → x.2 = .exporter) :
    s.failHeld line = s.modMem fun m => { m with held := m.held.filter fun h => h.1 != line } := by
  have hgo : ∀ (l : List (Nat × LineReader)) (t : State), (∀ x ∈ l, x.2 = .exporter) →
      l.foldl (fun s h => s.consumePoison h.2 (64 * line)) t = t := by
    intro l t hl
    induction l with
    | nil => rfl
    | cons x l ih =>
      rw [List.foldl_cons, hl x List.mem_cons_self]
      exact ih fun y hy => hl y (List.mem_cons_of_mem _ hy)
  refine hgo _ _ fun x hx => ?_
  obtain ⟨hmem, heq⟩ := List.mem_filter.1 hx
  exact h x hmem (by simpa using heq)

theorem exec_refillHoldTimeout_fails {at_ : LineAddr} (hany : (s.mem.held.any fun h => h.1 == lineNo (linePa at_)) = true)
    (hexp : ∀ h ∈ s.mem.held, h.1 = lineNo (linePa at_) → h.2 = .exporter) :
    ∃ t, exec (.refillHoldTimeout at_) s = .next t ∧ t.poisoned (lineNo (linePa at_)) = true ∧
      t.mem.refills = s.mem.refills ∧ t.mem.held = s.mem.held.filter fun h => h.1 != lineNo (linePa at_) := by
  have ht : exec (.refillHoldTimeout at_) s =
      .next ((s.poisonLine (lineNo (linePa at_))).failHeld (lineNo (linePa at_))) := by
    change execRefillHoldTimeout at_ s = _
    exact congrArg Host.Outcome.next (if_pos hany)
  have hheld : (s.poisonLine (lineNo (linePa at_))).mem.held = s.mem.held := by rw [State.poisonLine_mem]
  have hrefills : (s.poisonLine (lineNo (linePa at_))).mem.refills = s.mem.refills := by rw [State.poisonLine_mem]
  rw [State.failHeld_exporters (by rw [hheld]; exact hexp)] at ht
  refine ⟨_, ht, ?_, hrefills, congrArg (List.filter _) hheld⟩
  exact (State.poisoned_of_marks (s := s.poisonLine (lineNo (linePa at_))) rfl rfl _).trans (State.poisoned_poisonLine _
      _)

theorem exec_spareRowCopyComplete_served {stack : Fin 16} {channel : Fin 128} {bank : Fin 32} {row : Fin 12288}
    (hs : s.mem.served = true) : exec (.spareRowCopyComplete stack channel bank row) s = .next (s.modMem fun m =>
      { m with copying := m.copying.filter (· != 12288 * (32 * (128 * stack.val + channel.val) + bank.val) + row.val) })
          := by
  change execSpareRowCopyComplete stack channel bank row s = _
  exact congrArg Host.Outcome.next (if_pos hs)

theorem contains_filter_ne (l : List Nat) (k r : Nat) :
    (l.filter (· != k)).contains r = (l.contains r && r != k) := by
  rw [Bool.eq_iff_iff]
  simp

/-! ### The migration rule (R232) -/

theorem State.localPage_sameLines (s : State) (key : Nat) (p : Page) : s.mem.SameLines (s.localPage key p).mem := by
  unfold State.localPage
  dsimp only
  split
  · exact Mem.SameLines.refl _
  · split
    · next hp =>
      rw [State.reportFrames_mem]
      exact (State.placeOn_sameLines hp).trans rfl
    · exact Mem.SameLines.refl _

/-- The owners' own mappings in the page tables, with their keys. -/
def State.ownPages (s : State) : List (Nat × Page) :=
  (s.mem.pages.filter ownMapping).filterMap fun e => e.2.map fun p => (e.1, p)

/-- The state after the pages that meet the rule have started to move. -/
def State.localised (s : State) : State :=
  if s.ent Ent.migrateEn = 0 then s else s.ownPages.foldl (fun s e => s.localPage e.1 e.2) s

theorem exec_migrationWindowEnd (s : State) : exec .migrationWindowEnd s = .next (s.localised.modMem fun m => { m with
    accesses := [], prevWin := (s.ownPages.map fun e => (e.1, s.mainDie e.1)).filter fun e => e.2 != 4 }) := rfl

theorem exec_migrationWindowEnd_clears : ∃ t, exec .migrationWindowEnd s = .next t ∧ t.mem.accesses = [] ∧
    t.mem.pages = s.mem.pages ∧ t.mem.cells = s.mem.cells ∧ (s.ent Ent.migrateEn = 0 → t.mem.migr = s.mem.migr) := by
  have hsame : s.mem.SameLines s.localised.mem := by
    unfold State.localised
    split
    · exact Mem.SameLines.refl _
    · exact Mem.SameLines.foldl (fun s (e : Nat × Page) => s.localPage_sameLines e.1 e.2) _ _
  refine ⟨_, exec_migrationWindowEnd s, rfl, hsame.pages, hsame.cells, fun h => ?_⟩
  have hstay : s.localised = s := if_pos h
  rw [hstay]
  rfl

/-- A page that meets the rule of R232 starts to move to the frame found for it. -/
theorem State.localPage_moves {key d st fr : Nat} {p : Page} {s1 : State} (hd : s.mainDie key = d) (hd4 : d ≠ 4)
    (hprev : SMap.get (fun _ => 4) s.mem.prevWin key = d) (hst : p.stack / 4 ≠ d) (hpin : p.pin = false)
    (hshared : s.shared p = false) (hmigr : s.mem.migr = []) (hp : s.placeOn (dieStacks d 0) = some (st, fr, s1)) :
    (s.localPage key p).mem.migr = [{ ctx := p.owner, vpage := p.opage, stack := st, frame := fr }] := by
  have h1 : s1.mem.migr = [] := by
    obtain ⟨-, hm⟩ := State.placeOn_mem hp
    exact (congrArg Mem.migr hm).trans hmigr
  unfold State.localPage
  dsimp only
  rw [hd, if_neg (by simp [hd4, hprev, hst, hpin, hshared, hmigr]), hp]
  dsimp only
  rw [State.reportFrames_mem]
  unfold State.modMem
  dsimp only
  rw [h1]
  rfl

theorem exec_migrationWindowEnd_moves {key d st fr : Nat} {p : Page} {s1 : State} (hen : s.ent Ent.migrateEn ≠ 0)
    (hpages : s.mem.pages = [(key, some p)]) (hown : ownMapping (key, some p) = true) (hd : s.mainDie key = d) (hd4 : d
        ≠ 4)
    (hprev : SMap.get (fun _ => 4) s.mem.prevWin key = d) (hst : p.stack / 4 ≠ d) (hpin : p.pin = false)
    (hro : p.ro = false) (hmigr : s.mem.migr = []) (hp : s.placeOn (dieStacks d 0) = some (st, fr, s1)) :
    ∃ t, exec .migrationWindowEnd s = .next t ∧
      t.mem.migr = [{ ctx := p.owner, vpage := p.opage, stack := st, frame := fr }] := by
  have hpage : s.ownPages = [(key, p)] := by
    unfold State.ownPages
    rw [hpages]
    simp [hown]
  have hshared : s.shared p = false := by
    unfold State.shared
    rw [hpages]
    simp [hro]
  refine ⟨_, exec_migrationWindowEnd s, ?_⟩
  have hloc : s.localised = s.localPage key p := by
    unfold State.localised
    rw [if_neg hen, hpage]
    rfl
  rw [hloc]
  exact State.localPage_moves hd hd4 hprev hst hpin hshared hmigr hp

/-! ### Commands that fail a check (R226, R428) -/

theorem State.cmdCheck_status {f : Nat} {c : MemCmd} {st : Nat} (h : s.cmdCheck f c = some st) : st ∈ [7, 5, 2] := by
  unfold State.cmdCheck at h
  dsimp only at h
  split at h
  · cases h; decide
  · split at h
    · cases h; decide
    · split at h
      · cases h; decide
      · cases h

/-- A completion written: it leaves for the ring, MQ_DONE rises and MEMQ is set (R428). -/
theorem State.writeCompletion_spec (s : State) (f : Nat) (data : List Byte) :
    (s.writeCompletion f data).mem = s.mem ∧ (s.writeCompletion f data).memq f = s.memq f ∧
    (s.writeCompletion f data).fn f 0x068 = s.fn f 0x068 + 1 ∧ ((s.writeCompletion f data).fn f 0x010).testBit 1 = true ∧
    Out.write f (s.fn f 0x058 + 16 * (s.fn f 0x068 % s.fn f 0x050)) data ∈ (s.writeCompletion f data).out := by
  refine ⟨State.writeCompletion_mem _ _ _, ?_, ?_, State.testBit_cause _ _ _, ?_⟩
  · exact (Reports.cause _ _ _).memq f
  · unfold State.writeCompletion
    rw [State.cause_fn _ _ _ (by decide), State.fn_setFn]
  · unfold State.writeCompletion
    refine State.mem_out_cause ?_ f 1
    rw [State.setFn_out]
    exact State.mem_out_emit s _

/-- The only command of a queue, refused by a check: it is completed with the check's status and no pages. -/
theorem State.performCmd_refused {f op st : Nat} {c : MemCmd} {act : State → CmdRes} (hq : (s.memq f).cmds = [c])
    (hop : c.op = op) (hc : s.rel.creset = false) (hst : s.cmdCheck f c = some st) (hstale : (s.memq f).stale = 0)
    (hb : s.bme f = true) (hheld : (s.memq f).held = []) : s.performCmd f op c act =
      (s.setMemq f { s.memq f with cmds := [] }).writeCompletion f
        (leBytes 8 (c.tag + st * 2 ^ 32) ++ leBytes 8 0) := by
  have hst' : (s.setMemq f { s.memq f with cmds := [] }).cmdCheck f c = some st := hst
  have hne : st ≠ 0 := by
    rintro rfl
    exact absurd (State.cmdCheck_status hst) (by decide)
  unfold State.performCmd
  rw [hq]
  dsimp only
  rw [if_neg (by simp [hop, hc]), hst']
  dsimp only
  rw [if_neg hne]
  change State.completeCmd _ f c st 0 0 = _
  unfold State.completeCmd
  dsimp only
  rw [State.memq_setMemq, hstale, hheld]
  rw [if_neg (by simp), if_pos (by simpa using hb), Nat.zero_mul, Nat.add_zero]

end

/-- Settles O31: the page that moves by what the run of its bytes reads afterwards, the migration rule by what a placement
leaves alone, and the refusals by the completion that each of the six commands comes to. -/
theorem pagesMoveAndRefusals : Obligations.PagesMoveAndRefusals := by
  unfold Obligations.PagesMoveAndRefusals
  refine ⟨fun at_ n vpage stack channel bank row s => ⟨exec_refillHoldTimeout_fails, exec_migrationWindowEnd_clears,
    fun key d st fr p s1 => exec_migrationWindowEnd_moves, fun g p => exec_pageMigrationComplete_moves, fun hs => ?_⟩,
    fun f c s st i hi h1 h2 h3 h4 h5 h6 hq hc hst hstale hb hheld => ?_⟩
  · refine ⟨_, exec_spareRowCopyComplete_served hs, ?_, fun r hr => ?_, rfl, rfl⟩
    · exact (contains_filter_ne _ _ _).trans (by simp)
    · exact (contains_filter_ne _ _ _).trans (by simp [hr])
  · have hdone := fun (op : Nat) (hop : c.op = op) (act : State → CmdRes) =>
      State.performCmd_refused (act := act) hq hop hc hst hstale hb hheld
    have ht : exec i s = .next ((s.setMemq f { s.memq f with cmds := [] }).writeCompletion f
        (leBytes 8 (c.tag + st * 2 ^ 32) ++ leBytes 8 0)) := by
      simp only [List.mem_cons, List.not_mem_nil, or_false] at hi
      rcases hi with rfl | rfl | rfl | rfl | rfl | rfl
      · exact congrArg Host.Outcome.next (hdone 1 (h1 rfl) _)
      · exact congrArg Host.Outcome.next (hdone 2 (h2 rfl) _)
      · exact congrArg Host.Outcome.next (hdone 3 (h3 rfl) _)
      · exact congrArg Host.Outcome.next (hdone 4 (h4 rfl) _)
      · exact congrArg Host.Outcome.next (hdone 5 (h5 rfl) _)
      · exact congrArg Host.Outcome.next (hdone 6 (h6 rfl) _)
    obtain ⟨hmem, hmemq, hfn, hcause, hout⟩ := State.writeCompletion_spec (s.setMemq f { s.memq f with cmds := [] }) f
      (leBytes 8 (c.tag + st * 2 ^ 32) ++ leBytes 8 0)
    refine ⟨_, ht, hmem, ?_, hfn, hcause, State.cmdCheck_status hst, hout⟩
    rw [hmemq, State.memq_setMemq]

end Sys2Proof.Machine
end

section
/-!
SUPPORT. The fields of an entry, and what the counts and records of the step of a context leave of the entries (R254
to R263).
-/

namespace Sys2Proof.Machine

open Sys2Proof

variable {s t : State}

/-! ### Fields of a number -/

/-- A number with a field replaced, in three parts. -/
theorem putBits_eq (v lo n x : Nat) :
    putBits v lo n x = v / 2 ^ (lo + n) * 2 ^ (lo + n) + x % 2 ^ n * 2 ^ lo + v % 2 ^ lo := by
  have hv : v = v / 2 ^ (lo + n) * 2 ^ (lo + n) + v / 2 ^ lo % 2 ^ n * 2 ^ lo + v % 2 ^ lo := by
    have h1 := Nat.div_add_mod v (2 ^ lo)
    have h2 := Nat.div_add_mod (v / 2 ^ lo) (2 ^ n)
    rw [Nat.div_div_eq_div_mul, ← Nat.pow_add] at h2
    have h3 := congrArg (· * 2 ^ lo) h2
    simp only [Nat.add_mul] at h3
    have h4 : 2 ^ n * (v / 2 ^ (lo + n)) * 2 ^ lo = v / 2 ^ (lo + n) * 2 ^ (lo + n) := by rw [Nat.pow_add]; ring
    have h5 : v / 2 ^ lo * 2 ^ lo = 2 ^ lo * (v / 2 ^ lo) := Nat.mul_comm _ _
    omega
  unfold putBits bitsAt
  omega

/-- A field just written. -/
theorem bitsAt_putBits (v lo n x : Nat) : bitsAt (putBits v lo n x) lo n = x % 2 ^ n := by
  have hlow : v % 2 ^ lo < 2 ^ lo := Nat.mod_lt _ (by positivity)
  have hdiv : putBits v lo n x / 2 ^ lo = v / 2 ^ (lo + n) * 2 ^ n + x % 2 ^ n := by
    have h : putBits v lo n x = 2 ^ lo * (v / 2 ^ (lo + n) * 2 ^ n + x % 2 ^ n) + v % 2 ^ lo := by
      rw [putBits_eq, Nat.pow_add]; ring
    rw [h, Nat.mul_add_div (by positivity), Nat.div_eq_of_lt hlow, Nat.add_zero]
  rw [bitsAt, hdiv, Nat.mul_comm, Nat.mul_add_mod, Nat.mod_mod]

/-- A field above one that was written. -/
theorem bitsAt_putBits_above (v x m : Nat) {lo n l : Nat} (h : lo + n ≤ l) :
    bitsAt (putBits v lo n x) l m = bitsAt v l m := by
  obtain ⟨d, rfl⟩ := Nat.exists_eq_add_of_le h
  have hlow : x % 2 ^ n * 2 ^ lo + v % 2 ^ lo < 2 ^ (lo + n) := by
    have h1 : x % 2 ^ n < 2 ^ n := Nat.mod_lt _ (by positivity)
    have h2 : v % 2 ^ lo < 2 ^ lo := Nat.mod_lt _ (by positivity)
    have h3 : (x % 2 ^ n + 1) * 2 ^ lo ≤ 2 ^ n * 2 ^ lo := Nat.mul_le_mul_right _ h1
    rw [Nat.pow_add, Nat.mul_comm (2 ^ lo)]
    rw [Nat.add_mul] at h3
    omega
  have hdiv : putBits v lo n x / 2 ^ (lo + n) = v / 2 ^ (lo + n) := by
    rw [putBits_eq, Nat.add_assoc, Nat.mul_comm, Nat.mul_add_div (by positivity), Nat.div_eq_of_lt hlow, Nat.add_zero]
  rw [bitsAt, bitsAt, Nat.pow_add, ← Nat.div_div_eq_div_mul, hdiv, Nat.div_div_eq_div_mul]

/-- A bit is a field of one bit. -/
theorem testBit_eq_bitsAt (v b : Nat) : v.testBit b = decide (bitsAt v b 1 = 1) := Nat.testBit_eq_decide_div_mod_eq

/-! ### Fields of an entry -/

theorem State.ent_setEntBits_ne (s : State) {k j : Nat} (lo n x : Nat) (h : j ≠ k) :
    (s.setEntBits k lo n x).ent j = s.ent j :=
  State.ent_setEnt_ne s _ h

theorem State.ent_setEntBit_ne (s : State) {k j : Nat} (b : Nat) (on : Bool) (h : j ≠ k) :
    (s.setEntBit k b on).ent j = s.ent j := State.ent_setEnt_ne s _ h

theorem State.entBits_setEntBits (s : State) (k lo n x : Nat) : (s.setEntBits k lo n x).entBits k lo n = x % 2 ^ n := by
  rw [State.entBits, State.setEntBits, State.ent_setEnt, bitsAt_putBits]

theorem State.entBits_setEntBit_above (s : State) (k n : Nat) {b lo : Nat} (on : Bool) (h : b < lo) :
    (s.setEntBit k b on).entBits k lo n = s.entBits k lo n := by
  rw [State.entBits, State.setEntBit, State.setEntBits, State.ent_setEnt, bitsAt_putBits_above _ _ _ h, State.entBits]

theorem State.entBit_setEntBit (s : State) (k b : Nat) (on : Bool) : (s.setEntBit k b on).entBit k b = on := by
  rw [State.entBit, State.setEntBit, State.setEntBits, State.ent_setEnt, testBit_eq_bitsAt, bitsAt_putBits]
  cases on <;> rfl

theorem State.entBit_congr {k : Nat} (h : t.ent k = s.ent k) (b : Nat) : t.entBit k b = s.entBit k b := by
  rw [State.entBit, h, State.entBit]

theorem State.entBits_congr {k : Nat} (h : t.ent k = s.ent k) (lo n : Nat) : t.entBits k lo n = s.entBits k lo n := by
  rw [State.entBits, h, State.entBits]

/-- A record of a context changes no entry but the counts of the log (R376). -/
theorem State.ent_logCtx (s : State) (code n : Nat) (args : List Nat) {j : Nat} (hh : j ≠ Ent.logHead)
    (hl : j ≠ Ent.logLost) : (s.logCtx code n args).ent j = s.ent j := State.ent_logRec s _ hh hl

theorem State.ent_bump_ne (s : State) {k j : Nat} (h : j ≠ k) : (s.bump k).ent j = s.ent j := State.ent_bumpBy_ne s 1 h

/-- A count of 32 bits below its top rises by one. -/
theorem State.ent_bump_of_lt {k : Nat} (hrow : (Catalog.row k).map (·.size) = some 4) (h : s.ent k < 2 ^ 32 - 1) :
    (s.bump k).ent k = s.ent k + 1 := State.ent_bumpBy_of_lt hrow (by omega)

end Sys2Proof.Machine
end

section
/-!
SUPPORT. How a step of a context starts, and how its norm decides it (R254, R255, R260, R261, R263).
-/

namespace Sys2Proof.Machine

open Sys2Proof

variable {s t : State} {n : Nat}

/-! ### The state of a context under its operations -/

@[simp] theorem State.ctx_modUpd (s : State) (n : Nat) (f : Upd → Upd) :
    (s.modUpd n f).ctx n = { s.ctx n with upd := f (s.ctx n).upd } := State.ctx_modCtx s n _

theorem State.ctx_modUpd_ne (s : State) {n m : Nat} (f : Upd → Upd) (h : m ≠ n) : (s.modUpd n f).ctx m = s.ctx m :=
  State.ctx_modCtx_ne s _ h

@[simp] theorem State.ctx_setEntBit (s : State) (k b m : Nat) (on : Bool) : (s.setEntBit k b on).ctx m = s.ctx m := rfl

/-- What a range of context memory reads rests on the stacks alone. -/
theorem State.readVirt_congr (h : t.mem = s.mem) (n va len : Nat) : t.readVirt n va len = s.readVirt n va len :=
  State.readParts_congr h n _

/-- The update table rests on the stacks and on the entry that says where it stands (R250). -/
theorem State.readUpdTable_congr (h : t.mem = s.mem) (he : t.ent (Ent.updTable n) = s.ent (Ent.updTable n)) :
    t.readUpdTable n = s.readUpdTable n := by
  simp only [State.readUpdTable, he, State.readVirt_congr h]

/-! ### The trigger (R254, R255) -/

/-- The trigger word of a context has reached its target (R254). -/
structure State.Triggered (s : State) (n : Fin 64) (key : Nat) : Prop where
  word : s.syncKey (s.ctxPart n) (s.entBits (Ent.updTrigger n) 0 18) = some key
  valid : s.ctxValid n = true
  table : s.ent (Ent.updTable n) ≠ 0
  inc : s.entBits (Ent.updTrigger n) 32 32 ≠ 0
  served : s.mem.served = true
  reached : (s.ctx n).upd.target ≤ (s.word key).value

/-- A trigger raises the target and waits, also where its step may start at once (R254, R255). -/
def Upd.triggered (u : Upd) (inc : Nat) : Upd := { u with target := u.target + inc, queued := u.queued + 1 }

/-- The state in which a trigger has been taken. -/
def State.withTrigger (s : State) (n : Nat) : State := s.modUpd n (Upd.triggered · (s.entBits (Ent.updTrigger n) 32 32))

theorem exec_updateTrigger {n : Fin 64} {key : Nat} (h : s.Triggered n key) :
    exec (.updateTrigger n) s = .next ((s.withTrigger n).nextStep n ((s.ctx n).upd.queued + 1)) := by
  have hlt : Nat.blt (s.word key).value (s.ctx n).upd.target = false := by
    simpa only [Nat.blt_eq, Bool.eq_false_iff, ne_eq, not_lt] using h.reached
  have hcond : (!s.ctxValid n || s.ent (Ent.updTable n) == 0 || s.entBits (Ent.updTrigger n) 32 32 == 0 ||
      !s.mem.served || Nat.blt (s.word key).value (s.ctx n).upd.target) = false := by
    simp [h.valid, h.table, h.inc, h.served, hlt]
  have hexec : exec (.updateTrigger n) s = execUpdateTrigger n s := rfl
  rw [hexec, execUpdateTrigger, h.word]
  dsimp only
  rw [if_neg (by rw [hcond]; exact Bool.false_ne_true)]
  have hq : ((s.withTrigger n).ctx n).upd.queued = (s.ctx n).upd.queued + 1 := by
    rw [State.withTrigger, State.ctx_modUpd]; rfl
  exact congrArg Host.Outcome.next (congrArg ((s.withTrigger n).nextStep n) hq)

/-- While a step is open, no other starts (R255). -/
theorem State.nextStep_of_open (h : s.stepOpen n = true) (fuel : Nat) : s.nextStep n fuel = s := by
  cases fuel with
  | zero => rfl
  | succ fuel => rw [State.nextStep, h, Bool.true_or, if_pos rfl]

theorem State.stepOpen_withTrigger (s : State) (n : Nat) : (s.withTrigger n).stepOpen n = s.stepOpen n := by
  rw [State.stepOpen, State.withTrigger, State.ctx_modUpd]; rfl

/-- The update state of a step that starts (R255): the table is captured, and nothing is summed, swept or kept of it. -/
def Upd.started (u : Upd) (step : Nat) (tb : UpdTable) : Upd :=
  { u with stage := .prePass, step := step, table := tb, sum := 0, nonfin := false, skipped := false, groups := [],
           ends := [], diff := [], lost := [], wrote := [], keyed := false }

theorem State.startStep_ok {tb : UpdTable} (h0 : s.ent (Ent.updTable n) ≠ 0) (h : s.readUpdTable n = .ok tb) :
    s.startStep n =
      (s.modUpd n (Upd.started · (s.ent (Ent.step n)) tb)).setEntBit (Ent.updStatus n) 0 true := by
  rw [State.startStep, if_neg h0, h]
  rfl

/-- A trigger that finds no step open starts one (R255). -/
theorem State.nextStep_starts {tb : UpdTable} (hopen : s.stepOpen n = false) (hq : (s.ctx n).upd.queued = 0)
    (h0 : s.ent (Ent.updTable n) ≠ 0) (h : s.readUpdTable n = .ok tb) :
    (s.withTrigger n).nextStep n 1 =
      (((s.withTrigger n).modUpd n fun u => { u with queued := u.queued - 1 }).modUpd n
        (Upd.started · (s.ent (Ent.step n)) tb)).setEntBit (Ent.updStatus n) 0 true := by
  have hqueued : ((s.withTrigger n).ctx n).upd.queued = 1 := by
    rw [State.withTrigger, State.ctx_modUpd, Upd.triggered, hq]
  let u := (s.withTrigger n).modUpd n fun u => { u with queued := u.queued - 1 }
  have hu : u.readUpdTable n = .ok tb := (State.readUpdTable_congr (t := u) (s := s) rfl rfl).trans h
  rw [State.nextStep, State.stepOpen_withTrigger, hopen, hqueued, if_neg (by decide), State.nextStep]
  exact State.startStep_ok (s := u) h0 hu

/-! ### The decision (R260, R261, R263) -/

theorem row_skipCount (n : Fin 64) : (Catalog.row (Ent.skipCount n)).map (·.size) = some 4 := by
  revert n
  decide +kernel

/-- What makes a step be skipped (R261): a gradient that is not finite, a saturated sum, a norm above the ceiling. -/
def UpdTable.skips (t : UpdTable) (sum : Nat) (nonfin : Bool) : Prop :=
  nonfin = true ∨ sum = normSat ∨ f32rel .lt t.ceiling (normOf sum) = true

/-- CAUSE of a decision (Table 9.6). -/
def UpdTable.cause (t : UpdTable) (sum : Nat) (nonfin : Bool) : Nat :=
  if nonfin then 1 else if sum = normSat then 2 else if f32rel .lt t.ceiling (normOf sum) then 3 else 0

theorem UpdTable.cause_ne_zero_iff {t : UpdTable} {sum : Nat} {nonfin : Bool} :
    t.cause sum nonfin ≠ 0 ↔ t.skips sum nonfin := by
  unfold UpdTable.cause UpdTable.skips
  split_ifs with h1 h2 h3 <;> simp_all

/-- LAST_NORM of a decision with a CAUSE (Table 9.6). -/
def lastNormOf (cause sum : Nat) : Word32 :=
  match cause with
  | 1 => f32nan
  | 2 => f32inf false
  | _ => normOf sum

/-- The state once a decision stands in UPD_STATUS and LAST_NORM, and the partials of its step have gone (R259, Table
9.6). -/
def State.judged (s : State) (n sum cause : Nat) : State :=
  (((s.setEntBits (Ent.updStatus n) 2 3 cause).setEnt (Ent.lastNorm n) (lastNormOf cause sum).toNat).setEntBit
    (Ent.updStatus n) 1 (cause != 0)).modUpd n fun u => { u with
      partials := u.partials.filter fun p => Nat.blt u.step p.2.1 }

/-- Whether the sweep of a step sends KEY records (R277). -/
def State.keyDue (s : State) (n : Nat) : Bool :=
  s.ent (Ent.exportMode n) != 0 && ((s.ctx n).exp.key || s.entBit (Ent.exportCtl n) 0)

/-- The state in which a sweep begins with the clip scale of a norm (R263). -/
def State.sweepBegun (s : State) (n : Nat) (norm : Word32) : State :=
  (s.modUpd n fun u => { u with
    stage := .sweep, scale := clipScale u.table.clipNorm norm, keyed := s.keyDue n }).setEntBit (Ent.exportCtl n) 0
      (s.entBit (Ent.exportCtl n) 0 && !s.keyDue n)

/-- The state in which a step has been skipped: it goes to its boundary, and is counted and recorded (R261). -/
def State.stepSkipped (s : State) (n cause sum : Nat) : State :=
  ((s.modUpd n fun u => { u with stage := .boundary, skipped := true }).bump (Ent.skipCount n)).logCtx Code.stepSkipped n
    [cause, (lastNormOf cause sum).toNat]

theorem State.decideStep_eq (s : State) (n sum : Nat) (nonfin : Bool) : s.decideStep n sum nonfin =
    let cause := (s.ctx n).upd.table.cause sum nonfin
    if cause = 0 then (s.judged n sum cause).sweepBegun n (normOf sum)
    else (s.judged n sum cause).stepSkipped n cause sum := rfl

theorem State.judged_upd (s : State) (n sum cause : Nat) : ((s.judged n sum cause).ctx n).upd =
    { (s.ctx n).upd with partials := (s.ctx n).upd.partials.filter fun p => Nat.blt (s.ctx n).upd.step p.2.1 } := by
  rw [State.judged, State.ctx_modUpd]
  rfl

theorem State.judged_ent (s : State) (n sum cause : Nat) {k : Nat} (hs : k ≠ Ent.updStatus n) (hl : k ≠ Ent.lastNorm n) :
    (s.judged n sum cause).ent k = s.ent k := by
  change (State.setEntBit _ _ _ _).ent k = _
  rw [State.ent_setEntBit_ne _ _ _ hs, State.ent_setEnt_ne _ _ hl, State.ent_setEntBits_ne _ _ _ _ hs]

/-- What a decision leaves in UPD_STATUS and LAST_NORM (Table 9.6). -/
theorem State.judged_status (s : State) (n sum : Nat) {cause : Nat} (hc : cause < 8) :
    (s.judged n sum cause).entBit (Ent.updStatus n) 1 = (cause != 0) ∧
      (s.judged n sum cause).entBits (Ent.updStatus n) 2 3 = cause ∧
      (s.judged n sum cause).ent (Ent.lastNorm n) = (lastNormOf cause sum).toNat := by
  have hne : Ent.lastNorm n ≠ Ent.updStatus n := by simp only [Ent.lastNorm, Ent.updStatus]; omega
  refine ⟨State.entBit_setEntBit _ _ _ _, ?_, ?_⟩
  · change (State.setEntBit _ _ _ _).entBits _ _ _ = _
    rw [State.entBits_setEntBit_above _ _ _ _ (by decide), State.entBits_congr (State.ent_setEnt_ne _ _ hne.symm),
      State.entBits_setEntBits]
    exact Nat.mod_eq_of_lt hc
  · change (State.setEntBit _ _ _ _).ent _ = _
    rw [State.ent_setEntBit_ne _ _ _ hne, State.ent_setEnt]

/-- A step that is skipped (R261): it goes to its boundary, and SKIP_COUNT rises. -/
theorem State.decideStep_skips {n : Nat} (hn : n < 64) {sum : Nat} {nonfin : Bool}
    (h : (s.ctx n).upd.table.skips sum nonfin) :
    ((s.decideStep n sum nonfin).ctx n).upd.stage = .boundary ∧ ((s.decideStep n sum nonfin).ctx n).upd.skipped = true ∧
      (s.decideStep n sum nonfin).entBit (Ent.updStatus n) 1 = true ∧ (s.ent (Ent.skipCount n) < 2 ^ 32 - 1 →
        (s.decideStep n sum nonfin).ent (Ent.skipCount n) = s.ent (Ent.skipCount n) + 1) := by
  have hc := UpdTable.cause_ne_zero_iff.2 h
  have heq := s.decideStep_eq n sum nonfin
  dsimp only at heq
  rw [if_neg hc] at heq
  generalize hcause : (s.ctx n).upd.table.cause sum nonfin = cause at heq hc
  have hlt : cause < 8 := by
    subst hcause
    unfold UpdTable.cause
    split_ifs <;> decide
  obtain ⟨hbit, -, -⟩ := s.judged_status n sum hlt
  have hskip : Ent.updStatus n ≠ Ent.skipCount n ∧ Ent.updStatus n ≠ Ent.logHead ∧ Ent.updStatus n ≠ Ent.logLost ∧
      Ent.skipCount n ≠ Ent.logHead ∧ Ent.skipCount n ≠ Ent.logLost ∧ Ent.skipCount n ≠ Ent.lastNorm n := by
    simp only [Ent.updStatus, Ent.skipCount, Ent.logHead, Ent.logLost, Ent.lastNorm]; omega
  obtain ⟨hus, huh, hul, hsh, hsl, hsn⟩ := hskip
  have hj : (s.judged n sum cause).ent (Ent.skipCount n) = s.ent (Ent.skipCount n) := s.judged_ent n sum cause hus.symm hsn
  have hctx : ((s.decideStep n sum nonfin).ctx n).upd =
      { ((s.judged n sum cause).ctx n).upd with stage := .boundary, skipped := true } := by
    rw [heq, State.stepSkipped, (Reports.logCtx _ _ _ _).ctx, (Reports.bump _ _).ctx, State.ctx_modUpd]
  refine ⟨by rw [hctx], by rw [hctx], ?_, fun hmax => ?_⟩
  · rw [heq, State.stepSkipped, State.entBit_congr (State.ent_logCtx _ _ _ _ huh hul),
      State.entBit_congr (State.ent_bump_ne _ hus)]
    exact hbit.trans (by simpa using hc)
  · rw [← hj] at hmax ⊢
    rw [heq, State.stepSkipped, State.ent_logCtx _ _ _ _ hsh hsl]
    exact State.ent_bump_of_lt (row_skipCount ⟨n, hn⟩) hmax

/-- A step that is not skipped begins its sweep with the clip scale (R263). -/
theorem State.decideStep_sweeps {n sum : Nat} {nonfin : Bool}
    (h : ¬ (s.ctx n).upd.table.skips sum nonfin) :
    ((s.decideStep n sum nonfin).ctx n).upd.stage = .sweep ∧
      ((s.decideStep n sum nonfin).ctx n).upd.scale = clipScale (s.ctx n).upd.table.clipNorm (normOf sum) ∧
      (s.decideStep n sum nonfin).ent (Ent.lastNorm n) = (normOf sum).toNat ∧
      (s.decideStep n sum nonfin).entBit (Ent.updStatus n) 1 = false ∧
      (s.decideStep n sum nonfin).entBits (Ent.updStatus n) 2 3 = 0 := by
  have hc : (s.ctx n).upd.table.cause sum nonfin = 0 := not_not.1 (mt UpdTable.cause_ne_zero_iff.1 h)
  have heq : s.decideStep n sum nonfin = (s.judged n sum 0).sweepBegun n (normOf sum) := by
    rw [s.decideStep_eq n sum nonfin, hc]; rfl
  obtain ⟨hbit, hcause, hlast⟩ := s.judged_status n sum (cause := 0) (by decide)
  have hctl : Ent.updStatus n ≠ Ent.exportCtl n ∧ Ent.lastNorm n ≠ Ent.exportCtl n := by
    simp only [Ent.updStatus, Ent.exportCtl, Ent.lastNorm]; omega
  have hent : ∀ k, k ≠ Ent.exportCtl n → (s.decideStep n sum nonfin).ent k = (s.judged n sum 0).ent k := fun k hk => by
    rw [heq]
    exact State.ent_setEntBit_ne _ _ _ hk
  have hctx : ((s.decideStep n sum nonfin).ctx n).upd = { ((s.judged n sum 0).ctx n).upd with
      stage := .sweep, scale := clipScale ((s.judged n sum 0).ctx n).upd.table.clipNorm (normOf sum),
      keyed := (s.judged n sum 0).keyDue n } := by
    rw [heq, State.sweepBegun, State.ctx_setEntBit, State.ctx_modUpd]
  refine ⟨by rw [hctx], by rw [hctx, State.judged_upd], ?_, ?_, ?_⟩
  · exact (hent _ hctl.2).trans hlast
  · exact (State.entBit_congr (hent _ hctl.1) 1).trans hbit
  · exact (State.entBits_congr (hent _ hctl.1) 2 3).trans hcause

end Sys2Proof.Machine
end

section
/-!
SUPPORT. What messages leave of the state: those that a port takes, and the norm partials of a context (R259, R313, R318,
R323).
-/

namespace Sys2Proof.Machine

open Sys2Proof

variable {s t u : State}

/-- The peers of a context rest on its peer table, its partition and the partition's block (R315). -/
theorem State.peerOf_congr {n : Nat} (hp : (t.ctx n).peers = (s.ctx n).peers)
    (hd : t.ent (Ent.ctxDef n) = s.ent (Ent.ctxDef n)) (hm : t.ent Ent.machineDims = s.ent Ent.machineDims)
    (hb : ∀ k < 16, t.ent (Ent.partBlock k) = s.ent (Ent.partBlock k)) (j : Nat) : t.peerOf n j = s.peerOf n j := by
  have hpart : t.ctxPart n = s.ctxPart n := State.entBits_congr hd 2 4
  have hblock := hb (s.ctxPart n) (Nat.mod_lt _ (by decide))
  have hin : ∀ c, t.inBlock (s.ctxPart n) c = s.inBlock (s.ctxPart n) c := fun c => by
    simp only [State.inBlock, State.dim, State.block, hm, hblock]
  simp only [State.peerOf, hp, hpart, hin]

/-! ### A message at a port -/

/-- From s to t a port sent or queued flits: nothing but the links, what was sent and the state of that port differs. -/
structure SendsAt (p : Nat) (s t : State) : Prop where
  eq : t = { s with links := t.links, out := t.out, dict := t.dict }
  ent : ∀ k, k ≠ Ent.portState p → t.ent k = s.ent k

namespace SendsAt

variable {p : Nat}

theorem refl (s : State) : SendsAt p s s := ⟨rfl, fun _ _ => rfl⟩

theorem trans (h : SendsAt p s t) (h' : SendsAt p t u) : SendsAt p s u := by
  refine ⟨?_, fun k hk => (h'.ent k hk).trans (h.ent k hk)⟩
  rw [h'.eq, h.eq]

theorem ctxs (h : SendsAt p s t) : t.ctxs = s.ctxs := by rw [h.eq]
theorem mem (h : SendsAt p s t) : t.mem = s.mem := by rw [h.eq]
theorem rel (h : SendsAt p s t) : t.rel = s.rel := by rw [h.eq]

theorem setPort (s : State) (x : Port) : SendsAt p s (s.setPort p x) := ⟨rfl, fun _ hk => State.ent_setEnt_ne _ _ hk⟩

theorem sendFlit (s : State) (kind seq vc : Nat) (payload : List Byte) : SendsAt p s (s.sendFlit p kind seq vc payload) :=
  (setPort s _).trans ⟨rfl, fun _ _ => rfl⟩

theorem sendSequenced (s : State) (f : TxFlit) : SendsAt p s (s.sendSequenced p f) :=
  (setPort s _).trans (sendFlit _ _ _ _ _)

theorem sendNext (s : State) (vc : Nat) : SendsAt p s (s.sendNext p vc) := by
  unfold State.sendNext
  dsimp only
  split
  · exact refl s
  · exact (setPort s _).trans (sendSequenced _ _)

theorem drive (s : State) (fuel : Nat) : SendsAt p s (s.drive p fuel) := by
  induction fuel generalizing s with
  | zero => exact refl s
  | succ fuel ih =>
    rw [State.drive]
    split
    · split
      · exact (sendNext s _).trans (ih _)
      · exact refl s
    · exact refl s

theorem transmit (s : State) (vc : Nat) (m : Msg) : SendsAt p s (s.transmit p vc m).2 := by
  have hqueue : SendsAt p s (s.enqueue p vc m) := setPort s _
  unfold State.transmit
  dsimp only
  split
  · exact hqueue.trans (drive _ _)
  · split
    · exact hqueue
    · exact refl s

end SendsAt

/-- A message leaves toward its destination on one of the six ports (R323). -/
theorem State.hop_lt {m : Msg} {p vc : Nat} (h : s.hop m = some (p, vc)) : p < 6 := by
  obtain ⟨r, hr, hp⟩ := Option.map_eq_some_iff.1 h
  obtain ⟨a, ha, rfl⟩ := Option.map_eq_some_iff.1 hr
  have ha3 : a < 3 := List.mem_range.1 (List.mem_of_find?_eq_some ha)
  rw [← (Prod.mk.inj hp).1]
  dsimp only
  split_ifs <;> dsimp only <;> omega

/-- An ACK to another package leaves on one port, or completes nowhere (R313, R320). -/
theorem State.sendAck_remote {h : MsgHeader} (hr : h.scoord.toNat ≠ s.ent Ent.pkgCoord) (status words : Nat) :
    ∃ p < 6, SendsAt p s (s.sendAck h status words) := by
  unfold State.sendAck
  dsimp only
  rw [if_neg hr]
  split
  · next p vc hp => exact ⟨p, State.hop_lt hp, SendsAt.transmit s vc _⟩
  · exact ⟨0, by decide, SendsAt.refl s⟩

/-! ### Norm partials that leave (R259) -/

/-- The entries in which links report: the states of the ports, messages that completed other than OK, and the counts of the
log. -/
def LinkReport (k : Nat) : Prop :=
  k = Ent.logHead ∨ k = Ent.logLost ∨ (Ent.portState 0 ≤ k ∧ k < Ent.portState 6) ∨
    (Ent.linkDrop 0 ≤ k ∧ k < Ent.linkDrop 256)

/-- From s to t messages left: the steps and peers of the contexts, the stacks and the entries but those in which links
report stayed. -/
structure PassesOn (s t : State) : Prop where
  upd : ∀ m, (t.ctx m).upd = (s.ctx m).upd
  peers : ∀ m, (t.ctx m).peers = (s.ctx m).peers
  mem : t.mem = s.mem
  ent : ∀ k, ¬ LinkReport k → t.ent k = s.ent k

namespace PassesOn

theorem refl (s : State) : PassesOn s s := ⟨fun _ => rfl, fun _ => rfl, rfl, fun _ _ => rfl⟩

theorem trans (h : PassesOn s t) (h' : PassesOn t u) : PassesOn s u :=
  ⟨fun m => (h'.upd m).trans (h.upd m), fun m => (h'.peers m).trans (h.peers m), h'.mem.trans h.mem,
    fun k hk => (h'.ent k hk).trans (h.ent k hk)⟩

theorem of_sendsAt {p : Nat} (hp : p < 6) (h : SendsAt p s t) : PassesOn s t := by
  have hctx : ∀ m, t.ctx m = s.ctx m := fun m => by rw [State.ctx, h.ctxs, State.ctx]
  refine ⟨fun m => by rw [hctx], fun m => by rw [hctx], h.mem, fun k hk => h.ent k ?_⟩
  simp only [LinkReport, Ent.portState] at hk ⊢
  omega

/-- A message that completed other than OK is counted, and the first is recorded (R320). -/
theorem linkDrop {n : Nat} (hn : n < 256) (s : State) (peer status : Nat) : PassesOn s (s.linkDrop n peer status) := by
  have hne : ∀ k, ¬ LinkReport k → k ≠ Ent.linkDrop n ∧ k ≠ Ent.logHead ∧ k ≠ Ent.logLost := fun k hk => by
    simp only [LinkReport, Ent.linkDrop] at hk ⊢
    omega
  have hctx : ∀ m, (((s.bump (Ent.linkDrop n)).modCtx n fun c => { c with first := c.first ||| 8#4 }).ctx m).upd =
      (s.ctx m).upd ∧ (((s.bump (Ent.linkDrop n)).modCtx n fun c => { c with first := c.first ||| 8#4 }).ctx m).peers =
      (s.ctx m).peers := fun m => by
    by_cases hm : m = n
    · subst hm; rw [State.ctx_modCtx]; exact ⟨rfl, rfl⟩
    · rw [State.ctx_modCtx_ne _ _ hm]; exact ⟨rfl, rfl⟩
  unfold State.linkDrop
  dsimp only
  split
  · exact ⟨fun _ => rfl, fun _ => rfl, rfl, fun k hk => State.ent_bump_ne s (hne k hk).1⟩
  · have hr := Reports.logCtx ((s.bump (Ent.linkDrop n)).modCtx n fun c => { c with first := c.first ||| 8#4 })
      Code.linkDrop n [peer, status]
    refine ⟨fun m => by rw [hr.ctx]; exact (hctx m).1, fun m => by rw [hr.ctx]; exact (hctx m).2, hr.mem, fun k hk => ?_⟩
    obtain ⟨hdrop, hhead, hlost⟩ := hne k hk
    exact (State.ent_logCtx _ _ _ _ hhead hlost).trans (State.ent_bump_ne s hdrop)

theorem failNorm {m : Msg} (hk : m.kind = Kind.norm) (s : State) : PassesOn s (s.failMsg m) := by
  have hsender : ¬ (m.kind = Kind.write || m.kind = Kind.voile || m.kind = Kind.post) := by rw [hk]; decide
  have hctx : m.ofContext = true := by rw [Msg.ofContext, hk]; decide
  unfold State.failMsg
  rw [if_neg (by simpa using hsender), if_pos hctx]
  split
  · exact linkDrop m.h.sctx.isLt s _ _
  · next hr =>
    obtain ⟨p, hp, hs⟩ := State.sendAck_remote hr Ack.linkDown 0
    exact of_sendsAt hp hs

/-- A norm partial to another package goes on its way, or completes with LINK_DOWN (R313, R320). -/
theorem sendNorm {m : Msg} (hk : m.kind = Kind.norm) (s : State) : PassesOn s (s.sendMsg m) := by
  have hlocal : ¬ (m.kind = Kind.write || m.kind = Kind.voile) ∧ ¬ m.kind = Kind.post := by rw [hk]; decide
  have hforward : PassesOn s (s.forward m) := by
    unfold State.forward
    split
    · next p vc hp =>
      have hs := of_sendsAt (State.hop_lt hp) (SendsAt.transmit s vc m)
      dsimp only
      split
      · exact hs
      · exact hs.trans (failNorm hk _)
    · exact failNorm hk s
  unfold State.sendMsg
  split
  · rw [if_neg (by simpa using hlocal.1), if_neg hlocal.2]
    exact refl s
  · exact hforward

theorem foldl {α : Type} {f : State → α → State} (l : List α) (s : State)
    (hf : ∀ a ∈ l, ∀ t, PassesOn s t → PassesOn t (f t a)) : PassesOn s (l.foldl f s) := by
  suffices h : ∀ (l' : List α) (t : State), l' ⊆ l → PassesOn s t → PassesOn s (l'.foldl f t) from
    h l s (List.Subset.refl l) (refl s)
  intro l'
  induction l' with
  | nil => exact fun _ _ ht => ht
  | cons a l' ih =>
    intro t hl ht
    obtain ⟨ha, hl'⟩ := List.cons_subset.1 hl
    exact ih _ hl' (ht.trans (hf a ha t ht))

theorem peerOf (h : PassesOn s t) {n : Nat} (hn : n < 64) (j : Nat) : t.peerOf n j = s.peerOf n j := by
  refine State.peerOf_congr (h.peers n) (h.ent _ ?_) (h.ent _ ?_) (fun k hk => h.ent _ ?_) j
  all_goals
    simp only [LinkReport, Ent.ctxDef, Ent.machineDims, Ent.partBlock, Ent.logHead, Ent.logLost, Ent.portState,
      Ent.linkDrop]
    omega

end PassesOn

/-- The partials of a step go to the peers, none of which is in this package (R259). -/
theorem State.sendNorm_passesOn {n : Nat} (hn : n < 64) (hremote : ∀ j ∈ (s.ctx n).upd.table.peers, ∀ p,
    s.peerOf n j = some p → p.coord ≠ s.ent Ent.pkgCoord) : PassesOn s (s.sendNorm n) := by
  refine PassesOn.foldl _ s fun j hj t ht => ?_
  rw [ht.peerOf hn]
  have hcoord : t.ent Ent.pkgCoord = s.ent Ent.pkgCoord := ht.ent _ (by
    simp only [LinkReport, Ent.pkgCoord, Ent.logHead, Ent.logLost, Ent.portState, Ent.linkDrop]
    omega)
  split
  · next p hp =>
    dsimp only
    rw [hcoord, if_neg (hremote j hj p hp)]
    exact PassesOn.sendNorm rfl t
  · exact PassesOn.refl t

end Sys2Proof.Machine
end

section
/-!
PROOF. Triggers and the pre-pass (R254, R255, R258 to R263).
-/

namespace Sys2Proof.Machine

open Sys2Proof

variable {s : State} {n : Fin 64} {key sum : Nat} {tb : UpdTable} {nonfin : Bool}

/-! ### Triggers (R254, R255) -/

theorem exec_updateTrigger_starts (h : s.Triggered n key) (hopen : s.stepOpen n = false)
    (hq : (s.ctx n).upd.queued = 0) (htb : s.readUpdTable n = .ok tb) :
    ∃ t, exec (.updateTrigger n) s = .next t ∧ (t.ctx n).upd.stage = .prePass ∧ (t.ctx n).upd.table = tb ∧
      (t.ctx n).upd.step = s.ent (Ent.step n) ∧
      (t.ctx n).upd.target = (s.ctx n).upd.target + s.entBits (Ent.updTrigger n) 32 32 ∧ (t.ctx n).upd.queued = 0 ∧
      t.entBit (Ent.updStatus n) 0 = true ∧ t.mem = s.mem ∧ t.cores = s.cores := by
  refine ⟨_, exec_updateTrigger h, ?_⟩
  rw [hq, State.nextStep_starts hopen hq h.table htb]
  rw [State.ctx_setEntBit, State.ctx_modUpd, State.ctx_modUpd, State.withTrigger, State.ctx_modUpd]
  exact ⟨rfl, rfl, rfl, rfl, congrArg (· + 1 - 1) hq, State.entBit_setEntBit _ _ _ _, rfl, rfl⟩

theorem exec_updateTrigger_queues (h : s.Triggered n key) (hopen : s.stepOpen n = true) :
    ∃ t, exec (.updateTrigger n) s = .next t ∧
      (t.ctx n).upd = (s.ctx n).upd.triggered (s.entBits (Ent.updTrigger n) 32 32) ∧ t = { s with ctxs := t.ctxs } ∧
      ∀ m, m ≠ n.val → t.ctx m = s.ctx m := by
  refine ⟨s.withTrigger n, ?_, ?_, rfl, fun m hm => State.ctx_modUpd_ne s _ hm⟩
  · rw [exec_updateTrigger h, State.nextStep_of_open ((s.stepOpen_withTrigger n).trans hopen)]
  · rw [State.withTrigger, State.ctx_modUpd]

/-! ### The end of the pre-pass (R258, R259) -/

/-- The accesses that the engines make change the counts of accesses alone (R232). -/
theorem State.countUpe_eq (s : State) (n : Nat) (f : Nat → Nat) (l : List (Nat × Nat)) :
    s.countUpe n f l = s.modMem fun m => { m with accesses := (s.countUpe n f l).mem.accesses } := by
  unfold State.countUpe
  generalize l.flatMap (fun r => lineParts r.1 r.2) = parts
  induction parts generalizing s with
  | nil => rfl
  | cons p parts ih =>
    rw [List.foldl_cons, ih]
    rfl

/-- The package's partial stands, and its peers' partials are awaited (R258, R259). -/
def Upd.summed (u : Upd) (sum : Nat) (nonfin : Bool) : Upd := { u with stage := .norm, sum := sum, nonfin := nonfin }

/-- The state in which the pre-pass of a context has formed the package's partial. -/
def State.prePassed (s : State) (n sum : Nat) (nonfin : Bool) : State :=
  (s.countUpe n (s.upeAt n) (((s.ctx n).upd.table.recs.filter fun r => ((s.ctx n).upd.table.groupOf r).kind != 0).map
    fun r => (r.grad, 4 * r.count))).modUpd n (Upd.summed · sum nonfin)

theorem exec_prePassEnd (hst : (s.ctx n).upd.stage = .prePass) (hs : s.mem.served = true)
    (h : s.prePass n (s.ctx n).upd.table (s.ctx n).upd.table.recs (0, false) = .ok (sum, nonfin)) :
    exec (.prePassEnd n) s = .next (((s.prePassed n sum nonfin).sendNorm n).tryDecide n) := by
  have hexec : exec (.prePassEnd n) s = execPrePassEnd n s := rfl
  rw [hexec, execPrePassEnd, h, if_neg (by rw [hst, hs]; decide)]
  rfl

theorem State.prePassed_eq (s : State) (n sum : Nat) (nonfin : Bool) : s.prePassed n sum nonfin =
    { s with mem := { s.mem with accesses := (s.prePassed n sum nonfin).mem.accesses }
             ctxs := (s.prePassed n sum nonfin).ctxs } := by
  unfold State.prePassed
  rw [State.countUpe_eq]
  rfl

theorem State.prePassed_ctx (s : State) (n sum : Nat) (nonfin : Bool) :
    (s.prePassed n sum nonfin).ctx n = { s.ctx n with upd := (s.ctx n).upd.summed sum nonfin } := by
  unfold State.prePassed
  rw [State.countUpe_eq]
  exact State.ctx_modUpd _ _ _

theorem State.prePassed_mem (s : State) (n sum : Nat) (nonfin : Bool) : (s.prePassed n sum nonfin).mem =
    { s.mem with accesses := (s.prePassed n sum nonfin).mem.accesses } := by
  rw [State.prePassed_eq]

theorem State.prePassed_upd (s : State) (n sum : Nat) (nonfin : Bool) :
    ((s.prePassed n sum nonfin).ctx n).upd = (s.ctx n).upd.summed sum nonfin := by
  rw [State.prePassed_ctx]

theorem State.prePassed_ent (s : State) (n sum : Nat) (nonfin : Bool) (k : Nat) :
    (s.prePassed n sum nonfin).ent k = s.ent k := State.ent_congr (by rw [State.prePassed_eq]) k

/-- A package without norm peers decides by its own partial (R259, R260). -/
theorem State.tryDecide_alone {t : State} {n : Nat} (hst : (t.ctx n).upd.stage = .norm)
    (hp : (t.ctx n).upd.table.peers = []) :
    (t.sendNorm n).tryDecide n = t.decideStep n (t.ctx n).upd.sum (t.ctx n).upd.nonfin := by
  simp [State.sendNorm, State.tryDecide, hp, hst]

/-- A step waits while a partial is missing (R259). -/
theorem State.tryDecide_waits {t : State} {n j : Nat} (hj : j ∈ (t.ctx n).upd.table.peers)
    (hp : (t.ctx n).upd.partialOf j = none) : t.tryDecide n = t := by
  have hall : (((t.ctx n).upd.table.peers.map (t.ctx n).upd.partialOf).all Option.isSome) = false :=
    List.all_eq_false.2 ⟨none, List.mem_map.2 ⟨j, hj, hp⟩, by decide⟩
  unfold State.tryDecide
  dsimp only
  rw [hall, Bool.and_false, if_neg Bool.false_ne_true]

theorem exec_prePassEnd_decides (hst : (s.ctx n).upd.stage = .prePass) (hs : s.mem.served = true)
    (h : s.prePass n (s.ctx n).upd.table (s.ctx n).upd.table.recs (0, false) = .ok (sum, nonfin))
    (hpeers : (s.ctx n).upd.table.peers = []) :
    exec (.prePassEnd n) s = .next ((s.prePassed n sum nonfin).decideStep n sum nonfin) := by
  have hupd := s.prePassed_upd n sum nonfin
  rw [exec_prePassEnd hst hs h, State.tryDecide_alone (by rw [hupd]; rfl) (by rw [hupd]; exact hpeers), hupd]
  rfl

theorem exec_prePassEnd_waits (hst : (s.ctx n).upd.stage = .prePass) (hs : s.mem.served = true)
    (h : s.prePass n (s.ctx n).upd.table (s.ctx n).upd.table.recs (0, false) = .ok (sum, nonfin))
    (hmiss : ∃ p ∈ (s.ctx n).upd.table.peers, (s.ctx n).upd.partialOf p = none)
    (hremote : ∀ j ∈ (s.ctx n).upd.table.peers, ∀ p, s.peerOf n j = some p → p.coord ≠ s.ent Ent.pkgCoord) :
    ∃ t, exec (.prePassEnd n) s = .next t ∧ (t.ctx n).upd.stage = .norm ∧ (t.ctx n).upd.sum = sum ∧
      (t.ctx n).upd.nonfin = nonfin ∧ t.mem.cells = s.mem.cells := by
  let u := s.prePassed n sum nonfin
  have hctx : u.ctx n = _ := s.prePassed_ctx n sum nonfin
  have hent : ∀ k, u.ent k = s.ent k := s.prePassed_ent n sum nonfin
  have hpeer : ∀ j, u.peerOf n j = s.peerOf n j :=
    State.peerOf_congr (by rw [hctx]) (hent _) (hent _) fun _ _ => hent _
  obtain ⟨hupd, -, hmem, -⟩ := State.sendNorm_passesOn (s := u) n.isLt (by
    rw [hctx, hent]
    intro j hj p hp
    exact hremote j hj p ((hpeer j).symm.trans hp))
  have hsent : ((u.sendNorm n).ctx n).upd = (s.ctx n).upd.summed sum nonfin := by rw [hupd, hctx]
  obtain ⟨j, hj, hp⟩ := hmiss
  refine ⟨u.sendNorm n, ?_, by rw [hsent]; rfl, by rw [hsent]; rfl, by rw [hsent]; rfl, ?_⟩
  · rw [exec_prePassEnd hst hs h]
    exact congrArg Host.Outcome.next (State.tryDecide_waits (by rw [hsent]; exact hj) (by rw [hsent]; exact hp))
  · rw [hmem, s.prePassed_mem n sum nonfin]

/-- Settles O33: a trigger by the step that it starts or queues behind, the pre-pass by what the decision leaves, or by what
the partials that leave do not change. -/
theorem stepsBeginAndDecide : Obligations.StepsBeginAndDecide := by
  unfold Obligations.StepsBeginAndDecide
  intro n s key tb sum nonfin u inc reached bad
  have htrig : reached → s.Triggered n key := fun ⟨hword, hvalid, htable, hinc, hserved, hreached⟩ =>
    ⟨hword, hvalid, htable, hinc, hserved, hreached⟩
  refine ⟨fun h => exec_updateTrigger_starts (htrig h), fun h => exec_updateTrigger_queues (htrig h),
    fun hst hs h hpeers hmax => ?_, exec_prePassEnd_waits⟩
  let v := s.prePassed n sum nonfin
  have htable : (v.ctx n).upd.table = u.table := by
    rw [show (v.ctx n).upd = _ from s.prePassed_upd n sum nonfin]
    rfl
  have hskips : (v.ctx n).upd.table.skips sum nonfin ↔ bad := by rw [htable]; rfl
  have hcount : v.ent (Ent.skipCount n) = s.ent (Ent.skipCount n) := s.prePassed_ent n sum nonfin _
  refine ⟨v.decideStep n sum nonfin, exec_prePassEnd_decides hst hs h hpeers, ?_, fun hbad => ?_, fun hgood => ?_⟩
  · rw [State.decideStep_mem]
    exact s.prePassed_mem n sum nonfin
  · obtain ⟨hstage, hskipped, hbit, hrise⟩ := State.decideStep_skips n.isLt (hskips.2 hbad)
    rw [hcount] at hrise
    exact ⟨hstage, hskipped, hrise hmax, hbit⟩
  · obtain ⟨hstage, hscale, hrest⟩ := State.decideStep_sweeps (mt hskips.1 hgood)
    rw [htable] at hscale
    exact ⟨hstage, hscale, hrest⟩

end Sys2Proof.Machine
end

section
/-!
PROOF. Norm partials from peers, and the norm timeout (R259, R260, R262, R319).
-/

namespace Sys2Proof.Machine

open Sys2Proof

variable {s : State} {n : Fin 64} {port : Fin 6} {h : MsgHeader} {peer step sum : Nat} {nonfin : Bool}

/-! ### What arrives -/

theorem row_peerReject (n : Fin 64) : (Catalog.row (Ent.peerReject n)).map (·.size) = some 4 := by
  revert n
  decide +kernel

/-- A norm partial for this package is taken here (R319). -/
theorem exec_normReceive (hc : h.clean.dcoord.toNat = s.ent Ent.pkgCoord) :
    exec (.normReceive port h step sum nonfin) s = .next (s.takeNorm h.clean step sum nonfin) := by
  have hexec : exec (.normReceive port h step sum nonfin) s = execNormReceive port h step sum nonfin s := rfl
  rw [hexec, execNormReceive, if_pos hc]

/-- A partial of a source that the peer table does not name is refused and counted (R319). -/
theorem exec_normReceive_refuses (hc : h.clean.dcoord.toNat = s.ent Ent.pkgCoord) (hn : h.clean.dctx.toNat = n.val)
    (ha : s.accepts h.clean = false) (hr : h.clean.scoord.toNat ≠ s.ent Ent.pkgCoord)
    (hmax : s.ent (Ent.peerReject n) < 2 ^ 32 - 1) :
    ∃ t, exec (.normReceive port h step sum nonfin) s = .next t ∧
      t.ent (Ent.peerReject n) = s.ent (Ent.peerReject n) + 1 ∧ t.ctxs = s.ctxs ∧ t.mem = s.mem := by
  have htake : s.takeNorm h.clean step sum nonfin = (s.bump (Ent.peerReject n)).sendAck h.clean Ack.rejected 0 := by
    simp only [State.takeNorm, State.admitMsg, State.admitAny, ha, hn]
    rfl
  have hne : Ent.pkgCoord ≠ Ent.peerReject n := by simp only [Ent.pkgCoord, Ent.peerReject]; omega
  obtain ⟨p, hp, hs⟩ := State.sendAck_remote (s := s.bump (Ent.peerReject n)) (h := h.clean)
    (by rwa [State.ent_bump_ne _ hne]) Ack.rejected 0
  refine ⟨_, (exec_normReceive hc).trans (congrArg Host.Outcome.next htake), ?_, hs.ctxs, hs.mem⟩
  rw [hs.ent _ (by simp only [Ent.peerReject, Ent.portState]; omega)]
  exact State.ent_bump_of_lt (row_peerReject n) hmax

/-- A message for context n of this package that R319 admits, of the peer with a number. -/
structure State.AdmitsFrom (s : State) (c : MsgHeader) (n : Fin 64) (peer : Nat) : Prop where
  here : c.dcoord.toNat = s.ent Ent.pkgCoord
  ctx : c.dctx.toNat = n.val
  accepted : s.accepts c = true
  tag : s.tagOk n c.tag.toNat = true
  running : s.rel.creset = false
  named : s.peerNo n c.scoord.toNat c.spart.toNat c.sctx.toNat = some peer

theorem exec_normReceive_admitted (ha : s.AdmitsFrom h.clean n peer) :
    exec (.normReceive port h step sum nonfin) s = .next (if Nat.blt step (s.ent (Ent.step n)) then s
      else (s.modUpd n fun u => u.keep (s.ent (Ent.step n)) peer step sum nonfin).tryDecide n) := by
  rw [exec_normReceive ha.here]
  simp only [State.takeNorm, State.admitMsg, State.admitAny, ha.accepted, ha.ctx, ha.tag, ha.running, ha.named]
  rfl

/-- The state in which the partial of a peer is kept (R259). -/
def State.keptPartial (s : State) (n peer step sum : Nat) (nonfin : Bool) : State :=
  s.modUpd n fun u => u.keep (s.ent (Ent.step n)) peer step sum nonfin

theorem State.keptPartial_upd (s : State) (n peer step sum : Nat) (nonfin : Bool) :
    ((s.keptPartial n peer step sum nonfin).ctx n).upd =
      (s.ctx n).upd.keep (s.ent (Ent.step n)) peer step sum nonfin := by
  rw [State.keptPartial, State.ctx_modUpd]

theorem exec_normReceive_keeps (ha : s.AdmitsFrom h.clean n peer) (hstep : s.ent (Ent.step n) ≤ step) :
    exec (.normReceive port h step sum nonfin) s = .next ((s.keptPartial n peer step sum nonfin).tryDecide n) := by
  rw [exec_normReceive_admitted ha, if_neg (by simpa only [Nat.blt_eq, not_lt] using hstep)]
  rfl

/-! ### What is kept (R259) -/

variable {cur : Nat} {u : Upd}

theorem Upd.mem_keep {p : Nat × Nat × Nat × Bool} : p ∈ (u.keep cur peer step sum nonfin).partials ↔
    (p ∈ u.partials ∧ (p.1 ≠ peer ∨ (p.2.1 ≠ step ∧ (p.2.1 = cur ∨ step = cur)))) ∨
      p = (peer, step, Nat.min sum normSat, nonfin) := by
  simp [Upd.keep]

/-- A partial just kept is the one of its peer and step. -/
theorem Upd.partialOf_keep : (u.keep cur peer u.step sum nonfin).partialOf peer = some (Nat.min sum normSat, nonfin) := by
  have hnone : (u.partials.filter fun p => p.1 != peer || (p.2.1 != u.step && (p.2.1 == cur || u.step == cur))).find?
      (fun p => p.1 == peer && p.2.1 == u.step) = none := by
    refine List.find?_eq_none.2 fun p hp hmatch => ?_
    obtain ⟨-, hkept⟩ := List.mem_filter.1 hp
    rw [Bool.and_eq_true, beq_iff_eq, beq_iff_eq] at hmatch
    simp [hmatch.1, hmatch.2] at hkept
  unfold Upd.partialOf Upd.keep
  rw [List.find?_append, hnone]
  simp

/-! ### The decision (R260) -/

theorem State.tryDecide_of_stage {t : State} {n : Nat} (h : (t.ctx n).upd.stage ≠ .norm) : t.tryDecide n = t := by
  unfold State.tryDecide
  dsimp only
  rw [if_neg (by simp [h])]

/-- The partial of the only peer decides the step over the saturated sum (R260). -/
theorem State.tryDecide_last {t : State} {n peer x : Nat} {b : Bool} (hst : (t.ctx n).upd.stage = .norm)
    (hp : (t.ctx n).upd.table.peers = [peer]) (hx : (t.ctx n).upd.partialOf peer = some (x, b)) :
    t.tryDecide n = t.decideStep n (Nat.min ((t.ctx n).upd.sum + x) normSat) ((t.ctx n).upd.nonfin || b) := by
  simp [State.tryDecide, hst, hp, hx]

theorem State.decideStep_stage (s : State) {n : Nat} (hn : n < 64) (sum : Nat) (nonfin : Bool) :
    (((s.decideStep n sum nonfin).ctx n).upd.stage = .sweep ↔ ¬ (s.ctx n).upd.table.skips sum nonfin) ∧
      (((s.decideStep n sum nonfin).ctx n).upd.stage = .sweep ∨
        ((s.decideStep n sum nonfin).ctx n).upd.stage = .boundary) := by
  by_cases h : (s.ctx n).upd.table.skips sum nonfin
  · obtain ⟨hstage, -⟩ := State.decideStep_skips hn h
    rw [hstage]
    simp [h]
  · obtain ⟨hstage, -⟩ := State.decideStep_sweeps h
    rw [hstage]
    simp [h]

/-! ### The timeout (R259, R262) -/

/-- The peers whose partial of the step has not come (R262). -/
def Upd.missing (u : Upd) : List Nat := u.table.peers.filter fun p => (u.partialOf p).isNone

/-- The state in which a step has been abandoned with CAUSE 4 (Table 9.6). -/
def State.abandoned (s : State) (n : Nat) : State :=
  (((s.setEntBits (Ent.updStatus n) 2 3 4).setEntBit (Ent.updStatus n) 0 false).logCtx Code.normTimeout n
    (s.ctx n).upd.missing).modUpd n fun u => { u with stage := .idle }

theorem exec_normTimeout (hst : (s.ctx n).upd.stage = .norm) (hq : (s.ctx n).upd.queued = 0) :
    exec (.normTimeout n) s = .next (s.abandoned n) := by
  have hexec : exec (.normTimeout n) s = execNormTimeout n s := rfl
  rw [hexec, execNormTimeout, if_neg (by simp [hst]), hq]
  rfl

theorem State.abandoned_spec (s : State) (n : Fin 64) :
    ((s.abandoned n).ctx n).upd = { (s.ctx n).upd with stage := .idle } ∧
      (s.abandoned n).entBits (Ent.updStatus n) 2 3 = 4 ∧
      (s.abandoned n).entBit (Ent.updStatus n) 0 = false ∧ (s.abandoned n).mem = s.mem ∧
      (s.abandoned n).cores = s.cores ∧
      ∃ rec_, (s.abandoned n).rel.log.head? = some rec_ ∧ rec_.code = 0x0403 ∧ rec_.ctx = n.val := by
  have hr := Reports.logCtx ((s.setEntBits (Ent.updStatus n) 2 3 4).setEntBit (Ent.updStatus n) 0 false) Code.normTimeout n
    (s.ctx n).upd.missing
  have hent : (s.abandoned n).ent (Ent.updStatus n) =
      ((s.setEntBits (Ent.updStatus n) 2 3 4).setEntBit (Ent.updStatus n) 0 false).ent (Ent.updStatus n) :=
    State.ent_logCtx _ _ _ _ (by simp only [Ent.updStatus, Ent.logHead]; omega)
      (by simp only [Ent.updStatus, Ent.logLost]; omega)
  refine ⟨?_, ?_, ?_, hr.mem, hr.cores, _, State.log_logRec _ _, rfl, rfl⟩
  · rw [State.abandoned, State.ctx_modUpd, hr.ctx]
    rfl
  · rw [State.entBits_congr hent, State.entBits_setEntBit_above _ _ _ _ (by decide), State.entBits_setEntBits]
    rfl
  · rw [State.entBit_congr hent, State.entBit_setEntBit]

/-- Settles O34: what R319 admits is kept, and the decision is the one over the sum of all; the timeout abandons the step. -/
theorem partialsAreGathered : Obligations.PartialsAreGathered := by
  unfold Obligations.PartialsAreGathered
  intro port h n peer step sum nonfin s u c now mine known total
  have hadmits : known → s.AdmitsFrom h.clean n peer := fun ⟨⟨hhere, hctx⟩, haccepted, htag, hrunning, hnamed⟩ =>
    ⟨hhere, hctx, haccepted, htag, hrunning, hnamed⟩
  refine ⟨fun hmine => exec_normReceive_refuses hmine.1 hmine.2, fun hk hlt => ?_, fun hk hle hst => ?_,
    fun hk hle hst hp hstep => ?_, fun hst hq => ?_⟩
  · rw [exec_normReceive_admitted (hadmits hk), if_pos (by simpa only [Nat.blt_eq] using hlt)]
  · have hupd := s.keptPartial_upd n peer step sum nonfin
    refine ⟨s.keptPartial n peer step sum nonfin, ?_, ?_, ?_, ?_, ?_, rfl⟩
    · rw [exec_normReceive_keeps (hadmits hk) hle, State.tryDecide_of_stage (by rw [hupd]; exact hst)]
    · rw [hupd]
      exact Upd.mem_keep.2 (.inr rfl)
    · rw [hupd]
      exact fun p hp hother => Upd.mem_keep.2 (.inl ⟨hp, hother⟩)
    · rw [hupd]
      exact fun p hp => (Upd.mem_keep.1 hp).imp And.left id
    · rw [hupd]
      rfl
  · let t := s.keptPartial n peer step sum nonfin
    have hupd : (t.ctx n).upd = u.keep now peer step sum nonfin := s.keptPartial_upd n peer step sum nonfin
    have hx : (t.ctx n).upd.partialOf peer = some (Nat.min sum normSat, nonfin) := by
      rw [hupd, hstep]
      exact Upd.partialOf_keep
    have hdecide : t.tryDecide n = t.decideStep n total (u.nonfin || nonfin) := by
      rw [State.tryDecide_last (by rw [hupd]; exact hst) (by rw [hupd]; exact hp) hx, hupd]
      rfl
    obtain ⟨hsweep, hstage⟩ := t.decideStep_stage n.isLt total (u.nonfin || nonfin)
    refine ⟨t.decideStep n total (u.nonfin || nonfin), ?_, hsweep.trans ?_, hstage, State.decideStep_mem _ _ _ _⟩
    · rw [exec_normReceive_keeps (hadmits hk) hle]
      exact congrArg Host.Outcome.next hdecide
    · rw [hupd]
      simp only [UpdTable.skips, not_or, Bool.not_eq_true]
      rfl
  · exact ⟨_, exec_normTimeout hst hq, s.abandoned_spec n⟩

end Sys2Proof.Machine
end

section
/-!
SUPPORT. What writes to context memory leave of the state (R207, R218, R220): the stacks change, and reports are made.
-/

namespace Sys2Proof.Machine

open Sys2Proof

variable {s t u : State} {k n : Nat}

/-! ### Reports of poison (R218, Table 8.10) -/

/-- A watermark's level, its judgement and its crossing change its own entries, the alerts and the counts of the log. -/
theorem State.ent_wmLevel (s : State) {index : Nat} (lvl : Nat) (hh : k ≠ Ent.logHead) (hl : k ≠ Ent.logLost)
    (ha : k ≠ Ent.alertStatus) (hw : k ≤ 256 * index ∨ 256 * index + 4 < k) : (s.wmLevel index lvl).ent k = s.ent k := by
  have hlevel : (s.setEnt (256 * index + 1) lvl).ent k = s.ent k := State.ent_setEnt_ne s _ (by omega)
  have hcross : ∀ v : State, (((v.setEnt (256 * index + 3) 1).bump (256 * index + 4)).notify Code.watermark
      (256 * index + 3) none).ent k = v.ent k := fun v => by
    rw [(Crossing.notify _ _ _ (c := 256 * index + 4)).ent k hh hl ha (by omega), State.ent_bump_ne _ (by omega),
      State.ent_setEnt_ne _ _ (by omega)]
  have hite : ∀ (p : Prop) [Decidable p] (v w : State) (x : Nat), v.ent k = x → w.ent k = x →
      (if p then v else w).ent k = x := fun p _ v w x hv hw => by split <;> assumption
  rw [← hlevel]
  exact hite _ _ _ _ (hite _ _ _ _
    (((Crossing.alert _ 6 (c := 256 * index + 4)).ent k hh hl ha (by omega)).trans (hcross _)) (hcross _)) rfl

/-- The entries that writes to the stacks report in: the fill of the poison tables with its watermark 0x6031, the alerts and
the counts of the log. -/
def PoisonReport (k : Nat) : Prop :=
  k = Ent.logHead ∨ k = Ent.logLost ∨ k = Ent.alertStatus ∨ (Ent.poisonLines 0 ≤ k ∧ k < Ent.poisonLines 16) ∨
    (256 * 0x6031 < k ∧ k ≤ 256 * 0x6031 + 4)

theorem State.ent_reportPoison (s : State) (hk : ¬ PoisonReport k) : s.reportPoison.ent k = s.ent k := by
  simp only [PoisonReport, not_or, not_and, not_lt, not_le] at hk
  obtain ⟨hh, hl, ha, hp, hw⟩ := hk
  have hfold : ∀ (f : Nat → Nat) (l : List Nat) (v : State), (∀ i ∈ l, i < 16) →
      (l.foldl (fun s i => s.setEnt (Ent.poisonLines i) (f i)) v).ent k = v.ent k := by
    intro f l
    induction l with
    | nil => exact fun _ _ => rfl
    | cons i l ih =>
      intro v hi
      have hlt := hi i (List.mem_cons_self ..)
      rw [List.foldl_cons, ih _ fun x hx => hi x (List.mem_cons_of_mem _ hx), State.ent_setEnt_ne]
      simp only [Ent.poisonLines] at hp ⊢
      omega
  unfold State.reportPoison
  dsimp only
  rw [State.ent_wmLevel _ _ hh hl ha (by omega)]
  exact hfold _ _ s fun i hi => List.mem_range.1 hi

/-! ### Writes (R207, R220) -/

/-- From s to t context memory was written: but for the stacks only reports were made, pages stayed where they are, no refill
was begun, and the entries outside the reports stayed. -/
structure WritesMem (s t : State) : Prop where
  reports : Reports { s with mem := t.mem } t
  pages : t.mem.pages = s.mem.pages
  refills : t.mem.refills.Sublist s.mem.refills
  ent : ∀ k, ¬ PoisonReport k → t.ent k = s.ent k

theorem Reports.withMem {m m' : Mem} (h : Reports { s with mem := m } t) :
    Reports { s with mem := m' } { t with mem := m' } := by
  obtain ⟨heq, hhost, hrel, hplat⟩ := h
  exact ⟨by rw [heq], hhost, hrel, hplat⟩

namespace WritesMem

theorem refl (s : State) : WritesMem s s := ⟨Reports.refl s, rfl, List.Sublist.refl _, fun _ _ => rfl⟩

theorem trans (h : WritesMem s t) (h' : WritesMem t u) : WritesMem s u :=
  ⟨h.reports.withMem.trans h'.reports, h'.pages.trans h.pages, h'.refills.trans h.refills,
    fun k hk => (h'.ent k hk).trans (h.ent k hk)⟩

theorem ctxs (h : WritesMem s t) : t.ctxs = s.ctxs := h.reports.ctxs
theorem cores (h : WritesMem s t) : t.cores = s.cores := h.reports.cores
theorem live (h : WritesMem s t) : t.live = s.live := h.reports.live
theorem sync (h : WritesMem s t) : t.sync = s.sync := h.reports.sync
theorem upeOut (h : WritesMem s t) : t.rel.upeOut = s.rel.upeOut := by rw [h.reports.rel]

theorem clearPoison (s : State) (line : Nat) : WritesMem s (s.clearPoison line) := by
  unfold State.clearPoison
  split
  · have hr := State.reportPoison_reports (s.modMem fun m => { m with
      poison := SMap.set (fun _ => false) m.poison line false,
      refills := m.refills.filter fun r => r.line != line
      held := m.held.filter fun h => h.1 != line })
    refine ⟨?_, by rw [hr.mem]; rfl, by rw [hr.mem]; exact List.filter_sublist, fun k hk => ?_⟩
    · rw [hr.mem]
      exact hr
    · rw [State.ent_reportPoison _ hk]
      rfl
  · exact refl s

theorem writePhys (s : State) (pa : Nat) (l : List Byte) : WritesMem s (s.writePhys pa l) :=
  ⟨Reports.refl _, rfl, List.Sublist.refl _, fun _ _ => rfl⟩

/-- A write to one line is performed, or discarded and recorded for the context that writes (R207, R220). -/
theorem writeLinePart (s : State) (c : Fin 64) (pa : Nat) (l : List Byte) :
    WritesMem s (s.writeLinePart (.context c) pa l) := by
  unfold State.writeLinePart
  split
  · exact (writePhys s _ _).trans (clearPoison _ _)
  · split
    · have hr := Reports.logCtx s Code.poisonPartialWrite c.val [pa]
      refine ⟨?_, by rw [State.logAgent_mem], by rw [State.logAgent_mem], fun k hk => ?_⟩
      · rw [State.logAgent_mem]
        exact hr
      · simp only [PoisonReport, not_or] at hk
        exact State.ent_logCtx s _ _ _ hk.1 hk.2.1
    · exact writePhys s _ _

theorem writeParts (s : State) (n : Nat) (l : List (Nat × Nat)) (d : List Byte) : WritesMem s (s.writeParts n l d).s := by
  induction l generalizing s d with
  | nil => exact refl s
  | cons p l ih =>
    rw [State.writeParts]
    split
    · split
      · exact refl s
      · exact (writeLinePart s _ _ _).trans (ih _ _)
    · exact refl s

theorem writeVirt (s : State) (n va : Nat) (d : List Byte) : WritesMem s (s.writeVirt n va d).s := writeParts s n _ d

/-- The group state is written to the update table (R252, R266). -/
theorem writeGroups (s : State) (n base step : Nat) (l : List (UpdGroup × Nat)) :
    WritesMem s (s.writeGroups n base step l).s := by
  induction l generalizing s with
  | nil => exact refl s
  | cons g l ih =>
    rw [State.writeGroups]
    dsimp only
    split
    · exact ih s
    · split
      · exact writeVirt s _ _ _
      · exact (writeVirt s _ _ _).trans (ih _)

end WritesMem

/-! ### Whether a write is performed (R229, R234) -/

/-- Which write is not performed rests on the pages alone. -/
theorem State.writeParts_fail (h : t.mem.pages = s.mem.pages) (n : Nat) (l : List (Nat × Nat)) (d : List Byte) :
    (t.writeParts n l d).fail = (s.writeParts n l d).fail := by
  induction l generalizing s t d with
  | nil => rfl
  | cons p l ih =>
    have hpage : ∀ v, t.page n v = s.page n v := fun v => by rw [State.page, h, State.page]
    have htrans : ∀ va, t.translate n va = s.translate n va := fun va => by
      rw [State.translate, hpage, State.translate]
    rw [State.writeParts, State.writeParts, hpage, htrans]
    split
    · split
      · rfl
      · exact ih ((WritesMem.writeLinePart t _ _ _).pages.trans (h.trans (WritesMem.writeLinePart s _ _ _).pages.symm)) _
    · rfl

theorem State.writeGroups_fail (h : t.mem.pages = s.mem.pages) (n base step : Nat) (l : List (UpdGroup × Nat)) :
    (t.writeGroups n base step l).fail = (s.writeGroups n base step l).fail := by
  induction l generalizing s t with
  | nil => rfl
  | cons g l ih =>
    rw [State.writeGroups, State.writeGroups]
    dsimp only
    split
    · exact ih h
    · have hfail : ∀ va d, (t.writeVirt n va d).fail = (s.writeVirt n va d).fail := fun va d => State.writeParts_fail h n _ d
      rw [hfail]
      split
      · next e he => rw [hfail, he]
      · exact ih ((WritesMem.writeVirt t _ _ _).pages.trans (h.trans (WritesMem.writeVirt s _ _ _).pages.symm))

end Sys2Proof.Machine
end

section
/-!
SUPPORT. A reset of a context brings no update engine back into service, and withdraws no request for a replacement (R269,
R374, R387).
-/

namespace Sys2Proof.Machine

open Sys2Proof

variable {s t : State} {n : Nat}

/-- The engines out of service, and REPLACE (R269, R374). -/
def State.upeMarks (s : State) : BitVec 16 × Nat := (s.rel.upeOut, s.ent Ent.replace)

/-! ### Operations of the state -/

theorem State.upeMarks_congr (hd : t.dict = s.dict) (hr : t.rel = s.rel) : t.upeMarks = s.upeMarks := by
  rw [State.upeMarks, State.ent_congr hd, hr, State.upeMarks]

theorem State.upeMarks_reports (h : Reports s t) (he : t.ent Ent.replace = s.ent Ent.replace) : t.upeMarks = s.upeMarks := by
  rw [State.upeMarks, he, h.rel, State.upeMarks]

theorem State.upeMarks_foldl {α : Type} {f : State → α → State} {l : List α}
    (hf : ∀ a ∈ l, ∀ s, (f s a).upeMarks = s.upeMarks) (s : State) : (l.foldl f s).upeMarks = s.upeMarks := by
  induction l generalizing s with
  | nil => rfl
  | cons a l ih => exact (ih (fun b hb => hf b (List.mem_cons_of_mem _ hb)) _).trans (hf a (List.mem_cons_self ..) s)

theorem State.setEnt_upeMarks (s : State) {k : Nat} (v : Nat) (h : Ent.replace ≠ k) : (s.setEnt k v).upeMarks = s.upeMarks :=
  State.upeMarks_reports (Reports.setEnt s k v) (State.ent_setEnt_ne s v h)

theorem State.setEntBits_upeMarks (s : State) {k : Nat} (lo m x : Nat) (h : Ent.replace ≠ k) :
    (s.setEntBits k lo m x).upeMarks = s.upeMarks := s.setEnt_upeMarks _ h

theorem State.setEntBit_upeMarks (s : State) {k : Nat} (b : Nat) (on : Bool) (h : Ent.replace ≠ k) :
    (s.setEntBit k b on).upeMarks = s.upeMarks := s.setEnt_upeMarks _ h

@[simp] theorem State.modCtx_upeMarks (s : State) (n : Nat) (f : Ctx → Ctx) : (s.modCtx n f).upeMarks = s.upeMarks := rfl
@[simp] theorem State.modPart_upeMarks (s : State) (k : Nat) (f : Part → Part) : (s.modPart k f).upeMarks = s.upeMarks := rfl
@[simp] theorem State.setPg_upeMarks (s : State) (n off v : Nat) : (s.setPg n off v).upeMarks = s.upeMarks := rfl
@[simp] theorem State.setWord_upeMarks (s : State) (k : Nat) (w : SyncWord) : (s.setWord k w).upeMarks = s.upeMarks := rfl

@[simp] theorem State.dropWatches_upeMarks (s : State) (cores : List Nat) :
    (s.dropWatches cores).upeMarks = s.upeMarks := rfl

@[simp] theorem State.dropGrants_upeMarks (s : State) (cores : List Nat) : (s.dropGrants cores).upeMarks = s.upeMarks := rfl

@[simp] theorem State.modCores_upeMarks (s : State) (l : List Nat) (f : Core → Core) :
    (s.modCores l f).upeMarks = s.upeMarks :=
  State.upeMarks_foldl (f := fun s k => s.modCore k f) (fun _ _ _ => rfl) s

@[simp] theorem State.logCtx_upeMarks (s : State) (code n : Nat) (args : List Nat) :
    (s.logCtx code n args).upeMarks = s.upeMarks :=
  State.upeMarks_reports (Reports.logCtx s _ _ _) (State.ent_logCtx s _ _ _ (by decide) (by decide))

/-! ### Sync words and tasks (R197, R387) -/

/-- A test of arm slots changes neither an entry nor a record (R202). -/
theorem State.testArms_dict_rel (s : State) (k : Nat) :
    ((s.testArms k).dict, (s.testArms k).rel) = (s.dict, s.rel) := by
  have hmsix : ∀ (v : State) (f i : Nat), ((v.msix f i).dict, (v.msix f i).rel) = (v.dict, v.rel) := fun v f i => by
    unfold State.msix
    split_ifs <;> rfl
  unfold State.testArms
  split
  · rfl
  · refine foldl_keeps (g := fun v : State => (v.dict, v.rel)) (fun v i => ?_) _ s
    dsimp only
    split
    · split
      · split
        · exact hmsix _ _ _
        · rfl
      · rfl
    · rfl

theorem State.wordChanged_dict_rel (s : State) (key : Nat) :
    ((s.wordChanged key).dict, (s.wordChanged key).rel) = (s.dict, s.rel) := by
  unfold State.wordChanged
  split
  · exact State.testArms_dict_rel s _
  · rfl

theorem State.wordChanged_upeMarks (s : State) (key : Nat) : (s.wordChanged key).upeMarks = s.upeMarks :=
  State.upeMarks_congr (congrArg Prod.fst (s.wordChanged_dict_rel key)) (congrArg Prod.snd (s.wordChanged_dict_rel key))

@[simp] theorem State.abandonLocks_upeMarks (s : State) (n : Nat) : (s.abandonLocks n).upeMarks = s.upeMarks :=
  State.upeMarks_foldl (fun _ _ v => State.wordChanged_upeMarks (v.setWord _ _) _) s

@[simp] theorem State.zeroPrivate_upeMarks (s : State) (n : Nat) : (s.zeroPrivate n).upeMarks = s.upeMarks :=
  State.upeMarks_foldl (fun k _ v => State.setWord_upeMarks v k _) s

@[simp] theorem State.dropTasks_upeMarks (s : State) (n : Nat) : (s.dropTasks n).upeMarks = s.upeMarks :=
  State.modCores_upeMarks s _ _

@[simp] theorem State.dropQueue_upeMarks (s : State) (n : Nat) : (s.dropQueue n).upeMarks = s.upeMarks := rfl

@[simp] theorem State.dropLive_upeMarks (s : State) (n : Nat) : (s.dropLive n).upeMarks = s.upeMarks := rfl

theorem State.advanceTag_upeMarks (s : State) (hn : n < 64) : (s.advanceTag n).upeMarks = s.upeMarks := by
  unfold State.advanceTag
  dsimp only
  split
  · rfl
  · rw [State.setEnt_upeMarks _ _ (by simp only [Ent.replace, Ent.selvedgeTag]; omega), State.modCtx_upeMarks]

theorem State.retarget_upeMarks (s : State) (n : Nat) : (s.retarget n).upeMarks = s.upeMarks := by
  unfold State.retarget
  split <;> rfl

theorem State.dropSweep_upeMarks (s : State) (n : Nat) : (s.dropSweep n).upeMarks = s.upeMarks := by
  have hne : Ent.replace ≠ Ent.updStatus n := by simp only [Ent.replace, Ent.updStatus]; omega
  unfold State.dropSweep
  dsimp only
  rw [State.setEntBit_upeMarks _ _ _ hne, State.modCtx_upeMarks]
  split
  · rw [State.setEntBits_upeMarks _ _ _ _ hne, State.logCtx_upeMarks]
  · rfl

theorem State.stopSeq_upeMarks (s : State) {k : Nat} (hk : k < 16) : (s.stopSeq k).upeMarks = s.upeMarks := by
  unfold State.stopSeq
  rw [State.modPart_upeMarks, State.setEntBit_upeMarks _ _ _ (by simp only [Ent.replace, Ent.seqCtl]; omega)]

theorem State.endSlot_upeMarks (s : State) (n : Nat) : (s.endSlot n).upeMarks = s.upeMarks := by
  dsimp only [State.endSlot]
  repeat' split
  all_goals simp

/-! ### Collectives (R338, R387) -/

theorem SendsAt.upeMarks {p : Nat} (hp : p < 8) (h : SendsAt p s t) : t.upeMarks = s.upeMarks := by
  rw [State.upeMarks, h.rel, h.ent _ (by simp only [Ent.replace, Ent.portState]; omega), State.upeMarks]

theorem State.stepPort_lt {k r seglen p : Nat} {up : Bool} (h : s.stepPort k r seglen up = some p) : p < 8 := by
  simp only [State.stepPort, Option.ite_none_left_eq_some, Option.some.injEq] at h
  obtain ⟨-, rfl⟩ := h
  unfold State.ringOut State.ringIn State.entBits bitsAt
  split <;> exact Nat.mod_lt _ (by decide)

/-- An ABORT token leaves on a port of the ring, or is lost (R313, R338). -/
theorem State.sendAbort_upeMarks (s : State) (n : Nat) (a : AbortToken) : (s.sendAbort n a).upeMarks = s.upeMarks := by
  unfold State.sendAbort
  dsimp only
  split
  · next p hp =>
    split
    · rfl
    · have hsent : ∀ vc m, (s.transmit p vc m).2.upeMarks = s.upeMarks := fun vc m =>
        (SendsAt.transmit s vc m).upeMarks (State.stepPort_lt hp)
      unfold State.sendHop
      dsimp only
      split
      · exact hsent _ _
      · exact hsent _ _
  · rfl

theorem State.dropColls_upeMarks (s : State) (hn : n < 64) : (s.dropColls n).upeMarks = s.upeMarks := by
  have habort : ∀ (l : List Coll) (v : State),
      (l.foldl (fun s x => if x.ended then s else s.abortLanes n x.gen x.desc false) v).upeMarks = v.upeMarks :=
    fun l v => State.upeMarks_foldl (fun x _ w => by
      split
      · rfl
      · exact State.upeMarks_foldl (fun _ _ _ => State.sendAbort_upeMarks _ _ _) w) v
  have hfree : Ent.replace ≠ Ent.rsramFree := by decide
  have hissued : Ent.replace ≠ Ent.collIssued n ∧ Ent.replace ≠ Ent.collDbBase n := by
    simp only [Ent.replace, Ent.collIssued, Ent.collDbBase]; omega
  have hlinks : ∀ (v : State) (x : Links), ({ v with links := x } : State).upeMarks = v.upeMarks := fun _ _ => rfl
  unfold State.dropColls
  dsimp only
  split
  · rw [State.setEnt_upeMarks _ _ hissued.2, State.setEnt_upeMarks _ _ hissued.1, hlinks, State.setEnt_upeMarks _ _ hfree,
      State.modCtx_upeMarks, habort]
  · rw [State.setEnt_upeMarks _ _ hissued.1, hlinks, State.setEnt_upeMarks _ _ hfree, State.modCtx_upeMarks, habort]

/-! ### The reset (R387) -/

theorem State.ctxResetSteps_upeMarks (s : State) (hn : n < 64) (cause : Nat) :
    (s.ctxResetSteps n cause).upeMarks = s.upeMarks := by
  have hflags : Ent.replace ≠ Ent.ctxFlags n := by simp only [Ent.replace, Ent.ctxFlags]; omega
  have hite : ∀ (p : Prop) [Decidable p] (v w : State), w.upeMarks = v.upeMarks →
      (if p then v else w).upeMarks = v.upeMarks := fun p _ v w h => by split <;> simp [h]
  unfold State.ctxResetSteps
  dsimp only
  rw [State.endSlot_upeMarks, State.dropLive_upeMarks, State.upeMarks_foldl fun k hk v => by
    split
    · exact v.stopSeq_upeMarks (List.mem_range.1 hk)
    · rfl]
  rw [State.dropColls_upeMarks _ hn, State.retarget_upeMarks, State.dropSweep_upeMarks, State.abandonLocks_upeMarks,
    State.zeroPrivate_upeMarks, State.setEnt_upeMarks _ _ hflags, State.dropGrants_upeMarks, State.dropWatches_upeMarks,
    State.modCores_upeMarks, State.dropQueue_upeMarks, State.dropTasks_upeMarks,
    hite _ _ _ (State.advanceTag_upeMarks _ hn), State.modCtx_upeMarks]

theorem State.ctxReset_upeMarks (s : State) (hn : n < 64) (cause : Nat) : (s.ctxReset n cause).upeMarks = s.upeMarks := by
  unfold State.ctxReset
  split
  · rfl
  · rw [State.resetLevel, State.setEntBits_upeMarks _ _ _ _ (by decide), State.ctxResetSteps_upeMarks s hn]

theorem State.unitFault_upeMarks (s : State) (hn : n < 64) (code va : Nat) :
    (s.unitFault n code va).upeMarks = s.upeMarks := by
  rw [State.unitFault, State.ctxReset_upeMarks _ hn, State.logCtx_upeMarks]

/-- Writes to context memory leave the marks alone. -/
theorem WritesMem.upeMarks (h : WritesMem s t) : t.upeMarks = s.upeMarks := by
  rw [State.upeMarks, h.upeOut, h.ent _ (by unfold PoisonReport; decide), State.upeMarks]

end Sys2Proof.Machine
end

section
/-!
PROOF. A group of the sweep (R232, R247, R265 to R269).
-/

namespace Sys2Proof.Machine

open Sys2Proof

variable {s t u : State} {n : Fin 64} {record group fails : Nat} {r : TensorRec}

/-! ### Writes of a sweep -/

/-- From s to t the sweep of context n wrote: cores, other contexts, the groups that count as done and the marks of the
engines stayed. -/
structure SweepKeeps (n : Nat) (s t : State) : Prop where
  cores : t.cores = s.cores
  others : ∀ m, m ≠ n → t.ctx m = s.ctx m
  groups : (t.ctx n).upd.groups = (s.ctx n).upd.groups
  marks : t.upeMarks = s.upeMarks

namespace SweepKeeps

variable {n : Nat}

theorem refl (s : State) : SweepKeeps n s s := ⟨rfl, fun _ _ => rfl, rfl, rfl⟩

theorem trans (h : SweepKeeps n s t) (h' : SweepKeeps n t u) : SweepKeeps n s u :=
  ⟨h'.cores.trans h.cores, fun m hm => (h'.others m hm).trans (h.others m hm), h'.groups.trans h.groups,
    h'.marks.trans h.marks⟩

theorem sweepWrite (s : State) (x : SweepWrite) : SweepKeeps n s (s.sweepWrite n x).s := by
  have hw := WritesMem.writeVirt s n x.va x.bytes
  have hctx : ∀ m, (s.writeVirt n x.va x.bytes).s.ctx m = s.ctx m := fun m => by rw [State.ctx, hw.ctxs, State.ctx]
  refine ⟨hw.cores, fun m hm => (State.ctx_modUpd_ne _ _ hm).trans (hctx m), ?_, hw.upeMarks⟩
  rw [State.sweepWrite, State.ctx_modUpd, hctx]

theorem sweepWrites (s : State) (l : List SweepWrite) : SweepKeeps n s (s.sweepWrites n l).s := by
  induction l generalizing s with
  | nil => exact refl s
  | cons x l ih =>
    rw [State.sweepWrites]
    split
    · exact sweepWrite s x
    · exact (sweepWrite s x).trans (ih _)

theorem countUpe (s : State) (f : Nat → Nat) (l : List (Nat × Nat)) : SweepKeeps n s (s.countUpe n f l) := by
  rw [State.countUpe_eq]
  exact ⟨rfl, fun _ _ => rfl, rfl, rfl⟩

end SweepKeeps

/-! ### A group (R247, R266 to R268) -/

/-- A group that the sweep of context n has not done. -/
structure State.GroupDue (s : State) (n : Fin 64) (record group : Nat) (r : TensorRec) : Prop where
  entry : (s.ctx n).upd.table.recs[record]? = some r
  stage : (s.ctx n).upd.stage = .sweep
  served : s.mem.served = true
  idle : (s.ctx n).exp.shard = false
  sweeps : (s.ctx n).upd.table.sweeps r = true
  lt : group < r.groups
  todo : (s.ctx n).upd.groups.contains (record, group) = false

/-- The group of a step at which u stands is read, computed and written, and its flags join `flags`; a line that faults
resets the context. -/
def State.sweepGroupAt (s : State) (n : Nat) (u : Upd) (r : TensorRec) (record group flags : Nat) : State :=
  let len := Nat.min 256 (r.count - 256 * group)
  let upe := s.upeAt n (r.master + 1024 * group)
  let reads := u.table.reads r group
  match s.sweepReads n len reads with
  | .error (code, a) => s.unitFault n code a
  | .ok a =>
    let w := sweepGroup u.table r u.step group len (BitVec.ofNat 64 (s.ent (Ent.gauzeKey n))) u.scale
      (s.ent (Ent.exportMode n) != 0 && !u.keyed) a
    let res := (s.countUpe n (fun _ => upe) (reads.filterMap (fun va => va.map fun x => (x, 4 * len)) ++
      w.1.map fun x => (x.va, x.bytes.length))).sweepWrites n w.1
    match res.fail with
    | some (code, va) => res.s.unitFault n code va
    | none =>
      (res.s.modUpd n fun u => u.swept upe record group (256 * group + len - 1)).setEnt (Ent.updFlags n)
        (Nat.lor flags w.2.toNat)

theorem exec_upeGroup (h : s.GroupDue n record group r) : exec (.upeGroup n record group fails) s =
    .next ((if Nat.ble 3 fails && (s.translate n (r.master + 1024 * group)).isSome then
        s.failUpe (s.upeAt n (r.master + 1024 * group)) else s).sweepGroupAt n (s.ctx n).upd r record group
      (s.ent (Ent.updFlags n))) := by
  have hguard : ¬ ((s.ctx n).upd.stage ≠ .sweep || !s.mem.served || (s.ctx n).exp.shard ||
      !(s.ctx n).upd.table.sweeps r || Nat.ble r.groups group || (s.ctx n).upd.groups.contains (record, group)) = true := by
    have hble : Nat.ble r.groups group = false := by
      rw [← Bool.not_eq_true, Nat.ble_eq]
      exact Nat.not_le_of_lt h.lt
    have hnot : (record, group) ∉ (s.ctx n).upd.groups := by simpa using h.todo
    simp [h.stage, h.served, h.idle, h.sweeps, hnot, hble]
  have hexec : exec (.upeGroup n record group fails) s = execUpeGroup n record group fails s := rfl
  rw [hexec, execUpeGroup, h.entry]
  exact congrArg Host.Outcome.next (if_neg hguard)

/-- A group that is read and written counts as done (R247). -/
theorem State.sweepGroupAt_done {k : Upd} {flags : Nat} {a : List (List Word32)} (hmode : s.ent (Ent.exportMode n) = 0)
    (hreads : s.sweepReads n (Nat.min 256 (r.count - 256 * group)) (k.table.reads r group) = .ok a)
    {w : List SweepWrite × FFlags} (hw : sweepGroup k.table r k.step group (Nat.min 256 (r.count - 256 * group))
      (BitVec.ofNat 64 (s.ent (Ent.gauzeKey n))) k.scale false a = w) {counted : State}
    (hc : s.countUpe n (fun _ => s.upeAt n (r.master + 1024 * group)) ((k.table.reads r group).filterMap (fun va =>
      va.map fun x => (x, 4 * Nat.min 256 (r.count - 256 * group))) ++ w.1.map fun x => (x.va, x.bytes.length)) = counted)
    (hfail : (counted.sweepWrites n w.1).fail = none) :
    ∃ upe last, s.sweepGroupAt n k r record group flags =
      ((counted.sweepWrites n w.1).s.modUpd n (Upd.swept · upe record group last)).setEnt (Ent.updFlags n)
        (Nat.lor flags w.2.toNat) := by
  have hdiff : (s.ent (Ent.exportMode n) != 0 && !k.keyed) = false := by simp [hmode]
  refine ⟨s.upeAt n (r.master + 1024 * group), 256 * group + Nat.min 256 (r.count - 256 * group) - 1, ?_⟩
  unfold State.sweepGroupAt
  simp only [hreads, hdiff, hw, hc, hfail]

/-- Whatever comes of a group, no engine returns to service and no request for a replacement is withdrawn. -/
theorem State.sweepGroupAt_upeMarks (s : State) (n : Fin 64) (k : Upd) (r : TensorRec) (record group flags : Nat) :
    (s.sweepGroupAt n k r record group flags).upeMarks = s.upeMarks := by
  unfold State.sweepGroupAt
  dsimp only
  split
  · exact s.unitFault_upeMarks n.isLt _ _
  · next a _ =>
    have hres := fun (f : Nat → Nat) (l : List (Nat × Nat)) (w : List SweepWrite) =>
      ((SweepKeeps.countUpe (n := n) s f l).trans (SweepKeeps.sweepWrites _ w)).marks
    split
    · rw [State.unitFault_upeMarks _ n.isLt, hres]
    · rw [State.setEnt_upeMarks _ _ (by simp only [Ent.replace, Ent.updFlags]; omega)]
      exact hres _ _ _

/-! ### An engine that fails (R269) -/

theorem State.upeOf_lt (s : State) {stack : Nat} (h : stack < 16) : s.upeOf stack < 16 := by
  have hdies : ∀ d ∈ dieOrder (stack / 4), d < 4 := fun d hd => by
    simp only [dieOrder, List.mem_cons, List.not_mem_nil, or_false] at hd
    rcases hd with rfl | rfl | rfl | rfl <;> exact Nat.mod_lt _ (by decide)
  unfold State.upeOf
  dsimp only
  cases hf : (stack :: (dieOrder (stack / 4)).flatMap fun x => (List.range 4).map fun i => 4 * x + i).find? fun u =>
    !s.rel.upeOut.getLsbD u with
  | none => exact h
  | some u =>
    rcases List.mem_cons.1 (List.mem_of_find?_eq_some hf) with rfl | hu
    · exact h
    · obtain ⟨d, hd, hi⟩ := List.mem_flatMap.1 hu
      obtain ⟨i, hrange, rfl⟩ := List.mem_map.1 hi
      have := hdies d hd
      have := List.mem_range.1 hrange
      change 4 * d + i < 16
      omega

/-- An engine that fails is out of service, and REPLACE asks for it (R269, R374). -/
theorem State.failUpe_spec (s : State) {e : Nat} (he : e < 16) :
    (s.failUpe e).rel.upeOut.getLsbD e = true ∧ (s.failUpe e).entBit Ent.replace 5 = true := by
  let v : State := { s with rel := { s.rel with upeOut := s.rel.upeOut ||| BitVec.ofNat 16 (2 ^ e) } }
  let w := (List.range 64).foldl (fun s n => s.setEntBit (Ent.updStatus n) 5 true) (v.log Code.upeFailed [e])
  have hw : Reports v w := (Reports.log v _ _).trans (Reports.foldl (fun _ _ => Reports.setEntBit _ _ _ _) _ _)
  have hout : (s.failUpe e).rel.upeOut = s.rel.upeOut ||| BitVec.ofNat 16 (2 ^ e) := by
    rw [show s.failUpe e = w.setReplace 5 from rfl, (hw.trans (Reports.setReplace w 5)).rel]
  refine ⟨?_, ?_⟩
  · rw [hout, BitVec.getLsbD_or, BitVec.getLsbD_ofNat, Nat.testBit_two_pow_self]
    simp [he]
  · have hkept : (w.setReplace 5).ent Ent.replace = (w.setEntBit Ent.replace 5 true).ent Ent.replace := by
      rw [State.setReplace, State.drain, (Crossing.alert _ 0 (c := Ent.drainReq)).ent _ (by decide) (by decide) (by decide)
        (by decide), State.ent_setEnt_ne _ _ (by decide)]
    exact (State.entBit_congr hkept 5).trans (State.entBit_setEntBit _ _ _ _)

end Sys2Proof.Machine
end

section
/-!
SUPPORT. What the end of a step and the governor leave of the state (R256, R297, R408, R409).
-/

namespace Sys2Proof.Machine

open Sys2Proof

variable {s t u : State} {k n : Nat}

/-! ### The governor (R405, R409) -/

/-- The entries that the governor reports in: LIMITING, and the state and the plan of each partition. -/
def GovernEntry (k : Nat) : Prop :=
  k = Ent.capStatus ∨ (Ent.govStatus 0 ≤ k ∧ k < Ent.govStatus 16) ∨ (Ent.govPlan 0 ≤ k ∧ k < Ent.govPlan 16)

/-- From s to t the governor worked: contexts and sync words stayed, and so did the entries outside its reports. -/
structure Governs (s t : State) : Prop where
  ctxs : t.ctxs = s.ctxs
  sync : t.sync = s.sync
  ent : ∀ k, ¬ GovernEntry k → t.ent k = s.ent k

namespace Governs

theorem refl (s : State) : Governs s s := ⟨rfl, rfl, fun _ _ => rfl⟩

theorem trans (h : Governs s t) (h' : Governs t u) : Governs s u :=
  ⟨h'.ctxs.trans h.ctxs, h'.sync.trans h.sync, fun k hk => (h'.ent k hk).trans (h.ent k hk)⟩

theorem ite {p : Prop} [Decidable p] (ht : Governs s t) (hu : Governs s u) : Governs s (if p then t else u) := by
  split <;> assumption

theorem setEnt (s : State) (v : Nat) (h : GovernEntry k) : Governs s (s.setEnt k v) :=
  ⟨rfl, rfl, fun _ hj => State.ent_setEnt_ne s v fun hjk => hj (hjk ▸ h)⟩

theorem modGov (s : State) (k : Nat) (f : Gov → Gov) : Governs s (s.modGov k f) := ⟨rfl, rfl, fun _ _ => rfl⟩

theorem reportGov (s : State) (hk : k < 16) : Governs s (s.reportGov k) :=
  setEnt s _ (by simp only [GovernEntry, Ent.govStatus]; omega)

theorem setGovPlan (s : State) (hk : k < 16) (plan : Nat) : Governs s (s.setEnt (Ent.govPlan k) plan) :=
  setEnt s _ (by simp only [GovernEntry, Ent.govPlan]; omega)

theorem setPlan (s : State) (hk : k < 16) (plan : Nat) : Governs s (s.setPlan k plan) := by
  have hlim : ∀ v : State, Governs v v.reportLimiting := fun v => setEnt v _ (.inl rfl)
  have hdraw : ∀ (v : State) (c : Nat) (p : Power), Governs v { v with freeCtr := c, power := p } :=
    fun _ _ _ => ⟨rfl, rfl, fun _ _ => rfl⟩
  exact (setGovPlan s hk plan).trans ((modGov _ _ _).trans ((hdraw _ _ _).trans (hlim _)))

/-- The governor at a step boundary begins to learn anew, or takes the step into account. -/
theorem governAt (s : State) (n : Nat) : Governs s (s.governAt n) := by
  have hk : s.ctxPart n < 16 := Nat.mod_lt _ (by decide)
  have hdraw : ∀ b : Bool, Governs s (if b then { s with freeCtr := s.freeCtr + 1 } else s) := fun _ =>
    ite ⟨rfl, rfl, fun _ _ => rfl⟩ (refl s)
  unfold State.governAt
  dsimp only
  refine ite (refl s) (ite ?relearn ?learn)
  case relearn =>
    refine .trans ?_ ((modGov _ _ _).trans (reportGov _ hk))
    exact ite (hdraw _) ((hdraw _).trans (setGovPlan _ hk _))
  case learn =>
    exact ((hdraw _).trans (modGov _ _ _)).trans ((ite ((setPlan _ hk _).trans (modGov _ _ _))
      (ite (modGov _ _ _) (ite (setPlan _ hk _) (refl _)))).trans (reportGov _ hk))

end Governs

/-! ### The end of a step (R256) -/

/-- A post to a sync word changes no entry but the counts of the log (R185). -/
theorem State.ent_postTo (s : State) (p addr inc : Nat) (hh : k ≠ Ent.logHead) (hl : k ≠ Ent.logLost) :
    (s.postTo p addr inc).ent k = s.ent k := by
  unfold State.postTo
  split
  · unfold State.addWord State.addWordFor
    rw [State.ent_congr (congrArg Prod.fst (State.wordChanged_dict_rel _ _))]
    split
    · exact State.ent_logRec _ _ hh hl
    · rfl
  · rfl

theorem State.postTo_ctxs (s : State) (p addr inc : Nat) : (s.postTo p addr inc).ctxs = s.ctxs := by
  unfold State.postTo
  split
  · exact State.addWordFor_ctxs s _ _ _
  · rfl

theorem State.nextSlotDue_dict (s : State) (n : Nat) : (s.nextSlotDue n).dict = s.dict := by
  unfold State.nextSlotDue
  split <;> rfl

theorem State.markBoundary_dict (s : State) (n : Nat) : (s.markBoundary n).dict = s.dict := by
  unfold State.markBoundary
  dsimp only
  split <;> rfl

/-- With no trigger in the queue the end of a step leaves the update unit as it is, and no entry but the counts of the log
changes (R255, R256). -/
theorem State.finishStep_keeps (s : State) (step : Nat) (hq : (s.ctx n).upd.queued = 0) :
    ((s.finishStep n step).ctx n).upd = (s.ctx n).upd ∧
      ∀ k, k ≠ Ent.logHead → k ≠ Ent.logLost → (s.finishStep n step).ent k = s.ent k := by
  let v := s.postTo (s.ctxPart n) (s.entBits (Ent.updDone n) 0 18) 1
  let w := (v.modCtx n fun c => { c with evalDue := v.slotsDue n step }).nextSlotDue n
  have hupd : (w.ctx n).upd = (s.ctx n).upd := by
    rw [(State.nextSlotDue_ctx _ n).2, State.ctx_modCtx, State.ctx, State.postTo_ctxs, State.ctx]
  have hf : s.finishStep n step = w.markBoundary n := by
    change (w.markBoundary n).nextStep n (w.ctx n).upd.queued = _
    rw [hupd, hq, State.nextStep]
  rw [hf]
  refine ⟨?_, fun k hh hl => ?_⟩
  · rw [State.ctx, State.markBoundary_ctxs, ← State.ctx, hupd]
  · rw [State.ent_congr (State.markBoundary_dict w n), State.ent_congr (State.nextSlotDue_dict _ n)]
    exact State.ent_postTo s _ _ _ hh hl

end Sys2Proof.Machine
end

section
/-!
PROOF. Groups of a sweep and the boundary of a step (R232, R247, R256, R265 to R271).
-/

namespace Sys2Proof.Machine

open Sys2Proof

variable {s t v : State} {n : Fin 64}

/-! ### The boundary of a step (R256, R266) -/

/-- What a step that closes writes: the group state of its table, unless it was skipped (R256, R261, R266). -/
def State.boundaryWrites (s : State) (n : Nat) : VWrite :=
  if (s.ctx n).upd.skipped then ⟨s, none⟩
  else s.writeGroups n (s.ent (Ent.updTable n)) (s.ctx n).upd.step (s.ctx n).upd.table.groups.zipIdx

/-- The update unit between two steps. -/
def Upd.closed (u : Upd) : Upd := { Upd.init with target := u.target, queued := u.queued, partials := u.partials }

/-- BUSY falls, STEP rises, and a shard export that waited for the boundary begins (R256, R280). -/
def State.stepClosed (s : State) (n step : Nat) : State :=
  (((s.modUpd n Upd.closed).setEntBit (Ent.updStatus n) 0 false).setEnt (Ent.step n) (step + 1)).startShard n

theorem WritesMem.boundaryWrites (s : State) (n : Nat) : WritesMem s (s.boundaryWrites n).s := by
  unfold State.boundaryWrites
  split
  · exact WritesMem.refl s
  · exact WritesMem.writeGroups s n _ _ _

theorem State.applyLive_none (h : s.live = []) (n : Nat) : s.applyLive n = s := by
  have hd : s.dueLive n = [] := by simp [State.dueLive, h]
  have hs : ({ s with live := [] } : State) = s := by rw [← h]
  simp [State.applyLive, hd, h, hs]

/-- The sync word that an address names rests on the clusters of the partition (R35). -/
theorem State.syncKey_congr {k : Nat} (h : t.ent (Ent.partClusters k) = s.ent (Ent.partClusters k)) (addr : Nat) :
    t.syncKey k addr = s.syncKey k addr := by
  rw [State.syncKey, State.globalCluster, State.partClusters, h, State.syncKey, State.globalCluster, State.partClusters]

theorem State.votePeers_congr {n : Nat} (h : t.ent (Ent.votePeers n) = s.ent (Ent.votePeers n)) :
    t.votePeers n = s.votePeers n := by
  simp only [State.votePeers, State.entBits_congr h]

/-! #### What the closing of a step leaves -/

theorem State.stepClosed_upd (s : State) (n step : Nat) : ((s.stepClosed n step).ctx n).upd = (s.ctx n).upd.closed := by
  rw [State.stepClosed, State.startShard, State.modExp, State.ctx_modCtx]
  exact congrArg Ctx.upd (State.ctx_modUpd s n _)

theorem State.stepClosed_ent (s : State) {n k : Nat} (step : Nat) (hb : k ≠ Ent.updStatus n) (hs : k ≠ Ent.step n) :
    (s.stepClosed n step).ent k = s.ent k :=
  (State.ent_setEnt_ne _ _ hs).trans (State.ent_setEntBit_ne _ _ _ hb)

/-- The entries that the close of a step leaves: all but STEP, UPD_STATUS and those of its reports. -/
theorem State.boundary_ent (s : State) (n : Fin 64) {k i : Nat} (step : Nat) (hk : k / 256 = i)
    (hi : i ∉ [0x1010, 0x6031, 0x6050, 0x8000, 0x9003, 0x9004]) :
    ((s.boundaryWrites n).s.stepClosed n step).ent k = s.ent k := by
  simp only [List.mem_cons, List.not_mem_nil, or_false, not_or] at hi
  refine (State.stepClosed_ent _ _ ?_ ?_).trans ((WritesMem.boundaryWrites s n).ent k ?_)
  · simp only [Ent.updStatus]; omega
  · simp only [Ent.step]; omega
  · simp only [PoisonReport, Ent.logHead, Ent.logLost, Ent.alertStatus, Ent.poisonLines]; omega

theorem State.stepClosed_step (s : State) (n step : Nat) : (s.stepClosed n step).ent (Ent.step n) = step + 1 :=
  State.ent_setEnt _ _ _

theorem State.stepClosed_busy (s : State) (n : Fin 64) (step : Nat) :
    (s.stepClosed n step).entBit (Ent.updStatus n) 0 = false :=
  (State.entBit_congr (State.ent_setEnt_ne _ _ (by simp only [Ent.updStatus, Ent.step]; omega)) 0).trans
    (State.entBit_setEntBit _ _ _ _)

/-! #### A step that closes -/

/-- A state in which the step of context n can close: its values are in force, no refill is open, no trigger waits, what it
writes is performed, and no peer votes; its DONE word stands at `key`. -/
structure State.Closes (s : State) (n : Fin 64) (key : Nat) : Prop where
  live : s.live = []
  refills : s.mem.refills = []
  queued : (s.ctx n).upd.queued = 0
  written : (s.boundaryWrites n).fail = none
  done : s.syncKey (s.ctxPart n) (s.entBits (Ent.updDone n) 0 18) = some key
  votes : s.votePeers n = []

/-- The step at which context n of s stood is closed in t (R256). -/
structure State.StepClosed (s t : State) (n : Fin 64) (key : Nat) : Prop where
  step : t.ent (Ent.step n) = (s.ctx n).upd.step + 1
  stage : (t.ctx n).upd.stage = .idle
  busy : t.entBit (Ent.updStatus n) 0 = false
  done : (t.word key).value = sat64 ((s.word key).value + 1)
  digest : t.ent (Ent.lastDigest n) = s.ent (Ent.lastDigest n)

namespace State.Closes

variable {key : Nat} (h : s.Closes n key)

include h

/-- Without votes a step that closes posts its DONE, whether a digest was due or not. -/
theorem closeStep_eq (digest : Option Nat) : s.closeStep n digest =
    ((s.boundaryWrites n).s.stepClosed n (s.ctx n).upd.step).finishStep n (s.ctx n).upd.step := by
  have hw := WritesMem.boundaryWrites s n
  have hlive : (s.boundaryWrites n).s.live = [] := hw.live.trans h.live
  have hrefills : (s.boundaryWrites n).s.mem.refills = [] := List.sublist_nil.1 (h.refills ▸ hw.refills)
  have hvotes : ((s.boundaryWrites n).s.stepClosed n (s.ctx n).upd.step).votePeers n = [] :=
    (State.votePeers_congr (s.boundary_ent n _ (i := 0x8031) (by simp only [Ent.votePeers]; omega)
      (by decide))).trans h.votes
  have hwritten : SMap.get (fun _ => none) (s.boundaryWrites n).s.live (Ent.step n) = none := by rw [hlive]; rfl
  unfold State.closeStep
  dsimp only
  rw [← State.boundaryWrites, h.written]
  dsimp only
  rw [hwritten]
  rw [State.applyLive_none (by exact hlive), State.retryRefills_none (by exact hrefills)]
  cases digest with
  | none => rfl
  | some d => exact if_pos (List.isEmpty_iff.2 hvotes)

/-- What a step that closes leaves (R256). -/
theorem closeStep (digest : Option Nat) : s.StepClosed (s.closeStep n digest) n key := by
  have hw := WritesMem.boundaryWrites s n
  let w := (s.boundaryWrites n).s.stepClosed n (s.ctx n).upd.step
  have hent : ∀ {k i : Nat}, k / 256 = i → i ∉ [0x1010, 0x6031, 0x6050, 0x8000, 0x9003, 0x9004] → w.ent k = s.ent k :=
    s.boundary_ent n _
  have hupd : (w.ctx n).upd = (s.ctx n).upd.closed := by
    rw [State.stepClosed_upd, State.ctx, hw.ctxs, State.ctx]
  have hpart : w.ctxPart n = s.ctxPart n :=
    State.entBits_congr (hent (i := 0x5010) (by simp only [Ent.ctxDef]; omega) (by decide)) 2 4
  have hlt : s.ctxPart n < 16 := Nat.mod_lt _ (by decide)
  have haddr : w.entBits (Ent.updDone n) 0 18 = s.entBits (Ent.updDone n) 0 18 :=
    State.entBits_congr (hent (i := 0x9002) (by simp only [Ent.updDone]; omega) (by decide)) 0 18
  have hdone : w.syncKey (w.ctxPart n) (w.entBits (Ent.updDone n) 0 18) = some key := by
    rw [hpart, haddr]
    exact (State.syncKey_congr (hent (i := 0x5000) (by simp only [Ent.partClusters]; omega) (by decide)) _).trans h.done
  have hqueued : (w.ctx n).upd.queued = 0 := (congrArg Upd.queued hupd).trans h.queued
  have hword : w.word key = s.word key := by
    rw [State.word, show w.sync = s.sync from hw.sync, State.word]
  obtain ⟨hkeep, hents⟩ := State.finishStep_keeps w (s.ctx n).upd.step hqueued
  rw [h.closeStep_eq]
  exact {
    step := (hents _ (by simp only [Ent.step, Ent.logHead]; omega) (by simp only [Ent.step, Ent.logLost]; omega)).trans
      (State.stepClosed_step _ _ _)
    stage := by rw [hkeep, hupd]; rfl
    busy := (State.entBit_congr (hents _ (by simp only [Ent.updStatus, Ent.logHead]; omega)
      (by simp only [Ent.updStatus, Ent.logLost]; omega)) 0).trans (State.stepClosed_busy _ _ _)
    done := by rw [(State.finishStep_spec n hqueued hdone _).2, hword]
    digest := (hents _ (by simp only [Ent.lastDigest, Ent.logHead]; omega)
      (by simp only [Ent.lastDigest, Ent.logLost]; omega)).trans
        (hent (i := 0x9010) (by simp only [Ent.lastDigest]; omega) (by decide)) }

end State.Closes

/-- The governor leaves a step that is closed so (R408). -/
theorem State.StepClosed.governAt {key : Nat} (h : s.StepClosed t n key) (m : Nat) : s.StepClosed (t.governAt m) n key := by
  have hg := Governs.governAt t m
  have hent : ∀ {k i : Nat}, k / 256 = i → i ∉ [0x4003, 0x4012, 0x4013] → (t.governAt m).ent k = t.ent k := fun hk hi => by
    simp only [List.mem_cons, List.not_mem_nil, or_false, not_or] at hi
    exact hg.ent _ (by simp only [GovernEntry, Ent.capStatus, Ent.govStatus, Ent.govPlan]; omega)
  exact {
    step := (hent (i := 0x9003) (by simp only [Ent.step]; omega) (by decide)).trans h.step
    stage := by rw [State.ctx, hg.ctxs, ← State.ctx]; exact h.stage
    busy := (State.entBit_congr (hent (i := 0x9004) (by simp only [Ent.updStatus]; omega) (by decide)) 0).trans h.busy
    done := by rw [State.word, hg.sync, ← State.word]; exact h.done
    digest := (hent (i := 0x9010) (by simp only [Ent.lastDigest]; omega) (by decide)).trans h.digest }

/-! ### STEP_BOUNDARY (R256, R270) -/

/-- The step of context n has reached its boundary: it was skipped, or its groups are done (R256). -/
def State.AtBoundary (s : State) (n : Nat) : Prop :=
  (s.ctx n).upd.stage = .boundary ∨ ((s.ctx n).upd.stage = .sweep ∧ (s.ctx n).upd.table.work ≤ (s.ctx n).upd.groups.length)

/-- Whether the step of context n owes a digest (R270). -/
def State.digestDue (s : State) (n : Nat) : Bool :=
  ((s.ctx n).upd.step + 1) % Nat.max 1 (s.ent (Ent.damaskInterval n)) == 0

/-- The digest of the step, where one is due (R270). -/
def State.digestRead (s : State) (n : Nat) : Except (Nat × Nat) Nat :=
  if s.digestDue n then s.digestRecs n (BitVec.ofNat 64 (s.ent (Ent.digestKey n))) (s.ctx n).upd.table.recs 0 else .ok 0

/-- A digest that is due stands in LAST_DIGEST, with its step (R271). -/
def State.digested (s : State) (n x : Nat) : State :=
  if s.digestDue n then s.setEnt (Ent.lastDigest n) ((s.ctx n).upd.step + 2 ^ 64 * x) else s

theorem State.digested_ctx (s : State) (n x : Nat) : (s.digested n x).ctx n = s.ctx n := by
  unfold State.digested
  split <;> rfl

theorem State.digested_ent (s : State) {n k : Nat} (x : Nat) (h : k ≠ Ent.lastDigest n) :
    (s.digested n x).ent k = s.ent k := by
  unfold State.digested
  split
  · exact State.ent_setEnt_ne _ _ h
  · rfl

variable {key x : Nat}

theorem State.AtBoundary.ready (hb : s.AtBoundary n) (hs : s.mem.served = true) :
    ¬ (!((s.ctx n).upd.stage = .boundary || ((s.ctx n).upd.stage = .sweep &&
      Nat.ble (s.ctx n).upd.table.work (s.ctx n).upd.groups.length)) || !s.mem.served) = true := by
  rcases hb with hb | ⟨hb, hwork⟩
  · simp [hb, hs]
  · simp [hb, hs, hwork]

theorem State.AtBoundary.stage_ne (hb : s.AtBoundary n) : (s.ctx n).upd.stage ≠ .idle := by
  rcases hb with hb | ⟨hb, -⟩ <;> simp [hb]

theorem exec_stepBoundary (hb : s.AtBoundary n) (hs : s.mem.served = true) (he : s.ent (Ent.exportMode n) = 0)
    (hx : s.digestRead n = .ok x) : exec (.stepBoundary n) s =
      .next (((s.digested n x).closeStep n (if s.digestDue n then some x else none)).governAt n) := by
  have hmode : (s.digested n x).ent (Ent.exportMode n) = 0 :=
    (s.digested_ent x (by simp only [Ent.exportMode, Ent.lastDigest]; omega)).trans he
  have hexport : ∀ d, (s.digested n x).exportSweep n d = s.digested n x := fun _ => if_pos hmode
  have hopen : ((s.digested n x).ctx n).upd.stage ≠ .idle := by
    rw [State.digested_ctx]
    exact hb.stage_ne
  have hexec : exec (.stepBoundary n) s = execStepBoundary n s := rfl
  rw [hexec, execStepBoundary]
  refine congrArg Host.Outcome.next ((if_neg (hb.ready hs)).trans ?_)
  rw [← State.digestDue]
  dsimp only
  rw [← State.digestRead, hx]
  dsimp only
  rw [← State.digested, hexport, if_neg hopen]

/-- The digest changes nothing that the close of a step needs. -/
theorem State.Closes.digested (h : s.Closes n key) (x : Nat) : (s.digested n x).Closes n key := by
  have hctx := s.digested_ctx n x
  have hent : ∀ {k : Nat}, k ≠ Ent.lastDigest n → (s.digested n x).ent k = s.ent k := s.digested_ent x
  have hlt : s.ctxPart n < 16 := Nat.mod_lt _ (by decide)
  have hpart : (s.digested n x).ctxPart n = s.ctxPart n :=
    State.entBits_congr (hent (by simp only [Ent.ctxDef, Ent.lastDigest]; omega)) 2 4
  have haddr : (s.digested n x).entBits (Ent.updDone n) 0 18 = s.entBits (Ent.updDone n) 0 18 :=
    State.entBits_congr (hent (by simp only [Ent.updDone, Ent.lastDigest]; omega)) 0 18
  have hsame : (s.digested n x).live = s.live ∧ (s.digested n x).mem = s.mem := by
    unfold State.digested
    split <;> exact ⟨rfl, rfl⟩
  have hfail : ((s.digested n x).boundaryWrites n).fail = (s.boundaryWrites n).fail := by
    rw [State.boundaryWrites, State.boundaryWrites, hctx, hent (by simp only [Ent.updTable, Ent.lastDigest]; omega)]
    split
    · rfl
    · exact State.writeGroups_fail (congrArg Mem.pages hsame.2) _ _ _ _
  exact {
    live := hsame.1.trans h.live
    refills := (congrArg Mem.refills hsame.2).trans h.refills
    queued := by rw [hctx, h.queued]
    written := hfail.trans h.written
    done := by
      rw [hpart, haddr, State.syncKey_congr (hent (by simp only [Ent.partClusters, Ent.lastDigest]; omega)), h.done]
    votes := (State.votePeers_congr (hent (by simp only [Ent.votePeers, Ent.lastDigest]; omega))).trans h.votes }

/-- The boundary of a step that can close closes it, with its digest in place (R256, R271). -/
theorem stepBoundary_closes (h : s.Closes n key) (hb : s.AtBoundary n) (hs : s.mem.served = true)
    (he : s.ent (Ent.exportMode n) = 0) (hx : s.digestRead n = .ok x) :
    ∃ t, exec (.stepBoundary n) s = .next t ∧ (s.digested n x).StepClosed t n key :=
  ⟨_, exec_stepBoundary hb hs he hx, ((h.digested x).closeStep _).governAt n⟩

theorem State.StepClosed.spec (h : (s.digested n x).StepClosed t n key) :
    t.ent (Ent.step n) = (s.ctx n).upd.step + 1 ∧ (t.ctx n).upd.stage = .idle ∧ t.entBit (Ent.updStatus n) 0 = false ∧
      (t.word key).value = sat64 ((s.word key).value + 1) := by
  have hword : (s.digested n x).word key = s.word key := by
    unfold State.digested
    split <;> rfl
  exact ⟨s.digested_ctx n x ▸ h.step, h.stage, h.busy, hword ▸ h.done⟩

/-- A step that was skipped, or whose groups are done and whose group state is written, stands at its boundary. -/
theorem State.atBoundary_of_stage (h : ((s.ctx n).upd.stage = .boundary ∧ (s.ctx n).upd.skipped = true) ∨
    ((s.ctx n).upd.stage = .sweep ∧ (s.ctx n).upd.table.work ≤ (s.ctx n).upd.groups.length ∧
      (s.writeGroups n (s.ent (Ent.updTable n)) (s.ctx n).upd.step (s.ctx n).upd.table.groups.zipIdx).fail = none)) :
    s.AtBoundary n ∧ (s.boundaryWrites n).fail = none := by
  rcases h with ⟨hstage, hskipped⟩ | ⟨hstage, hwork, hfail⟩
  · exact ⟨.inl hstage, by rw [State.boundaryWrites, if_pos hskipped]⟩
  · refine ⟨.inr ⟨hstage, hwork⟩, ?_⟩
    unfold State.boundaryWrites
    split
    · rfl
    · exact hfail

/-! ### UPE_GROUP (R247, R269) -/

/-- What a group counts and writes. -/
theorem SweepKeeps.group (s : State) (f : Nat → Nat) (l : List (Nat × Nat)) (w : List SweepWrite) :
    SweepKeeps n s ((s.countUpe n f l).sweepWrites n w).s := (countUpe s f l).trans (sweepWrites _ w)

/-- A group that counts as done joins the others (R247). -/
theorem SweepKeeps.swept (h : SweepKeeps n s t) (upe record group last flags : Nat) {u : State}
    (hu : u = (t.modUpd n (Upd.swept · upe record group last)).setEnt (Ent.updFlags n) flags) :
    (u.ctx n).upd.groups = (s.ctx n).upd.groups ++ [(record, group)] ∧ u.cores = s.cores ∧
      ∀ m, m ≠ n.val → u.ctx m = s.ctx m := by
  have hctx : ∀ m, u.ctx m = (t.modUpd n (Upd.swept · upe record group last)).ctx m := fun m => by rw [hu]; rfl
  refine ⟨?_, hu ▸ h.cores, fun m hm => ?_⟩
  · rw [hctx, State.ctx_modUpd, ← h.groups]
    rfl
  · rw [hctx, State.ctx_modUpd_ne _ _ hm, h.others m hm]

/-- Three failures of the residue check take the engine of a group out of service, whatever comes of the group (R269). -/
theorem upeGroup_fails {record group fails pa : Nat} {r : TensorRec} (h : s.GroupDue n record group r) (hf : 3 ≤ fails)
    (hpa : s.translate n (r.master + 1024 * group) = some pa) :
    ∃ t, exec (.upeGroup n record group fails) s = .next t ∧ t.rel.upeOut.getLsbD (s.upeOf (paStack pa)) = true ∧
      t.entBit Ent.replace 5 = true := by
  have hat : s.upeAt n (r.master + 1024 * group) = s.upeOf (paStack pa) := by rw [State.upeAt, hpa]; rfl
  have hfails : (Nat.ble 3 fails && (s.translate n (r.master + 1024 * group)).isSome) = true := by simp [hf, hpa]
  obtain ⟨hout, hreplace⟩ := s.failUpe_spec (s.upeOf_lt (stack := paStack pa) (Nat.mod_lt _ (by decide)))
  have hmarks := (s.failUpe (s.upeOf (paStack pa))).sweepGroupAt_upeMarks n (s.ctx n).upd r record group
    (s.ent (Ent.updFlags n))
  have hupe := congrArg Prod.fst hmarks
  dsimp only [State.upeMarks] at hupe
  refine ⟨_, exec_upeGroup h, ?_, ?_⟩
  · rw [if_pos hfails, hat, hupe]
    exact hout
  · rw [if_pos hfails, hat, State.entBit_congr (congrArg Prod.snd hmarks)]
    exact hreplace

/-! ### The obligation -/

/-- Settles O35: a group goes through or faults, and neither returns an engine to service; the close of a step is followed
through the writes of its group state, its DONE word and the governor. -/
theorem sweepsAndBoundaries : Obligations.SweepsAndBoundaries := by
  unfold Obligations.SweepsAndBoundaries
  intro n record group fails s r a key digest
  refine ⟨?group, ?failed, ?plain, ?due⟩
  case group =>
    rintro ⟨hentry, hstage, hserved, hidle, hsweeps, hlt, htodo⟩ hf hmode hreads hfail
    have hfew : ¬ (Nat.ble 3 fails && (s.translate n (r.master + 1024 * group)).isSome) = true := by simp [hf]
    obtain ⟨upe, last, hdone⟩ := State.sweepGroupAt_done (record := record) (flags := s.ent (Ent.updFlags n)) hmode hreads
      rfl rfl hfail
    obtain ⟨hgroups, hcores, hothers⟩ := (SweepKeeps.group s _ _ _).swept _ _ _ _ _ hdone
    refine ⟨_, exec_upeGroup ⟨hentry, hstage, hserved, hidle, hsweeps, hlt, htodo⟩, ?_⟩
    rw [if_neg hfew]
    refine ⟨?_, hgroups, ?_, hcores, hothers⟩
    · rw [hdone]
      rfl
    · rw [hdone]
      exact State.ent_setEnt _ _ _
  case failed =>
    rintro pa ⟨hentry, hstage, hserved, hidle, hsweeps, hlt, htodo⟩ hf hpa
    exact upeGroup_fails ⟨hentry, hstage, hserved, hidle, hsweeps, hlt, htodo⟩ hf hpa
  case plain =>
    rintro ⟨hs, he, hl, hr, -, hq, -, hstage, hdone, hv⟩ hdue
    obtain ⟨hb, hw⟩ := State.atBoundary_of_stage hstage
    have hnone : ¬ s.digestDue n = true := by simpa [State.digestDue] using hdue
    obtain ⟨t, ht, hc⟩ := stepBoundary_closes ⟨hl, hr, hq, hw, hdone, hv⟩ hb hs he (x := 0) (if_neg hnone)
    exact ⟨t, ht, hc.spec⟩
  case due =>
    rintro ⟨hs, he, hl, hr, -, hq, -, hstage, hdone, hv⟩ hdue hx
    obtain ⟨hb, hw⟩ := State.atBoundary_of_stage hstage
    have hsome : s.digestDue n = true := beq_iff_eq.2 hdue
    obtain ⟨t, ht, hc⟩ := stepBoundary_closes ⟨hl, hr, hq, hw, hdone, hv⟩ hb hs he ((if_pos hsome).trans hx)
    refine ⟨t, ht, hc.spec, hc.digest.trans ?_⟩
    rw [State.digested, if_pos hsome]
    exact State.ent_setEnt _ _ _

end Sys2Proof.Machine
end

section
/-!
SUPPORT. Tasks from the queue of their context to the queues of the cores (R288, R289, R426).
-/

namespace Sys2Proof.Machine

open Sys2Proof

variable {s t : State} {n : Nat}

/-! ### What cores, contexts, partitions and pages rest on -/

theorem State.core_congr (h : t.cores = s.cores) (k : Nat) : t.core k = s.core k := by rw [State.core, h, State.core]

theorem State.ctx_congr (h : t.ctxs = s.ctxs) (m : Nat) : t.ctx m = s.ctx m := by rw [State.ctx, h, State.ctx]

theorem State.part_congr (h : t.parts = s.parts) (k : Nat) : t.part k = s.part k := by rw [State.part, h, State.part]

theorem State.pg_congr (h : t.host.pages = s.host.pages) (m off : Nat) : t.pg m off = s.pg m off := by
  rw [State.pg, h, State.pg]

/-- What a change of one context keeps of it, it keeps of every context. -/
theorem State.modCtx_keeps {α : Type} (g : Ctx → α) {f : Ctx → Ctx} (hf : ∀ c, g (f c) = g c) (s : State) (j m : Nat) :
    g ((s.modCtx j f).ctx m) = g (s.ctx m) := by
  by_cases hm : m = j
  · rw [hm, State.ctx_modCtx, hf]
  · rw [State.ctx_modCtx_ne s f hm]

/-! ### Changes of several cores -/

theorem State.core_modCores_of_notMem {k : Nat} {l : List Nat} (f : Core → Core) (h : k ∉ l) :
    (s.modCores l f).core k = s.core k := by
  induction l generalizing s with
  | nil => rfl
  | cons j l ih =>
    rw [List.mem_cons, not_or] at h
    obtain ⟨hj, hl⟩ := h
    exact (ih hl).trans (State.core_modCore_ne s f hj)

/-- A change that is made once where it is made at all: the cores are named once, or the change made again is none. -/
theorem State.core_modCores_of_mem {k : Nat} {l : List Nat} {f : Core → Core} (hf : l.Nodup ∨ ∀ c, f (f c) = f c)
    (h : k ∈ l) : (s.modCores l f).core k = f (s.core k) := by
  induction l generalizing s with
  | nil => cases h
  | cons j l ih =>
    change ((s.modCore j f).modCores l f).core k = _
    by_cases hl : k ∈ l
    · rw [ih (hf.imp_left fun hn => (List.nodup_cons.1 hn).2) hl]
      by_cases hk : k = j
      · subst hk
        rcases hf with hn | hf
        · exact absurd hl (List.nodup_cons.1 hn).1
        · rw [State.core_modCore, hf]
      · rw [State.core_modCore_ne s f hk]
    · have hk : k = j := (List.mem_cons.1 h).resolve_right hl
      rw [State.core_modCores_of_notMem f hl, hk, State.core_modCore]

theorem State.modCores_eq (s : State) (l : List Nat) (f : Core → Core) :
    s.modCores l f = { s with cores := (s.modCores l f).cores } := by
  induction l generalizing s with
  | nil => rfl
  | cons j l ih => exact ih (s.modCore j f)

@[simp] theorem State.modCores_ctxs (s : State) (l : List Nat) (f : Core → Core) : (s.modCores l f).ctxs = s.ctxs := by
  rw [State.modCores_eq]

/-! ### A task enters the queues of its group (R289) -/

/-- The descriptor of a task, under the number that its instance takes. -/
def TaskReq.desc (t : TaskReq) (id : Nat) : TaskDesc :=
  { inst := id, ctx := t.ctx, pc := t.pc, s0 := t.s0, s1 := t.s1, s2 := t.s2, s3 := t.s3, taskid := t.taskid }

/-- The instance of a task that is entered for a number of cores. -/
def TaskReq.inst (t : TaskReq) (id left : Nat) (seq : Option Nat) : TaskInst :=
  { id := id, started := false, left := left, done := if t.done.testBit 31 then some (bitsAt t.done 0 18) else none,
    seq := seq }

/-- One more task at the end of a core's queue. -/
def Core.queued (c : Core) (d : TaskDesc) : Core := { c with tasks := c.tasks ++ [d] }

theorem State.enterTask_eq (s : State) (r : TaskReq) (keys : List Nat) (seq : Option Nat) : s.enterTask r keys seq =
    { s with cores := (s.modCores keys (Core.queued · (r.desc s.nextId))).cores
             nextId := s.nextId + 1
             ctxs := (s.modCtx r.ctx fun c =>
               { c with tasks := c.tasks ++ [r.inst s.nextId keys.length seq] }).ctxs } := by
  unfold State.enterTask
  dsimp only
  rw [State.modCores_eq]
  rfl

theorem State.core_enterTask_of_mem {r : TaskReq} {keys : List Nat} {k : Nat} (hn : keys.Nodup) (h : k ∈ keys)
    (seq : Option Nat) : (s.enterTask r keys seq).core k = (s.core k).queued (r.desc s.nextId) := by
  rw [State.enterTask_eq]
  exact State.core_modCores_of_mem (f := (Core.queued · (r.desc s.nextId))) (.inl hn) h

theorem State.core_enterTask_of_notMem {keys : List Nat} {k : Nat} (r : TaskReq) (h : k ∉ keys)
    (seq : Option Nat) : (s.enterTask r keys seq).core k = s.core k := by
  rw [State.enterTask_eq]
  exact State.core_modCores_of_notMem (Core.queued · (r.desc s.nextId)) h

theorem State.ctx_enterTask (s : State) {r : TaskReq} (hr : r.ctx = n) (keys : List Nat) (seq : Option Nat) :
    (s.enterTask r keys seq).ctx n =
      { s.ctx n with tasks := (s.ctx n).tasks ++ [r.inst s.nextId keys.length seq] } := by
  subst hr
  rw [State.enterTask_eq]
  exact State.ctx_modCtx s r.ctx fun c => { c with tasks := c.tasks ++ [r.inst s.nextId keys.length seq] }

/-! ### The descriptors that a context has read (R426) -/

/-- Whether tasks may leave their source rests on the resets and the slots of the contexts (R296). -/
theorem State.mayIssue_modCtx {f : Ctx → Ctx} (hf : ∀ c, (f c).resetting = c.resetting ∧ (f c).eval = c.eval) (j m : Nat) :
    (s.modCtx j f).mayIssue m = s.mayIssue m := by
  have hreset : ∀ i, ((s.modCtx j f).ctx i).resetting = (s.ctx i).resetting :=
    State.modCtx_keeps Ctx.resetting (fun c => (hf c).1) s j
  have heval : ∀ i, ((s.modCtx j f).ctx i).eval = (s.ctx i).eval := State.modCtx_keeps Ctx.eval (fun c => (hf c).2) s j
  simp only [State.mayIssue, hreset, heval]
  rfl

theorem State.issueRead_nil (h : (s.ctx n).cqRead = []) (fuel : Nat) : s.issueRead n fuel = s := by
  cases fuel with
  | zero => rfl
  | succ fuel => rw [State.issueRead, h]

theorem State.issueTasks_nil (h : (s.ctx n).cqRead = []) : s.issueTasks n = s := State.issueRead_nil h _

theorem State.issueTasks_enters {d : BitVec 512} {keys : List Nat} (hq : (s.ctx n).cqRead = [d])
    (hm : s.mayIssue n = true) (hg : s.taskGroup (decodeTask n d) = some keys) (hs : s.slotsFree keys = true) :
    s.issueTasks n = (s.modCtx n fun c => { c with cqRead := [] }).enterTask (decodeTask n d) keys none := by
  have hlen : (s.ctx n).cqRead.length = 1 := by rw [hq]; rfl
  rw [State.issueTasks, hlen, State.issueRead, hq]
  dsimp only
  rw [if_neg (by simp [hm]), hg]
  dsimp only
  rw [if_pos hs]
  rfl

theorem State.issueTasks_rejects {d : BitVec 512} {l : List (BitVec 512)} (hq : (s.ctx n).cqRead = d :: l)
    (hm : s.mayIssue n = true) (hg : s.taskGroup (decodeTask n d) = none) :
    s.issueTasks n = s.badGroup n (decodeTask n d).taskid := by
  have hlen : (s.ctx n).cqRead.length = l.length + 1 := by rw [hq]; rfl
  rw [State.issueTasks, hlen, State.issueRead, hq]
  dsimp only
  rw [if_neg (by simp [hm]), hg]

end Sys2Proof.Machine
end

section
/-!
SUPPORT. A reset that a context is given is in progress afterwards: nothing that it discards ends a reset (R387).
-/

namespace Sys2Proof.Machine

open Sys2Proof

variable {s t : State} {n : Nat}

/-- The reset in progress of each context, by its cause (R387). -/
def State.resets (s : State) : Nat → Option Nat := fun m => (s.ctx m).resetting

theorem State.resets_congr (h : t.ctxs = s.ctxs) : t.resets = s.resets := by
  funext m
  rw [State.resets, State.ctx_congr h, State.resets]

theorem State.resets_modCtx (s : State) (j : Nat) {f : Ctx → Ctx} (hf : ∀ c, (f c).resetting = c.resetting) :
    (s.modCtx j f).resets = s.resets := funext (State.modCtx_keeps Ctx.resetting hf s j)

theorem State.advanceTag_resets (s : State) (n : Nat) : (s.advanceTag n).resets = s.resets := by
  unfold State.advanceTag
  dsimp only
  split
  · exact State.resets_modCtx s n fun _ => by rfl
  · rw [State.resets_congr (State.setEnt_ctxs _ _ _), State.resets_modCtx s n fun _ => by rfl]

theorem State.dropTasks_resets (s : State) (n : Nat) : (s.dropTasks n).resets = s.resets := by
  unfold State.dropTasks
  dsimp only
  rw [State.resets_congr (State.modPart_ctxs _ _ _), State.resets_modCtx _ n fun _ => by rfl]
  exact State.resets_congr (State.modCores_ctxs s _ _)

theorem State.dropQueue_resets (s : State) (n : Nat) : (s.dropQueue n).resets = s.resets := by
  rw [State.dropQueue, State.resets_congr (State.setPg_ctxs _ _ _ _), State.resets_modCtx s n fun _ => by rfl]

theorem State.zeroPrivate_ctxs (s : State) (n : Nat) : (s.zeroPrivate n).ctxs = s.ctxs := by
  unfold State.zeroPrivate
  exact foldl_keeps (g := State.ctxs) (fun v k => State.setWord_ctxs v k _) _ s

theorem State.wordChanged_ctxs (s : State) (key : Nat) : (s.wordChanged key).ctxs = s.ctxs := by
  unfold State.wordChanged
  split
  · exact State.testArms_ctxs s _
  · rfl

theorem State.abandonLocks_ctxs (s : State) (n : Nat) : (s.abandonLocks n).ctxs = s.ctxs := by
  unfold State.abandonLocks
  exact foldl_keeps (g := State.ctxs) (fun v k => State.wordChanged_ctxs (v.setWord k _) k) _ s

theorem State.dropSweep_resets (s : State) (n : Nat) : (s.dropSweep n).resets = s.resets := by
  unfold State.dropSweep
  dsimp only
  rw [State.resets_congr (State.setEntBit_ctxs _ _ _ _), State.resets_modCtx _ n fun _ => by rfl]
  split
  · exact State.resets_congr (Reports.logCtx s _ _ _).ctxs
  · rfl

theorem State.retarget_resets (s : State) (n : Nat) : (s.retarget n).resets = s.resets := by
  unfold State.retarget
  split
  · exact State.resets_modCtx s n fun _ => by rfl
  · rfl

/-- An ABORT token leaves on a port of the ring, or is lost (R313, R338). -/
theorem State.sendAbort_ctxs (s : State) (n : Nat) (a : AbortToken) : (s.sendAbort n a).ctxs = s.ctxs := by
  have hsent : ∀ p vc m, (s.transmit p vc m).2.ctxs = s.ctxs := fun _ vc m => (SendsAt.transmit s vc m).ctxs
  unfold State.sendAbort
  dsimp only
  split
  · split
    · rfl
    · unfold State.sendHop
      dsimp only
      split
      · exact hsent _ _ _
      · exact hsent _ _ _
  · rfl

theorem State.abortLanes_ctxs (s : State) (n gen : Nat) (d : CollDesc) (mismatch : Bool) :
    (s.abortLanes n gen d mismatch).ctxs = s.ctxs := by
  unfold State.abortLanes
  exact foldl_keeps (g := State.ctxs) (fun v _ => State.sendAbort_ctxs v n _) _ s

theorem State.dropColls_resets (s : State) (n : Nat) : (s.dropColls n).resets = s.resets := by
  have habort : ∀ l : List Coll,
      (l.foldl (fun s x => if x.ended then s else s.abortLanes n x.gen x.desc false) s).ctxs = s.ctxs :=
    fun l => foldl_keeps (g := State.ctxs) (fun v x => by
      split
      · rfl
      · exact State.abortLanes_ctxs v n _ _ _) l s
  have hdrop : ∀ v : State, (v.modCtx n fun c => { c with colls := [], tokens := [], aborted := [] }).resets = v.resets :=
    fun v => State.resets_modCtx v n fun _ => by rfl
  unfold State.dropColls
  dsimp only
  refine Eq.trans ?_ ((hdrop _).trans (State.resets_congr (habort (s.ctx n).colls)))
  split <;> exact State.resets_congr rfl

theorem State.endSlot_resets (s : State) (n : Nat) : (s.endSlot n).resets = s.resets := by
  have hlast : ∀ i : Nat, (s.modCtx i fun c => { c with eval := .running n true }).resets = s.resets := fun i =>
    State.resets_modCtx s i fun _ => by rfl
  have hfinish : ∀ v : State, ((v.modCores (v.boundCores n) fun c => { c with sp := Scratch.zero }).modCtx n fun c =>
      { c with eval := .none, evalDue := [] }).resets = v.resets := fun v => by
    rw [State.resets_modCtx _ n fun _ => by rfl, State.resets_congr (State.modCores_ctxs v _ _)]
  unfold State.endSlot
  dsimp only
  split
  · split
    · split
      · exact hlast _
      · rfl
    · split
      · exact hlast _
      · rfl
    · rfl
  · split
    · rfl
    · rw [hfinish, State.dropTasks_resets]
    · exact hfinish s

/-- A reset of a context is in progress once its steps have been taken (R387). -/
theorem State.ctxResetSteps_resetting (s : State) (n cause : Nat) :
    ((s.ctxResetSteps n cause).ctx n).resetting = some cause := by
  have hstop : ∀ v : State, ((List.range 16).foldl (fun s k =>
      if s.entBit (Ent.seqCtl k) 6 && s.entBits (Ent.seqCtl k) 0 6 == n && s.ctxPart n == k then s.stopSeq k else s) v).ctxs =
        v.ctxs := fun v => foldl_keeps (g := State.ctxs) (fun _ _ => by split <;> rfl) _ v
  have hlive : ∀ v : State, (v.dropLive n).resets = v.resets := fun _ => rfl
  have hcores : ∀ (v : State) (l : List Nat), ((v.dropWatches l).dropGrants l).resets = v.resets := fun _ _ => rfl
  have hbegun : (s.modCtx n fun c => { c with resetting := some cause }).resets n = some cause :=
    congrArg Ctx.resetting (State.ctx_modCtx s n _)
  change (s.ctxResetSteps n cause).resets n = some cause
  unfold State.ctxResetSteps
  dsimp only
  rw [State.endSlot_resets, hlive, State.resets_congr (hstop _), State.dropColls_resets, State.retarget_resets,
    State.dropSweep_resets, State.resets_congr (State.abandonLocks_ctxs _ n), State.resets_congr (State.zeroPrivate_ctxs _ n),
    State.resets_congr (State.setEnt_ctxs _ _ _), hcores, State.resets_congr (State.modCores_ctxs _ _ _),
    State.dropQueue_resets, State.dropTasks_resets]
  split
  · exact hbegun
  · rw [State.advanceTag_resets]
    exact hbegun

/-- A context whose resets are all over takes a reset (R387, R395). -/
theorem State.ctxReset_resetting (hv : s.ctxValid n = true) (hr : (s.ctx n).resetting = none)
    (hp : (s.part (s.ctxPart n)).resetting = false) (hc : s.rel.creset = false) (cause : Nat) :
    ((s.ctxReset n cause).ctx n).resetting = some cause := by
  have hfree : ¬ (!s.ctxValid n || (s.ctx n).resetting.isSome || (s.part (s.ctxPart n)).resetting || s.rel.creset) = true := by
    simp [hv, hr, hp, hc]
  rw [State.ctxReset, if_neg hfree]
  exact State.ctxResetSteps_resetting s n cause

end Sys2Proof.Machine
end

section
/-!
PROOF. Descriptors from their read to the queues of the cores, or to the reset of their context (R288, R289, R392, R426, R435).
-/

namespace Sys2Proof.Machine

open Sys2Proof

variable {s t : State} {n : Fin 64}

/-! ### The read of a descriptor (R426) -/

/-- The next descriptor is asked for: CQ_HEAD rises, and the read goes out under the tag of the context (R392, R426). -/
def State.descriptorAsked (s : State) (n : Nat) : State :=
  ((s.emit (.read (s.ctxPart n + 1) (s.pg n 0x000 + 64 * (s.pg n 0x010 % s.pg n 0x008)) 64)).setPg n 0x010
    (s.pg n 0x010 + 1)).modCtx n fun c => { c with cqOut := c.cqOut ++ [s.tag n] }

theorem exec_descriptorFetch (hv : s.ctxValid n = true) (hr : (s.ctx n).resetting = none)
    (hb : s.bme (s.ctxPart n + 1) = true) (ht : s.pg n 0x010 < s.pg n 0x040) (ho : (s.ctx n).cqOut = [])
    (hl : (s.ctx n).cqRead.length < 8) : exec (.descriptorFetch n) s = .next (s.descriptorAsked n) := by
  have hhead : Nat.ble (s.pg n 0x040) (s.pg n 0x010) = false := by simpa [Bool.eq_false_iff] using ht
  have hroom : Nat.ble 8 ((s.ctx n).cqRead.length + ((s.ctx n).cqOut.filter (· == s.tag n)).length) = false := by
    simpa [Bool.eq_false_iff, ho] using hl
  have hgo : ¬ (!s.ctxValid n || (s.ctx n).resetting.isSome || !s.bme (s.ctxPart n + 1) ||
      Nat.ble (s.pg n 0x040) (s.pg n 0x010) ||
      Nat.ble 8 ((s.ctx n).cqRead.length + ((s.ctx n).cqOut.filter (· == s.tag n)).length)) = true := by
    simp [hv, hr, hb, hhead, hroom]
  exact congrArg Host.Outcome.next (if_neg hgo)

/-! ### The arrival of a descriptor -/

/-- The oldest read of a context is no longer outstanding. -/
def State.readReturned (s : State) (n : Nat) (l : List Nat) : State := s.modCtx n fun c => { c with cqOut := l }

/-- A descriptor that has arrived waits with those before it. -/
def State.descriptorKept (s : State) (n : Nat) (l : List Nat) (d : BitVec 512) : State :=
  (s.readReturned n l).modCtx n fun c => { c with cqRead := c.cqRead ++ [d] }

theorem State.descriptorKept_ctx (s : State) (n : Nat) (l : List Nat) (d : BitVec 512) :
    (s.descriptorKept n l d).ctx n = { s.ctx n with cqOut := l, cqRead := (s.ctx n).cqRead ++ [d] } := by
  rw [State.descriptorKept, State.ctx_modCtx, State.readReturned, State.ctx_modCtx]

theorem State.descriptorKept_mayIssue (s : State) (n : Nat) (l : List Nat) (d : BitVec 512) (m : Nat) :
    (s.descriptorKept n l d).mayIssue m = s.mayIssue m := by
  rw [State.descriptorKept, State.mayIssue_modCtx (fun _ => ⟨by rfl, by rfl⟩), State.readReturned,
    State.mayIssue_modCtx (fun _ => ⟨by rfl, by rfl⟩)]

theorem exec_descriptorReadCompletion {tag : Nat} {l : List Nat} (hq : (s.ctx n).cqOut = tag :: l)
    (st : ReadStatus) (d : BitVec 512) : exec (.descriptorReadCompletion n st d) s =
      .next (if !s.ctxValid n || !s.tagOk n tag then (s.readReturned n l).staleDrop n [Stale.completion, s.ctxPart n + 1]
        else match st with
          | .ok => (s.descriptorKept n l d).issueTasks n
          | _ => ((((s.readReturned n l).logCtx Code.hostReadError n []).cqEvent n 2).ctxReset n Code.hostReadError)) := by
  have hexec : exec (.descriptorReadCompletion n st d) s = execDescriptorReadCompletion n st d s := rfl
  rw [hexec, execDescriptorReadCompletion, hq]
  rfl

theorem exec_descriptorReadCompletion_ok {tag : Nat} {l : List Nat} (hq : (s.ctx n).cqOut = tag :: l)
    (hv : s.ctxValid n = true) (ht : s.tagOk n tag = true) (d : BitVec 512) :
    exec (.descriptorReadCompletion n .ok d) s = .next ((s.descriptorKept n l d).issueTasks n) := by
  rw [exec_descriptorReadCompletion hq, if_neg (by simp [hv, ht])]

/-- A read that fails is recorded, and the context is told and reset (R435). -/
theorem exec_descriptorReadCompletion_fails {tag : Nat} {l : List Nat} (hq : (s.ctx n).cqOut = tag :: l)
    (hv : s.ctxValid n = true) (ht : s.tagOk n tag = true) {st : ReadStatus} (hst : st ≠ .ok) (d : BitVec 512) :
    exec (.descriptorReadCompletion n st d) s = .next ((((s.readReturned n l).logCtx Code.hostReadError n []).cqEvent n
      2).ctxReset n Code.hostReadError) := by
  rw [exec_descriptorReadCompletion hq, if_neg (by simp [hv, ht])]
  cases st with
  | ok => exact absurd rfl hst
  | _ => rfl

theorem exec_descriptorReadCompletion_stale {tag : Nat} {l : List Nat} (hq : (s.ctx n).cqOut = tag :: l)
    (ht : s.tagOk n tag = false) (st : ReadStatus) (d : BitVec 512) : exec (.descriptorReadCompletion n st d) s =
      .next ((s.readReturned n l).staleDrop n [Stale.completion, s.ctxPart n + 1]) := by
  rw [exec_descriptorReadCompletion hq, if_pos (by simp [ht])]

/-! ### Reports before a reset -/

/-- A context that may be reset is reset also after reports that leave its definition alone. -/
theorem Reports.ctxReset_resetting (h : Reports s t) {m : Nat} (hd : t.ent (Ent.ctxDef m) = s.ent (Ent.ctxDef m))
    (hv : s.ctxValid m = true) (hr : (s.ctx m).resetting = none) (hp : (s.part (s.ctxPart m)).resetting = false)
    (hc : s.rel.creset = false) (cause : Nat) : ((t.ctxReset m cause).ctx m).resetting = some cause := by
  refine State.ctxReset_resetting ?_ ?_ ?_ ?_ cause
  · rw [State.ctxValid, State.entBit_congr hd]
    exact hv
  · rw [h.ctx, hr]
  · rw [h.part, State.ctxPart, State.entBits_congr hd]
    exact hp
  · rw [h.rel]
    exact hc

theorem State.ctxDef_logCtx (s : State) (code : Nat) (n : Nat) (args : List Nat) (m : Fin 64) :
    (s.logCtx code n args).ent (Ent.ctxDef m) = s.ent (Ent.ctxDef m) :=
  State.ent_logCtx s _ _ _ (by simp only [Ent.ctxDef, Ent.logHead]; omega) (by simp only [Ent.ctxDef, Ent.logLost]; omega)

/-- A group that R288 rejects resets the context of the task. -/
theorem State.badGroup_resetting (hm : s.mayIssue n = true) (taskid : Nat) :
    ((s.badGroup n taskid).ctx n).resetting = some Code.taskGroup := by
  simp only [State.mayIssue, Bool.and_eq_true, Bool.not_eq_true', Option.isNone_iff_eq_none] at hm
  obtain ⟨⟨⟨⟨hv, hr⟩, hp⟩, hc⟩, -⟩ := hm
  exact (Reports.logCtx s _ _ _).ctxReset_resetting (State.ctxDef_logCtx s _ _ _ n) hv hr hp hc _

/-! ### Stale reads (R392) -/

theorem row_staleDrop (n : Fin 64) : (Catalog.row (Ent.staleDrop n)).map (·.size) = some 4 := by
  revert n
  decide +kernel

/-- Traffic dropped under R392 is counted; but for reports and the mark that the first was recorded, no more happens. -/
theorem State.staleDrop_spec (s : State) (n : Fin 64) (args : List Nat) (h : s.ent (Ent.staleDrop n) < 2 ^ 32 - 1) :
    (s.staleDrop n args).ent (Ent.staleDrop n) = s.ent (Ent.staleDrop n) + 1 ∧ (s.staleDrop n args).cores = s.cores ∧
      ∃ first, (s.staleDrop n args).ctx n = { s.ctx n with first := first } := by
  have hcount := State.ent_bump_of_lt (row_staleDrop n) h
  have hhead : Ent.staleDrop n ≠ Ent.logHead ∧ Ent.staleDrop n ≠ Ent.logLost := by
    simp only [Ent.staleDrop, Ent.logHead, Ent.logLost]; omega
  have hdrop : s.staleDrop n args = if 1 = 0 || ((s.bump (Ent.staleDrop n)).ctx n).first.getLsbD 2 then s.bump (Ent.staleDrop n)
      else ((s.bump (Ent.staleDrop n)).modCtx n fun c => { c with first := c.first ||| 4#4 }).logCtx Code.staleDrop n args :=
    rfl
  rw [hdrop]
  split
  · exact ⟨hcount, rfl, (s.ctx n).first, rfl⟩
  · have hreports := Reports.logCtx ((s.bump (Ent.staleDrop n)).modCtx n fun c => { c with first := c.first ||| 4#4 })
      Code.staleDrop n args
    refine ⟨(State.ent_logCtx _ _ _ _ hhead.1 hhead.2).trans hcount, hreports.cores, (s.ctx n).first ||| 4#4, ?_⟩
    rw [hreports.ctx, State.ctx_modCtx]
    rfl

/-! ### The obligation -/

/-- Settles O37: what a descriptor that arrives makes of the machine is the entry of its task in the queues of its group, or
the reset of its context, or a count. -/
theorem descriptorsAreIssued : Obligations.DescriptorsAreIssued := by
  unfold Obligations.DescriptorsAreIssued
  intro n st d s tag l keys f i c q desc arrives
  refine ⟨?fetched, ?issued, ?rejected, ?failed, ?stale⟩
  case fetched =>
    intro hv hr hb ht ho hl
    refine ⟨_, exec_descriptorFetch hv hr hb ht ho hl, ?_, ?_, rfl, rfl, rfl⟩
    · exact State.pg_setPg _ n 0x010 _
    · rw [State.descriptorAsked, State.ctx_modCtx]
      exact congrArg (· ++ [s.tag n]) ho
  case issued =>
    rintro ⟨hq, hv, ht⟩ rfl hread hm hg hn hs
    have hkept := s.descriptorKept_ctx n l d
    have hissue : (s.descriptorKept n l d).issueTasks n = _ := State.issueTasks_enters (keys := keys)
      (by rw [hkept, hread]; rfl) (by rw [State.descriptorKept_mayIssue]; exact hm) hg hs
    have hctx := State.ctx_enterTask ((s.descriptorKept n l d).modCtx n fun c => { c with cqRead := [] })
      (r := decodeTask n d) (n := n) rfl keys none
    rw [State.ctx_modCtx, hkept] at hctx
    have hcore : ∀ k, ((s.descriptorKept n l d).modCtx n fun c => { c with cqRead := [] }).core k = s.core k :=
      State.core_congr rfl
    refine ⟨_, (exec_descriptorReadCompletion_ok hq hv ht d).trans (congrArg _ hissue), ?_, ?_, fun k hk => ?_,
      fun k hk => ?_, ?_, ?_, ?_⟩
    · rw [hctx]
    · rw [hctx]
    · rw [State.core_enterTask_of_mem hn hk, hcore]
      rfl
    · rw [State.core_enterTask_of_notMem _ hk, hcore]
    · rw [State.enterTask_eq]
      rfl
    · rw [State.enterTask_mem]
      rfl
    · rw [hctx]
      rfl
  case rejected =>
    rintro ⟨hq, hv, ht⟩ rfl hread hm hg
    have hissue : (s.descriptorKept n l d).issueTasks n = _ := State.issueTasks_rejects
      (by rw [s.descriptorKept_ctx n l d, hread]; rfl) (by rw [State.descriptorKept_mayIssue]; exact hm) hg
    refine ⟨_, (exec_descriptorReadCompletion_ok hq hv ht d).trans (congrArg _ hissue), ?_⟩
    exact State.badGroup_resetting (by rw [State.descriptorKept_mayIssue]; exact hm) _
  case failed =>
    rintro ⟨hq, hv, ht⟩ hst hr hp hc
    refine ⟨_, exec_descriptorReadCompletion_fails hq hv ht hst d, ?_⟩
    have hlog := Reports.logCtx (s.readReturned n l) Code.hostReadError n []
    have hdef := State.ctxDef_logCtx (s.readReturned n l) Code.hostReadError n [] n
    refine (hlog.trans (Reports.cqEvent _ n 2)).ctxReset_resetting ?_ hv ?_ hp hc _
    · exact (State.ent_congr (State.cause_dict _ _ _) _).trans hdef
    · rw [State.readReturned, State.ctx_modCtx]
      exact hr
  case stale =>
    intro hq ht hcount
    obtain ⟨hent, hcores, first, hctx⟩ := (s.readReturned n l).staleDrop_spec n [Stale.completion, s.ctxPart n + 1] hcount
    have hreturned : (s.readReturned n l).ctx n = { s.ctx n with cqOut := l } := State.ctx_modCtx s n _
    rw [hreturned] at hctx
    refine ⟨_, exec_descriptorReadCompletion_stale hq ht st d, ?_, ?_, hent, hcores⟩
    · rw [hctx]
    · rw [hctx]

end Sys2Proof.Machine
end

section
/-!
PROOF. The start of a task on a core, and the tail of a context queue (R118, R289, R296, R425, R427).
-/

namespace Sys2Proof.Machine

open Sys2Proof

variable {s t : State} {k : Nat}

/-! ### The task that starts (R289, R296) -/

/-- A task of a context outside its resets and slots may start. -/
theorem State.mayStart_training {d : TaskDesc} (hr : (s.ctx d.ctx).resetting = none) (he : s.ctxEval d.ctx = false)
    (hv : (s.ctx d.ctx).eval = .none) : s.mayStart d = true := by
  simp [State.mayStart, hr, he, hv]

/-- A slot of its context holds back a task that no core has started. -/
theorem State.mayStart_lent {d : TaskDesc} (he : s.ctxEval d.ctx = false) (hv : (s.ctx d.ctx).eval ≠ .none)
    (hnew : ∀ i ∈ (s.ctx d.ctx).tasks, i.id = d.inst → i.started = false) : s.mayStart d = false := by
  have hany : (s.ctx d.ctx).tasks.any (fun i => i.id == d.inst && i.started) = false := by
    rw [List.any_eq_false]
    intro i hi
    by_cases hid : i.id = d.inst
    · simp [hnew i hi hid]
    · simp [hid]
  simp [State.mayStart, hany, he, hv]

theorem State.nextTask_cons {c : Core} {d : TaskDesc} {l : List TaskDesc} (hl : c.tasks = d :: l)
    (hm : s.mayStart d = true) : s.nextTask c = some d := by
  simp [State.nextTask, hl, hm]

theorem State.nextTask_none {c : Core} (h : ∀ d ∈ c.tasks, s.mayStart d = false) : s.nextTask c = none := by
  simp only [State.nextTask, List.find?_eq_none]
  intro d hd
  simp [h d hd]

/-! ### The start (R118, R138) -/

/-- The task that a core runs, with the STEP and the Gauze key of its start (R55, R119). -/
def State.runOf (s : State) (d : TaskDesc) : RunTask :=
  { inst := d.inst, ctx := d.ctx, taskid := d.taskid, step := s.ent (Ent.step d.ctx)
    key := BitVec.ofNat 64 (s.ent (Ent.gauzeKey d.ctx)) }

/-- Core k in the state in which its task starts. -/
def State.startedCore (s : State) (k : Nat) (d : TaskDesc) : Core :=
  ({ s.core k with tasks := (s.core k).tasks.erase d }).startTask d (s.runOf d)

/-- The machine with a task begun on core k, before its first instruction is fetched. -/
def State.taskBegun (s : State) (k : Nat) (d : TaskDesc) : State :=
  (s.notePhase (s.setCore k (s.startedCore k d)) k).markStarted d

theorem State.taskBegun_eq (s : State) (k : Nat) (d : TaskDesc) : s.taskBegun k d =
    { s with cores := (s.setCore k (s.startedCore k d)).cores, parts := (s.taskBegun k d).parts
             ctxs := (s.markStarted d).ctxs } := by
  unfold State.taskBegun
  rw [State.notePhase_eq]
  rfl

theorem State.core_taskBegun (s : State) (k : Nat) (d : TaskDesc) : (s.taskBegun k d).core k = s.startedCore k d := by
  rw [State.taskBegun_eq]
  exact State.core_setCore s k _

theorem State.core_taskBegun_ne (s : State) {j k : Nat} (d : TaskDesc) (h : j ≠ k) :
    (s.taskBegun k d).core j = s.core j := by
  rw [State.taskBegun_eq]
  exact State.core_setCore_ne s _ h

theorem State.cqRead_taskBegun (s : State) (k : Nat) (d : TaskDesc) (m : Nat) :
    ((s.taskBegun k d).ctx m).cqRead = (s.ctx m).cqRead := by
  rw [State.taskBegun_eq]
  change ((s.markStarted d).ctx m).cqRead = _
  rw [State.markStarted]
  exact State.modCtx_keeps Ctx.cqRead (fun _ => by rfl) s d.ctx m

/-- The first instruction is fetched where its line can be read: the cache of a task that starts is empty (R114, R118). -/
theorem State.taskBegun_fetch {d : TaskDesc} {b : List Byte} (hpc : d.pc % 8 = 0)
    (hb : s.readVirt d.ctx (d.pc % 2 ^ 48 / 256 * 256) 256 = .ok b) :
    ∃ u, (s.taskBegun k d).fetch k d.ctx (d.pc % 2 ^ 48) = .ok u := by
  have halign : ¬ d.pc % 2 ^ 48 % 8 ≠ 0 := by omega
  have hmem : (s.taskBegun k d).mem = s.mem := by rw [State.taskBegun_eq]
  have hcold : ((s.taskBegun k d).core k).cached (d.pc % 2 ^ 48) = false := by
    rw [State.core_taskBegun]
    rfl
  rw [State.fetch, if_neg halign, hcold, if_neg Bool.false_ne_true, State.readVirt_congr hmem, hb]
  exact ⟨_, rfl⟩

/-! ### The slot that the task leaves (R289) -/

theorem State.seqIssue_stopped {p : Nat} (h : s.entBit (Ent.seqCtl p) 6 = false) : s.seqIssue p = s := by
  unfold State.seqIssue
  dsimp only
  split
  · rfl
  · rw [if_pos (by simp [h])]

theorem State.clusterPart_lt {cluster p : Nat} (h : s.clusterPart cluster = some p) : p < 16 :=
  List.mem_range.1 (List.mem_of_find?_eq_some h)

theorem State.issueFor_nil (h : ∀ m, (s.ctx m).cqRead = []) (cluster : Nat) : s.issueFor cluster = s := by
  unfold State.issueFor
  refine List.foldlRecOn _ _ (motive := (· = s)) rfl ?_
  rintro _ rfl m -
  split
  · exact State.issueTasks_nil (h m)
  · rfl

/-- A free slot stays free while no queue has a task and no sequencer runs. -/
theorem State.slotFreed_idle (h : ∀ m, (s.ctx m).cqRead = []) (hs : ∀ p, p < 16 → s.entBit (Ent.seqCtl p) 6 = false)
    (cluster : Nat) : s.slotFreed cluster = s := by
  unfold State.slotFreed
  split
  · next p hp => rw [State.seqIssue_stopped (hs p (State.clusterPart_lt hp)), State.issueFor_nil h]
  · exact State.issueFor_nil h cluster

/-! ### TASK_START -/

theorem exec_taskStart {c : CoreId} {d : TaskDesc} {b : List Byte} (hrun : (s.core (coreKey c)).run = none)
    (hd : s.nextTask (s.core (coreKey c)) = some d) (hrole : (s.core (coreKey c)).role = .inService) (hpc : d.pc % 8 = 0)
    (hb : s.readVirt d.ctx (d.pc % 2 ^ 48 / 256 * 256) 256 = .ok b) (hq : ∀ m, (s.ctx m).cqRead = [])
    (hs : ∀ p, p < 16 → s.entBit (Ent.seqCtl p) 6 = false) :
    exec (.taskStart c) s = .next (s.taskBegun (coreKey c) d) := by
  obtain ⟨u, hu⟩ := State.taskBegun_fetch (k := coreKey c) hpc hb
  have hfree : (s.taskBegun (coreKey c) d).slotFreed c.cluster.val = s.taskBegun (coreKey c) d := by
    refine State.slotFreed_idle (fun m => (State.cqRead_taskBegun s _ d m).trans (hq m)) (fun p hp => ?_) _
    rw [State.taskBegun_eq]
    exact hs p hp
  have hexec : exec (.taskStart c) s = execTaskStart c s := rfl
  rw [hexec, execTaskStart, hrun, hd]
  dsimp only
  rw [if_neg (not_not.2 hrole)]
  refine congrArg Host.Outcome.next (Eq.trans (congrArg (State.slotFreed · c.cluster.val) ?_) hfree)
  split
  · next e he => exact absurd (hu.symm.trans he) (by simp)
  · rfl

theorem exec_taskStart_none {c : CoreId} (h : s.nextTask (s.core (coreKey c)) = none) :
    exec (.taskStart c) s = .next s := by
  have hexec : exec (.taskStart c) s = execTaskStart c s := rfl
  rw [hexec, execTaskStart, h]
  cases (s.core (coreKey c)).run <;> rfl

/-! ### CQ_TAIL_WRITE (R425, R427) -/

theorem exec_cqTailWrite {n : Fin 64} (hv : s.ctxValid n = true) (hh : s.hostReach (s.ctxPart n + 1) = true)
    (hr : s.isReady = true) (v : Word64) : exec (.cqTailWrite n v) s = .next (s.writeTail n v.toNat) := by
  have hexec : exec (.cqTailWrite n v) s = execCqTailWrite n v s := rfl
  rw [hexec, execCqTailWrite]
  simp only [hv, hh, hr]
  rfl

theorem State.writeTail_held {n : Nat} (h : (s.ctx n).resetting.isSome = true) (v : Nat) :
    s.writeTail n v = s.modCtx n fun c => { c with heldTail := some v } := if_pos h

theorem State.writeTail_taken {n v : Nat} (h : (s.ctx n).resetting = none) (hlo : s.pg n 0x040 ≤ v)
    (hhi : v ≤ s.pg n 0x010 + s.pg n 0x008) : s.writeTail n v = s.setPg n 0x040 v := by
  rw [State.writeTail, h, if_neg (by simp), if_neg]
  simpa using ⟨hlo, hhi⟩

theorem State.writeTail_refused {n v : Nat} (h : (s.ctx n).resetting = none)
    (hr : ¬ (s.pg n 0x040 ≤ v ∧ v ≤ s.pg n 0x010 + s.pg n 0x008)) : s.writeTail n v = s.cqEvent n 1 := by
  rw [State.writeTail, h, if_neg (by simp), if_pos]
  rw [Bool.or_eq_true, Nat.blt_eq, Nat.blt_eq]
  omega

theorem State.pg_setPg_ne (s : State) {n off off' : Nat} (v : Nat) (h : off' ≠ off) :
    (s.setPg n off v).pg n off' = s.pg n off' := SMap.get_set_ne _ _ _ (by omega)

theorem State.cause_pages (s : State) (f b : Nat) : (s.cause f b).host.pages = s.host.pages := by
  have hmsix : ∀ (v : State) (x : Nat), (v.msix f x).host.pages = v.host.pages := fun v x => by
    unfold State.msix
    split_ifs <;> rfl
  unfold State.cause
  split_ifs
  · rfl
  · exact hmsix _ _
  · rfl

/-- An event of a context queue sets its bit of CQ_EVENT and no other register of the page (Table 16.4). -/
theorem State.cqEvent_pg (s : State) (n b : Nat) : ((s.cqEvent n b).pg n 0x020).testBit b = true ∧
    ∀ off, off ≠ 0x020 → (s.cqEvent n b).pg n off = s.pg n off := by
  have hpg : ∀ off, (s.cqEvent n b).pg n off = (s.setPg n 0x020 (putBits (s.pg n 0x020) b 1 1)).pg n off :=
    State.pg_congr (State.cause_pages _ _ _) n
  refine ⟨?_, fun off h => (hpg off).trans (State.pg_setPg_ne s _ h)⟩
  rw [hpg, State.pg_setPg]
  exact testBit_putBits_one _ _

/-! ### The obligation -/

/-- Settles O38: the core that starts its task is the one of `Core.startTask`, and the tail of a queue is one of three
writes. -/
theorem tasksStart : Obligations.TasksStart := by
  unfold Obligations.TasksStart
  intro c s d l b n v k q regs takes range
  refine ⟨?starts, ?waits, ?taken, ?refused, ?held⟩
  case starts =>
    intro hrun htasks hrole hr he hv hpc hb hq hs
    refine ⟨_, exec_taskStart hrun (State.nextTask_cons htasks (State.mayStart_training hr he hv)) hrole hpc hb hq hs,
      fun j hj => State.core_taskBegun_ne s d hj, ?_, ?_, ?_⟩
    · rw [State.taskBegun_eq]
    · rw [State.taskBegun_eq]
    · have htail : q.tasks.erase d = l := by rw [htasks, List.erase_cons_head]
      rw [State.core_taskBegun]
      exact ⟨rfl, htail, rfl, rfl, rfl, rfl, rfl, rfl, rfl, rfl⟩
  case waits =>
    intro h
    exact exec_taskStart_none (State.nextTask_none fun x hx =>
      have ⟨he, hv, hnew⟩ := h x hx
      State.mayStart_lent he hv hnew)
  case taken =>
    rintro ⟨hv, hh, hready⟩ hr ⟨hlo, hhi⟩
    refine ⟨_, exec_cqTailWrite hv hh hready v, ?_, ?_⟩
    · rw [State.writeTail_taken hr hlo hhi, State.pg_setPg]
    · rw [State.writeTail_taken hr hlo hhi, State.setPg_ctxs]
  case refused =>
    rintro ⟨hv, hh, hready⟩ hr hrange
    obtain ⟨hbit, hkeep⟩ := s.cqEvent_pg n 1
    refine ⟨_, exec_cqTailWrite hv hh hready v, ?_, ?_⟩
    · rw [State.writeTail_refused hr hrange, hkeep _ (by decide)]
    · rw [State.writeTail_refused hr hrange, hbit]
  case held =>
    rintro ⟨hv, hh, hready⟩ hr
    refine ⟨_, exec_cqTailWrite hv hh hready v, ?_, ?_⟩
    · rw [State.writeTail_held hr, State.ctx_modCtx]
    · rw [State.writeTail_held hr]
      rfl

end Sys2Proof.Machine
end

section
/-!
PROOF. The passes of the stage sequencer and the tasks that it issues (R290 to R292).
-/

namespace Sys2Proof.Machine

open Sys2Proof

variable {s : State} {k : Fin 16}

/-! ### A pass begins (R291) -/

theorem exec_seqPassStart (h : s.passMayStart k = true) : exec (.seqPassStart k) s = .next (match s.readSeqTable k with
    | .ok inc l => s.modPart k fun p => { p with seq :=
        { table := l, inc := inc, next := 0, inPass := true, atBoundary := false, left := p.seq.left } }
    | .invalid e => (s.logPart Code.seqTableInvalid k [e]).stopSeq k
    | .fail code a => s.unitFault (s.entBits (Ent.seqCtl k) 0 6) code a) := by
  have hgo : ¬ (!s.passMayStart k) = true := by simp [h]
  exact congrArg Host.Outcome.next (if_neg hgo)

theorem exec_seqPassStart_ok {inc : Nat} {l : List SeqEntry} (h : s.passMayStart k = true)
    (ht : s.readSeqTable k = .ok inc l) : exec (.seqPassStart k) s = .next (s.modPart k fun p => { p with seq :=
      { table := l, inc := inc, next := 0, inPass := true, atBoundary := false, left := p.seq.left } }) := by
  rw [exec_seqPassStart h, ht]

theorem exec_seqPassStart_invalid {entry : Nat} (h : s.passMayStart k = true) (ht : s.readSeqTable k = .invalid entry) :
    exec (.seqPassStart k) s = .next ((s.logPart Code.seqTableInvalid k [entry]).stopSeq k) := by
  rw [exec_seqPassStart h, ht]

/-- A sequencer that is stopped does not run and is in no pass, and what it has issued is still out (R290). -/
theorem State.stopSeq_spec (s : State) (j : Nat) : (s.stopSeq j).entBit (Ent.seqCtl j) 6 = false ∧
    (s.stopSeq j).part j = { s.part j with seq := { Seq.stopped with left := (s.part j).seq.left } } := by
  refine ⟨?_, State.part_modPart _ j _⟩
  exact (State.entBit_congr (State.ent_congr (State.modPart_dict _ _ _) _) 6).trans (State.entBit_setEntBit s _ 6 false)

/-! ### An entry is issued (R292) -/

theorem State.seqIssue_enters {p : Nat} {e : SeqEntry} {keys : List Nat}
    (he : (s.part p).seq.table[(s.part p).seq.next]? = some e) (hrun : s.entBit (Ent.seqCtl p) 6 = true)
    (hpass : (s.part p).seq.inPass = true) (hm : s.mayIssue (s.entBits (Ent.seqCtl p) 0 6) = true)
    (hgate : s.gateMet p (s.part p).seq.inc (s.ent (Ent.seqPass p)) e = true)
    (hg : s.taskGroup (e.task (s.entBits (Ent.seqCtl p) 0 6) (s.part p).seq.next (s.ent (Ent.seqPass p))) = some keys)
    (hs : s.slotsFree keys = true) : s.seqIssue p =
      (s.enterTask (e.task (s.entBits (Ent.seqCtl p) 0 6) (s.part p).seq.next (s.ent (Ent.seqPass p))) keys (some p)).modPart p
        fun x => { x with seq := { x.seq with next := (s.part p).seq.next + 1, left := x.seq.left + 1 } } := by
  unfold State.seqIssue
  dsimp only
  rw [he]
  dsimp only
  rw [if_neg (by simp [hrun, hpass, hm, hgate]), hg]
  exact if_pos hs

/-! ### The obligation -/

/-- Settles O39: a pass takes its table or stops its sequencer, and an entry whose gate and slots admit it is entered like
any task. -/
theorem sequencerIssues : Obligations.SequencerIssues := by
  unfold Obligations.SequencerIssues
  intro k s inc entry l e keys n q p x
  refine ⟨?begins, ?stops, ?issues⟩
  case begins =>
    intro h ht
    exact ⟨_, exec_seqPassStart_ok h ht, State.part_modPart s k _, rfl⟩
  case stops =>
    intro h ht
    obtain ⟨hrun, hpart⟩ := (s.logPart Code.seqTableInvalid k [entry]).stopSeq_spec k
    refine ⟨_, exec_seqPassStart_invalid h ht, hrun, ?_, _, State.log_logRec s _, rfl, rfl, rfl⟩
    rw [hpart]
    rfl
  case issues =>
    intro he hrun hpass hm hgate hg hn hs
    refine ⟨_, congrArg Host.Outcome.next (State.seqIssue_enters he hrun hpass hm hgate hg hs), ?_, fun j hj => ?_,
      fun j hj => ?_, ?_⟩
    · rw [State.part_modPart, State.part_congr (t := s.enterTask x keys (some k.val)) (s := s)
        (by rw [State.enterTask_eq])]
    · rw [State.core_congr (State.modPart_cores _ _ _), State.core_enterTask_of_mem hn hj]
      rfl
    · rw [State.core_congr (State.modPart_cores _ _ _), State.core_enterTask_of_notMem _ hj]
    · rw [State.modPart_mem, State.enterTask_mem]

end Sys2Proof.Machine
end

section
/-!
SUPPORT. Scratchpads on their save pages: what a page holds after the copy, and what a copy reads back (R297).
-/

namespace Sys2Proof.Machine

open Sys2Proof

variable {s t u : State} {n e k : Nat}

/-! ### Bytes of words -/

theorem leBytes_getElem (m v : Nat) {i : Nat} (h : i < (leBytes m v).length) :
    (leBytes m v)[i] = BitVec.ofNat 8 (v / 256 ^ i) := by simp [leBytes]

/-- Byte i of a word is bits [8i + 7 : 8i]. -/
theorem byte_of_word (x : Word32) (i : Nat) : BitVec.ofNat 8 (x.toNat / 256 ^ i) = x.extractLsb' (8 * i) 8 := by
  apply BitVec.eq_of_toNat_eq
  rw [BitVec.toNat_ofNat, BitVec.extractLsb'_toNat, Nat.shiftRight_eq_div_pow, show (256 : Nat) = 2 ^ 8 from rfl, ← Nat.pow_mul]

/-- The words of a scratchpad written to a page: byte 4w holds word w. -/
def savedCells (f : Nat → Word32) (base : Nat) (words : SMap Word32) (m : List Host.Cell) : List Host.Cell :=
  words.foldl (fun m w => memWrite m (base + 4 * (w.1 % spSize)) (leBytes 4 (f w.1).toNat)) m

theorem get_savedCells_out (f : Nat → Word32) {base a : Nat} (words : SMap Word32) (m : List Host.Cell)
    (h : a < base ∨ base + 2 ^ 21 ≤ a) :
    SMap.get (fun _ => (0#8 : Byte)) (savedCells f base words m) a = SMap.get (fun _ => 0#8) m a := by
  induction words generalizing m with
  | nil => rfl
  | cons x words ih =>
    have hx : x.1 % spSize < spSize := Nat.mod_lt _ (by decide)
    refine (ih _).trans (get_memWrite_out _ _ _ _ ?_)
    simp only [Laws.RequestsAndWords.leBytes_length, spSize] at hx ⊢
    omega

theorem get_savedCells_in {f : Nat → Word32} (hf : ∀ j, f (j % spSize) = f j) (base : Nat) (words : SMap Word32)
    (m : List Host.Cell) {w i : Nat} (hi : i < 4) :
    SMap.get (fun _ => (0#8 : Byte)) (savedCells f base words m) (base + 4 * w + i) =
      if w ∈ words.map (·.1 % spSize) then (f w).extractLsb' (8 * i) 8 else SMap.get (fun _ => 0#8) m (base + 4 * w + i) := by
  induction words generalizing m with
  | nil => rfl
  | cons x words ih =>
    refine (ih _).trans ?_
    by_cases hx : x.1 % spSize = w
    · have hin : SMap.get (fun _ => (0#8 : Byte)) (memWrite m (base + 4 * (x.1 % spSize)) (leBytes 4 (f x.1).toNat))
          (base + 4 * w + i) = (f w).extractLsb' (8 * i) 8 := by
        have hlen : i < (leBytes 4 (f x.1).toNat).length := by rw [Laws.RequestsAndWords.leBytes_length]; exact hi
        rw [← hx, get_memWrite_in _ _ _ _ hlen, leBytes_getElem, byte_of_word, hf]
      rw [hin, if_pos (show w ∈ (x :: words).map (·.1 % spSize) by simp [hx]), ite_self]
    · rw [get_memWrite_out _ _ _ _ (by rw [Laws.RequestsAndWords.leBytes_length]; omega)]
      exact if_congr (List.mem_cons.trans (or_iff_right (Ne.symm hx))).symm rfl rfl

/-- A word that is not listed reads 0 (R151). -/
theorem Core.rd_unlisted {c : Core} {w : Nat} (hw : w < spSize) (h : w ∉ c.sp.words.map (·.1 % spSize)) : c.rd w = 0#32 := by
  rw [Core.rd, Nat.mod_eq_of_lt hw]
  refine SMap.get_eq_default fun v hv => h (List.mem_map.2 ⟨(w, v), hv, ?_⟩)
  exact Nat.mod_eq_of_lt hw

/-! ### One core is copied (R296 step 2) -/

/-- Where an evaluation slot finds the save page of a core rests on entries that no report changes (R297). -/
theorem State.savePage_congr {n e : Fin 64} (h : ∀ k, ¬ PoisonReport k → t.ent k = s.ent k) (k : Nat) :
    t.savePage n e k = s.savePage n e k := by
  have hsave : t.ent (Ent.evalSave e) = s.ent (Ent.evalSave e) :=
    h _ (by simp only [PoisonReport, Ent.evalSave, Ent.logHead, Ent.logLost, Ent.alertStatus, Ent.poisonLines]; omega)
  have hdef : t.ent (Ent.ctxDef n) = s.ent (Ent.ctxDef n) :=
    h _ (by simp only [PoisonReport, Ent.ctxDef, Ent.logHead, Ent.logLost, Ent.alertStatus, Ent.poisonLines]; omega)
  have hpart : s.ctxPart n < 16 := Nat.mod_lt _ (by decide)
  have hclusters : t.ent (Ent.partClusters (s.ctxPart n)) = s.ent (Ent.partClusters (s.ctxPart n)) :=
    h _ (by simp only [PoisonReport, Ent.partClusters, Ent.logHead, Ent.logLost, Ent.alertStatus, Ent.poisonLines]; omega)
  have hctx : t.ctxPart n = s.ctxPart n := State.entBits_congr hdef 2 4
  simp only [State.savePage, State.entBits_congr hsave, hctx, State.relCluster, State.partClusters, hclusters]

/-- The save page of a core of a parent, in the slot of context e (R297). -/
def State.saveHome (s : State) (n e k : Nat) : Option Page := s.page n (s.savePage n e k)

theorem State.saveHome_congr {n e : Fin 64} (h : ∀ k, ¬ PoisonReport k → t.ent k = s.ent k)
    (hp : t.mem.pages = s.mem.pages) (k : Nat) : t.saveHome n e k = s.saveHome n e k := by
  rw [State.saveHome, State.savePage_congr h, State.page, hp, State.saveHome, State.page]

theorem WritesMem.clearFramePoison (s : State) (stack frame : Nat) : WritesMem s (s.clearFramePoison stack frame) := by
  unfold State.clearFramePoison
  dsimp only
  have hr := State.reportPoison_reports (s.modMem fun m => { m with
    poison := SMap.dropKeys (fun l => l / 32768 == stack * 65536 + frame) m.poison,
    poisonFrames := m.poisonFrames.filter (· != stack * 65536 + frame),
    refilled := SMap.dropKeys (fun l => l / 32768 == stack * 65536 + frame) m.refilled,
    refills := m.refills.filter fun r => r.line / 32768 != stack * 65536 + frame })
  refine ⟨?_, by rw [hr.mem]; rfl, by rw [hr.mem]; exact List.filter_sublist, fun k hk => ?_⟩
  · rw [hr.mem]
    exact hr
  · rw [State.ent_reportPoison _ hk]
    rfl

theorem WritesMem.modCells (s : State) (cells : List Host.Cell) : WritesMem s (s.modMem fun m => { m with cells := cells }) :=
  ⟨Reports.refl _, rfl, List.Sublist.refl _, fun _ _ => rfl⟩

theorem State.saveCore_eq {p : Page} (hp : s.saveHome n e k = some p) : s.saveCore n e k =
    ((s.zeroFrame p.stack p.frame).clearFramePoison p.stack p.frame).modMem fun m => { m with
      cells := savedCells (s.core k).rd (paOf p.stack p.frame 0) (s.core k).sp.words
        ((s.zeroFrame p.stack p.frame).clearFramePoison p.stack p.frame).mem.cells } := by
  unfold State.saveHome at hp
  unfold State.saveCore
  rw [hp]
  rfl

theorem State.saveCore_writes (s : State) (n e k : Nat) : WritesMem s (s.saveCore n e k) := by
  cases hp : s.saveHome n e k with
  | none =>
    unfold State.saveHome at hp
    unfold State.saveCore
    rw [hp]
    exact WritesMem.refl s
  | some p =>
    rw [State.saveCore_eq hp]
    exact (WritesMem.modCells s _).trans ((WritesMem.clearFramePoison _ _ _).trans (WritesMem.modCells _ _))

theorem State.memByte_saveCore_in {p : Page} (hp : s.saveHome n e k = some p) {w i : Nat} (hw : w < spSize) (hi : i < 4) :
    (s.saveCore n e k).memByte (paOf p.stack p.frame 0 + 4 * w + i) = ((s.core k).rd w).extractLsb' (8 * i) 8 := by
  have hrd : ∀ j, (s.core k).rd (j % spSize) = (s.core k).rd j := fun j => by rw [Core.rd, Nat.mod_mod, Core.rd]
  have hframe : (Nat.ble (paOf p.stack p.frame 0) (paOf p.stack p.frame 0 + 4 * w + i) &&
      Nat.blt (paOf p.stack p.frame 0 + 4 * w + i) (paOf p.stack p.frame 0 + 2 ^ 21)) = true := by
    simp only [spSize] at hw
    simp only [Bool.and_eq_true, Nat.ble_eq, Nat.blt_eq]
    omega
  rw [State.saveCore_eq hp]
  refine (get_savedCells_in hrd _ _ _ hi).trans ?_
  split
  · rfl
  · next hnot =>
    rw [State.clearFramePoison_cells, State.zeroFrame_cells, SMap.get_dropKeys, if_pos hframe, Core.rd_unlisted hw hnot]
    simp

theorem State.memByte_saveCore_out {p : Page} (hp : s.saveHome n e k = some p) {a : Nat}
    (ha : a < paOf p.stack p.frame 0 ∨ paOf p.stack p.frame 0 + 2 ^ 21 ≤ a) : (s.saveCore n e k).memByte a = s.memByte a := by
  have hframe : ¬ (Nat.ble (paOf p.stack p.frame 0) a && Nat.blt a (paOf p.stack p.frame 0 + 2 ^ 21)) = true := by
    simp only [Bool.and_eq_true, Nat.ble_eq, Nat.blt_eq]
    omega
  rw [State.saveCore_eq hp]
  refine (get_savedCells_out _ _ _ ha).trans ?_
  rw [State.clearFramePoison_cells, State.zeroFrame_cells, SMap.get_dropKeys, if_neg hframe]
  rfl

/-! ### Every bound core is copied -/

/-- A core is copied to its save page and lent (R296 step 2). -/
def State.saveAndLend (s : State) (n e k : Nat) : State := (s.saveCore n e k).modCore k Core.lend

theorem State.saveAndLend_ent (s : State) (n e k : Nat) {j : Nat} (hj : ¬ PoisonReport j) :
    (s.saveAndLend n e k).ent j = s.ent j := (State.saveCore_writes s n e k).ent j hj

theorem State.saveAndLend_pages (s : State) (n e k : Nat) : (s.saveAndLend n e k).mem.pages = s.mem.pages :=
  (State.saveCore_writes s n e k).pages

theorem State.core_saveAndLend (s : State) (n e k : Nat) : (s.saveAndLend n e k).core k = (s.core k).lend := by
  rw [State.saveAndLend, State.core_modCore, State.core_congr (State.saveCore_writes s n e k).cores]

theorem State.core_saveAndLend_ne (s : State) (n e : Nat) {j k : Nat} (h : j ≠ k) :
    (s.saveAndLend n e k).core j = s.core j := by
  rw [State.saveAndLend, State.core_modCore_ne _ _ h, State.core_congr (State.saveCore_writes s n e k).cores]

/-- The save pages of two cores lie in frames of their own. -/
def PagesApart (p q : Page) : Prop := (p.stack, p.frame) ≠ (q.stack, q.frame)

theorem PagesApart.bytes {p q : Page} (h : PagesApart p q) (hp : p.frame < 65536) (hq : q.frame < 65536) {a : Nat}
    (ha : a < 2 ^ 21) : paOf p.stack p.frame 0 + a < paOf q.stack q.frame 0 ∨
      paOf q.stack q.frame 0 + 2 ^ 21 ≤ paOf p.stack p.frame 0 + a := by
  simp only [PagesApart, ne_eq, Prod.mk.injEq] at h
  simp only [paOf]
  omega

/-- The cores of a list each have a save page, in a frame that no other has. -/
structure State.Homes (s : State) (n e : Nat) (l : List Nat) : Prop where
  mapped : ∀ k ∈ l, ∃ p, s.saveHome n e k = some p ∧ p.frame < 65536
  apart : ∀ j k p q, j ∈ l → k ∈ l → s.saveHome n e j = some p → s.saveHome n e k = some q → j ≠ k → PagesApart p q

/-- What the copy of several cores makes of the machine: each is lent and stands on its page, and no other byte changes. -/
structure Saved (s t : State) (n e : Nat) (l : List Nat) : Prop where
  lent : ∀ k ∈ l, t.core k = (s.core k).lend
  kept : ∀ k, k ∉ l → t.core k = s.core k
  bytes : ∀ k p w i, k ∈ l → s.saveHome n e k = some p → w < spSize → i < 4 →
    t.memByte (paOf p.stack p.frame 0 + 4 * w + i) = ((s.core k).rd w).extractLsb' (8 * i) 8
  others : ∀ a, (∀ k p, k ∈ l → s.saveHome n e k = some p →
    a < paOf p.stack p.frame 0 ∨ paOf p.stack p.frame 0 + 2 ^ 21 ≤ a) → t.memByte a = s.memByte a

theorem State.saved_of_homes {n e : Fin 64} {l : List Nat} (hl : l.Nodup) (h : s.Homes n e l) :
    Saved s (l.foldl (fun s k => s.saveAndLend n e k) s) n e l := by
  induction l generalizing s with
  | nil => exact ⟨fun _ hk => absurd hk List.not_mem_nil, fun _ _ => rfl, fun _ _ _ _ hk => absurd hk List.not_mem_nil, fun _ _ => rfl⟩
  | cons k l ih =>
    obtain ⟨hk, hl⟩ := List.nodup_cons.1 hl
    have hhome : ∀ j, (s.saveAndLend n e k).saveHome n e j = s.saveHome n e j :=
      State.saveHome_congr (fun _ hj => State.saveAndLend_ent s n e k hj) (State.saveAndLend_pages s n e k)
    have hne : ∀ j ∈ l, j ≠ k := fun j hj hjk => hk (hjk ▸ hj)
    have hcore : ∀ j ∈ l, (s.saveAndLend n e k).core j = s.core j := fun j hj => State.core_saveAndLend_ne s n e (hne j hj)
    have hrest : (s.saveAndLend n e k).Homes n e l :=
      ⟨fun j hj => by rw [hhome]; exact h.mapped j (List.mem_cons_of_mem _ hj),
        fun i j p q hi hj hp hq hij => h.apart i j p q (List.mem_cons_of_mem _ hi) (List.mem_cons_of_mem _ hj)
          ((hhome i).symm.trans hp) ((hhome j).symm.trans hq) hij⟩
    obtain ⟨hlent, hkept, hbytes, hothers⟩ := ih hl hrest
    obtain ⟨p, hp, hframe⟩ := h.mapped k List.mem_cons_self
    refine ⟨?lent, ?kept, ?bytes, ?others⟩
    case lent =>
      intro j hj
      rcases List.mem_cons.1 hj with rfl | hj
      · rw [List.foldl_cons, hkept j hk, State.core_saveAndLend]
      · rw [List.foldl_cons, hlent j hj, hcore j hj]
    case kept =>
      intro j hj
      rw [List.mem_cons, not_or] at hj
      rw [List.foldl_cons, hkept j hj.2, State.core_saveAndLend_ne s n e hj.1]
    case bytes =>
      intro j q w i hj hq hw hi
      rcases List.mem_cons.1 hj with rfl | hj
      · obtain rfl : p = q := Option.some.inj (hp.symm.trans hq)
        have hbyte : 4 * w + i < 2 ^ 21 := by simp only [spSize] at hw; omega
        rw [List.foldl_cons, hothers]
        · exact State.memByte_saveCore_in hp hw hi
        · intro m r hm hr
          obtain ⟨r', hr', hrframe⟩ := h.mapped m (List.mem_cons_of_mem _ hm)
          rw [hhome] at hr
          obtain rfl : r' = r := Option.some.inj (hr'.symm.trans hr)
          rw [Nat.add_assoc]
          exact (h.apart j m p r' List.mem_cons_self (List.mem_cons_of_mem _ hm) hp hr (hne m hm).symm).bytes hframe hrframe hbyte
      · rw [List.foldl_cons, hbytes j q w i hj (by rw [hhome]; exact hq) hw hi, hcore j hj]
    case others =>
      intro a ha
      rw [List.foldl_cons, hothers a fun j q hj hq => ha j q (List.mem_cons_of_mem _ hj) ((hhome j).symm.trans hq)]
      exact State.memByte_saveCore_out hp (ha k p List.mem_cons_self hp)

end Sys2Proof.Machine
end

section
/-!
PROOF. An evaluation slot, from the copy of the scratchpads to their restore (R295 to R298).
-/

namespace Sys2Proof.Machine

open Sys2Proof

variable {s t : State} {n e : Fin 64}

/-! ### The save (R296 steps 1 and 2) -/

theorem exec_evalSlotSave (hc : (s.ctx n).eval = .saving e) (hr : s.ctxRunning n = false) (hs : s.mem.served = true)
    (hp : ∀ k ∈ s.boundCores n, ∃ p, s.saveHome n e k = some p ∧ p.ro = false) :
    exec (.evalSlotSave n) s = .next (((s.boundCores n).foldl (fun s k => s.saveAndLend n e k) s).modCtx n fun c =>
      { c with eval := .copied e }) := by
  have hmapped : ((s.boundCores n).find? fun k => (s.page n (s.savePage n e k)).isNone) = none := by
    refine List.find?_eq_none.2 fun k hk => ?_
    obtain ⟨p, hp, -⟩ := hp k hk
    rw [show s.page n (s.savePage n e k) = some p from hp]
    exact Bool.false_ne_true
  have hwritable : ((s.boundCores n).find? fun k => (s.page n (s.savePage n e k)).any (·.ro)) = none := by
    refine List.find?_eq_none.2 fun k hk => ?_
    obtain ⟨p, hp, hro⟩ := hp k hk
    rw [show s.page n (s.savePage n e k) = some p from hp, Option.any_some, hro]
    exact Bool.false_ne_true
  have hexec : exec (.evalSlotSave n) s = execEvalSlotSave n s := rfl
  rw [hexec, execEvalSlotSave, hc]
  dsimp only
  rw [if_neg (by simp [hr, hs]), hmapped]
  dsimp only
  rw [hwritable]
  rfl

/-! ### The run and its end (R296 steps 3 to 6) -/

theorem exec_evalSlotRun (hc : (s.ctx n).eval = .copied e) (hq : (s.ctx e).cqRead = []) : exec (.evalSlotRun n) s =
    .next ((s.setEnt (Ent.step e) (s.ent (Ent.step n))).modCtx n fun c => { c with eval := .running e false }) := by
  have hexec : exec (.evalSlotRun n) s = execEvalSlotRun n s := rfl
  rw [hexec, execEvalSlotRun, hc]
  refine congrArg Host.Outcome.next (State.issueTasks_nil ?_)
  rw [State.modCtx_keeps Ctx.cqRead (fun _ => by rfl), State.ctx_congr (State.setEnt_ctxs _ _ _), hq]

theorem exec_evalBudgetExpiry (hc : (s.ctx n).eval = .running e false) : exec (.evalBudgetExpiry n) s =
    .next (s.modCtx n fun c => { c with eval := .running e true }) := by
  have hexec : exec (.evalBudgetExpiry n) s = execEvalBudgetExpiry n s := rfl
  rw [hexec, execEvalBudgetExpiry, hc]

theorem exec_evalSlotEnd {x : Bool} (hc : (s.ctx n).eval = .running e x) (hr : s.ctxRunning e = false)
    (hend : x = true ∨ (s.ctxQueued e = false ∧ s.ctxWaiting e = false)) : exec (.evalSlotEnd n) s =
      .next ((s.postTo (s.ctxPart n) (s.entBits (Ent.evalDone e) 0 18) 1).modCtx n fun c =>
        { c with eval := .restoring e }) := by
  have hover : ¬ (s.ctxRunning e || (!x && (s.ctxQueued e || s.ctxWaiting e))) = true := by
    rcases hend with hx | ⟨hqueued, hwaiting⟩
    · simp [hr, hx]
    · simp [hr, hqueued, hwaiting]
  have hexec : exec (.evalSlotEnd n) s = execEvalSlotEnd n s := rfl
  rw [hexec, execEvalSlotEnd, hc]
  exact congrArg Host.Outcome.next (if_neg hover)

theorem State.postTo_keeps {p addr key : Nat} (hk : s.syncKey p addr = some key) (inc : Nat) : KeepsWords
    (s.setWord key { s.word key with value := sat64 ((s.word key).value + inc) }) (s.postTo p addr inc) := by
  rw [State.postTo, hk]
  exact KeepsWords.addWordFor s key inc none

/-! ### The restore (R296 step 7, R297) -/

/-- A core as its save page gives it back. -/
def State.givenBack (s : State) (n e k : Nat) (c : Core) : Core :=
  match s.saveHome n e k with
  | none => { c with sp := { Scratch.zero with win := c.sp.held.getD [], poisonAll := true } }
  | some p =>
    { c with sp := { Scratch.zero with
      words := savedWords s.mem.cells (paOf p.stack p.frame 0)
      poisonAll := c.sp.heldAll
      poison := SMap.setAll (fun _ => c.sp.heldAll) c.sp.heldPoison
        (((List.range 32768).filter fun i => s.poisoned (lineNo (paOf p.stack p.frame 0) + i)).flatMap fun i =>
          (List.range 16).map fun w => (16 * i + w, true))
      win := c.sp.held.getD [] } }

theorem State.restoreCore_eq (s : State) (n e k : Nat) : s.restoreCore n e k = s.modCore k (s.givenBack n e k) := by
  unfold State.restoreCore State.givenBack State.saveHome
  cases s.page n (s.savePage n e k) <;> rfl

/-- The restore of several cores gives each back and changes no more. -/
theorem State.restoreAll_spec (n e : Nat) {l : List Nat} (hl : l.Nodup) (s : State) :
    (l.foldl (fun s k => s.restoreCore n e k) s) = { s with cores := (l.foldl (fun s k => s.restoreCore n e k) s).cores } ∧
      (∀ k, k ∉ l → (l.foldl (fun s k => s.restoreCore n e k) s).core k = s.core k) ∧
      ∀ k ∈ l, (l.foldl (fun s k => s.restoreCore n e k) s).core k = s.givenBack n e k (s.core k) := by
  induction l generalizing s with
  | nil => exact ⟨rfl, fun _ _ => rfl, fun _ hk => absurd hk List.not_mem_nil⟩
  | cons j l ih =>
    obtain ⟨hj, hl⟩ := List.nodup_cons.1 hl
    obtain ⟨hframe, hkept, hback⟩ := ih hl (s.modCore j (s.givenBack n e j))
    rw [List.foldl_cons, State.restoreCore_eq]
    refine ⟨hframe, fun k hk => ?_, fun k hk => ?_⟩
    · rw [List.mem_cons, not_or] at hk
      rw [hkept k hk.2, State.core_modCore_ne s _ hk.1]
    · rcases List.mem_cons.1 hk with rfl | hk
      · rw [hkept k hj, State.core_modCore]
      · rw [hback k hk, State.core_modCore_ne s _ fun hkj : k = j => hj (hkj ▸ hk)]
        rfl

/-- A map that is written at several keys, each with its own value. -/
theorem SMap.get_foldl_set {V : Type} [DecidableEq V] (d f : Nat → V) (l : List Nat) (m : SMap V) (k : Nat) :
    SMap.get d (l.foldl (fun m j => SMap.set d m j (f j)) m) k = if k ∈ l then f k else SMap.get d m k := by
  induction l generalizing m with
  | nil => simp
  | cons j l ih =>
    rw [List.foldl_cons, ih, SMap.get_set]
    by_cases hj : k = j
    · simp [hj]
    · simp [hj]

/-- The words read back from a page are what its bytes spell. -/
theorem get_savedWords (s : State) (base : Nat) {w : Nat} (hw : w < spSize) :
    SMap.get (fun _ => (0#32 : Word32)) (savedWords s.mem.cells base) w =
      BitVec.ofNat 32 (leNat (s.readPhys (base + 4 * w) 4)) := by
  refine (SMap.get_foldl_set (fun _ => (0#32 : Word32))
    (fun w => BitVec.ofNat 32 (leNat (s.readPhys (base + 4 * w) 4))) _ _ w).trans ?_
  split
  · rfl
  · next hnot =>
    have hzero : ∀ i < 4, s.memByte (base + 4 * w + i) = 0#8 := fun i hi => by
      refine SMap.get_eq_default fun v hv => hnot (List.mem_eraseDups.2 (List.mem_map.2 ⟨(base + 4 * w + i, v), ?_, ?_⟩))
      · simp only [spSize] at hw
        simp only [List.mem_filter, Bool.and_eq_true, Nat.ble_eq, Nat.blt_eq]
        exact ⟨hv, by omega, by omega⟩
      · dsimp only
        omega
    have hbytes : s.readPhys (base + 4 * w) 4 = [0#8, 0#8, 0#8, 0#8] := by
      have h0 := hzero 0 (by decide)
      rw [Nat.add_zero] at h0
      simp [State.readPhys, List.range_succ, hzero, h0]
    rw [hbytes]
    rfl

theorem State.givenBack_spec {k : Nat} {p : Page} (hp : s.saveHome n e k = some p) (c : Core) :
    (s.givenBack n e k c).sp.win = c.sp.held.getD [] ∧
    (∀ w, w < spSize → (s.givenBack n e k c).rd w =
      BitVec.ofNat 32 (leNat (s.readPhys (paOf p.stack p.frame 0 + 4 * w) 4))) ∧
    ((∀ i, i < 32768 → s.poisoned (lineNo (paOf p.stack p.frame 0) + i) = false) → ∀ w, w < spSize →
      (s.givenBack n e k c).poisonedAt w = SMap.get (fun _ => c.sp.heldAll) c.sp.heldPoison w) := by
  unfold State.givenBack
  rw [hp]
  dsimp only
  refine ⟨rfl, fun w hw => ?_, fun hclean w hw => ?_⟩
  · rw [Core.rd, Nat.mod_eq_of_lt hw]
    exact get_savedWords s _ hw
  · have hmarks : ((List.range 32768).filter fun i => s.poisoned (lineNo (paOf p.stack p.frame 0) + i)) = [] :=
      List.filter_eq_nil_iff.2 fun i hi => by simp [hclean i (List.mem_range.1 hi)]
    rw [Core.poisonedAt, Nat.mod_eq_of_lt hw, hmarks]
    rfl

/-- The boundary of a context at which nothing waits brings nothing (R300). -/
theorem State.idleBoundary_none (hl : s.live = []) (hr : s.mem.refills = []) (m : Nat) : s.idleBoundary m = s := by
  rw [State.idleBoundary, State.applyLive_none hl, State.retryRefills_none hr, ite_self]

/-- With no slot due and no task read, the parent goes on. -/
theorem State.slotOver_idle {m : Nat} (hd : (s.ctx m).evalDue = []) (hq : (s.ctx m).cqRead = []) :
    s.slotOver m = s.modCtx m fun c => { c with eval := .none } := by
  have hdue : (s.modCtx m fun c => { c with eval := .none }).nextSlotDue m = s.modCtx m fun c => { c with eval := .none } := by
    rw [State.nextSlotDue, State.ctx_modCtx, hd]
  rw [State.slotOver, hdue]
  exact State.issueTasks_nil (by rw [State.ctx_modCtx]; exact hq)

/-- The parent after the restore: its slot is counted and over. -/
def State.slotRestored (s : State) (n e : Nat) : State :=
  (((s.boundCores n).foldl (fun s k => s.restoreCore n e k) s).bump (Ent.evalSlots e)).modCtx n fun c => { c with eval := .none }

theorem State.slotRestored_spec (hn : (s.boundCores n).Nodup) : (s.slotRestored n e).mem = s.mem ∧
    (s.slotRestored n e).live = s.live ∧ ((s.slotRestored n e).ctx n).eval = .none ∧
    ∀ k ∈ s.boundCores n, (s.slotRestored n e).core k = s.givenBack n e k (s.core k) := by
  obtain ⟨hframe, -, hback⟩ := State.restoreAll_spec n e hn s
  refine ⟨?_, ?_, ?_, hback⟩
  · rw [State.slotRestored, hframe]
    rfl
  · rw [State.slotRestored, hframe]
    rfl
  · rw [State.slotRestored, State.ctx_modCtx]

theorem exec_evalRestoreComplete (hc : (s.ctx n).eval = .restoring e) (hs : s.mem.served = true)
    (hd : (s.ctx n).evalDue = []) (hq : (s.ctx n).cqRead = []) (hl : s.live = []) (hr : s.mem.refills = [])
    (hn : (s.boundCores n).Nodup) : exec (.evalRestoreComplete n) s = .next (s.slotRestored n e) := by
  obtain ⟨hframe, -, -⟩ := State.restoreAll_spec n e hn s
  have hctx : (((s.boundCores n).foldl (fun s k => s.restoreCore n e k) s).bump (Ent.evalSlots e)).ctx n = s.ctx n := by
    rw [State.ctx_congr (State.bump_ctxs _ _), hframe]
    rfl
  have hover : State.slotOver (((s.boundCores n).foldl (fun s k => s.restoreCore n e k) s).bump (Ent.evalSlots e)) n =
      s.slotRestored n e := State.slotOver_idle (by rw [hctx, hd]) (by rw [hctx, hq])
  obtain ⟨hmem, hlive, -, -⟩ := State.slotRestored_spec (e := e) hn
  have hboundary : (s.slotRestored n e).idleBoundary e = s.slotRestored n e :=
    State.idleBoundary_none (hlive.trans hl) (by rw [hmem, hr]) _
  have hexec : exec (.evalRestoreComplete n) s = execEvalRestoreComplete n s := rfl
  rw [hexec, execEvalRestoreComplete, hc]
  dsimp only
  rw [if_neg (by simp [hs])]
  refine congrArg Host.Outcome.next (Eq.trans (congrArg (State.idleBoundary · e) hover) hboundary)

/-! ### The obligation -/

/-- Settles O40: the save is the copy of one core after another, the restore gives one core after another back, and between
them one context and one sync word change. -/
theorem evaluationSlots : Obligations.EvaluationSlots := by
  unfold Obligations.EvaluationSlots
  intro n e s c cores home base
  refine ⟨?saved, ?run, ?expired, ?ended, ?restored⟩
  case saved =>
    intro hc hr hs hn hmapped hapart
    have hhomes : s.Homes n e cores := ⟨fun k hk => have ⟨p, hp, _, hf⟩ := hmapped k hk; ⟨p, hp, hf⟩, hapart⟩
    obtain ⟨hlent, -, hbytes, -⟩ := State.saved_of_homes hn hhomes
    refine ⟨_, exec_evalSlotSave hc hr hs fun k hk => have ⟨p, hp, hro, _⟩ := hmapped k hk; ⟨p, hp, hro⟩, ?_, ?_, ?_⟩
    · rw [State.ctx_modCtx]
    · intro k hk
      rw [State.core_congr (State.modCtx_cores _ _ _), hlent k hk]
      rfl
    · intro k p w i hk hp hw hi
      exact hbytes k p w i hk hp hw hi
  case run =>
    intro hc hq
    refine ⟨_, exec_evalSlotRun hc hq, ?_, ?_, rfl, rfl⟩
    · rw [State.ctx_modCtx]
    · exact State.ent_setEnt s _ _
  case expired =>
    intro hc
    exact ⟨_, exec_evalBudgetExpiry hc, State.ctx_modCtx s n _, rfl⟩
  case ended =>
    intro x key hc hr hend hk
    have hpost := State.postTo_keeps hk 1
    refine ⟨_, exec_evalSlotEnd hc hr hend, ?_, ?_, hpost.cores⟩
    · rw [State.ctx_modCtx]
    · exact congrArg SyncWord.value hpost.setWord_word.2
  case restored =>
    intro hc hs hd hq hl hr hn
    obtain ⟨hmem, -, heval, hback⟩ := State.slotRestored_spec (e := e) hn
    refine ⟨_, exec_evalRestoreComplete hc hs hd hq hl hr hn, heval, hmem, fun k p hk hp => ?_⟩
    rw [hback k hk]
    exact State.givenBack_spec hp (s.core k)

end Sys2Proof.Machine
end

section
/-!
PROOF. Requests of partitions, contexts and sequencers through the dictionary (R181, R283 to R287, R290, R393).
-/

namespace Sys2Proof.Machine

open Sys2Proof

variable {s t : State} {port : DictPort} {key v : Nat} {data : List Byte} {r : ERow}

/-! ### A request and its answer -/

theorem State.dictAnswer_cores (t : State) (port : DictPort) (op : Nat) (sent : List Byte) (code : Nat)
    (data : List Byte) : (t.dictAnswer port op sent code data).cores = t.cores := by cases port <;> rfl

theorem State.dictAnswer_parts (t : State) (port : DictPort) (op : Nat) (sent : List Byte) (code : Nat)
    (data : List Byte) : (t.dictAnswer port op sent code data).parts = t.parts := by cases port <;> rfl

theorem State.dictAnswer_pages (t : State) (port : DictPort) (op : Nat) (sent : List Byte) (code : Nat)
    (data : List Byte) : (t.dictAnswer port op sent code data).host.pages = t.host.pages := by cases port <;> rfl

@[simp] theorem State.answerOk_cores (t : State) (port : DictPort) (key : Nat) (data : List Byte) :
    (t.answerOk port key data).cores = t.cores := State.dictAnswer_cores t _ _ _ _ _

@[simp] theorem State.answerOk_core (t : State) (port : DictPort) (key : Nat) (data : List Byte) (k : Nat) :
    (t.answerOk port key data).core k = t.core k := State.core_congr (State.answerOk_cores t port key data) k

@[simp] theorem State.answerOk_part (t : State) (port : DictPort) (key : Nat) (data : List Byte) (k : Nat) :
    (t.answerOk port key data).part k = t.part k := State.part_congr (State.dictAnswer_parts t _ _ _ _ _) k

@[simp] theorem State.answerOk_pg (t : State) (port : DictPort) (key : Nat) (data : List Byte) (n off : Nat) :
    (t.answerOk port key data).pg n off = t.pg n off := State.pg_congr (State.dictAnswer_pages t _ _ _ _ _) n off

@[simp] theorem State.answerOk_page (t : State) (port : DictPort) (key : Nat) (data : List Byte) (n w : Nat) :
    (t.answerOk port key data).page n w = t.page n w := State.page_congr (State.answerOk_mem t port key data) n w

@[simp] theorem State.answerOk_tag (t : State) (port : DictPort) (key : Nat) (data : List Byte) (n : Nat) :
    (t.answerOk port key data).tag n = t.tag n := State.answerOk_ent t port key data _

@[simp] theorem State.answerOk_ctxValid (t : State) (port : DictPort) (key : Nat) (data : List Byte) (n : Nat) :
    (t.answerOk port key data).ctxValid n = t.ctxValid n := by
  rw [State.ctxValid, State.answerOk_entBit, State.ctxValid]

/-- A command that is an accepted request of an entry that exists has the request's effect, and the answer OK. -/
theorem Accepted.exec_eq {i : Instr} (h : Accepted s port key data) (hr : (Catalog.row key).isSome = true)
    (hi : exec i s = .next (s.dictRequest port key data)) {u : State}
    (hu : ∀ r, s.dictApply port r key (leNat data) = u) : exec i s = .next (u.answerOk port key data) := by
  obtain ⟨r, hr⟩ := Option.isSome_iff_exists.1 hr
  rw [hi, h.dictRequest hr, hu]

theorem row_partClusters (k : Fin 16) : (Catalog.row (Ent.partClusters k)).isSome = true := by
  revert k
  decide +kernel

theorem row_ctxDef (n : Fin 64) : (Catalog.row (Ent.ctxDef n)).map (·.scope) = some .ctx := by
  revert n
  decide +kernel

theorem isSome_row_ctxDef (n : Fin 64) : (Catalog.row (Ent.ctxDef n)).isSome = true := by
  rw [← Option.isSome_map, row_ctxDef]
  rfl

theorem row_ctxClusters (n : Fin 64) : (Catalog.row (Ent.ctxClusters n)).isSome = true := by
  revert n
  decide +kernel

theorem row_seqCtl (k : Fin 16) : (Catalog.row (Ent.seqCtl k)).isSome = true := by
  revert k
  decide +kernel

theorem dflt_ctxDef (n : Fin 64) : Catalog.dflt (Ent.ctxDef n) = 0 := by
  revert n
  decide +kernel

theorem State.dictApply_partClusters (k : Fin 16) :
    s.dictApply port r (Ent.partClusters k) v = s.setPartClusters k v := by
  have hi : Ent.partClusters k / 256 = 0x5000 := by simp only [Ent.partClusters]; omega
  have hn : Ent.partClusters k % 256 - 1 = k := by simp only [Ent.partClusters]; omega
  simp only [State.dictApply, hi, hn]

theorem State.dictApply_ctxDef (n : Fin 64) :
    s.dictApply port r (Ent.ctxDef n) v = if v.testBit 0 then s.ctxCreate n v else s.ctxDestroy n := by
  have hi : Ent.ctxDef n / 256 = 0x5010 := by simp only [Ent.ctxDef]; omega
  have hn : Ent.ctxDef n % 256 - 1 = n := by simp only [Ent.ctxDef]; omega
  simp only [State.dictApply, hi, hn]

theorem State.dictApply_ctxClusters (n : Fin 64) :
    s.dictApply port r (Ent.ctxClusters n) v = s.setCtxClusters n v := by
  have hi : Ent.ctxClusters n / 256 = 0x5011 := by simp only [Ent.ctxClusters]; omega
  have hn : Ent.ctxClusters n % 256 - 1 = n := by simp only [Ent.ctxClusters]; omega
  simp only [State.dictApply, hi, hn]

theorem State.dictApply_seqCtl (k : Fin 16) : s.dictApply port r (Ent.seqCtl k) v = s.setSeqCtl k v := by
  have hi : Ent.seqCtl k / 256 = 0x5021 := by simp only [Ent.seqCtl]; omega
  have hn : Ent.seqCtl k % 256 - 1 = k := by simp only [Ent.seqCtl]; omega
  simp only [State.dictApply, hi, hn]

section
variable {k : Fin 16} {n : Fin 64} {mask : Word64} {value : BitVec 32}

theorem exec_partClustersWrite (h : Accepted s port (Ent.partClusters k) (leBytes 8 mask.toNat)) :
    exec (.partClustersWrite port k mask) s =
      .next ((s.setPartClusters k mask.toNat).answerOk port (Ent.partClusters k) (leBytes 8 mask.toNat)) :=
  h.exec_eq (row_partClusters k) rfl fun r => by rw [State.dictApply_partClusters, leNat_leBytes mask.isLt]

theorem exec_ctxCreate (hv : value.getLsbD 0 = true) (h : Accepted s port (Ent.ctxDef n) (leBytes 4 value.toNat)) :
    exec (.ctxCreate port n value) s =
      .next ((s.ctxCreate n value.toNat).answerOk port (Ent.ctxDef n) (leBytes 4 value.toNat)) :=
  have hexec : exec (.ctxCreate port n value) s = .next (s.dictRequest port (Ent.ctxDef n) (leBytes 4 value.toNat)) :=
    congrArg Host.Outcome.next (if_pos hv)
  h.exec_eq (isSome_row_ctxDef n) hexec fun r => by rw [State.dictApply_ctxDef, leNat_leBytes value.isLt, if_pos (by exact hv)]

theorem exec_ctxDestroy (hv : value.getLsbD 0 = false) (h : Accepted s port (Ent.ctxDef n) (leBytes 4 value.toNat)) :
    exec (.ctxDestroy port n value) s =
      .next ((s.ctxDestroy n).answerOk port (Ent.ctxDef n) (leBytes 4 value.toNat)) :=
  have hnot : ¬ value.getLsbD 0 = true := by rw [hv]; exact Bool.false_ne_true
  have hexec : exec (.ctxDestroy port n value) s = .next (s.dictRequest port (Ent.ctxDef n) (leBytes 4 value.toNat)) :=
    congrArg Host.Outcome.next (if_neg hnot)
  h.exec_eq (isSome_row_ctxDef n) hexec fun r => by rw [State.dictApply_ctxDef, leNat_leBytes value.isLt, if_neg (by exact hnot)]

theorem exec_ctxClustersWrite (h : Accepted s port (Ent.ctxClusters n) (leBytes 8 mask.toNat)) :
    exec (.ctxClustersWrite port n mask) s =
      .next ((s.setCtxClusters n mask.toNat).answerOk port (Ent.ctxClusters n) (leBytes 8 mask.toNat)) :=
  h.exec_eq (row_ctxClusters n) rfl fun r => by rw [State.dictApply_ctxClusters, leNat_leBytes mask.isLt]

theorem exec_seqRun (hv : mask.getLsbD 6 = true) (h : Accepted s port (Ent.seqCtl k) (leBytes 8 mask.toNat)) :
    exec (.seqRun port k mask) s =
      .next ((s.setSeqCtl k mask.toNat).answerOk port (Ent.seqCtl k) (leBytes 8 mask.toNat)) :=
  have hexec : exec (.seqRun port k mask) s = .next (s.dictRequest port (Ent.seqCtl k) (leBytes 8 mask.toNat)) :=
    congrArg Host.Outcome.next (if_pos hv)
  h.exec_eq (row_seqCtl k) hexec fun r => by
    rw [State.dictApply_seqCtl, leNat_leBytes mask.isLt]

theorem exec_seqStop (hv : mask.getLsbD 6 = false) (h : Accepted s port (Ent.seqCtl k) (leBytes 8 mask.toNat)) :
    exec (.seqStop port k mask) s =
      .next ((s.setSeqCtl k mask.toNat).answerOk port (Ent.seqCtl k) (leBytes 8 mask.toNat)) :=
  have hnot : ¬ mask.getLsbD 6 = true := by rw [hv]; exact Bool.false_ne_true
  have hexec : exec (.seqStop port k mask) s = .next (s.dictRequest port (Ent.seqCtl k) (leBytes 8 mask.toNat)) :=
    congrArg Host.Outcome.next (if_neg hnot)
  h.exec_eq (row_seqCtl k) hexec fun r => by
    rw [State.dictApply_seqCtl, leNat_leBytes mask.isLt]

end

/-! ### Partitions (R181, R283) -/

theorem State.word_clearWords {l : List Nat} {w : Nat} (hw : w / 4096 ∈ l) : (s.clearWords l true).word w = SyncWord.zero := by
  rw [State.word, State.clearWords, SMap.get_mapVals]
  split
  · exact if_pos (List.contains_iff_mem.2 hw)
  · rfl

/-- A call for relearning and the report of the limiter leave the cores, the sync memory and the entries of the partitions
as they are (R409, R417). -/
theorem State.relearnAll_eq (s : State) :
    s.relearnAll = { s with freeCtr := s.relearnAll.freeCtr, parts := s.relearnAll.parts } := by
  unfold State.relearnAll
  generalize s.definedParts = l
  induction l generalizing s with
  | nil => rfl
  | cons k l ih =>
    rw [List.foldl_cons, ih]
    rfl

theorem State.relearned_spec (s : State) (k : Fin 16) :
    s.relearnAll.reportLimiting.ent (Ent.partClusters k) = s.ent (Ent.partClusters k) ∧
      s.relearnAll.reportLimiting.cores = s.cores ∧ s.relearnAll.reportLimiting.sync = s.sync := by
  have hne : Ent.partClusters k ≠ Ent.capStatus := by simp only [Ent.partClusters, Ent.capStatus]; omega
  refine ⟨?_, ?_, ?_⟩
  · rw [State.reportLimiting, State.ent_setEntBit_ne _ _ _ hne, State.relearnAll_eq]
    rfl
  · rw [State.reportLimiting, State.setEntBit_cores, State.relearnAll_eq]
  · rw [State.reportLimiting, State.setEntBit_sync, State.relearnAll_eq]

theorem State.setPartClusters_spec (s : State) (k : Fin 16) (mask : Nat) :
    (s.setPartClusters k mask).ent (Ent.partClusters k) = mask ∧ (s.setPartClusters k mask).cores = s.cores ∧
      (s.ent (Ent.partClusters k) = 0 → mask ≠ 0 →
        (s.setPartClusters k mask).sync = ((s.setEnt (Ent.partClusters k) mask).clearWords (setBits mask 64) true).sync) := by
  have hset : (s.setEnt (Ent.partClusters k) mask).ent (Ent.partClusters k) = mask := State.ent_setEnt s _ _
  unfold State.setPartClusters
  dsimp only
  split
  · obtain ⟨hent, hcores, hsync⟩ := State.relearned_spec (((s.setEnt (Ent.partClusters k) mask).clearWords
      (setBits mask 64) true).modPart k fun _ => Part.init) k
    exact ⟨hent.trans hset, hcores, fun _ _ => hsync⟩
  · next hnot =>
    have hold : s.ent (Ent.partClusters k) = 0 → mask ≠ 0 → False := fun h0 hm => hnot (by simp [h0, hm])
    split
    · obtain ⟨hent, hcores, -⟩ := State.relearned_spec ((s.setEnt (Ent.partClusters k) mask).modPart k fun _ => Part.init) k
      exact ⟨hent.trans hset, hcores, fun h0 hm => (hold h0 hm).elim⟩
    · obtain ⟨hent, hcores, -⟩ := State.relearned_spec (s.setEnt (Ent.partClusters k) mask) k
      exact ⟨hent.trans hset, hcores, fun h0 hm => (hold h0 hm).elim⟩

theorem setBits_zero (m : Nat) : setBits 0 m = [] := by simp [setBits]

/-- The sync words of a partition newly defined read 0 with CONFIG 0 (R181, R283). -/
theorem State.word_setPartClusters {k : Fin 16} {mask c i : Nat} (h0 : s.ent (Ent.partClusters k) = 0)
    (hc : c ∈ setBits mask 64) (hi : i < 4096) : (s.setPartClusters k mask).word (wordKey c i) = SyncWord.zero := by
  have hm : mask ≠ 0 := fun h => by rw [h, setBits_zero] at hc; exact absurd hc List.not_mem_nil
  obtain ⟨-, -, hsync⟩ := s.setPartClusters_spec k mask
  have hword : (s.setPartClusters k mask).word (wordKey c i) =
      ((s.setEnt (Ent.partClusters k) mask).clearWords (setBits mask 64) true).word (wordKey c i) := by
    rw [State.word, hsync h0 hm, State.word]
  rw [hword, State.word_clearWords]
  rwa [show wordKey c i / 4096 = c by simp only [wordKey]; omega]

/-! ### Contexts (R284, R285, R393) -/

/-- The entries that return to their defaults with a context: those of its subindex, but for its tag (R285, R393). -/
theorem State.ent_ctxDefaults_tag (s : State) (n : Nat) : (s.ctxDefaults n).tag n = s.tag n := by
  rw [State.tag, State.ent, State.ctxDefaults, SMap.get_dropKeys, if_neg]
  · rfl
  · split <;> simp

theorem State.ent_ctxDefaults_def (s : State) (n : Fin 64) : (s.ctxDefaults n).ent (Ent.ctxDef n) = 0 := by
  obtain ⟨r, hr, hs⟩ := Option.map_eq_some_iff.1 (row_ctxDef n)
  have hn : Ent.ctxDef n % 256 = n + 1 := by simp only [Ent.ctxDef]; omega
  rw [State.ent, State.ctxDefaults, SMap.get_dropKeys, hr]
  simp [hs, hn, dflt_ctxDef]

theorem State.pg_pageDefaults (s : State) (n : Nat) {off : Nat} (ho : off < 4096) :
    (s.pageDefaults n).pg n off = pageDefault (4096 * n + off) := by
  rw [State.pg, State.pageDefaults, SMap.get_dropKeys, if_pos]
  rw [beq_iff_eq]
  omega

/-- A tag advances or is delayed, and of its context nothing else changes (R393). -/
theorem State.advanceTag_spec (s : State) (n : Nat) :
    ((s.advanceTag n).tag n = (s.tag n + 1) % 256 ∨ ((s.advanceTag n).ctx n).tagDelay = true) ∧
      (∀ k, k ≠ Ent.selvedgeTag n → (s.advanceTag n).ent k = s.ent k) ∧ (s.advanceTag n).host = s.host ∧
      ∃ delay left, (s.advanceTag n).ctx n = { s.ctx n with tagDelay := delay, tagLeft := left } := by
  unfold State.advanceTag
  dsimp only
  split
  · refine ⟨.inr ?_, fun _ _ => rfl, rfl, true, _, State.ctx_modCtx s n _⟩
    rw [State.ctx_modCtx]
  · refine ⟨.inl (State.ent_setEnt _ _ _), fun k hk => State.ent_setEnt_ne _ _ hk, rfl, false, _,
      (State.ctx_congr (State.setEnt_ctxs _ _ _) n).trans (State.ctx_modCtx s n _)⟩

/-- A context that is created, before its tag advances (R284). -/
def State.ctxDefined (s : State) (n value : Nat) : State :=
  (((s.ctxDefaults n).pageDefaults n).modCtx n fun c =>
    { Ctx.init with tagLeft := c.tagLeft, cqOut := c.cqOut, tagDelay := c.tagDelay }).setEnt (Ent.ctxDef n) value

theorem State.ctxCreate_spec (s : State) (n : Fin 64) (value : Nat) :
    (s.ctxCreate n value).ent (Ent.ctxDef n) = value ∧
      (∀ off, off < 4096 → (s.ctxCreate n value).pg n off = pageDefault (4096 * n + off)) ∧
      ((s.ctxCreate n value).tag n = (s.tag n + 1) % 256 ∨ ((s.ctxCreate n value).ctx n).tagDelay = true) ∧
      ((s.ctxCreate n value).ctx n).tasks = [] ∧ ((s.ctxCreate n value).ctx n).colls = [] ∧
      ((s.ctxCreate n value).ctx n).upd = Upd.init := by
  have hne : Ent.selvedgeTag n ≠ Ent.ctxDef n := by simp only [Ent.ctxDef, Ent.selvedgeTag]; omega
  have htag : (s.ctxDefined n value).tag n = s.tag n :=
    (State.ent_setEnt_ne _ _ hne).trans (State.ent_ctxDefaults_tag s n)
  obtain ⟨hadvance, hent, hhost, delay, left, hctx⟩ := (s.ctxDefined n value).advanceTag_spec n
  have hinit : (s.ctxDefined n value).ctx n = { Ctx.init with
      tagLeft := (s.ctx n).tagLeft, cqOut := (s.ctx n).cqOut, tagDelay := (s.ctx n).tagDelay } :=
    (State.ctx_congr (State.setEnt_ctxs _ _ _) n).trans (State.ctx_modCtx _ n _)
  have hcreate : s.ctxCreate n value = (s.ctxDefined n value).advanceTag n := rfl
  rw [htag] at hadvance
  rw [hinit] at hctx
  rw [hcreate]
  refine ⟨(hent _ hne.symm).trans (State.ent_setEnt _ _ _), fun off ho => ?_, hadvance, ?_, ?_, ?_⟩
  · exact (State.pg_congr (congrArg HostIf.pages hhost) n off).trans (State.pg_pageDefaults (s.ctxDefaults n) n ho)
  · rw [hctx]
    rfl
  · rw [hctx]
    rfl
  · rw [hctx]
    rfl

/-- A destroyed context holds no page: its own are freed, and those it shares are no longer mapped (R285 step 2). -/
theorem State.page_freeAll (s : State) {n v : Nat} (hv : v < 134217728) : (s.freeAll n).page n v = none := by
  refine (State.page_congr (State.reportFrames_mem _) n v).trans ?_
  rw [State.page, State.modMem, SMap.get_dropKeys, if_pos]
  rw [beq_iff_eq]
  omega

theorem State.reportResv_host (s : State) : s.reportResv.host = s.host := by
  unfold State.reportResv
  refine foldl_keeps (g := State.host) (fun s d => ?_) _ s
  rw [State.setEnt, State.setEnt]

theorem State.reportResv_pg (s : State) (n off : Nat) : s.reportResv.pg n off = s.pg n off :=
  State.pg_congr (congrArg HostIf.pages s.reportResv_host) n off

theorem State.ctxDestroy_spec (s : State) (n : Fin 64) : (s.ctxDestroy n).ent (Ent.ctxDef n) = 0 ∧
    (∀ v, v < 134217728 → (s.ctxDestroy n).page n v = none) ∧
    ∀ off, off < 4096 → (s.ctxDestroy n).pg n off = pageDefault (4096 * n + off) := by
  have hne : ∀ d < 4, Ent.ctxDef n ≠ Ent.resvPeak d ∧ Ent.ctxDef n ≠ Ent.resvSum d := fun d _ => by
    simp only [Ent.ctxDef, Ent.resvPeak, Ent.resvSum]; omega
  unfold State.ctxDestroy
  dsimp only
  refine ⟨?_, fun v hv => ?_, fun off ho => ?_⟩
  · rw [State.reportResv_ent _ hne]
    exact State.ent_ctxDefaults_def _ n
  · refine (State.page_congr (t := State.reportResv _) ?_ n v).trans (State.page_freeAll
      ((List.finRange 17).foldl (fun s f => s.finishCmds n f (s.memq f).cmds.length) s) hv)
    simp
  · rw [State.reportResv_pg]
    exact State.pg_pageDefaults _ n ho

/-! ### Clusters of a context (R286, R287) -/

theorem State.setCtxClusters_ent (s : State) (n mask : Nat) : (s.setCtxClusters n mask).ent (Ent.ctxClusters n) = mask := by
  rw [State.setCtxClusters, State.freshCores, State.modCores_eq]
  exact State.ent_setEnt s _ _

/-- The clusters that a write binds anew (R286). -/
def State.addedClusters (s : State) (n mask : Nat) : List Nat :=
  ((setBits mask 64).filter fun r => !(s.ent (Ent.ctxClusters n)).testBit r).filterMap (s.globalCluster (s.ctxPart n))

theorem State.core_setCtxClusters_of_mem {n mask c j : Nat} (hc : c ∈ s.addedClusters n mask) (hj : j < 24) :
    (s.setCtxClusters n mask).core (24 * c + j) = { s.core (24 * c + j) with sp := Scratch.zero } := by
  refine State.core_modCores_of_mem (s := s.setEnt (Ent.ctxClusters n) mask) (f := fun c => { c with sp := Scratch.zero })
    (.inr fun _ => rfl) ?_
  exact List.mem_flatMap.2 ⟨c, hc, List.mem_map.2 ⟨j, List.mem_range.2 hj, rfl⟩⟩

theorem State.core_setCtxClusters_of_notMem {n mask j : Nat} (hj : j / 24 ∉ s.addedClusters n mask) :
    (s.setCtxClusters n mask).core j = s.core j := by
  refine State.core_modCores_of_notMem (s := s.setEnt (Ent.ctxClusters n) mask) (fun c => { c with sp := Scratch.zero })
    fun hmem => hj ?_
  obtain ⟨c, hc, hmem⟩ := List.mem_flatMap.1 hmem
  obtain ⟨i, hi, rfl⟩ := List.mem_map.1 hmem
  rwa [show (24 * c + i) / 24 = c by rw [List.mem_range] at hi; omega]

/-! ### Sequencers (R290) -/

theorem State.setSeqCtl_run {k value : Nat} (h : value.testBit 6 = true) : s.setSeqCtl k value =
    ((s.setEnt (Ent.seqCtl k) value).setEnt (Ent.seqPass k) 0).modPart k fun p =>
      { p with seq := { Seq.stopped with left := p.seq.left } } := if_pos h

theorem State.setSeqCtl_stop {k value : Nat} (h : value.testBit 6 = false) :
    s.setSeqCtl k value = (s.setEnt (Ent.seqCtl k) value).stopSeq k := if_neg (by rw [h]; exact Bool.false_ne_true)

/-! ### The obligation -/

/-- Settles O52: each accepted request is its effect, then the answer OK. -/
theorem contextRequests : Obligations.ContextRequests := by
  unfold Obligations.ContextRequests
  intro port k n mask value s ok q stopped added
  refine ⟨?partition, ?create, ?destroy, ?clusters, ?run, ?stop⟩
  case partition =>
    rintro ⟨_, hreq, ha⟩
    cases hreq
    obtain ⟨hent, hcores, -⟩ := s.setPartClusters_spec k mask.toNat
    refine ⟨_, exec_partClustersWrite ha, ?_, ?_, ?_, fun h0 c i hc hi => ?_⟩
    · rw [State.answerOk_ent, hent]
    · rw [State.answerOk_mem, State.setPartClusters_mem]
    · rw [State.answerOk_cores, hcores]
    · rw [State.answerOk_word, State.word_setPartClusters h0 hc hi]
  case create =>
    rintro ⟨_, hreq, ha⟩ hv
    obtain rfl : (port, Ent.ctxDef n, leBytes 4 value.toNat) = _ := Option.some.inj ((if_pos hv).symm.trans hreq)
    obtain ⟨hent, hpg, htag, htasks, hcolls, hupd⟩ := s.ctxCreate_spec n value.toNat
    refine ⟨_, exec_ctxCreate hv ha, ?_, ?_, fun off ho => ?_, ?_, ?_, ?_, ?_, ?_⟩
    · rw [State.answerOk_ent, hent]
    · have hvalid : (s.ctxCreate n value.toNat).entBit (Ent.ctxDef n) 0 = true := by
        rw [State.entBit, hent]
        exact hv
      rw [State.answerOk_ctxValid, State.ctxValid, hvalid, Bool.and_true, Nat.blt_eq]
      exact n.isLt
    · rw [State.answerOk_pg, hpg off ho]
    · rw [State.answerOk_tag, State.answerOk_ctx]
      exact htag
    · rw [State.answerOk_ctx, htasks]
    · rw [State.answerOk_ctx, hcolls]
    · rw [State.answerOk_ctx, hupd]
    · rw [State.answerOk_mem, State.ctxCreate_mem]
  case destroy =>
    rintro ⟨_, hreq, ha⟩ hv
    have hnot : ¬ value.getLsbD 0 = true := by rw [hv]; exact Bool.false_ne_true
    obtain rfl : (port, Ent.ctxDef n, leBytes 4 value.toNat) = _ := Option.some.inj ((if_neg hnot).symm.trans hreq)
    obtain ⟨hent, hpage, hpg⟩ := s.ctxDestroy_spec n
    refine ⟨_, exec_ctxDestroy hv ha, ?_, fun w hw => ?_, fun off ho => ?_⟩
    · rw [State.answerOk_ctxValid, State.ctxValid, State.entBit, hent, Nat.zero_testBit, Bool.and_false]
    · rw [State.answerOk_page, hpage w hw]
    · rw [State.answerOk_pg, hpg off ho]
  case clusters =>
    rintro ⟨_, hreq, ha⟩
    cases hreq
    refine ⟨_, exec_ctxClustersWrite ha, ?_, ?_, fun c j hc hj => ?_, fun j hj => ?_⟩
    · rw [State.answerOk_ent, State.setCtxClusters_ent]
    · rw [State.answerOk_mem, State.setCtxClusters_mem]
    · rw [State.answerOk_core, State.core_setCtxClusters_of_mem hc hj]
    · rw [State.answerOk_core, State.core_setCtxClusters_of_notMem hj]
  case run =>
    rintro ⟨_, hreq, ha⟩ hv
    obtain rfl : (port, Ent.seqCtl k, leBytes 8 mask.toNat) = _ := Option.some.inj ((if_pos hv).symm.trans hreq)
    have hne : Ent.seqCtl k ≠ Ent.seqPass k := by simp only [Ent.seqCtl, Ent.seqPass]; omega
    have hrun : s.setSeqCtl k mask.toNat = _ := State.setSeqCtl_run hv
    refine ⟨_, exec_seqRun hv ha, ?_, ?_, ?_, ?_⟩
    · rw [State.answerOk_ent, hrun]
      exact (State.ent_setEnt_ne _ _ hne).trans (State.ent_setEnt _ _ _)
    · rw [State.answerOk_ent, hrun]
      exact State.ent_setEnt _ _ _
    · rw [State.answerOk_part, hrun, State.part_modPart]
      rfl
    · rw [State.answerOk_cores, hrun]
      rfl
  case stop =>
    rintro ⟨_, hreq, ha⟩ hv
    have hnot : ¬ mask.getLsbD 6 = true := by rw [hv]; exact Bool.false_ne_true
    obtain rfl : (port, Ent.seqCtl k, leBytes 8 mask.toNat) = _ := Option.some.inj ((if_neg hnot).symm.trans hreq)
    obtain ⟨hbit, hpart⟩ := (s.setEnt (Ent.seqCtl k) mask.toNat).stopSeq_spec k
    have hstop : s.setSeqCtl k mask.toNat = _ := State.setSeqCtl_stop hv
    refine ⟨_, exec_seqStop hv ha, ?_, ?_, ?_⟩
    · rw [State.answerOk_entBit, hstop, hbit]
    · rw [State.answerOk_part, hstop, hpart]
      rfl
    · rw [State.answerOk_cores, hstop]
      rfl

end Sys2Proof.Machine
end
section
/-!
SUPPORT. Flits as they leave a port (R307 to R309): their bytes, and what a port that sends them leaves of the state.
-/

namespace Sys2Proof.Machine

open Sys2Proof

variable {s t u : State} {p q vc : Nat} {x : Port} {m : Msg}

/-! ### The bytes of a flit (R307, Table 11.3) -/

/-- The bytes of a flit of a KIND that a port sends. -/
def Port.flit (x : Port) (kind seq vc : Nat) (payload : List Byte) : List Byte :=
  sealFlit (leBytes 8 (x.flitHeader kind seq vc) ++ payload)

theorem fieldAt_leBytes_append {n v : Nat} (h : v < 256 ^ n) (l : List Byte) : fieldAt (leBytes n v ++ l) 0 n = v := by
  rw [fieldAt, List.drop_zero, List.take_left' (Laws.RequestsAndWords.leBytes_length n v), leNat_leBytes h]

/-- A flit of 248 bytes and their CRC is whole. -/
theorem flitOk_sealFlit {l : List Byte} (h : l.length = 248) : flitOk (sealFlit l) = true := by
  have hcrc : flitCrc (sealFlit l) = flitCrc l := by
    simp only [flitCrc, sealFlit, List.take_append_of_le_length h.ge]
  have hfield : fieldAt (sealFlit l) 248 8 = (flitCrc l).toNat := by
    rw [fieldAt, sealFlit, List.drop_left' h, List.take_of_length_le (Laws.RequestsAndWords.leBytes_length _ _).le,
      leNat_leBytes (flitCrc l).isLt]
  have hlen : (sealFlit l).length = 256 := by rw [sealFlit, List.length_append, h, Laws.RequestsAndWords.leBytes_length]
  rw [flitOk, hlen, hfield, hcrc, beq_self_eq_true, beq_self_eq_true]
  rfl

theorem Port.returning_lt (x : Port) : x.returning < 6 := by
  unfold Port.returning
  cases h : (List.range 6).find? fun v => x.owes v != 0 with
  | none => decide
  | some v => exact List.mem_range.1 (List.mem_of_find?_eq_some h)

/-- The fields of a flit's header that its receiver reads (Table 11.3). -/
theorem Port.flitHeader_fields (x : Port) {kind vc : Nat} (seq : Nat) (hk : kind < 8) (hv : vc < 8) :
    x.flitHeader kind seq vc < 256 ^ 8 ∧ bitsAt (x.flitHeader kind seq vc) 0 16 = seq % 65536 ∧
      bitsAt (x.flitHeader kind seq vc) 32 3 = vc ∧ bitsAt (x.flitHeader kind seq vc) 36 3 = kind := by
  have hr := x.returning_lt
  have hack : (x.rxSeq + 65535) % 65536 < 65536 := Nat.mod_lt _ (by decide)
  have hseq : seq % 65536 < 65536 := Nat.mod_lt _ (by decide)
  have howes : Nat.min 65535 (x.owes x.returning) ≤ 65535 := Nat.min_le_left _ _
  unfold Port.flitHeader
  dsimp only
  generalize (x.rxSeq + 65535) % 65536 = ack at *
  generalize seq % 65536 = sq at *
  generalize Nat.min 65535 (x.owes x.returning) = o at *
  generalize x.returning = r at *
  unfold bitsAt
  norm_num only
  omega

/-- A flit with its payload is whole and carries what it was given. -/
theorem Port.flit_spec (x : Port) {kind vc : Nat} (seq : Nat) {payload : List Byte} (hk : kind < 8) (hv : vc < 8)
    (hp : payload.length = 240) :
    flitOk (x.flit kind seq vc payload) = true ∧ ((x.flit kind seq vc payload).drop 8).take 240 = payload ∧
      bitsAt (fieldAt (x.flit kind seq vc payload) 0 8) 0 16 = seq % 65536 ∧
      bitsAt (fieldAt (x.flit kind seq vc payload) 0 8) 32 3 = vc ∧
      bitsAt (fieldAt (x.flit kind seq vc payload) 0 8) 36 3 = kind := by
  obtain ⟨hlt, hfields⟩ := x.flitHeader_fields seq hk hv
  have hheader : fieldAt (x.flit kind seq vc payload) 0 8 = x.flitHeader kind seq vc := by
    rw [Port.flit, sealFlit, List.append_assoc]
    exact fieldAt_leBytes_append hlt _
  refine ⟨flitOk_sealFlit ?_, ?_, by rwa [hheader]⟩
  · rw [List.length_append, Laws.RequestsAndWords.leBytes_length, hp]
  · rw [Port.flit, sealFlit, List.append_assoc, List.drop_left' (Laws.RequestsAndWords.leBytes_length _ _),
      List.take_left' hp]

/-- What a flit returns to the partner rests on what the port has received and owes. -/
theorem Port.flit_congr {y : Port} (hr : y.rxSeq = x.rxSeq) (ho : y.owed = x.owed) (kind seq vc : Nat)
    (payload : List Byte) : y.flit kind seq vc payload = x.flit kind seq vc payload := by
  simp only [Port.flit, Port.flitHeader, Port.returning, Port.owes, hr, ho]

theorem Msg.flitPayload_length (m : Msg) (i : Nat) : (m.flitPayload i).length = 240 := by
  have hle : (((encodeHeader m.kind m.h ++ m.payload).drop (240 * i)).take 240).length ≤ 240 := List.length_take_le _ _
  rw [Msg.flitPayload, List.length_append, List.length_replicate]
  omega

/-! ### A port after a change -/

@[simp] theorem State.port_setPort (s : State) (p : Nat) (x : Port) : (s.setPort p x).port p = x :=
  SMap.get_set_same _ _ _ _

theorem State.port_setPort_ne (s : State) (x : Port) (h : q ≠ p) : (s.setPort p x).port q = s.port q :=
  SMap.get_set_ne _ _ _ h

theorem State.port_congr (h : t.links.ports = s.links.ports) (q : Nat) : t.port q = s.port q := by
  rw [State.port, h, State.port]

theorem Reports.port (h : Reports s t) (q : Nat) : t.port q = s.port q := State.port_congr (by rw [h.links]) q

@[simp] theorem State.port_sendFlit (s : State) (p kind seq vc : Nat) (payload : List Byte) :
    (s.sendFlit p kind seq vc payload).port p = (s.port p).returned := State.port_setPort s p _

@[simp] theorem State.port_sendSequenced (s : State) (p : Nat) (f : TxFlit) : (s.sendSequenced p f).port p =
    Port.returned { s.port p with txSeq := ((s.port p).txSeq + 1) % 65536, replay := (s.port p).replay ++ [f] } := by
  rw [State.sendSequenced, State.port_sendFlit, State.port_setPort]

/-! ### What a port that sends leaves of the state -/

/-- From s to t flits l left port p, and nothing but that port and its PORT_STATE changed. -/
structure SendsFlits (p : Nat) (s t : State) (l : List (List Byte)) : Prop where
  eq : t = { s with links := { s.links with ports := t.links.ports }, out := s.out ++ l.map (Out.flit p), dict := t.dict }
  ent : ∀ k, k ≠ Ent.portState p → t.ent k = s.ent k
  others : ∀ q, q ≠ p → t.port q = s.port q

namespace SendsFlits

variable {l l' : List (List Byte)}

theorem refl (s : State) : SendsFlits p s s [] :=
  ⟨by rw [List.map_nil, List.append_nil], fun _ _ => rfl, fun _ _ => rfl⟩

theorem trans (h : SendsFlits p s t l) (h' : SendsFlits p t u l') : SendsFlits p s u (l ++ l') := by
  refine ⟨?_, fun k hk => (h'.ent k hk).trans (h.ent k hk), fun q hq => (h'.others q hq).trans (h.others q hq)⟩
  rw [h'.eq, h.eq, List.map_append, List.append_assoc]

theorem links (h : SendsFlits p s t l) : t.links = { s.links with ports := t.links.ports } := by rw [h.eq]
theorem out (h : SendsFlits p s t l) : t.out = s.out ++ l.map (Out.flit p) := by rw [h.eq]
theorem cores (h : SendsFlits p s t l) : t.cores = s.cores := by rw [h.eq]
theorem mem (h : SendsFlits p s t l) : t.mem = s.mem := by rw [h.eq]
theorem ctxs (h : SendsFlits p s t l) : t.ctxs = s.ctxs := by rw [h.eq]
theorem sync (h : SendsFlits p s t l) : t.sync = s.sync := by rw [h.eq]
theorem rel (h : SendsFlits p s t l) : t.rel = s.rel := by rw [h.eq]
theorem gtime (h : SendsFlits p s t l) : t.gtime = s.gtime := by rw [h.eq]

theorem setPort (s : State) (x : Port) : SendsFlits p s (s.setPort p x) [] :=
  ⟨by rw [List.map_nil, List.append_nil]; rfl, fun _ hk => State.ent_setEnt_ne _ _ hk,
    fun _ hq => State.port_setPort_ne s x hq⟩

theorem sendFlit (s : State) (kind seq vc : Nat) (payload : List Byte) :
    SendsFlits p s (s.sendFlit p kind seq vc payload) [(s.port p).flit kind seq vc payload] :=
  ⟨rfl, fun _ hk => State.ent_setEnt_ne _ _ hk, fun _ hq => State.port_setPort_ne s _ hq⟩

theorem sendSequenced (s : State) (f : TxFlit) :
    SendsFlits p s (s.sendSequenced p f) [(s.port p).flit f.kind f.seq f.vc f.payload] := by
  let x : Port := { s.port p with txSeq := ((s.port p).txSeq + 1) % 65536, replay := (s.port p).replay ++ [f] }
  have h := (setPort (p := p) s x).trans (sendFlit _ f.kind f.seq f.vc f.payload)
  rw [State.port_setPort, List.nil_append] at h
  rw [← Port.flit_congr (x := s.port p) (y := x) rfl rfl]
  exact h

theorem sendNext (s : State) (p vc : Nat) : ∃ l, SendsFlits p s (s.sendNext p vc) l := by
  unfold State.sendNext
  dsimp only
  split
  · exact ⟨_, refl s⟩
  · exact ⟨_, (setPort s _).trans (sendSequenced _ _)⟩

theorem drive (s : State) (p fuel : Nat) : ∃ l, SendsFlits p s (s.drive p fuel) l := by
  induction fuel generalizing s with
  | zero => exact ⟨_, refl s⟩
  | succ fuel ih =>
    rw [State.drive]
    split
    · split
      · next v _ =>
        obtain ⟨l, hl⟩ := sendNext s p v
        obtain ⟨l', hl'⟩ := ih (s.sendNext p v)
        exact ⟨_, hl.trans hl'⟩
      · exact ⟨_, refl s⟩
    · exact ⟨_, refl s⟩

theorem transmit (s : State) (p vc : Nat) (m : Msg) : ∃ l, SendsFlits p s (s.transmit p vc m).2 l := by
  have hqueue : SendsFlits p s (s.enqueue p vc m) [] := setPort s _
  unfold State.transmit
  dsimp only
  split
  · obtain ⟨l, hl⟩ := drive (s.enqueue p vc m) p ((s.enqueue p vc m).port p).waiting
    exact ⟨_, hqueue.trans hl⟩
  · split
    · exact ⟨_, hqueue⟩
    · exact ⟨_, refl s⟩

end SendsFlits

/-- An ACK to another package leaves on one port, or completes nowhere (R313, R320). -/
theorem State.sendAck_sends {h : MsgHeader} (hr : h.scoord.toNat ≠ s.ent Ent.pkgCoord) (status words : Nat) :
    ∃ p < 6, ∃ l, SendsFlits p s (s.sendAck h status words) l := by
  unfold State.sendAck
  dsimp only
  rw [if_neg hr]
  split
  · next p vc hp => exact ⟨p, State.hop_lt hp, SendsFlits.transmit s p vc _⟩
  · exact ⟨0, by decide, _, SendsFlits.refl s⟩

/-- With nothing queued behind a port, nothing more leaves it. -/
theorem State.flushPort_empty (h : (s.port p).queue = []) : s.flushPort p = s := by
  rw [State.flushPort, Port.waiting, h]
  rfl

/-! ### A message that waits alone (R309, R317) -/

/-- Behind a port that carries traffic, n flits of one message wait alone, from flit i on, with the credits and the room for
them. -/
structure Port.Alone (x : Port) (vc id : Nat) (m : Msg) (i n : Nat) : Prop where
  up : x.up = true
  retrain : x.retrain = false
  queue : x.queue = if n = 0 then [] else [{ id := id, vc := vc, sent := i, msg := m }]
  whole : i + n = m.flits
  credit : n ≤ x.credit vc
  room : x.replay.length + n ≤ 2048

/-- The channel of a message that waits alone takes the next turn (R309, Table 1.5). -/
theorem Port.Alone.nextVc {id i n : Nat} (h : x.Alone vc id m i (n + 1)) (hvc : vc < 6) : x.nextVc = some vc := by
  have hready : ∀ v, x.ready v = decide (v = vc) := fun v => by
    have hc := h.credit
    rw [Port.ready, h.queue, if_neg n.succ_ne_zero, Bool.eq_iff_iff, decide_eq_true_iff]
    simp only [List.any_cons, List.any_nil, Bool.or_false, Bool.and_eq_true, beq_iff_eq, Nat.blt_eq]
    exact ⟨fun h => h.1.symm, fun h => ⟨h.symm, by rw [h]; omega⟩⟩
  have hwaits : ∀ c, x.waits c = decide (c = vc / 2) := fun c => by
    rw [Port.waits, hready, hready, Bool.eq_iff_iff, Bool.or_eq_true, decide_eq_true_iff, decide_eq_true_iff,
      decide_eq_true_iff]
    omega
  have hclass : x.nextClass = some (vc / 2) := by
    unfold Port.nextClass
    split
    · next c hc =>
      have hp := List.find?_some hc
      rw [Bool.and_eq_true, hwaits, decide_eq_true_iff] at hp
      rw [hp.1]
    · rw [List.find?_congr fun c _ => hwaits c]
      obtain h | h | h : vc / 2 = 0 ∨ vc / 2 = 1 ∨ vc / 2 = 2 := by omega
      all_goals rw [h]; rfl
  rw [Port.nextVc, hclass, Option.map_some]
  dsimp only
  rw [hready]
  split
  · next h => rw [of_decide_eq_true h]
  · next h =>
    have hne : 2 * (vc / 2) + (1 - SMap.get (fun _ => 1) x.turn (vc / 2)) ≠ vc := fun e => h (decide_eq_true e)
    congr 1
    omega

/-- The next flit of a message that waits alone leaves, and takes a credit and a SEQ (R308, R309). -/
theorem State.sendNext_alone {id i n : Nat} (h : (s.port p).Alone vc id m i (n + 1)) :
    SendsFlits p s (s.sendNext p vc) [(s.port p).flit 0 (s.port p).txSeq vc (m.flitPayload i)] ∧
      ((s.sendNext p vc).port p).Alone vc id m (i + 1) n ∧
      ((s.sendNext p vc).port p).txSeq = ((s.port p).txSeq + 1) % 65536 ∧
      ((s.sendNext p vc).port p).credit vc + 1 = (s.port p).credit vc ∧
      ((s.sendNext p vc).port p).replay.length = (s.port p).replay.length + 1 := by
  obtain ⟨hup, hretrain, hqueue, hwhole, hcredit, hroom⟩ := h
  rw [if_neg n.succ_ne_zero] at hqueue
  let f : TxFlit := { seq := (s.port p).txSeq, kind := 0, vc := vc, payload := m.flitPayload i, id := id, msg := some m }
  let y : Port := { (s.port p).took vc with
    queue := sentOne vc (s.port p).queue
    credits := SMap.set (fun _ => 1024) (s.port p).credits vc ((s.port p).credit vc - 1) }
  have hnext : s.sendNext p vc = (s.setPort p y).sendSequenced p f := by
    have hfind : (s.port p).queue.find? (fun m => m.vc == vc) = some { id := id, vc := vc, sent := i, msg := m } := by
      rw [hqueue]
      exact List.find?_cons_of_pos (beq_self_eq_true vc)
    unfold State.sendNext
    dsimp only
    rw [hfind]
  have hport : (s.sendNext p vc).port p =
      Port.returned { y with txSeq := (y.txSeq + 1) % 65536, replay := y.replay ++ [f] } := by
    rw [hnext, State.port_sendSequenced, State.port_setPort]
  have hlen : ((s.sendNext p vc).port p).replay.length = (s.port p).replay.length + 1 := by
    rw [hport]
    exact List.length_append
  have hcred : ((s.sendNext p vc).port p).credit vc = (s.port p).credit vc - 1 := by
    rw [hport]
    exact SMap.get_set_same _ _ _ _
  have hleft : ((s.sendNext p vc).port p).queue =
      if n = 0 then [] else [{ id := id, vc := vc, sent := i + 1, msg := m }] := by
    rw [hport]
    change sentOne vc (s.port p).queue = _
    simp only [hqueue, sentOne, if_pos, Nat.ble_eq]
    by_cases hn : n = 0
    · rw [if_pos hn, if_pos (by omega)]
    · rw [if_neg hn, if_neg (by omega)]
  refine ⟨?_, ⟨?_, ?_, hleft, by omega, by omega, by omega⟩, ?_, by omega, hlen⟩
  · have hsent := (SendsFlits.setPort (p := p) s y).trans (SendsFlits.sendSequenced _ f)
    rw [← hnext, State.port_setPort, List.nil_append] at hsent
    exact hsent
  · rw [hport]; exact hup
  · rw [hport]; exact hretrain
  · rw [hport]; rfl

/-- Flit i of a message, under a SEQ on a virtual channel (R307, R317). -/
def IsFlitOf (m : Msg) (vc i seq : Nat) (b : List Byte) : Prop :=
  flitOk b = true ∧ (b.drop 8).take 240 = m.flitPayload i ∧ bitsAt (fieldAt b 0 8) 0 16 = seq % 65536 ∧
    bitsAt (fieldAt b 0 8) 32 3 = vc ∧ bitsAt (fieldAt b 0 8) 36 3 = 0

/-- A message that waits alone leaves whole, flit by flit. -/
theorem State.drive_alone {id : Nat} (hvc : vc < 6) (n : Nat) : ∀ {s : State} {i : Nat}, (s.port p).Alone vc id m i n →
    ∃ l, SendsFlits p s (s.drive p n) l ∧ l.length = n ∧
      (∀ j < n, ∃ b, l[j]? = some b ∧ IsFlitOf m vc (i + j) ((s.port p).txSeq + j) b) ∧
      ((s.drive p n).port p).credit vc + n = (s.port p).credit vc ∧
      ((s.drive p n).port p).replay.length = (s.port p).replay.length + n := by
  induction n with
  | zero => exact fun _ => ⟨[], SendsFlits.refl _, rfl, fun j hj => absurd hj (Nat.not_lt_zero j), rfl, rfl⟩
  | succ n ih =>
    intro s i h
    obtain ⟨hsent, halone, htx, hcred, hlen⟩ := State.sendNext_alone h
    obtain ⟨l, hl, hl1, hflits, hcred', hlen'⟩ := ih halone
    have hdrive : s.drive p (n + 1) = (s.sendNext p vc).drive p n := by
      have hcond : ((s.port p).up && !(s.port p).retrain && Nat.blt (s.port p).replay.length 2048) = true := by
        have hroom := h.room
        rw [h.up, h.retrain, Bool.and_eq_true, Nat.blt_eq]
        exact ⟨rfl, by omega⟩
      rw [State.drive, if_pos hcond, h.nextVc hvc]
    rw [hdrive]
    refine ⟨_, hsent.trans hl, by rw [List.length_append, hl1, List.length_singleton, Nat.add_comm], fun j hj => ?_, by omega,
      by omega⟩
    cases j with
    | zero => exact ⟨_, rfl, Port.flit_spec _ _ (by decide) (by omega) (m.flitPayload_length i)⟩
    | succ j =>
      obtain ⟨b, hb, hok, hpay, hseq, hrest⟩ := hflits j (by omega)
      refine ⟨b, hb, hok, ?_, ?_, hrest⟩
      · rw [hpay, Nat.add_assoc, Nat.add_comm 1 j]
      · rw [hseq, htx]
        omega

/-- A message that meets a port with the credits and the room for it leaves it whole at once (R309, R313, R317). -/
theorem State.transmit_roomy (h : Roomy s p vc m.flits) (hvc : vc < 6) : (s.transmit p vc m).1 = true ∧
    (∃ l, SendsFlits p s (s.transmit p vc m).2 l) ∧ FlitsLeave s (s.transmit p vc m).2 p vc m ∧
      ((s.transmit p vc m).2.port p).credit vc = (s.port p).credit vc - m.flits ∧
      ((s.transmit p vc m).2.port p).replay.length = (s.port p).replay.length + m.flits := by
  obtain ⟨hup, hqueue, hretrain, hcredit, hroom⟩ := h
  have htrans : s.transmit p vc m = (true, (s.enqueue p vc m).flushPort p) := if_pos hup
  have hport : (s.enqueue p vc m).port p = { s.port p with
      queue := (s.port p).queue ++ [{ id := (s.port p).nextId, vc := vc, sent := 0, msg := m }]
      nextId := (s.port p).nextId + 1 } := State.port_setPort s p _
  have hflits : m.flits ≠ 0 := by
    unfold Msg.flits
    omega
  have halone : ((s.enqueue p vc m).port p).Alone vc (s.port p).nextId m 0 m.flits := by
    rw [hport]
    refine ⟨hup, hretrain, ?_, Nat.zero_add _, hcredit, hroom⟩
    rw [if_neg hflits, hqueue]
    rfl
  have hwaiting : ((s.enqueue p vc m).port p).waiting = m.flits := by
    rw [Port.waiting, halone.queue, if_neg hflits]
    simp
  obtain ⟨l, hl, hlen, hb, hcred, hreplay⟩ := State.drive_alone hvc m.flits halone
  have hsent := (SendsFlits.setPort (p := p) s _).trans hl
  rw [List.nil_append] at hsent
  rw [htrans, State.flushPort, hwaiting]
  have htx : ((s.enqueue p vc m).port p).txSeq = (s.port p).txSeq := by rw [hport]
  have hcr : ((s.enqueue p vc m).port p).credit vc = (s.port p).credit vc := by rw [hport]; rfl
  have hrp : ((s.enqueue p vc m).port p).replay = (s.port p).replay := by rw [hport]
  refine ⟨rfl, ⟨l, hsent⟩, ⟨l, hsent.out, hlen, fun i hi => ?_⟩, by dsimp only; omega,
    by dsimp only; rw [hreplay, hrp]⟩
  obtain ⟨b, hget, hflit⟩ := hb i hi
  rw [Nat.zero_add, htx] at hflit
  exact ⟨b, hget, hflit⟩

/-- A message for another package leaves on its route, where there is room (R323). -/
theorem State.forward_roomy (hh : s.hop m = some (p, vc)) (h : Roomy s p vc m.flits) (hvc : vc < 6) :
    s.forward m = (s.transmit p vc m).2 := by
  obtain ⟨hok, -⟩ := State.transmit_roomy h hvc
  rw [State.forward, hh]
  dsimp only
  rw [if_pos hok]

/-- A class of messages has two of the six virtual channels (R318). -/
theorem msgClass_channel_lt (kind : Nat) (b : Bool) : 2 * msgClass kind + b2n b < 6 := by
  have hclass : msgClass kind ≤ 2 := by
    unfold msgClass
    split_ifs <;> decide
  have hbit : b2n b ≤ 1 := by cases b <;> decide
  omega

theorem State.hop_vc_lt (h : s.hop m = some (p, vc)) : vc < 6 := by
  obtain ⟨r, -, hr⟩ := Option.map_eq_some_iff.1 h
  rw [← (Prod.mk.inj hr).2]
  exact msgClass_channel_lt _ _

end Sys2Proof.Machine
end
section
/-!
PROOF. Ring checks and global time (R325 to R327).
-/

namespace Sys2Proof.Machine

open Sys2Proof

variable {s t : State} {p k r : Nat}

/-! ### Ring tokens (R325) -/

/-- The token of a ring check that this package sends on. -/
def State.ringToken (s : State) (k r : Nat) : Msg :=
  { kind := Kind.token, payload := []
    h := { status := 0, length := 0, dcoord := BitVec.ofNat 16 (s.neighbour (s.ringOut k r)), dpart := BitVec.ofNat 8 k,
           dctx := 0, tag := 0, sctx := 0, scoord := BitVec.ofNat 16 (s.ent Ent.pkgCoord), spart := BitVec.ofNat 8 k,
           score := 0, msgid := 0, daddr := BitVec.ofNat 32 (Token.check + 256 * r),
           aux := BitVec.ofNat 64 (s.ringPos k r) } }

theorem State.ringToken_flits (s : State) (k r : Nat) : (s.ringToken k r).flits = 1 := by
  simp [State.ringToken, Msg.flits]

/-- A token where the ring's configuration expects it ends the check at position 0, and goes on elsewhere. -/
theorem State.takeRingToken_right {inPort position : Nat} (hd : s.partDefined k = true) (hv : s.ringValid k r = true)
    (hin : inPort = s.ringIn k r) (hpos : (position + 1) % Nat.max 1 (s.ringLen k r) = s.ringPos k r) :
    s.takeRingToken k r inPort position =
      if s.ringPos k r = 0 then (if s.ringChecking k r then s.endCheck k r 2 else s) else s.sendRingToken k r := by
  simp [State.takeRingToken, hd, hv, hin, hpos]

/-- Any other token is recorded. -/
theorem State.takeRingToken_wrong {inPort position : Nat} (hd : s.partDefined k = true)
    (h : ¬ (s.ringValid k r = true ∧ inPort = s.ringIn k r ∧
      (position + 1) % Nat.max 1 (s.ringLen k r) = s.ringPos k r)) :
    s.takeRingToken k r inPort position = s.logPart Code.ringMismatch k [r, inPort, position] := by
  rw [State.takeRingToken, if_neg (by simp [hd]), if_pos]
  by_cases hv : s.ringValid k r = true
  · by_cases hin : inPort = s.ringIn k r
    · simpa using .inr fun hpos => h ⟨hv, hin, hpos⟩
    · simp [hin]
  · simp [hv]

theorem State.endCheck_spec (s : State) (k r : Nat) {v : Nat} (hv : v < 4) :
    (s.endCheck k r v).entBits (Ent.ringStatus k) (2 * r) 2 = v ∧ (s.endCheck k r v).ringChecking k r = false ∧
      (s.endCheck k r v).out = s.out := by
  refine ⟨(State.entBits_setEntBits _ _ _ _ _).trans (Nat.mod_eq_of_lt hv), ?_, rfl⟩
  change (s.links.checks.filter fun c => c != (k, r)).contains (k, r) = false
  simp

/-! ### TIME messages (R326) -/

/-- What a TIME message carries: AUX and its payload. -/
def timeContent : TimeMsg → Nat × List Byte
  | .ask t1 => (t1, [])
  | .reply t1 t2 t3 => (t1, leBytes 8 t2 ++ leBytes 8 t3)

/-- A TIME message to the neighbour of a port. -/
def State.timeMsg (s : State) (p : Nat) (t : TimeMsg) : Msg :=
  { kind := Kind.time, payload := (timeContent t).2
    h := { status := 0, length := BitVec.ofNat 16 (timeContent t).2.length, dcoord := BitVec.ofNat 16 (s.neighbour p),
           dpart := 0, dctx := 0, tag := 0, sctx := 0, scoord := BitVec.ofNat 16 (s.ent Ent.pkgCoord), spart := 0, score := 0,
           msgid := 0, daddr := 0, aux := BitVec.ofNat 64 (timeContent t).1 } }

theorem State.sendTime_eq (s : State) (p : Nat) (t : TimeMsg) :
    s.sendTime p t = (s.transmit p 0 (s.timeMsg p t)).2 := by cases t <;> rfl

theorem State.timeMsg_flits (s : State) (p : Nat) (t : TimeMsg) : (s.timeMsg p t).flits = 1 := by
  cases t with
  | ask t1 => simp [State.timeMsg, timeContent, Msg.flits]
  | reply t1 t2 t3 => simp [State.timeMsg, timeContent, Msg.flits, Laws.RequestsAndWords.leBytes_length]

/-- A TIME message leaves in one flit, and the time of this package stays as it is. -/
theorem State.sendTime_leaves (h : Roomy s p 0 1) (t : TimeMsg) :
    FlitsLeave s (s.sendTime p t) p 0 (s.timeMsg p t) ∧ (s.sendTime p t).gtime = s.gtime := by
  rw [← s.timeMsg_flits p t] at h
  obtain ⟨-, ⟨l, hl⟩, hleave, -⟩ := State.transmit_roomy h (by decide)
  rw [State.sendTime_eq]
  exact ⟨hleave, hl.gtime⟩

/-- An exchange whose two ways take the same time measures the upstream count. -/
theorem upstreamCount_symmetric (t1 t2 delay wait : Nat) :
    upstreamCount t1 t2 (t2 + wait) (t1 + wait + 2 * delay) = (t2 + wait + delay) % 2 ^ 64 := by
  have h : ((t2 + wait : Nat) : Int) + (((t1 + wait + 2 * delay : Nat) : Int) - t1 - (((t2 + wait : Nat) : Int) - t2)) / 2 =
      ((t2 + wait + delay : Nat) : Int) := by omega
  rw [upstreamCount, h, Int.toNat_natCast]

/-! ### The counter (R327) -/

/-- How far the upstream count stands from this package's. -/
def State.timeError (s : State) (up : Nat) : Nat := Nat.max (up - s.gtime.count) (s.gtime.count - up)

/-- The state in which the exchange under way has been answered. -/
def State.exchanged (s : State) : State := { s with gtime := { s.gtime with asked := none } }

/-- The answer to this package's own question steps the counter at the first lock and beyond 1 µs of error, and steers it
otherwise. -/
theorem State.takeTime_reply {t1 t2 t3 : Nat} (hu : s.upstreamUp = true) (hp : s.upstream = some p)
    (ha : s.gtime.asked = some t1) : s.takeTime p (.reply t1 t2 t3) =
      if s.gtime.locked = false ∨ 1000 < s.timeError (upstreamCount t1 t2 t3 s.gtime.count) then
        s.exchanged.stepTime (upstreamCount t1 t2 t3 s.gtime.count)
      else s.exchanged.steerTime := by
  have hcond : (!s.gtime.locked || Nat.blt 1000 (s.timeError (upstreamCount t1 t2 t3 s.gtime.count))) = true ↔
      s.gtime.locked = false ∨ 1000 < s.timeError (upstreamCount t1 t2 t3 s.gtime.count) := by
    rw [Bool.or_eq_true, Bool.not_eq_true', Nat.blt_eq]
  rw [State.takeTime, if_neg (by simp [hu, hp, ha])]
  exact if_congr hcond rfl rfl

theorem State.steerTime_spec (s : State) : ∃ r : Int, s.steerTime.gtime = { s.gtime with rate := r } ∧ -200 ≤ r ∧ r ≤ 200 ∧
    s.steerTime.ent Ent.gtLocked = 1 ∧ s.steerTime.rel.log = s.rel.log :=
  ⟨_, rfl, by omega, by omega, State.ent_setEnt _ _ _, rfl⟩

/-- The counter as it is stepped: forward at once, backward by a hold. -/
def GTime.stepped (g : GTime) (up : Nat) : GTime :=
  if up < g.count then { g with hold := some up, locked := true } else { g with count := up, hold := none, locked := true }

theorem GTime.stepped_spec (g : GTime) (up : Nat) : (g.stepped up).asked = g.asked ∧ (g.stepped up).locked = true ∧
    g.count ≤ (g.stepped up).count ∧ (g.count ≤ up → (g.stepped up).count = up ∧ (g.stepped up).hold = none) ∧
      (up < g.count → (g.stepped up).count = g.count ∧ (g.stepped up).hold = some up) := by
  unfold GTime.stepped
  split
  · next h => exact ⟨rfl, rfl, le_rfl, fun hle => absurd h (Nat.not_lt.2 hle), fun _ => ⟨rfl, rfl⟩⟩
  · next h => exact ⟨rfl, rfl, Nat.not_lt.1 h, fun _ => ⟨rfl, rfl⟩, fun hlt => absurd hlt h⟩

theorem State.stepTime_spec (s : State) (up : Nat) : (s.stepTime up).gtime = s.gtime.stepped up ∧
    (s.stepTime up).ent Ent.gtLocked = 1 ∧
      ∃ rec_, (s.stepTime up).rel.log.head? = some rec_ ∧ rec_.code = 0x0508 := by
  have hgtime : (if Nat.blt up s.gtime.count then { s.gtime with hold := some up, locked := true }
      else { s.gtime with count := up, hold := none, locked := true } : GTime) = s.gtime.stepped up :=
    if_congr (iff_of_eq Nat.blt_eq) rfl rfl
  have hstep : s.stepTime up =
      ((State.bump { s with gtime := s.gtime.stepped up } Ent.gtSteps).log Code.gtStep [up]).setEnt Ent.gtLocked 1 := by
    rw [← hgtime]
    rfl
  rw [hstep]
  exact ⟨(Reports.log _ _ _).gtime, State.ent_setEnt _ _ _, _, State.log_logRec _ _, rfl⟩

/-! ### The obligation -/

/-- Settles O44: the token of a ring check is judged by RING_CFG; an exchange measures the upstream count, and the counter
follows it without ever going back. -/
theorem ringsAndTime : Obligations.RingsAndTime := by
  unfold Obligations.RingsAndTime
  intro k ring inPort position p t1 t2 t3 delay wait s len right out status v err vc answered
  have hexec : exec (.ringVerifyToken k ring inPort position) s =
      .next (s.takeRingToken k ring inPort.toNat position.toNat) := rfl
  refine ⟨fun hd hright hpos hroom => ?token, fun hd hright hpos hcheck => ?home, fun hd hwrong => ?mismatch,
    fun hcheck => ?timeout, fun hup hroom => ?exchange, fun hroom => ?question, upstreamCount_symmetric t1 t2 delay wait,
    fun ha hlock herr => ?steer, fun ha hstep => ?step, fun hup hdown => ?holdover⟩
  case token =>
    obtain ⟨hv, hin, hplace⟩ := hright
    rw [← s.ringToken_flits k ring] at hroom
    obtain ⟨-, ⟨l, hl⟩, hleave, -⟩ := State.transmit_roomy hroom (msgClass_channel_lt _ _)
    have hdaddr : Token.check + 256 * ring.val = 256 * ring.val := Nat.zero_add _
    have hstatus : Ent.ringStatus k ≠ Ent.portState out := by
      have hout : out < 8 := Nat.mod_lt _ (by decide)
      simp only [Ent.ringStatus, Ent.portState]
      omega
    refine ⟨s.sendRingToken k ring, ?_, ?_, s.ringToken k ring, hleave, rfl, rfl, by rw [State.ringToken, hdaddr], rfl⟩
    · rw [hexec, State.takeRingToken_right hd hv hin hplace, if_neg hpos]
    · exact State.entBits_congr (hl.ent _ hstatus) _ _
  case home =>
    obtain ⟨hv, hin, hplace⟩ := hright
    refine ⟨s.endCheck k ring 2, ?_, s.endCheck_spec k ring (by decide)⟩
    rw [hexec, State.takeRingToken_right hd hv hin hplace, if_pos hpos, if_pos hcheck]
  case mismatch =>
    refine ⟨_, hexec.trans (congrArg Host.Outcome.next (State.takeRingToken_wrong hd hwrong)), ?_,
      (Reports.logPart s _ _ _).port,
      _, State.log_logRec _ _, rfl, rfl⟩
    refine State.entBits_congr (State.ent_logRec s _ ?_ ?_) _ _
    all_goals simp only [Ent.ringStatus, Ent.logHead, Ent.logLost]; omega
  case timeout =>
    obtain ⟨hstatus, hends, -⟩ := s.endCheck_spec k ring (v := 3) (by decide)
    exact ⟨_, congrArg Host.Outcome.next (if_pos hcheck), hstatus, hends⟩
  case exchange =>
    obtain ⟨hleave, hgtime⟩ := State.sendTime_leaves hroom (.ask s.gtime.count)
    have hupstream : s.upstreamUp = true := by
      rw [State.upstreamUp, hup]
      dsimp only
      rw [Bool.and_eq_true, Nat.blt_eq]
      exact ⟨p.isLt, hroom.1⟩
    let u := s.sendTime p (.ask s.gtime.count)
    refine ⟨{ u with gtime := { u.gtime with asked := some s.gtime.count } }, ?_, ?_,
      s.timeMsg p (.ask s.gtime.count), hleave, rfl, rfl, rfl⟩
    · change execTimeExchange s = _
      rw [execTimeExchange, hup]
      dsimp only
      rw [hupstream]
      rfl
    · dsimp only
      rw [hgtime]
  case question =>
    obtain ⟨hleave, hgtime⟩ := State.sendTime_leaves hroom (.reply t1 s.gtime.count s.gtime.count)
    exact ⟨_, congrArg Host.Outcome.next (if_pos hroom.1), hgtime, _, hleave, rfl, rfl, rfl⟩
  case steer =>
    obtain ⟨hu, hup, hasked, hport⟩ := ha
    obtain ⟨r, hgtime, hlo, hhi, hent, hlog⟩ := s.exchanged.steerTime_spec
    have hnot : ¬ (s.gtime.locked = false ∨ 1000 < s.timeError v) := by
      rintro (h | h)
      · rw [hlock] at h
        exact absurd h (by decide)
      · exact absurd h (Nat.not_lt.2 herr)
    have htake := (State.takeTime_reply (t2 := t2) (t3 := t3) hu hup hasked).trans (if_neg hnot)
    exact ⟨_, r, (congrArg Host.Outcome.next (if_pos hport)).trans (congrArg Host.Outcome.next htake), hgtime, hlo, hhi, hent,
      hlog⟩
  case step =>
    obtain ⟨hu, hup, hasked, hport⟩ := ha
    obtain ⟨hgtime, hent, hlog⟩ := s.exchanged.stepTime_spec v
    have htake := (State.takeTime_reply (t2 := t2) (t3 := t3) hu hup hasked).trans (if_pos hstep)
    refine ⟨_, (congrArg Host.Outcome.next (if_pos hport)).trans (congrArg Host.Outcome.next htake), hent, ?_⟩
    obtain ⟨hasked', hlocked, hforward, hset, hhold⟩ := s.exchanged.gtime.stepped_spec v
    rw [← hgtime] at hasked' hlocked hforward hset hhold
    exact ⟨hasked', hlocked, hforward, hset, hhold, hlog⟩
  case holdover =>
    refine ⟨_, congrArg Host.Outcome.next (if_pos ?_), State.ent_setEnt _ _ _, rfl⟩
    rw [hup, hdown]
    rfl

end Sys2Proof.Machine
end
section
/-!
SUPPORT. What a port that loses its link leaves of the state (R312, R313, R349).
-/

namespace Sys2Proof.Machine

open Sys2Proof

variable {s t u : State} {p q : Nat} {x : Port} {m : Msg}

/-! ### The messages that a port holds -/

/-- What a port holds is what it has sent and not had acknowledged, and what waits behind it. -/
theorem Port.mem_held (h : m ∈ x.held) : (∃ f ∈ x.replay, f.msg = some m) ∨ ∃ w ∈ x.queue, w.msg = m := by
  have hfold : ∀ (l a : List (Nat × Msg)) (e : Nat × Msg),
      e ∈ l.foldl (fun a e => if a.any fun x => x.1 == e.1 then a else a ++ [e]) a → e ∈ a ∨ e ∈ l := by
    intro l
    induction l with
    | nil => exact fun a e he => .inl he
    | cons y l ih =>
      intro a e he
      rcases ih _ e he with h | h
      · dsimp only at h
        split at h
        · exact .inl h
        · rcases List.mem_append.1 h with h | h
          · exact .inl h
          · exact .inr (List.mem_cons.2 (.inl (List.mem_singleton.1 h)))
      · exact .inr (List.mem_cons_of_mem _ h)
  obtain ⟨e, he, rfl⟩ := List.mem_map.1 h
  rcases hfold _ _ e he with h | h
  · exact absurd h List.not_mem_nil
  · rcases List.mem_append.1 h with h | h
    · obtain ⟨f, hf, hm⟩ := List.mem_filterMap.1 h
      obtain ⟨m', hm', rfl⟩ := Option.map_eq_some_iff.1 hm
      exact .inl ⟨f, hf, hm'⟩
    · obtain ⟨w, hw, rfl⟩ := List.mem_map.1 h
      exact .inr ⟨w, hw, rfl⟩

/-- A port whose flits are part of no message, and behind which none waits, holds none. -/
theorem Port.held_eq_nil (hq : x.queue = []) (hr : ∀ f ∈ x.replay, f.msg = none) : x.held = [] := by
  refine List.eq_nil_iff_forall_not_mem.2 fun m hm => ?_
  rcases Port.mem_held hm with ⟨f, hf, h⟩ | ⟨w, hw, -⟩
  · rw [hr f hf] at h
    exact absurd h (by simp)
  · rw [hq] at hw
    exact absurd hw List.not_mem_nil

/-! ### Messages that come to nothing -/

/-- From s to t messages came to nothing: port p, the collectives, and the entries but those in which links report,
stayed. -/
structure Loses (p : Nat) (s t : State) : Prop where
  port : t.port p = s.port p
  colls : ∀ n, (t.ctx n).colls = (s.ctx n).colls
  ent : ∀ k, ¬ LinkReport k → t.ent k = s.ent k

/-- A port that takes no message: it neither carries traffic nor trains (R313). -/
def Port.Closed (x : Port) : Prop := x.up = false ∧ x.state ≠ 2

namespace Loses

theorem refl (s : State) : Loses p s s := ⟨rfl, fun _ => rfl, fun _ _ => rfl⟩

theorem trans (h : Loses p s t) (h' : Loses p t u) : Loses p s u :=
  ⟨h'.port.trans h.port, fun n => (h'.colls n).trans (h.colls n), fun k hk => (h'.ent k hk).trans (h.ent k hk)⟩

/-- A message that meets a closed port does not change it. -/
theorem transmit (hp : (s.port p).Closed) (hq : q < 6) (vc : Nat) (m : Msg) : Loses p s (s.transmit q vc m).2 := by
  by_cases h : p = q
  · subst h
    have hlost : s.transmit p vc m = (false, s) := by
      rw [State.transmit, hp.1, if_neg Bool.false_ne_true, if_neg hp.2]
    rw [hlost]
    exact refl s
  · obtain ⟨l, hl⟩ := SendsFlits.transmit s q vc m
    refine ⟨hl.others p h, fun n => by rw [State.ctx_congr hl.ctxs], fun k hk => hl.ent k ?_⟩
    simp only [LinkReport, Ent.portState] at hk ⊢
    omega

theorem sendAck (hp : (s.port p).Closed) {h : MsgHeader} (hr : h.scoord.toNat ≠ s.ent Ent.pkgCoord) (status words : Nat) :
    Loses p s (s.sendAck h status words) := by
  unfold State.sendAck
  dsimp only
  rw [if_neg hr]
  split
  · next q vc hq => exact transmit hp (State.hop_lt hq) vc _
  · exact refl s

theorem linkDrop {n : Nat} (hn : n < 256) (s : State) (peer status : Nat) : Loses p s (s.linkDrop n peer status) := by
  have hent := (PassesOn.linkDrop hn s peer status).ent
  unfold State.linkDrop at hent ⊢
  dsimp only at hent ⊢
  split at hent
  · next h =>
    rw [if_pos h]
    exact ⟨rfl, fun _ => rfl, hent⟩
  · next h =>
    rw [if_neg h]
    have hr := Reports.logCtx ((s.bump (Ent.linkDrop n)).modCtx n fun c => { c with first := c.first ||| 8#4 })
      Code.linkDrop n [peer, status]
    refine ⟨hr.port p, fun m => ?_, hent⟩
    rw [hr.ctx]
    exact State.modCtx_keeps (f := fun c => { c with first := c.first ||| 8#4 }) (·.colls) (fun _ => rfl)
      (s.bump (Ent.linkDrop n)) n m

/-- A token or a norm partial that is lost leaves a closed port and the collectives as they are (R313, Table 11.9). -/
theorem loseMsg (hp : (s.port p).Closed) (hm : m.kind = Kind.token ∨ m.kind = Kind.norm) : Loses p s (s.loseMsg m) := by
  have hlose : s.loseMsg m = s.failMsg m := by
    rw [State.loseMsg, if_neg]
    rcases hm with h | h <;> rw [h] <;> simp [Kind.token, Kind.norm, Kind.refillReq]
  have hsender : (m.kind = Kind.write || m.kind = Kind.voile || m.kind = Kind.post) = false := by
    rcases hm with h | h <;> rw [h] <;> rfl
  rw [hlose, State.failMsg, hsender, if_neg Bool.false_ne_true]
  split
  · split
    · exact linkDrop m.h.sctx.isLt s _ _
    · next hr => exact sendAck hp hr _ _
  · exact refl s

theorem foldl (l : List Msg) (hl : ∀ m ∈ l, m.kind = Kind.token ∨ m.kind = Kind.norm) :
    ∀ {s : State}, (s.port p).Closed → Loses p s (l.foldl State.loseMsg s) := by
  induction l with
  | nil => exact fun _ => refl _
  | cons m l ih =>
    intro s hp
    have hfirst := loseMsg hp (hl m List.mem_cons_self)
    exact hfirst.trans (ih (fun m' hm' => hl m' (List.mem_cons_of_mem _ hm')) (by rw [hfirst.port]; exact hp))

end Loses

/-- A port with nothing held, sent, owed or expected any more (R313). -/
def Port.cleared (x : Port) : Port :=
  { x with replay := [], queue := [], rx := [], owed := [], discard := false, retrain := false, check := [], askRun := 0,
           reqRun := 0 }

theorem State.failPort_eq (s : State) (p : Nat) :
    s.failPort p = (s.port p).held.foldl State.loseMsg (s.setPort p (s.port p).cleared) := rfl

/-! ### Alerts and collectives -/

theorem State.ent_notify {k : Nat} (s : State) (code key : Nat) (hh : k ≠ Ent.logHead) (hl : k ≠ Ent.logLost) :
    (s.notify code key none).ent k = s.ent k := by
  refine (State.ent_logRec _ _ hh hl).trans (State.ent_congr ((State.cause_dict _ _ _).trans ?_) k)
  split <;> rfl

/-- An alert that is raised stands in ALERT_STATUS (R450). -/
theorem State.entBit_alert (s : State) (b : Nat) : (s.alert b).entBit Ent.alertStatus b = true := by
  unfold State.alert State.alertFor
  split
  · next h => exact h
  · have hent : (s.setEntBit Ent.alertStatus b true).updateAlertN.ent Ent.alertStatus =
        (s.setEntBit Ent.alertStatus b true).ent Ent.alertStatus := by
      unfold State.updateAlertN
      dsimp only
      split
      · exact State.ent_congr (State.cause_dict _ _ _) _
      · rfl
    rw [State.entBit_congr (State.ent_notify _ _ _ (by decide) (by decide)), State.entBit_congr hent,
      State.entBit_setEntBit]

theorem State.ent_alert (s : State) (b : Nat) {k : Nat} (hh : k ≠ Ent.logHead) (hl : k ≠ Ent.logLost)
    (ha : k ≠ Ent.alertStatus) : (s.alert b).ent k = s.ent k := (Crossing.alert s b).ent k hh hl ha hh

/-- Where no collective is in flight, none breaks with a port. -/
theorem State.abortOnPort_idle (h : ∀ n, (s.ctx n).colls = []) (p : Nat) : s.abortOnPort p = s := by
  have hfold : ∀ l : List Nat, l.foldl (fun s n => (s.ctx n).colls.foldl (fun s c =>
      if s.collUsesPort (s.ctxPart n) c.desc p then s.abortColl n c.gen 2 else s) s) s = s := by
    intro l
    induction l with
    | nil => rfl
    | cons n l ih => rw [List.foldl_cons, h n]; exact ih
  exact hfold _

/-! ### A port that goes down, or is miscabled (R312) -/

/-- A change of state is recorded and alerted: the port, the collectives and PORT_ENABLE stay. -/
theorem State.recorded_port (s : State) (code : Nat) (args : List Nat) : Reports s ((s.log code args).alert 1) ∧
    ((s.log code args).alert 1).entBit Ent.alertStatus 1 = true ∧
      ∀ q < 6, ((s.log code args).alert 1).ent (Ent.portEnable q) = s.ent (Ent.portEnable q) := by
  refine ⟨(Reports.log _ _ _).trans (Reports.alert _ _), State.entBit_alert _ _, fun q hq => ?_⟩
  rw [State.ent_alert, State.log, State.ent_logRec]
  all_goals simp only [Ent.portEnable, Ent.logHead, Ent.logLost, Ent.alertStatus]; omega

/-- The state in which a port that goes down has been disabled. -/
def State.disabledPort (s : State) (p : Nat) : State :=
  (s.modPort p fun x => { x with state := 6 }).setEnt (Ent.portEnable p) 0

theorem State.port_disabledPort (s : State) (p : Nat) : (s.disabledPort p).port p = { s.port p with state := 6 } :=
  State.port_setPort s p _

theorem State.downPort_idle (hc : ∀ n, (((s.disabledPort p).failPort p).ctx n).colls = []) (cause : Nat) :
    s.downPort p cause = (((s.disabledPort p).failPort p).log Code.portState [p, 6, cause]).alert 1 := by
  refine State.abortOnPort_idle (fun n => ?_) p
  rw [(((Reports.log _ _ _).trans (Reports.alert _ _))).ctx]
  exact hc n

/-- A port goes DOWN with PORT_ENABLE cleared and ALERT_N asked for, where what it holds is lost without harm to
collectives (R312, R313). -/
theorem State.downPort_spec (hp : p < 6) (hc : ∀ n, (s.ctx n).colls = [])
    (hm : ∀ m ∈ (s.port p).held, m.kind = Kind.token ∨ m.kind = Kind.norm) (cause : Nat) :
    ((s.downPort p cause).port p).state = 6 ∧ (s.downPort p cause).ent (Ent.portEnable p) = 0 ∧
      (s.downPort p cause).entBit Ent.alertStatus 1 = true := by
  have hport := s.port_disabledPort p
  have hlost : Loses p ((s.disabledPort p).setPort p ((s.disabledPort p).port p).cleared)
      ((s.disabledPort p).failPort p) := by
    refine Loses.foldl _ (fun m h => hm m (by rw [hport] at h; exact h)) ?_
    rw [State.port_setPort, hport]
    exact ⟨rfl, (by decide : 6 ≠ 2)⟩
  obtain ⟨hr, halert, henable⟩ := ((s.disabledPort p).failPort p).recorded_port Code.portState [p, 6, cause]
  rw [State.downPort_idle (fun n => (hlost.colls n).trans (hc n))]
  refine ⟨?_, ?_, halert⟩
  · rw [hr.port, hlost.port, State.port_setPort, hport]
    rfl
  · have hreport : ¬ LinkReport (Ent.portEnable p) := by
      simp only [LinkReport, Ent.portEnable, Ent.logHead, Ent.logLost, Ent.portState, Ent.linkDrop]
      omega
    rw [henable p hp, hlost.ent _ hreport, State.setPort, State.ent_setEnt_ne]
    · exact State.ent_setEnt _ _ _
    · simp only [Ent.portEnable, Ent.portState]
      omega

/-- A port that holds nothing goes down alone. -/
theorem State.downPort_others (hc : ∀ n, (s.ctx n).colls = []) (hm : (s.port p).held = []) (cause : Nat) (h : q ≠ p) :
    (s.downPort p cause).port q = s.port q := by
  have hheld : ((s.disabledPort p).port p).held = [] := by rw [State.port_disabledPort]; exact hm
  have hfail : (s.disabledPort p).failPort p = (s.disabledPort p).setPort p ((s.disabledPort p).port p).cleared := by
    rw [State.failPort_eq, hheld]
    rfl
  rw [State.downPort_idle (by rw [hfail]; exact hc), hfail,
    ((Reports.log _ _ _).trans (Reports.alert _ _)).port, State.port_setPort_ne _ _ h]
  exact State.port_setPort_ne _ _ h

theorem State.miscablePort_spec (hm : (s.port p).held = []) :
    ((s.miscablePort p).port p).state = 5 ∧ (s.miscablePort p).entBit Ent.alertStatus 1 = true := by
  let s1 := s.modPort p fun x => { x with state := 5 }
  have hport : s1.port p = { s.port p with state := 5 } := State.port_setPort s p _
  have hfail : s1.failPort p = s1.setPort p (s1.port p).cleared := by
    have hheld : (s1.port p).held = [] := by rw [hport]; exact hm
    rw [State.failPort_eq, hheld]
    rfl
  obtain ⟨hr, halert, -⟩ := (s1.failPort p).recorded_port Code.portState [p, 5, 0]
  refine ⟨?_, halert⟩
  change (((s1.failPort p).log Code.portState [p, 5, 0]).alert 1 |>.port p).state = 5
  rw [hr.port, hfail, State.port_setPort, hport]
  rfl

end Sys2Proof.Machine
end
section
/-!
PROOF. Ports come up and go down (R307 to R313).
-/

namespace Sys2Proof.Machine

open Sys2Proof

variable {s t : State} {p : Fin 6}

/-! ### Training and the partner's coordinate (R312, R475) -/

/-- The flit in which a port that has trained reports its coordinate. -/
def State.coordFlit (s : State) (p : Nat) : TxFlit :=
  { seq := 0, kind := 3, vc := 0, id := (s.port p).nextId, msg := none,
    payload := leBytes 2 (s.ent Ent.pkgCoord) ++ List.replicate 238 0#8 }

theorem State.coordFlit_payload (s : State) (p : Nat) : (s.coordFlit p).payload.length = 240 := by
  rw [State.coordFlit, List.length_append, Laws.RequestsAndWords.leBytes_length, List.length_replicate]

/-- A port that has reported its coordinate. -/
def State.reported (s : State) (p : Nat) : Port :=
  { Port.returned { s.port p with
      txSeq := ((s.port p).txSeq + 1) % 65536, replay := (s.port p).replay ++ [s.coordFlit p] } with
    rxSeq := 1, nextId := (s.port p).nextId + 1 }

/-- One control flit leaves, with the coordinate in the first two bytes of its payload. -/
theorem State.reportCoord_spec (s : State) (p : Nat) : (s.reportCoord p).port p = s.reported p ∧
    ∃ b, SendsFlits p s (s.reportCoord p) [b] ∧ flitOk b = true ∧ bitsAt (fieldAt b 0 8) 36 3 = 3 ∧
      fieldAt b 8 2 = s.ent Ent.pkgCoord % 65536 := by
  have hflit := (s.port p).flit_spec 0 (kind := 3) (vc := 0) (by decide) (by decide) (s.coordFlit_payload p)
  obtain ⟨hok, hpay, -, -, hkind⟩ := hflit
  have hport : (s.reportCoord p).port p = s.reported p := by
    change ((s.sendSequenced p (s.coordFlit p)).modPort p fun x => { x with rxSeq := 1, nextId := x.nextId + 1 }).port p = _
    rw [State.modPort, State.port_setPort, State.port_sendSequenced]
    rfl
  refine ⟨hport, _, (SendsFlits.sendSequenced s (s.coordFlit p)).trans (SendsFlits.setPort _ _), hok, hkind, ?_⟩
  have htake : ∀ l : List Byte, (l.drop 8).take 2 = ((l.drop 8).take 240).take 2 := fun l => by
    rw [List.take_take]
    rfl
  have hcoord : leNat (leBytes 2 (s.ent Ent.pkgCoord)) = s.ent Ent.pkgCoord % 65536 := by
    simp only [leBytes, List.range_eq_range', List.range', List.map, leNat, BitVec.toNat_ofNat]
    omega
  rw [fieldAt, htake]
  change leNat ((((s.port p).flit 3 0 0 (s.coordFlit p).payload).drop 8).take 240 |>.take 2) = _
  rw [hpay, State.coordFlit, List.take_left' (Laws.RequestsAndWords.leBytes_length _ _), hcoord]

/-- A port that carries traffic is UP where no lane of it is dropped. -/
theorem Port.linked_up_iff (x : Port) : x.linked.state = 3 ↔ x.linked.txDrop = 0#16 ∧ x.linked.rxDrop = 0#16 := by
  have hwhole : (decide (x.txDrop = 0#16) && decide (x.rxDrop = 0#16)) = true ↔ x.txDrop = 0#16 ∧ x.rxDrop = 0#16 := by
    rw [Bool.and_eq_true, decide_eq_true_iff, decide_eq_true_iff]
  by_cases h : x.txDrop = 0#16 ∧ x.rxDrop = 0#16
  · exact iff_of_true (if_pos (hwhole.2 h)) h
  · have hstate : x.linked.state = 4 := if_neg (mt hwhole.1 h)
    exact iff_of_false (by rw [hstate]; decide) h

/-- A port at the end of its training: as it starts, with what is queued (R313). -/
def Port.fresh (x : Port) : Port := { Port.init with state := 2, queue := x.queue, nextId := x.nextId }

/-- The state in which the partner's coordinate has been noted and the own one sent. -/
def State.introduced (s : State) (p : Nat) (coord : BitVec 16) : State :=
  ((s.setPort p (s.port p).fresh).setEnt (Ent.portPartner p) coord.toNat).reportCoord p

theorem exec_portUp (h : (s.port p).state = 2) (coord : BitVec 16) (authentic : Bool) :
    exec (.portUp p coord authentic) s = .next (
      if authentic = false then (s.setPort p (s.port p).fresh).downPort p 1
      else if bitsAt coord.toNat 0 11 ≠ s.neighbour p then (s.introduced p coord).miscablePort p
      else ((s.introduced p coord).modPort p Port.linked).sendQueued p ((s.introduced p coord).port p).waiting) := by
  change execPortUp p coord authentic s = _
  rw [execPortUp, if_neg (not_not.2 h)]
  cases authentic <;> rfl

/-- A port that has been introduced: nothing waits behind it, and what it has sent is part of no message. -/
theorem State.introduced_spec (hq : (s.port p).queue = []) (coord : BitVec 16) :
    let x := (s.introduced p coord).port p
    x.queue = [] ∧ x.held = [] ∧ x.txDrop = 0#16 ∧ x.rxDrop = 0#16 ∧ x.txSeq = 1 ∧ x.rxSeq = 1 ∧ x.credits = [] ∧
      (∀ q, q ≠ p.val → (s.introduced p coord).port q = s.port q) ∧
      (s.introduced p coord).ent (Ent.portPartner p) = coord.toNat ∧
      ∃ b, (s.introduced p coord).out = s.out ++ [Out.flit p b] ∧ flitOk b = true ∧ bitsAt (fieldAt b 0 8) 36 3 = 3 ∧
        fieldAt b 8 2 = s.ent Ent.pkgCoord % 65536 := by
  intro x
  let s1 := (s.setPort p (s.port p).fresh).setEnt (Ent.portPartner p) coord.toNat
  have hport : s1.port p = (s.port p).fresh := State.port_setPort s p _
  obtain ⟨hx, b, hsent, hok, hkind, hcoord⟩ := s1.reportCoord_spec p
  have hx' : x = s1.reported p := hx
  have hpkg : s1.ent Ent.pkgCoord = s.ent Ent.pkgCoord := by
    rw [State.ent_setEnt_ne, State.setPort, State.ent_setEnt_ne]
    · rfl
    all_goals simp only [Ent.pkgCoord, Ent.portState, Ent.portPartner]; omega
  have hreplay : x.replay = [s1.coordFlit p] := by rw [hx', State.reported, hport]; rfl
  have hqueue : x.queue = [] := by
    rw [hx', State.reported, hport]
    exact hq
  refine ⟨hqueue, Port.held_eq_nil hqueue fun f hf => ?_, ?_, ?_, ?_, ?_, ?_, fun q h => ?_, ?_, b, hsent.out, hok, hkind,
    hcoord.trans (by rw [hpkg])⟩
  · rw [hreplay] at hf
    rw [List.mem_singleton.1 hf]
    rfl
  · rw [hx', State.reported, hport]; rfl
  · rw [hx', State.reported, hport]; rfl
  · rw [hx', State.reported, hport]; rfl
  · rw [hx', State.reported, hport]
  · rw [hx', State.reported, hport]; rfl
  · exact (hsent.others q h).trans (State.port_setPort_ne s _ h)
  · refine (hsent.ent _ ?_).trans (State.ent_setEnt _ _ _)
    simp only [Ent.portPartner, Ent.portState]
    omega

theorem exec_portUp_links (h : (s.port p).state = 2) (hq : (s.port p).queue = []) {coord : BitVec 16}
    (hn : bitsAt coord.toNat 0 11 = s.neighbour p) : ∃ t b, exec (.portUp p coord true) s = .next t ∧
      (∀ q, q ≠ p.val → t.port q = s.port q) ∧ t.ent (Ent.portPartner p) = coord.toNat ∧ (t.port p).state = 3 ∧
      (t.port p).queue = [] ∧ (t.port p).txDrop = 0#16 ∧ (t.port p).rxDrop = 0#16 ∧ (t.port p).txSeq = 1 ∧
      (t.port p).rxSeq = 1 ∧ (t.port p).credits = [] ∧ t.out = s.out ++ [Out.flit p b] ∧ flitOk b = true ∧
      bitsAt (fieldAt b 0 8) 36 3 = 3 ∧ fieldAt b 8 2 = s.ent Ent.pkgCoord % 65536 := by
  have hintro := State.introduced_spec hq coord
  have hexec := exec_portUp h coord true
  dsimp only at hintro
  generalize s.introduced p coord = u at hintro hexec
  obtain ⟨hqueue, -, htx, hrx, htxSeq, hrxSeq, hcredits, hothers, hpartner, b, hout, hflit⟩ := hintro
  have hwaiting : (u.port p).waiting = 0 := by rw [Port.waiting, hqueue]; rfl
  have hport : (u.modPort p Port.linked).port p = (u.port p).linked := State.port_setPort u p _
  have hlinked : (u.port p).linked.state = 3 := by rw [Port.linked_up_iff]; exact ⟨htx, hrx⟩
  rw [if_neg (by decide), if_neg (not_not.2 hn), hwaiting] at hexec
  refine ⟨u.modPort p Port.linked, b, hexec, fun q hne => (State.port_setPort_ne u _ hne).trans (hothers q hne), ?_, ?_⟩
  · rw [State.modPort, State.setPort, State.ent_setEnt_ne]
    · exact hpartner
    · simp only [Ent.portPartner, Ent.portState]
      omega
  · rw [hport]
    exact ⟨hlinked, hqueue, htx, hrx, htxSeq, hrxSeq, hcredits, hout, hflit⟩

theorem exec_portUp_miscables (h : (s.port p).state = 2) (hq : (s.port p).queue = []) {coord : BitVec 16}
    (hn : bitsAt coord.toNat 0 11 ≠ s.neighbour p) : ∃ t, exec (.portUp p coord true) s = .next t ∧
      (t.port p).state = 5 ∧ t.entBit Ent.alertStatus 1 = true := by
  obtain ⟨-, hheld, -⟩ := State.introduced_spec hq coord
  have hexec := exec_portUp h coord true
  rw [if_neg (by decide), if_pos hn] at hexec
  exact ⟨_, hexec, State.miscablePort_spec hheld⟩

/-! ### Lanes (R310, R311) -/

theorem row_laneDrops (p : Fin 6) : (Catalog.row (Ent.laneDrops p)).map (·.size) = some 4 := by
  revert p
  decide +kernel

/-- The lanes that a direction of a port has dropped. -/
def Port.drops (x : Port) (tx : Bool) : BitVec 16 := if tx then x.txDrop else x.rxDrop

/-- The mask of one lane. -/
def laneBit (lane : Fin 16) : BitVec 16 := BitVec.ofNat 16 (2 ^ lane.val)

theorem laneBit_getLsbD (lane : Fin 16) : (laneBit lane).getLsbD lane = true := by
  rw [laneBit, BitVec.getLsbD_ofNat, Nat.testBit_two_pow_self]
  simp

/-- A port that drops a lane. -/
def Port.dropLane (x : Port) (tx : Bool) (lane : Fin 16) : Port :=
  { x with
    txDrop := if tx then x.txDrop ||| laneBit lane else x.txDrop
    rxDrop := if tx then x.rxDrop else x.rxDrop ||| laneBit lane
    check := x.check.filter fun c => c != (tx, lane.val) }

theorem Port.drops_dropLane (x : Port) (tx : Bool) (lane : Fin 16) :
    (x.dropLane tx lane).drops tx = x.drops tx ||| laneBit lane ∧ (x.dropLane tx lane).drops (!tx) = x.drops (!tx) := by
  cases tx <;> exact ⟨rfl, rfl⟩

/-- A port is DEGRADED while a lane of it is dropped. -/
theorem Port.linked_state {x : Port} {tx : Bool} {lane : Fin 16} (h : (x.drops tx).getLsbD lane = true) :
    x.linked.state = 4 := by
  have hne : x.drops tx ≠ 0#16 := fun h0 => by
    rw [h0] at h
    simp at h
  refine if_neg fun hz => ?_
  rw [Bool.and_eq_true, decide_eq_true_iff, decide_eq_true_iff] at hz
  cases tx
  · exact hne hz.2
  · exact hne hz.1

/-- The state in which a lane has been dropped, counted and recorded. -/
def State.laneDropped (s : State) (p : Fin 6) (tx : Bool) (lane : Fin 16) : State :=
  ((s.setPort p ((s.port p).dropLane tx lane).linked).bump (Ent.laneDrops p)).log Code.laneDrop [p, b2n tx, lane]

theorem exec_laneDrop {tx : Bool} {lane : Fin 16} (hup : (s.port p).up = true)
    (hl : ((s.port p).drops tx).getLsbD lane = false) : exec (.laneDrop p tx lane) s = .next (
      if lanesLeft ((s.port p).drops tx ||| laneBit lane) < 8 ∨ lanesLeft ((s.port p).drops (!tx)) < 8 then
        (s.laneDropped p tx lane).downPort p 0
      else s.laneDropped p tx lane) := by
  have hcond : (!(s.port p).up || ((s.port p).drops tx).getLsbD lane) = false := by rw [hup, hl]; rfl
  have hfew : (Nat.blt (lanesLeft ((s.port p).dropLane tx lane).txDrop) 8 ||
      Nat.blt (lanesLeft ((s.port p).dropLane tx lane).rxDrop) 8) = true ↔
      lanesLeft ((s.port p).drops tx ||| laneBit lane) < 8 ∨ lanesLeft ((s.port p).drops (!tx)) < 8 := by
    rw [Bool.or_eq_true, Nat.blt_eq, Nat.blt_eq]
    cases tx
    · exact or_comm
    · exact Iff.rfl
  change Host.Outcome.next (if !(s.port p).up || ((s.port p).drops tx).getLsbD lane then s else
    if Nat.blt (lanesLeft ((s.port p).dropLane tx lane).txDrop) 8 ||
      Nat.blt (lanesLeft ((s.port p).dropLane tx lane).rxDrop) 8 then (s.laneDropped p tx lane).downPort p 0
    else s.laneDropped p tx lane) = _
  rw [hcond, if_neg Bool.false_ne_true]
  exact congrArg Host.Outcome.next (if_congr hfew rfl rfl)

theorem State.laneDropped_spec (s : State) (p : Fin 6) (tx : Bool) (lane : Fin 16) :
    (∀ q, (s.laneDropped p tx lane).port q = (s.setPort p ((s.port p).dropLane tx lane).linked).port q) ∧
      (∀ n, (s.laneDropped p tx lane).ctx n = s.ctx n) ∧
      (s.ent (Ent.laneDrops p) < 2 ^ 32 - 1 →
        (s.laneDropped p tx lane).ent (Ent.laneDrops p) = s.ent (Ent.laneDrops p) + 1) := by
  have hr := (Reports.bump (s.setPort p ((s.port p).dropLane tx lane).linked) (Ent.laneDrops p)).trans
    (Reports.log _ Code.laneDrop [p, b2n tx, lane])
  have hcount : (s.setPort p ((s.port p).dropLane tx lane).linked).ent (Ent.laneDrops p) = s.ent (Ent.laneDrops p) := by
    refine State.ent_setEnt_ne _ _ ?_
    simp only [Ent.laneDrops, Ent.portState]
    omega
  refine ⟨hr.port, hr.ctx, fun h => ?_⟩
  rw [← hcount] at h ⊢
  rw [State.laneDropped, State.log, State.ent_logRec, State.ent_bump_of_lt (row_laneDrops p) h]
  all_goals simp only [Ent.laneDrops, Ent.logHead, Ent.logLost]; omega

/-- A port in a retrain window: its dropped lanes enter error checking (R311). -/
def Port.checked (x : Port) : Port :=
  if x.up then { x with
    check := ((setBits x.txDrop.toNat 16).map fun l => (true, l)) ++ (setBits x.rxDrop.toNat 16).map fun l => (false, l) }
  else x

theorem Port.checked_checked (x : Port) : x.checked.checked = x.checked := by
  by_cases h : x.up = true
  · have h' : x.checked.up = true := by rw [Port.checked, if_pos h]; exact h
    rw [Port.checked, if_pos h', Port.checked, if_pos h]
  · have h0 : x.checked = x := if_neg h
    rw [h0, h0]

/-- One port's part of a retrain window. -/
def State.checkLanes (s : State) (p : Nat) : State := if (s.port p).up then s.setPort p (s.port p).checked else s

theorem State.checkLanes_port (s : State) (p q : Nat) :
    (s.checkLanes p).port q = if q = p then (s.port q).checked else s.port q := by
  unfold State.checkLanes
  split_ifs with hup hq hq
  · subst hq
    exact State.port_setPort s q _
  · exact State.port_setPort_ne s _ hq
  · subst hq
    rw [Port.checked, if_neg hup]
  · rfl

theorem exec_retrainWindow (s : State) : exec .retrainWindow s = .next ((List.range 6).foldl State.checkLanes s) := by
  refine congrArg Host.Outcome.next (congrArg (fun f => (List.range 6).foldl f s) ?_)
  funext s p
  refine ite_congr rfl (fun h => ?_) fun _ => rfl
  rw [Port.checked, if_pos h]

theorem State.foldl_checkLanes (l : List Nat) (s : State) : (l.foldl State.checkLanes s).mem = s.mem ∧
    (l.foldl State.checkLanes s).cores = s.cores ∧
      ∀ q, (l.foldl State.checkLanes s).port q = if q ∈ l then (s.port q).checked else s.port q := by
  induction l generalizing s with
  | nil => exact ⟨rfl, rfl, fun q => (if_neg List.not_mem_nil).symm⟩
  | cons p l ih =>
    obtain ⟨hmem, hcores, hport⟩ := ih (s.checkLanes p)
    have hstep : (s.checkLanes p).mem = s.mem ∧ (s.checkLanes p).cores = s.cores := by
      unfold State.checkLanes
      split <;> exact ⟨rfl, rfl⟩
    refine ⟨hmem.trans hstep.1, hcores.trans hstep.2, fun q => ?_⟩
    rw [List.foldl_cons, hport, State.checkLanes_port]
    by_cases hp : q = p
    · simp [hp, Port.checked_checked]
    · simp [hp]

/-- A port whose lane has left error checking. -/
def Port.readd (x : Port) (tx : Bool) (lane : Fin 16) (passed : Bool) : Port :=
  { x with
    check := x.check.filter fun c => c != (tx, lane.val)
    txDrop := if passed && tx then x.txDrop &&& ~~~ laneBit lane else x.txDrop
    rxDrop := if passed && !tx then x.rxDrop &&& ~~~ laneBit lane else x.rxDrop }

theorem exec_laneReadd {tx ok : Bool} {lane : Fin 16} (hup : (s.port p).up = true)
    (hc : (s.port p).check.contains (tx, lane.val) = true) :
    exec (.laneReadd p tx lane ok) s = .next (s.setPort p ((s.port p).readd tx lane ok).linked) := by
  change execLaneReadd p tx lane ok s = _
  rw [execLaneReadd, if_pos (by rw [hup, hc]; rfl)]
  cases ok <;> cases tx <;> rfl

theorem Port.readd_spec (x : Port) (tx : Bool) (lane : Fin 16) (ok : Bool) :
    (x.readd tx lane ok).check.contains (tx, lane.val) = false ∧
      (ok = true → ((x.readd tx lane ok).drops tx).getLsbD lane = false) ∧
      (ok = false → (x.readd tx lane ok).txDrop = x.txDrop ∧ (x.readd tx lane ok).rxDrop = x.rxDrop) := by
  have hclear : ∀ v : BitVec 16, (v &&& ~~~ laneBit lane).getLsbD lane = false := fun v => by
    rw [BitVec.getLsbD_and, BitVec.getLsbD_not, laneBit_getLsbD]
    simp
  refine ⟨by simp [Port.readd], fun h => ?_, fun h => by rw [h]; exact ⟨rfl, rfl⟩⟩
  rw [h]
  cases tx <;> exact hclear _

/-! ### The obligation -/

/-- Settles O41: a port comes up with an authentic partner in its place, and goes down or is miscabled without one; its
lanes leave and come back one by one. -/
theorem portsComeUpAndGoDown : Obligations.PortsComeUpAndGoDown := by
  unfold Obligations.PortsComeUpAndGoDown
  intro p coord tx ok lane s x bit quiet down dropped left other others
  have hheld : quiet → x.held = [] := fun h => Port.held_eq_nil h.1 fun f hf => by
    rw [h.2.1] at hf
    exact absurd hf List.not_mem_nil
  have hdown : ∀ {u : State} (cause : Nat), (∀ n, u.ctx n = s.ctx n) → (u.port p).held = [] → quiet →
      down (u.downPort p cause) := fun {u} cause hctx hnone hquiet =>
    State.downPort_spec p.isLt (fun n => by rw [hctx]; exact hquiet.2.2 n)
      (fun m hm => absurd hm (by rw [hnone]; exact List.not_mem_nil)) cause
  have hother : other = lanesLeft (x.drops (!tx)) := by cases tx <;> rfl
  refine ⟨fun hrun hen hst => ?training, fun hst hq hn => exec_portUp_links hst hq hn,
    fun hst hq hn => exec_portUp_miscables hst hq hn, fun hst hquiet => ?fails, fun hup hquiet => ?down,
    fun hup hlane hleft hright hcount => ?degrades, fun hup hquiet hlane hleft => ?narrows, ?window,
    fun hup hcheck => ?readd⟩
  case training =>
    have hcond : (s.linksRun && s.ent (Ent.portEnable p) == 1 && (s.port p).state == 1) = true := by
      rw [hrun, hen, hst]
      rfl
    refine ⟨_, congrArg Host.Outcome.next (if_pos hcond), State.port_setPort s p _,
      fun q h => State.port_setPort_ne s _ h, ?_⟩
    rw [State.modPort, State.setPort, State.ent_setEnt]
    rfl
  case fails =>
    have hexec := exec_portUp hst coord false
    rw [if_pos rfl] at hexec
    refine ⟨_, hexec, hdown 1 (fun _ => rfl) ?_ hquiet⟩
    rw [State.port_setPort]
    exact Port.held_eq_nil hquiet.1 fun f hf => absurd hf List.not_mem_nil
  case down =>
    exact ⟨_, congrArg Host.Outcome.next (if_pos hup), hdown 0 (fun _ => rfl) (hheld hquiet) hquiet,
      fun q h => State.downPort_others hquiet.2.2 (hheld hquiet) 0 h⟩
  case degrades =>
    obtain ⟨hport, -, hdrops⟩ := s.laneDropped_spec p tx lane
    have hwide : ¬ (lanesLeft (x.drops tx ||| laneBit lane) < 8 ∨ lanesLeft (x.drops (!tx)) < 8) :=
      not_or.2 ⟨Nat.not_lt.2 hleft, Nat.not_lt.2 (by rw [← hother]; exact hright)⟩
    have hexec := (exec_laneDrop hup hlane).trans (congrArg _ (if_neg hwide))
    have hself : (s.laneDropped p tx lane).port p = (x.dropLane tx lane).linked := by rw [hport, State.port_setPort]
    have hbit : ((x.dropLane tx lane).drops tx).getLsbD lane = true := by
      rw [(x.drops_dropLane tx lane).1, BitVec.getLsbD_or, laneBit_getLsbD, Bool.or_true]
    refine ⟨_, hexec, ?_, ?_, hdrops hcount, ?_, fun q h => (hport q).trans (State.port_setPort_ne s _ h)⟩
    · rw [hself]
      exact Port.linked_state hbit
    · change (((s.laneDropped p tx lane).port p).drops tx).getLsbD lane = true
      rw [hself]
      exact hbit
    · rw [hself]
      rfl
  case narrows =>
    obtain ⟨hport, hctx, -⟩ := s.laneDropped_spec p tx lane
    have hnarrow : lanesLeft (x.drops tx ||| laneBit lane) < 8 ∨ lanesLeft (x.drops (!tx)) < 8 := .inl hleft
    have hexec := (exec_laneDrop hup hlane).trans (congrArg _ (if_pos hnarrow))
    refine ⟨_, hexec, hdown 0 hctx ?_ hquiet⟩
    rw [hport, State.port_setPort]
    exact hheld hquiet
  case window =>
    obtain ⟨hmem, hcores, hport⟩ := State.foldl_checkLanes (List.range 6) s
    have hself := (hport p).trans (if_pos (List.mem_range.2 p.isLt))
    refine ⟨_, exec_retrainWindow s, hmem, hcores, fun hup => ?_, fun hdown => ?_⟩
    · rw [hself, Port.checked, if_pos hup]
    · rw [hself, Port.checked, if_neg (by rw [hdown]; exact Bool.false_ne_true)]
  case readd =>
    obtain ⟨hcheck', hpass, hfail⟩ := x.readd_spec tx lane ok
    have hself : (s.setPort p (x.readd tx lane ok).linked).port p = (x.readd tx lane ok).linked := State.port_setPort s p _
    refine ⟨_, exec_laneReadd hup hcheck, ?_, fun q h => State.port_setPort_ne s _ h, fun h => ?_, fun h => ?_, ?_⟩
    · rw [hself]
      exact hcheck'
    · change (((s.setPort p (x.readd tx lane ok).linked).port p).drops tx).getLsbD lane = false
      rw [hself]
      exact hpass h
    · rw [hself]
      exact hfail h
    · rw [hself]
      exact Port.linked_up_iff _

end Sys2Proof.Machine
end
section
/-!
SUPPORT. Messages that complete at their source (R320).
-/

namespace Sys2Proof.Machine

open Sys2Proof

variable {s t : State} {e : Sent} {n : Nat}

theorem row_linkDrop (n : Fin 64) : (Catalog.row (Ent.linkDrop n)).map (·.size) = some 4 := by
  revert n
  decide +kernel

/-- A status other than OK is counted in LINK_DROP, and links, cores and sync words stay. -/
theorem State.linkDrop_spec (hn : n < 64) (h : s.ent (Ent.linkDrop n) < 2 ^ 32 - 1) (peer status : Nat) :
    (s.linkDrop n peer status).ent (Ent.linkDrop n) = s.ent (Ent.linkDrop n) + 1 ∧
      (s.linkDrop n peer status).links = s.links ∧ (s.linkDrop n peer status).cores = s.cores := by
  have hcount := State.ent_bump_of_lt (row_linkDrop ⟨n, hn⟩) h
  unfold State.linkDrop
  dsimp only
  split
  · exact ⟨hcount, rfl, rfl⟩
  · have hr := Reports.logCtx ((s.bump (Ent.linkDrop n)).modCtx n fun c => { c with first := c.first ||| 8#4 })
      Code.linkDrop n [peer, status]
    refine ⟨(State.ent_logCtx _ _ _ _ ?_ ?_).trans hcount, hr.links, hr.cores⟩
    all_goals simp only [Ent.linkDrop, Ent.logHead, Ent.logLost]; omega

/-- Words dropped at their destination are counted elsewhere than in LINK_DROP. -/
theorem State.winDropTx_others (hn : n < 64) (words : Nat) (args : List Nat) (recorded : Bool) :
    (s.winDropTx n words args recorded).ent (Ent.linkDrop n) = s.ent (Ent.linkDrop n) ∧
      (s.winDropTx n words args recorded).links = s.links ∧ (s.winDropTx n words args recorded).cores = s.cores := by
  have hcount : (s.bumpBy (Ent.winDropTx n) words).ent (Ent.linkDrop n) = s.ent (Ent.linkDrop n) := by
    refine State.ent_bumpBy_ne _ _ ?_
    simp only [Ent.linkDrop, Ent.winDropTx]
    omega
  unfold State.winDropTx
  dsimp only
  split
  · exact ⟨hcount, rfl, rfl⟩
  · split
    · exact ⟨hcount, rfl, rfl⟩
    · have hr := Reports.logCtx ((s.bumpBy (Ent.winDropTx n) words).modCtx n fun c => { c with first := c.first ||| 2#4 })
        Code.windowDrop n args
      refine ⟨(State.ent_logCtx _ _ _ _ ?_ ?_).trans hcount, hr.links, hr.cores⟩
      all_goals simp only [Ent.linkDrop, Ent.logHead, Ent.logLost]; omega

/-- A message whose status has come is no longer waited for, and its core has one SEND less out where it was one. -/
def State.answered (s : State) (e : Sent) : State :=
  let s1 := { s with links := { s.links with sent := s.links.sent.filter fun x => x != e } }
  if e.send && s.tagOk e.ctx e.tag then
    s1.modCore e.core fun c => { c with disp := { c.disp with sends := c.disp.sends - 1 } }
  else s1

theorem State.answered_spec (s : State) (e : Sent) :
    (s.answered e).links = { s.links with sent := s.links.sent.filter (· != e) } ∧
    (s.answered e).dict = s.dict ∧
      ((s.answered e).core e.core).disp.sends = (s.core e.core).disp.sends - b2n (e.send && s.tagOk e.ctx e.tag) := by
  unfold State.answered
  dsimp only
  split
  · next h =>
    rw [h, State.core_modCore]
    exact ⟨rfl, rfl, rfl⟩
  · next h =>
    rw [Bool.eq_false_of_not_eq_true h]
    exact ⟨rfl, rfl, rfl⟩

/-- A message whose status has come, with one other than OK counted. -/
def State.statusCounted (s : State) (e : Sent) (status : Nat) : State :=
  if status = Ack.ok then s.answered e else (s.answered e).linkDrop e.ctx e.peer status

theorem State.completeSent_eq (s : State) (e : Sent) (status words : Nat) : ∃ args, s.completeSent e status words =
    if status = Ack.dropped then (s.statusCounted e status).winDropTx e.ctx words args e.recorded
    else s.statusCounted e status := ⟨_, rfl⟩

theorem State.statusCounted_spec (hn : e.ctx < 64) (h : s.ent (Ent.linkDrop e.ctx) < 2 ^ 32 - 1) (status : Nat) :
    (s.statusCounted e status).ent (Ent.linkDrop e.ctx) = s.ent (Ent.linkDrop e.ctx) + b2n (status != 0) ∧
      (s.statusCounted e status).links = (s.answered e).links ∧ (s.statusCounted e status).cores = (s.answered e).cores := by
  obtain ⟨-, hdict, -⟩ := s.answered_spec e
  have hent := State.ent_congr hdict (Ent.linkDrop e.ctx)
  unfold State.statusCounted
  split
  · next hs =>
    rw [bne_eq_false_iff_eq.2 (show status = 0 from hs)]
    exact ⟨hent, rfl, rfl⟩
  · next hs =>
    rw [bne_iff_ne.2 (show status ≠ 0 from hs)]
    rw [← hent] at h ⊢
    exact State.linkDrop_spec hn h e.peer status

/-- A message that completes is no longer waited for; a status other than OK is counted. -/
theorem State.completeSent_spec (hn : e.ctx < 64) (h : s.ent (Ent.linkDrop e.ctx) < 2 ^ 32 - 1) (status words : Nat) :
    (s.completeSent e status words).links = { s.links with sent := s.links.sent.filter (· != e) } ∧
      (s.completeSent e status words).ent (Ent.linkDrop e.ctx) = s.ent (Ent.linkDrop e.ctx) + b2n (status != 0) ∧
      ((s.completeSent e status words).core e.core).disp.sends =
        (s.core e.core).disp.sends - b2n (e.send && s.tagOk e.ctx e.tag) := by
  obtain ⟨hlinks, -, hsends⟩ := s.answered_spec e
  obtain ⟨hcount, hclinks, hccores⟩ := State.statusCounted_spec hn h status
  have hcore : ∀ {t : State}, t.cores = (s.statusCounted e status).cores → (t.core e.core).disp.sends =
      (s.core e.core).disp.sends - b2n (e.send && s.tagOk e.ctx e.tag) := fun {t} ht => by
    rw [← hsends, State.core, ht, hccores, State.core]
  obtain ⟨args, heq⟩ := s.completeSent_eq e status words
  rw [heq]
  split
  · obtain ⟨hdrop, hdlinks, hdcores⟩ := State.winDropTx_others (s := s.statusCounted e status) hn words args e.recorded
    exact ⟨hdlinks.trans (hclinks.trans hlinks), hdrop.trans hcount, hcore hdcores⟩
  · exact ⟨hclinks.trans hlinks, hcount, hcore rfl⟩

theorem not_mem_completed (l : List Sent) (e : Sent) : e ∉ l.filter (· != e) := fun h => by
  simpa using List.of_mem_filter h

end Sys2Proof.Machine
end
section
/-!
PROOF. Flits, replays and retrains (R307 to R309, R313, R383).
-/

namespace Sys2Proof.Machine

open Sys2Proof

variable {s t : State} {p : Fin 6} {x : Port} {flit : List Byte}

/-! ### What arrives (R307, R308) -/

/-- A port that asks for a replay: it discards what comes until the SEQ expected next. -/
def Port.asking (x : Port) : Port := Port.returned { x with discard := true, askRun := x.askRun + 1 }

/-- Below the eighth request in succession, one flit asks for the SEQ expected next. -/
theorem State.askReplay_spec {p : Nat} (h : (s.port p).askRun < 7) : (s.askReplay p).port p = (s.port p).asking ∧
    ∃ b, SendsFlits p s (s.askReplay p) [b] ∧ AsksReplay b (s.port p).rxSeq := by
  let y : Port := { s.port p with discard := true, askRun := (s.port p).askRun + 1 }
  have hask : s.askReplay p = (s.setPort p y).sendBare p 2 (s.port p).rxSeq := by
    refine if_neg ?_
    rw [Nat.ble_eq]
    omega
  obtain ⟨hok, -, hseq, -, hkind⟩ := y.flit_spec (s.port p).rxSeq (kind := 2) (vc := 0) (by decide) (by decide)
    (List.length_replicate : (List.replicate 240 0#8).length = 240)
  have hsent := (SendsFlits.setPort (p := p) s y).trans
    (SendsFlits.sendFlit _ 2 (s.port p).rxSeq 0 (List.replicate 240 0#8))
  rw [State.port_setPort, List.nil_append] at hsent
  rw [hask]
  refine ⟨?_, _, hsent, hok, hkind, hseq⟩
  rw [State.sendBare, State.port_sendFlit, State.port_setPort]
  rfl

/-- A port after what a good flit returns: acknowledged flits leave the replay buffer, and credits come back. -/
def Port.paid (x : Port) (ack vc credits : Nat) : Port :=
  { x with
    replay := x.replay.filter fun f => seqBefore ack f.seq
    credits := SMap.set (fun _ => 1024) x.credits vc (Nat.min 1024 (x.credit vc + credits)) }

theorem State.flitReturns_empty {p : Nat} (h : (s.port p).queue = []) (ack vc credits : Nat) :
    s.flitReturns p ack vc credits = s.setPort p ((s.port p).paid ack vc credits) :=
  State.flushPort_empty (by rw [State.port_setPort]; exact h)

theorem exec_flitReceive_bad (hup : (s.port p).up = true) (hbad : flitOk flit = false) :
    exec (.flitReceive p flit) s = .next (s.askReplay p) := by
  change execFlitReceive p flit s = _
  rw [execFlitReceive, hup, hbad]
  rfl

/-- A good idle flit only returns credits and acknowledges. -/
theorem exec_flitReceive_idle (hup : (s.port p).up = true) (hok : flitOk flit = true)
    (hk : bitsAt (fieldAt flit 0 8) 36 3 = 1) : exec (.flitReceive p flit) s =
      .next (s.flitReturns p (bitsAt (fieldAt flit 0 8) 16 16) (bitsAt (fieldAt flit 0 8) 40 3)
        (bitsAt (fieldAt flit 0 8) 48 16)) := by
  change execFlitReceive p flit s = _
  simp only [execFlitReceive, hup, hok, hk]
  rfl

/-- A good data flit acknowledges, and is then taken or discarded. -/
theorem exec_flitReceive_data (hup : (s.port p).up = true) (hok : flitOk flit = true)
    (hk : bitsAt (fieldAt flit 0 8) 36 3 = 0) : ∃ credits, exec (.flitReceive p flit) s =
      .next ((s.flitReturns p (bitsAt (fieldAt flit 0 8) 16 16) (bitsAt (fieldAt flit 0 8) 40 3) credits).takeFlit p
        flit) := by
  change ∃ credits, execFlitReceive p flit s = _
  rw [execFlitReceive, hup, hok]
  dsimp only
  rw [hk]
  exact ⟨_, rfl⟩

theorem State.takeFlit_skips (h : bitsAt (fieldAt flit 0 8) 0 16 ≠ (s.port p).rxSeq) (hd : (s.port p).discard = false) :
    s.takeFlit p flit = s.askReplay p := by
  rw [State.takeFlit, if_pos h, hd]
  rfl

/-- A port that has accepted the next flit, and added its payload to the message that arrives. -/
def Port.gathers (x : Port) (vc : Nat) (b : List Byte) : Port :=
  { x with rxSeq := (x.rxSeq + 1) % 65536, discard := false, askRun := 0, rx := SMap.set (fun _ => []) x.rx vc b }

theorem State.takeFlit_gathers {part : List Byte} (hseq : bitsAt (fieldAt flit 0 8) 0 16 = (s.port p).rxSeq)
    (hk : bitsAt (fieldAt flit 0 8) 36 3 = 0) (hvc : bitsAt (fieldAt flit 0 8) 32 3 < 6)
    (hpart : SMap.get (fun _ => []) (s.port p).rx (bitsAt (fieldAt flit 0 8) 32 3) ++ (flit.drop 8).take 240 = part)
    (hshort : part.length < 32 + (decodeHeader part).2.length.toNat) :
    (s.takeFlit p flit).port p = (s.port p).gathers (bitsAt (fieldAt flit 0 8) 32 3) part ∧
      SendsFlits p s (s.takeFlit p flit) [] := by
  let y : Port := { s.port p with rxSeq := ((s.port p).rxSeq + 1) % 65536, discard := false, askRun := 0 }
  have hdata : (bitsAt (fieldAt flit 0 8) 36 3 = 0 && Nat.blt (bitsAt (fieldAt flit 0 8) 32 3) 6) = true := by
    rw [hk, Bool.and_eq_true, Nat.blt_eq]
    exact ⟨rfl, hvc⟩
  have hrx : SMap.get (fun _ => []) ((s.setPort p y).port p).rx (bitsAt (fieldAt flit 0 8) 32 3) ++
      (flit.drop 8).take 240 = part := by
    rw [State.port_setPort]
    exact hpart
  have htake : s.takeFlit p flit = (s.setPort p y).modPort p fun x =>
      { x with rx := SMap.set (fun _ => []) x.rx (bitsAt (fieldAt flit 0 8) 32 3) part } := by
    rw [State.takeFlit, if_neg (not_not.2 hseq)]
    dsimp only
    rw [if_pos hdata, State.gatherFlit, hrx, if_neg (by rw [Nat.ble_eq]; omega)]
  rw [htake]
  refine ⟨?_, (SendsFlits.setPort (p := p) s y).trans (SendsFlits.setPort _ _)⟩
  rw [State.modPort, State.port_setPort, State.port_setPort]
  rfl

/-! ### What is sent again (R308) -/

theorem row_linkReplays (p : Fin 6) : (Catalog.row (Ent.linkReplays p)).map (·.size) = some 4 := by
  revert p
  decide +kernel

/-- Flits of the replay buffer, sent again in order. -/
def State.sendAgain (s : State) (p : Nat) (l : List TxFlit) : State :=
  l.foldl (fun s f => s.sendFlit p f.kind f.seq f.vc f.payload) s

theorem State.resend_eq (s : State) (p seq : Nat) :
    s.resend p seq = s.sendAgain p ((s.port p).replay.filter fun f => !seqBefore f.seq seq) := rfl

theorem Port.returned_of_paid (h : x.owed = []) : x.returned = x := by
  cases x
  subst h
  rfl

/-- Flits sent again change what the port owes its partner, and nothing else of it. -/
theorem State.sendAgain_spec {p : Nat} (l : List TxFlit) : ∀ s : State,
    (∃ owed b, (s.sendAgain p l).port p = { s.port p with owed := owed } ∧ SendsFlits p s (s.sendAgain p l) b) ∧
      ((s.port p).owed = [] → (s.sendAgain p l).port p = s.port p ∧
        SendsFlits p s (s.sendAgain p l) (l.map fun f => (s.port p).flit f.kind f.seq f.vc f.payload)) := by
  induction l with
  | nil => exact fun s => ⟨⟨_, _, rfl, SendsFlits.refl s⟩, fun _ => ⟨rfl, SendsFlits.refl s⟩⟩
  | cons f l ih =>
    intro s
    have hfirst := SendsFlits.sendFlit (p := p) s f.kind f.seq f.vc f.payload
    obtain ⟨⟨owed, b, hport, hsent⟩, hpaid⟩ := ih (s.sendFlit p f.kind f.seq f.vc f.payload)
    rw [State.port_sendFlit] at hport hpaid
    refine ⟨⟨owed, _, hport, hfirst.trans hsent⟩, fun h => ?_⟩
    rw [Port.returned_of_paid h] at hpaid
    obtain ⟨hport', hsent'⟩ := hpaid h
    exact ⟨hport', hfirst.trans hsent'⟩

/-- A port that has counted a replay request. -/
def Port.requested (x : Port) (seq : Nat) : Port :=
  { x with reqSeq := seq, reqRun := if x.reqRun ≠ 0 ∧ x.reqSeq = seq then x.reqRun + 1 else 1 }

/-- The state in which a replay request has been counted. -/
def State.countedReplay (s : State) (p seq : Nat) : State :=
  (s.setPort p ((s.port p).requested seq)).bump (Ent.linkReplays p)

theorem State.countedReplay_spec (s : State) (p : Fin 6) (seq : Nat) :
    (s.countedReplay p seq).port p = (s.port p).requested seq ∧ (s.countedReplay p seq).out = s.out ∧
      (s.ent (Ent.linkReplays p) < 2 ^ 32 - 1 →
        (s.countedReplay p seq).ent (Ent.linkReplays p) = s.ent (Ent.linkReplays p) + 1) := by
  have hcount : (s.setPort p ((s.port p).requested seq)).ent (Ent.linkReplays p) = s.ent (Ent.linkReplays p) := by
    refine State.ent_setEnt_ne _ _ ?_
    simp only [Ent.linkReplays, Ent.portState]
    omega
  refine ⟨((Reports.bump _ _).port p).trans (State.port_setPort _ _ _), rfl, fun h => ?_⟩
  rw [← hcount] at h ⊢
  exact State.ent_bump_of_lt (row_linkReplays p) h

/-- A replay request is counted; the eighth in succession retrains the port, any other is answered (R308). -/
theorem State.replayFrom_eq (s : State) (p seq : Nat) : s.replayFrom p seq =
    if 8 ≤ ((s.port p).requested seq).reqRun then (s.countedReplay p seq).modPort p fun x => { x with retrain := true }
    else (s.countedReplay p seq).resend p seq := by
  have hrun : (if (s.port p).reqRun != 0 && (s.port p).reqSeq == seq then (s.port p).reqRun + 1 else 1) =
      ((s.port p).requested seq).reqRun :=
    if_congr (by rw [Bool.and_eq_true, bne_iff_ne, beq_iff_eq]) rfl rfl
  rw [State.replayFrom, hrun]
  exact if_congr (by rw [Nat.ble_eq]) rfl rfl

/-! ### Retraining and starved channels (R308, R383) -/

theorem exec_portRetrainComplete (hup : (s.port p).up = true) (hr : (s.port p).retrain = true) :
    exec (.portRetrainComplete p) s = .next (((s.setPort p { s.port p with
      retrain := false, reqRun := 0, askRun := 0 }).sendAgain p (s.port p).replay).flushPort p) := by
  change execPortRetrainComplete p s = _
  rw [execPortRetrainComplete, hup, hr]
  rfl

/-- The state in which a starved channel has been recorded, with the time of it. -/
def State.starvedAt (s : State) (p vc : Nat) : State :=
  let s1 := s.log Code.creditStarved [p, vc]
  { s1 with rel := { s1.rel with starved := SMap.set (fun _ => none) s.rel.starved p (some s.now) } }

/-- Whether a channel of a port starved within the 10 s before (R383). -/
def State.starvedBefore (s : State) (p : Nat) : Bool :=
  match SMap.get (fun _ => none) s.rel.starved p with
  | some t => Nat.ble s.now (t + 10000000000)
  | none => false

theorem exec_creditStarved {vc : Fin 6} (hup : (s.port p).up = true) (hr : (s.port p).retrain = false)
    (hm : ∃ m ∈ (s.port p).queue, m.vc = vc.val) (hc : (s.port p).credit vc = 0) :
    exec (.creditStarved p vc) s = .next (
      if s.starvedBefore p then (s.starvedAt p vc).downPort p 0
      else (s.starvedAt p vc).modPort p fun x => { x with retrain := true }) := by
  have hwaits : ((s.port p).queue.any (fun m => m.vc == vc.val) && (s.port p).credit vc == 0) = true := by
    rw [Bool.and_eq_true, List.any_eq_true, beq_iff_eq]
    obtain ⟨m, hm, hv⟩ := hm
    exact ⟨⟨m, hm, beq_iff_eq.2 hv⟩, hc⟩
  have hlog : (s.log Code.creditStarved [p, vc]).rel.starved = s.rel.starved := by
    rw [(Reports.log s _ _).rel]
  change execCreditStarved p vc s = _
  rw [execCreditStarved]
  dsimp only
  rw [hwaits, hup, hr, if_neg (by decide), hlog, State.starvedBefore]
  rfl

theorem State.starvedAt_spec (s : State) (p vc : Nat) : (s.starvedAt p vc).port p = s.port p ∧
    (∀ n, (s.starvedAt p vc).ctx n = s.ctx n) ∧
      SMap.get (fun _ => none) (s.starvedAt p vc).rel.starved p = some s.now := by
  have hr := Reports.log s Code.creditStarved [p, vc]
  exact ⟨hr.port p, hr.ctx, SMap.get_set_same (fun _ => (none : Option Nat)) s.rel.starved p (some s.now)⟩

/-! ### Requests queued on a training port (R313) -/

/-- A WRITE of this package that comes to nothing completes with LINK_DOWN. -/
theorem State.loseMsg_write {m : Msg} {k : Nat} {e : Sent} (hk : m.kind = Kind.write)
    (hs : m.h.scoord.toNat = s.ent Ent.pkgCoord) (hc : s.scoreCore m.h = some k)
    (he : s.findSent k m.h.msgid.toNat = some e) : s.loseMsg m = s.completeSent e Ack.linkDown 0 := by
  have hlose : s.loseMsg m = s.failMsg m := by
    rw [State.loseMsg, hk]
    rfl
  rw [hlose, State.failMsg, hk, if_pos (by decide), if_pos hs, hc]
  dsimp only
  rw [he]

theorem exec_trainingQueueTimeout {m : TxMsg} {l : List TxMsg} (hst : (s.port p).state = 2)
    (hq : (s.port p).queue = m :: l) :
    exec (.trainingQueueTimeout p) s = .next ((s.setPort p { s.port p with queue := l }).loseMsg m.msg) := by
  change execTrainingQueueTimeout p s = _
  unfold execTrainingQueueTimeout
  dsimp only
  split
  · next m' l' _ hq' =>
    obtain ⟨rfl, rfl⟩ := List.cons.inj (hq.symm.trans hq')
    rfl
  · next h => exact absurd hq (h m l hst)

theorem State.scoreCore_setPort (s : State) (p : Nat) (hp : p < 6) (x : Port) (h : MsgHeader) :
    (s.setPort p x).scoreCore h = s.scoreCore h := by
  have hent : (s.setPort p x).ent (Ent.partClusters h.spart.toNat) = s.ent (Ent.partClusters h.spart.toNat) := by
    refine State.ent_setEnt_ne _ _ ?_
    have hlt := h.spart.isLt
    simp only [Ent.partClusters, Ent.portState]
    omega
  rw [State.scoreCore, State.globalCluster, State.partClusters, hent]
  rfl

/-! ### The obligation -/

/-- Settles O42: a flit in order is taken and any other asked for again; what is not acknowledged is resent, and a port that
waits too long retrains. -/
theorem flitsAndReplays : Obligations.FlitsAndReplays := by
  unfold Obligations.FlitsAndReplays
  intro p vc flit seq s m l k e x h asks part run again starving
  have hagain : ∀ {y : Port}, y.rxSeq = x.rxSeq → y.owed = x.owed → ∀ l : List TxFlit,
      (l.map fun f => y.flit f.kind f.seq f.vc f.payload).map (Out.flit p) = l.map again := fun hr ho l => by
    rw [List.map_map]
    exact List.map_congr_left fun f _ => congrArg (Out.flit p) (Port.flit_congr hr ho _ _ _ _)
  refine ⟨fun hup hbad hrun => ?damaged, fun hup hok hq hk => ?idle, fun hup hok hq hk hseq hd hrun => ?skipped,
    fun hup hok hq hk hseq hvc hshort => ?gathered, fun hup hcount => ?replay, fun hup hr hq ho => ?retrained,
    fun hst hq hk hs hc he hcount hn => ?timeout, fun ⟨hup, hr, hm, hc⟩ hfirst => ?starves,
    fun at_ ⟨hup, hr, hm, hc⟩ hbefore hsoon hreplay hqueue hcolls => ?again⟩
  case damaged =>
    obtain ⟨hport, b, hsent, hask⟩ := State.askReplay_spec hrun
    refine ⟨_, exec_flitReceive_bad hup hbad, ⟨b, hsent.out, hask⟩, ?_, ?_, ?_, hsent.mem, hsent.cores⟩
    all_goals rw [hport]; rfl
  case idle =>
    refine ⟨_, exec_flitReceive_idle hup hok hk, ?_⟩
    rw [State.flitReturns_empty hq]
    exact ⟨State.port_setPort s p _, rfl, rfl⟩
  case skipped =>
    obtain ⟨credits, hexec⟩ := exec_flitReceive_data hup hok hk
    rw [State.flitReturns_empty hq] at hexec
    let u := s.setPort p (x.paid (bitsAt h 16 16) (bitsAt h 40 3) credits)
    have hu : u.port p = x.paid (bitsAt h 16 16) (bitsAt h 40 3) credits := State.port_setPort s p _
    have hskip : u.takeFlit p flit = u.askReplay p := State.takeFlit_skips (by rw [hu]; exact hseq) (by rw [hu]; exact hd)
    obtain ⟨hport, b, hsent, hask⟩ := State.askReplay_spec (s := u) (p := p) (by rw [hu]; exact hrun)
    rw [hu] at hport hask
    refine ⟨_, hexec.trans (congrArg _ hskip), ⟨b, hsent.out, hask⟩, ?_, ?_, ?_, hsent.mem, hsent.cores⟩
    all_goals rw [hport]; rfl
  case gathered =>
    obtain ⟨credits, hexec⟩ := exec_flitReceive_data hup hok hk
    rw [State.flitReturns_empty hq] at hexec
    let u := s.setPort p (x.paid (bitsAt h 16 16) (bitsAt h 40 3) credits)
    have hu : u.port p = x.paid (bitsAt h 16 16) (bitsAt h 40 3) credits := State.port_setPort s p _
    obtain ⟨hport, hsent⟩ := State.takeFlit_gathers (s := u) (p := p) (part := part) (by rw [hu]; exact hseq) hk hvc
      (by rw [hu]; rfl) hshort
    rw [hu] at hport
    refine ⟨_, hexec, ?_, ?_, ?_, hsent.out.trans (List.append_nil _), hsent.mem, hsent.cores⟩
    all_goals rw [hport]
    · rfl
    · rfl
    · exact SMap.get_set_same _ _ _ _
  case replay =>
    obtain ⟨hport, hout, hcounted⟩ := s.countedReplay_spec p seq.toNat
    have hexec : exec (.replayRequest p seq) s = .next (s.replayFrom p seq.toNat) := congrArg Host.Outcome.next (if_pos hup)
    rw [State.replayFrom_eq] at hexec
    by_cases hrun : 8 ≤ run
    · rw [if_pos (show 8 ≤ ((s.port p).requested seq.toNat).reqRun from hrun)] at hexec
      have hself : ((s.countedReplay p seq.toNat).modPort p fun x => { x with retrain := true }).port p =
          { x.requested seq.toNat with retrain := true } := by
        rw [State.modPort, State.port_setPort, hport]
      refine ⟨_, hexec, ?_, ?_, ?_, ?_, fun _ => ⟨?_, hout⟩, fun h => absurd hrun (Nat.not_le.2 h)⟩
      · refine (State.ent_setEnt_ne _ _ ?_).trans (hcounted hcount)
        simp only [Ent.linkReplays, Ent.portState]
        omega
      · exact congrArg Port.reqSeq hself
      · exact congrArg Port.reqRun hself
      · exact (congrArg Port.replay hself).trans rfl
      · exact (congrArg Port.retrain hself).trans rfl
    · rw [if_neg (show ¬ 8 ≤ ((s.port p).requested seq.toNat).reqRun from hrun), State.resend_eq, hport] at hexec
      obtain ⟨⟨owed, b, hself, hsent⟩, hpaid⟩ := (s.countedReplay p seq.toNat).sendAgain_spec (p := p)
        ((x.requested seq.toNat).replay.filter fun f => !seqBefore f.seq seq.toNat)
      rw [hport] at hself
      refine ⟨_, hexec, ?_, ?_, ?_, ?_, fun h => absurd h hrun, fun _ => ⟨?_, fun ho => ?_⟩⟩
      · refine (hsent.ent _ ?_).trans (hcounted hcount)
        simp only [Ent.linkReplays, Ent.portState]
        omega
      · exact congrArg Port.reqSeq hself
      · exact congrArg Port.reqRun hself
      · exact (congrArg Port.replay hself).trans rfl
      · exact (congrArg Port.retrain hself).trans rfl
      · rw [hport] at hpaid
        obtain ⟨-, hsent'⟩ := hpaid ho
        refine hsent'.out.trans ?_
        rw [hout, hagain (y := x.requested seq.toNat) rfl rfl]
        rfl
  case retrained =>
    let y : Port := { x with retrain := false, reqRun := 0, askRun := 0 }
    obtain ⟨-, hpaid⟩ := (s.setPort p y).sendAgain_spec (p := p) x.replay
    rw [State.port_setPort] at hpaid
    obtain ⟨hport, hsent⟩ := hpaid ho
    have hexec := exec_portRetrainComplete hup hr
    rw [State.flushPort_empty (by rw [hport]; exact hq)] at hexec
    refine ⟨_, hexec, hport, hsent.out.trans ?_⟩
    rw [hagain (y := y) rfl rfl]
    rfl
  case timeout =>
    let u := s.setPort p { x with queue := l }
    have hent : ∀ j, j ≠ Ent.portState p → u.ent j = s.ent j := fun j hj => State.ent_setEnt_ne _ _ hj
    have hdrop := hent (Ent.linkDrop e.ctx) (by simp only [Ent.linkDrop, Ent.portState]; omega)
    have hlose : u.loseMsg m.msg = u.completeSent e Ack.linkDown 0 := State.loseMsg_write hk
      (hs.trans (hent _ (by simp only [Ent.pkgCoord, Ent.portState]; omega)).symm)
      ((State.scoreCore_setPort s p p.isLt _ _).trans hc) he
    obtain ⟨hlinks, hcounted, -⟩ := State.completeSent_spec (s := u) hn (by rw [hdrop]; exact hcount) Ack.linkDown 0
    refine ⟨_, (exec_trainingQueueTimeout hst hq).trans (congrArg _ hlose), ?_, ?_, hcounted.trans (by rw [hdrop]; rfl)⟩
    · rw [State.port_congr (s := u) (by rw [hlinks])]
      exact congrArg Port.queue (State.port_setPort s p _)
    · rw [hlinks]
      exact not_mem_completed _ e
  case starves =>
    obtain ⟨hport, -, hstarved⟩ := s.starvedAt_spec p vc
    have hbefore : s.starvedBefore p = false := by rw [State.starvedBefore, hfirst]
    have hexec := exec_creditStarved hup hr hm hc
    rw [hbefore, if_neg Bool.false_ne_true] at hexec
    refine ⟨_, hexec, ?_, hstarved⟩
    rw [State.modPort, State.port_setPort, hport]
  case again =>
    obtain ⟨hport, hctx, -⟩ := s.starvedAt_spec p vc
    have hsecond : s.starvedBefore p = true := by
      rw [State.starvedBefore, hbefore]
      rw [Nat.ble_eq]
      exact hsoon
    have hexec := exec_creditStarved hup hr hm hc
    rw [hsecond, if_pos rfl] at hexec
    obtain ⟨hstate, henable, -⟩ := State.downPort_spec (s := s.starvedAt p vc) p.isLt
      (fun n => by rw [hctx]; exact hcolls n)
      (fun m hm => by
        rw [hport] at hm
        rcases Port.mem_held hm with ⟨f, hf, -⟩ | ⟨w, hw, rfl⟩
        · rw [show (s.port p).replay = [] from hreplay] at hf
          exact absurd hf List.not_mem_nil
        · exact hqueue w hw) 0
    exact ⟨_, hexec, hstate, henable⟩

end Sys2Proof.Machine
end
section
/-!
PROOF. Messages between packages as they take effect (R190, R231, R319, R320, R323).
-/

namespace Sys2Proof.Machine

open Sys2Proof

variable {s t : State} {h h0 : MsgHeader} {m : Msg} {kind : Nat} {f : State → State} {lines : List Nat} {step : Nat}

/-! ### Sync words while messages complete -/

theorem State.answered_sync (s : State) (e : Sent) : (s.answered e).sync = s.sync := by
  unfold State.answered
  dsimp only
  split <;> rfl

theorem State.linkDrop_sync (s : State) (n peer status : Nat) : (s.linkDrop n peer status).sync = s.sync := by
  unfold State.linkDrop
  dsimp only
  split
  · rfl
  · exact (Reports.logCtx _ _ _ _).sync

theorem State.winDropTx_sync (s : State) (n words : Nat) (args : List Nat) (recorded : Bool) :
    (s.winDropTx n words args recorded).sync = s.sync := by
  unfold State.winDropTx
  dsimp only
  split
  · rfl
  · split
    · rfl
    · exact (Reports.logCtx _ _ _ _).sync

theorem State.staleDrop_sync (s : State) (n : Nat) (args : List Nat) : (s.staleDrop n args).sync = s.sync := by
  unfold State.staleDrop State.staleDropBy
  dsimp only
  split
  · rfl
  · exact (Reports.logCtx _ _ _ _).sync

theorem State.completeSent_sync (s : State) (e : Sent) (status words : Nat) :
    (s.completeSent e status words).sync = s.sync := by
  have hcounted : (s.statusCounted e status).sync = s.sync := by
    unfold State.statusCounted
    split
    · exact s.answered_sync e
    · rw [State.linkDrop_sync, State.answered_sync]
  obtain ⟨args, heq⟩ := s.completeSent_eq e status words
  rw [heq]
  split
  · rw [State.winDropTx_sync, hcounted]
  · exact hcounted

theorem State.takeAck_sync (s : State) (h : MsgHeader) : (s.takeAck h).sync = s.sync := by
  unfold State.takeAck
  split
  · split
    · rfl
    · split
      · split
        · exact State.completeSent_sync _ _ _ _
        · exact State.staleDrop_sync _ _ _
      · rfl
  · rfl

/-- An acknowledgement changes no sync word. -/
theorem State.sendAck_sync (s : State) (h : MsgHeader) (status words : Nat) : (s.sendAck h status words).sync = s.sync := by
  unfold State.sendAck
  dsimp only
  split
  · exact State.takeAck_sync _ _
  · split
    · next p vc _ =>
      obtain ⟨l, hl⟩ := SendsFlits.transmit s p vc { kind := Kind.ack, h := s.ackHeader h status words, payload := [] }
      exact hl.sync
    · rfl

/-! ### Acceptance (R319) -/

/-- The answer to a message that the checks refuse: counted, and acknowledged with REJECTED. -/
def State.refusal (s : State) (h : MsgHeader) : State :=
  (s.bump (Ent.peerReject h.dctx.toNat)).sendAck h Ack.rejected 0

theorem State.admitAny_refused (ha : s.accepts h = false) : s.admitAny h kind f = s.refusal h := by
  rw [State.admitAny, ha]
  rfl

/-- A message that the checks of R319 admit. -/
structure State.Admits (s : State) (h : MsgHeader) : Prop where
  accepted : s.accepts h = true
  tag : s.tagOk h.dctx.toNat h.tag.toNat = true
  running : s.rel.creset = false

theorem State.Admits.any (ha : s.Admits h) : s.admitAny h kind f = f s := by
  rw [State.admitAny, ha.accepted, ha.tag]
  rfl

theorem State.Admits.msg (ha : s.Admits h) : s.admitMsg h kind f = f s := by
  rw [State.admitMsg, ha.any, ha.running]
  rfl

theorem clean_dctx_lt (h0 : MsgHeader) : h0.clean.dctx.toNat < 64 := by
  have hle : h0.clean.dctx.toNat ≤ 63 := by
    rw [MsgHeader.clean, BitVec.toNat_and]
    exact Nat.and_le_right
  omega

/-- A message refused is counted in PEER_REJECT and answered, and does nothing else (R319). -/
theorem State.refusal_spec (hn : h.dctx.toNat < 64) (hmax : s.ent (Ent.peerReject h.dctx.toNat) < 2 ^ 32 - 1)
    (hr : h.scoord.toNat ≠ s.ent Ent.pkgCoord) :
    (s.refusal h).ent (Ent.peerReject h.dctx.toNat) = s.ent (Ent.peerReject h.dctx.toNat) + 1 ∧
      (s.refusal h).links.packets = s.links.packets ∧ (s.refusal h).mem = s.mem ∧ (s.refusal h).sync = s.sync ∧
      (s.refusal h).cores = s.cores := by
  have hne : Ent.pkgCoord ≠ Ent.peerReject h.dctx.toNat := by simp only [Ent.pkgCoord, Ent.peerReject]; omega
  have hcount := State.ent_bump_of_lt (row_peerReject ⟨_, hn⟩) hmax
  obtain ⟨p, hp, l, hl⟩ := State.sendAck_sends (s := s.bump (Ent.peerReject h.dctx.toNat)) (h := h)
    (by rwa [State.ent_bump_ne _ hne]) Ack.rejected 0
  refine ⟨(hl.ent _ ?_).trans hcount, ?_, hl.mem, hl.sync, hl.cores⟩
  · simp only [Ent.peerReject, Ent.portState]
    omega
  · rw [State.refusal, hl.links]
    rfl

theorem State.takeWrite_refused (ha : s.accepts m.h = false) : s.takeWrite m = s.refusal m.h := by
  rw [State.takeWrite, State.admitMsg, State.admitAny_refused ha]

theorem State.takePost_refused (ha : s.accepts h = false) : s.takePost h = s.refusal h := by
  rw [State.takePost, State.admitMsg, State.admitAny_refused ha]

theorem State.takeRefillReq_refused (ha : s.accepts h = false) : s.takeRefillReq h lines step = s.refusal h := by
  rw [State.takeRefillReq, State.admitAny_refused ha]

/-! ### Where a message goes (R323) -/

theorem exec_writeMessage_eq (h0 : MsgHeader) (payload : List Byte) (s : State) :
    exec (.writeMessage h0 payload) s = .next (
    if h0.clean.dcoord.toNat ≠ s.ent Ent.pkgCoord then s.forward { kind := Kind.write, h := h0.clean, payload := payload }
    else s.takeWrite { kind := Kind.write, h := h0.clean, payload := payload }) := rfl

theorem exec_voileMessage_eq (h0 : MsgHeader) (payload : List Byte) (s : State) :
    exec (.voileMessage h0 payload) s = .next (
    if h0.clean.dcoord.toNat ≠ s.ent Ent.pkgCoord then s.forward { kind := Kind.voile, h := h0.clean, payload := payload }
    else s.takeWrite { kind := Kind.voile, h := h0.clean, payload := payload }) := rfl

theorem exec_postMessage_here (hd : h0.clean.dcoord.toNat = s.ent Ent.pkgCoord) :
    exec (.postMessage h0) s = .next (s.takePost h0.clean) := congrArg Host.Outcome.next (if_neg (not_not.2 hd))

theorem exec_ackMessage_here (hd : h0.clean.dcoord.toNat = s.ent Ent.pkgCoord) :
    exec (.ackMessage h0) s = .next (s.takeAckMsg h0.clean) := congrArg Host.Outcome.next (if_neg (not_not.2 hd))

theorem exec_refillReqMessage_here (hd : h0.clean.dcoord.toNat = s.ent Ent.pkgCoord) :
    exec (.refillReqMessage h0 lines step) s = .next (s.takeRefillReq h0.clean lines step) :=
  congrArg Host.Outcome.next (if_pos hd)

theorem exec_writeMessage_here (hd : h0.clean.dcoord.toNat = s.ent Ent.pkgCoord) (payload : List Byte) :
    exec (.writeMessage h0 payload) s = .next (s.takeWrite { kind := Kind.write, h := h0.clean, payload := payload }) :=
  (exec_writeMessage_eq h0 payload s).trans (congrArg _ (if_neg (not_not.2 hd)))

theorem exec_voileMessage_here (hd : h0.clean.dcoord.toNat = s.ent Ent.pkgCoord) (payload : List Byte) :
    exec (.voileMessage h0 payload) s = .next (s.takeWrite { kind := Kind.voile, h := h0.clean, payload := payload }) :=
  (exec_voileMessage_eq h0 payload s).trans (congrArg _ (if_neg (not_not.2 hd)))

/-! ### Words and posts that arrive (R158, R190) -/

/-- The packet that an accepted WRITE or VOILE becomes. -/
def Msg.packet (m : Msg) (dst : Nat) : Packet :=
  { ctx := m.h.dctx.toNat, tag := m.h.tag.toNat, score := bitsAt m.h.score.toNat 0 5,
    scluster := bitsAt m.h.score.toNat 5 6, own := false, part := m.h.dpart.toNat, dst := some dst,
    word := bitsAt m.h.daddr.toNat 0 19,
    data := (List.range (m.payload.length / 4)).map fun i => BitVec.ofNat 32 (fieldAt m.payload (4 * i) 4),
    sender := none, reply := some m.h, voile := m.kind == Kind.voile, raced := [] }

/-- An accepted WRITE or VOILE goes to the core that DADDR names. -/
theorem State.takeWrite_arrives {g : Nat} (ha : s.Admits m.h) (hd : bitsAt m.h.daddr.toNat 19 5 < 24)
    (hg : s.globalCluster m.h.dpart.toNat (bitsAt m.h.daddr.toNat 24 6) = some g) : s.takeWrite m =
      { s with links := { s.links with
          packets := s.links.packets ++ [m.packet (24 * g + bitsAt m.h.daddr.toNat 19 5)] } } := by
  have hcore : (if Nat.blt (bitsAt m.h.daddr.toNat 19 5) 24 then
      (s.globalCluster m.h.dpart.toNat (bitsAt m.h.daddr.toNat 24 6)).map fun g => 24 * g + bitsAt m.h.daddr.toNat 19 5
      else none) = some (24 * g + bitsAt m.h.daddr.toNat 19 5) := by
    rw [if_pos (by rw [Nat.blt_eq]; exact hd), hg]
    rfl
  rw [State.takeWrite, ha.msg]
  dsimp only
  rw [hcore]
  rfl

/-- An accepted POST adds to the word that it names, and is acknowledged. -/
theorem State.takePost_adds {key : Nat} (ha : s.Admits h) (hr : s.restricted h.dpart.toNat = false)
    (hk : s.syncKey h.dpart.toNat h.daddr.toNat = some key) (ho : (s.word key).owner = none) (hm : (s.word key).mode < 2) :
    s.takePost h = (s.addWord key h.aux.toNat).sendAck h Ack.ok 0 := by
  have hcond : ((s.word key).owner.isNone && Nat.blt (s.word key).mode 2) = true := by
    rw [ho, Bool.and_eq_true, Nat.blt_eq]
    exact ⟨rfl, hm⟩
  rw [State.takePost, ha.msg]
  dsimp only
  rw [hr, hk, if_neg Bool.false_ne_true]
  exact if_pos hcond

/-! ### Acknowledgements that arrive (R320) -/

theorem State.takeAckMsg_completes {e : Sent} {g : Nat} (hc : bitsAt h.score.toNat 0 5 < 24)
    (hg : s.globalCluster h.dpart.toNat (bitsAt h.score.toNat 5 6) = some g)
    (he : s.findSent (24 * g + bitsAt h.score.toNat 0 5) h.msgid.toNat = some e) (ht : s.tagOk e.ctx e.tag = true) :
    s.takeAckMsg h = s.completeSent e h.status.toNat h.aux.toNat := by
  rw [State.takeAckMsg, if_neg (by omega), State.takeAck, hg]
  dsimp only
  rw [if_neg (by rw [Nat.ble_eq]; omega), he]
  exact if_pos ht

/-! ### Refills (R231) -/

theorem State.Admits.refillReq {p : Peer} (ha : s.Admits h) (hp : s.sourcePeer h = some p) :
    let n := h.dctx.toNat
    let r := if s.ent (Ent.step n) = step ∧ (s.ctx n).upd.stage ≠ .sweep ∧ s.mem.served = true then
      s.refillLines n (lines.take 64) else (0, [])
    s.takeRefillReq h lines step = s.sendRefillResp h p r.1 r.2 := by
  intro n r
  have hrefuses : (s.ent (Ent.step n) != step || (s.ctx n).upd.stage == .sweep || !s.mem.served) = true ↔
      ¬ (s.ent (Ent.step n) = step ∧ (s.ctx n).upd.stage ≠ .sweep ∧ s.mem.served = true) := by
    rw [Bool.or_eq_true, Bool.or_eq_true, bne_iff_ne, beq_iff_eq, Bool.not_eq_true', ← Bool.not_eq_true]
    tauto
  rw [State.takeRefillReq, ha.any, hp]
  dsimp only
  by_cases hok : s.ent (Ent.step n) = step ∧ (s.ctx n).upd.stage ≠ .sweep ∧ s.mem.served = true
  · rw [if_neg (by rw [hrefuses]; exact not_not.2 hok), show r = s.refillLines n (lines.take 64) from if_pos hok]
  · rw [if_pos (hrefuses.2 hok), show r = (0, []) from if_neg hok]

/-- The answer to a refill request of a peer in another package goes on its way. -/
theorem State.sendRefillResp_remote {p : Peer} (hlt : p.coord < 65536) (hne : p.coord ≠ s.ent Ent.pkgCoord) (h : MsgHeader)
    (aux : Nat) (payload : List Byte) : s.sendRefillResp h p aux payload = s.forward
      { kind := Kind.refillResp, payload := payload
        h := { s.ctxHeader h.dctx.toNat p Kind.refillResp payload.length aux with msgid := h.msgid } } := by
  have hcoord : (BitVec.ofNat 16 p.coord).toNat = p.coord := Nat.mod_eq_of_lt hlt
  rw [State.sendRefillResp, if_neg hne, State.sendMsg, if_neg]
  exact fun h => hne (hcoord.symm.trans h)

/-- An admitted answer settles the lines of its request. -/
theorem exec_refillRespMessage {got : List (Option (BitVec 512))} (hd : h0.clean.dcoord.toNat = s.ent Ent.pkgCoord)
    (ha : s.Admits h0.clean) (notNow : Bool) :
    exec (.refillRespMessage h0 got notNow) s = .next (s.takeRefillLines h0.clean.msgid.toNat got notNow) := by
  have hkeep : (s.accepts h0.clean && (s.rel.creset || !s.tagOk h0.clean.dctx.toNat h0.clean.tag.toNat)) = false := by
    rw [ha.accepted, ha.tag, ha.running]
    rfl
  have hexec : exec (.refillRespMessage h0 got notNow) s = .next (s.takeRefillResp h0.clean got notNow) :=
    congrArg Host.Outcome.next (if_neg (not_not.2 hd))
  rw [hexec, State.takeRefillResp, hkeep, ha.msg]
  rfl

theorem State.noteRefilled_marks (s : State) (line : Nat) : (s.noteRefilled line).mem.poison = s.mem.poison ∧
    (s.noteRefilled line).mem.refills = s.mem.refills := by
  unfold State.noteRefilled
  dsimp only
  split
  · exact ⟨rfl, rfl⟩
  · split <;> exact ⟨rfl, rfl⟩

/-- A line whose marks are cleared is no longer refilled. -/
theorem State.clearPoison_refills (s : State) (line : Nat) : ∀ r ∈ (s.clearPoison line).mem.refills, r.line ≠ line := by
  unfold State.clearPoison
  split
  · rw [State.reportPoison_mem]
    intro r hr
    simpa using List.of_mem_filter hr
  · next h =>
    rw [Bool.or_eq_true, not_or, List.any_eq_true] at h
    exact fun r hr heq => h.2 ⟨r, hr, beq_iff_eq.2 heq⟩

theorem leBytes_extract (v : BitVec 512) {i : Nat} (h : i < (leBytes 64 v.toNat).length) :
    (leBytes 64 v.toNat)[i] = v.extractLsb' (8 * i) 8 := by
  rw [leBytes_getElem]
  refine BitVec.eq_of_toNat_eq ?_
  rw [BitVec.toNat_ofNat, BitVec.extractLsb'_toNat, Nat.shiftRight_eq_div_pow, Nat.pow_mul]

/-- A line that arrives is written and loses its poison (R231 step 4). -/
theorem State.takeRefillLine_writes (s : State) (line : Nat) (v : BitVec 512) :
    let t := s.takeRefillLine line (some v)
    (∀ i, i < 64 → t.memByte (64 * line + i) = v.extractLsb' (8 * i) 8) ∧
      (∀ b, (b < 64 * line ∨ 64 * line + 64 ≤ b) → t.memByte b = s.memByte b) ∧
      SMap.get (fun _ => false) t.mem.poison line = false ∧ ∀ r ∈ t.mem.refills, r.line ≠ line := by
  intro t
  let u := s.writePhys (64 * line) (leBytes 64 v.toNat)
  have hlen := Laws.RequestsAndWords.leBytes_length 64 v.toNat
  have hbytes : ∀ b, t.memByte b = u.memByte b := State.memByte_congr
    ((State.noteRefilled_cells (u.clearPoison line) line).trans (u.clearPoison_cells line))
  obtain ⟨hpoison, hrefills⟩ := (u.clearPoison line).noteRefilled_marks line
  refine ⟨fun i hi => ?_, fun b hb => ?_, ?_, fun r hr => ?_⟩
  · rw [hbytes, State.memByte_writePhys_in _ _ _ _ (by rw [hlen]; exact hi), leBytes_extract]
  · rw [hbytes, State.memByte_writePhys_out _ _ _ _ (by rw [hlen]; exact hb)]
  · exact (congrArg (fun m => SMap.get (fun _ => false) m line) hpoison).trans (u.get_clearPoison line)
  · exact u.clearPoison_refills line r (by rw [← hrefills]; exact hr)

/-- A refill that fails leaves its line poisoned, and is at an end (R231 step 5). -/
theorem State.refillFail_poisons (hh : s.mem.held = []) (line : Nat) : (s.refillFail line).poisoned line = true ∧
    ∀ r ∈ (s.refillFail line).mem.refills, r.line ≠ line := by
  let u := s.modMem fun m => { m with refills := m.refills.filter fun r => r.line != line }
  let w := (u.bump Ent.refillFail).log Code.refillFail [64 * line]
  have hw : w.mem = u.mem := (Reports.log (u.bump Ent.refillFail) _ _).mem
  have hheld : (w.poisonLine line).mem.held = [] := by
    rw [State.poisonLine_mem, hw]
    exact hh
  have hrefills : (w.poisonLine line).mem.refills = s.mem.refills.filter fun r => r.line != line := by
    rw [State.poisonLine_mem, hw]
    rfl
  have hfail : s.refillFail line =
      (w.poisonLine line).modMem fun m => { m with held := m.held.filter fun h => h.1 != line } :=
    State.failHeld_exporters fun x hx => absurd hx (by rw [hheld]; exact List.not_mem_nil)
  rw [hfail]
  refine ⟨(State.poisoned_of_marks (s := w.poisonLine line) rfl rfl line).trans (w.poisoned_poisonLine line),
    fun r hr => ?_⟩
  rw [show ((w.poisonLine line).modMem fun m => { m with held := m.held.filter fun h => h.1 != line }).mem.refills =
    (w.poisonLine line).mem.refills from rfl, hrefills] at hr
  simpa using List.of_mem_filter hr

/-- A refused line is asked for again at a step boundary (R231 step 5). -/
theorem State.refillNotNow_waits {r : Refill} (hr : r ∈ s.mem.refills) (ht : r.tries < 3) :
    { r with tries := r.tries + 1, wait := true } ∈ (s.refillNotNow r).mem.refills ∧
      (s.refillNotNow r).mem.cells = s.mem.cells := by
  rw [State.refillNotNow, if_neg (by rw [Nat.ble_eq]; omega)]
  exact ⟨List.mem_map.2 ⟨r, hr, if_pos rfl⟩, rfl⟩

/-! ### The obligation -/

/-- Settles O43: what R319 refuses is counted and answered; what it admits takes effect, and completes at its source. -/
theorem messagesTakeEffect : Obligations.MessagesTakeEffect := by
  unfold Obligations.MessagesTakeEffect
  intro h0 payload s g key port vc e c lines step p a got v rf h n here admitted m dst arrives ends line
  have hadmits : admitted → s.Admits h := fun ⟨_, ha, ht, hc⟩ => ⟨ha, ht, hc⟩
  have hends : ∀ (e : Sent) (status words : Nat), e.ctx < 64 → s.ent (Ent.linkDrop e.ctx) < 2 ^ 32 - 1 →
      ends (s.completeSent e status words) e (status != 0) := fun e status words hn hcount => by
    obtain ⟨hlinks, hdrop, -⟩ := State.completeSent_spec hn hcount status words
    refine ⟨?_, hdrop, State.completeSent_mem s e status words⟩
    rw [hlinks]
    exact not_mem_completed _ e
  refine ⟨fun ha hd hg => ?words, fun hh hhop hroom => ?forwarded, fun hh hbad hmax hr => ?refused,
    fun ha hr hk ho hm => ?posted, fun hh hc hg he ht hn hcount => ?acknowledged, fun he hn hcount => ?timeout,
    fun ha hp hlt hne => ?refillReq, fun ha hof hline => ⟨fun hv => ?arrived, fun hv hheld => ?poisoned,
      fun htries => ?waits, fun htries hheld => ?exhausted⟩⟩
  case words =>
    refine ⟨⟨_, exec_writeMessage_here ha.1 payload, ?_⟩, _, exec_voileMessage_here ha.1 payload, ?_⟩
    · rw [State.takeWrite_arrives (m := m Kind.write) (hadmits ha) hd hg]
      exact ⟨rfl, rfl, _, rfl, rfl, rfl, rfl, rfl, rfl, rfl, rfl⟩
    · rw [State.takeWrite_arrives (m := m Kind.voile) (hadmits ha) hd hg]
      exact ⟨rfl, rfl, _, rfl, rfl, rfl, rfl, rfl, rfl, rfl, rfl⟩
  case forwarded =>
    have hvc := State.hop_vc_lt hhop
    obtain ⟨-, ⟨l, hl⟩, hleave, hcredit, hreplay⟩ := State.transmit_roomy hroom hvc
    have hexec := (exec_writeMessage_eq h0 payload s).trans (congrArg _ (if_pos hh))
    exact ⟨_, hexec.trans (congrArg _ (State.forward_roomy hhop hroom hvc)), hleave, hl.cores, hcredit, hreplay⟩
  case refused =>
    have hexec : ∀ i ∈ [Instr.writeMessage h0 payload, .voileMessage h0 payload, .postMessage h0,
        .refillReqMessage h0 lines step], exec i s = .next (s.refusal h) := by
      simp only [List.forall_mem_cons]
      exact ⟨(exec_writeMessage_here hh payload).trans (congrArg _ (State.takeWrite_refused (m := m Kind.write) hbad)),
        (exec_voileMessage_here hh payload).trans (congrArg _ (State.takeWrite_refused (m := m Kind.voile) hbad)),
        (exec_postMessage_here hh).trans (congrArg _ (State.takePost_refused hbad)),
        (exec_refillReqMessage_here hh).trans (congrArg _ (State.takeRefillReq_refused hbad)), List.forall_mem_nil _⟩
    exact fun i hi => ⟨_, hexec i hi, State.refusal_spec (clean_dctx_lt h0) hmax hr⟩
  case posted =>
    have hadd := KeepsWords.addWordFor s key h.aux.toNat none
    obtain ⟨hword, hothers⟩ := hadd.setWord_sync ((s.addWord key h.aux.toNat).sendAck_sync h Ack.ok 0)
    refine ⟨_, (exec_postMessage_here ha.1).trans (congrArg _ (State.takePost_adds (hadmits ha) hr hk ho hm)),
      congrArg SyncWord.value hword, hothers, ?_⟩
    rw [State.sendAck_mem]
    exact hadd.mem
  case acknowledged =>
    obtain ⟨-, -, hsends⟩ := State.completeSent_spec hn hcount h.status.toNat h.aux.toNat
    rw [ht, Bool.and_true] at hsends
    exact ⟨_, (exec_ackMessage_here hh).trans (congrArg _ (State.takeAckMsg_completes hc hg he ht)),
      hends e _ _ hn hcount, hsends⟩
  case timeout =>
    have hexec : exec (.ackTimeout c h.msgid) s = .next (s.completeSent e Ack.linkDown 0) := by
      change execAckTimeout c h.msgid s = _
      rw [execAckTimeout, he]
    exact ⟨_, hexec, hends e _ _ hn hcount⟩
  case refillReq =>
    intro r answer hhop hroom
    have hvc := State.hop_vc_lt hhop
    obtain ⟨-, ⟨l, hl⟩, hleave, -⟩ := State.transmit_roomy hroom hvc
    have htake : s.takeRefillReq h lines step = (s.transmit port vc answer).2 := by
      rw [(hadmits ha).refillReq hp, State.sendRefillResp_remote hlt hne]
      exact State.forward_roomy hhop hroom hvc
    exact ⟨_, (exec_refillReqMessage_here ha.1).trans (congrArg _ htake), hleave, hl.mem⟩
  case arrived =>
    have htake : s.takeRefillLines h.msgid.toNat got false = s.takeRefillLine line (some v) := by
      rw [State.takeRefillLines, hof, ← hv, ← hline]
      rfl
    exact ⟨_, (exec_refillRespMessage ha.1 (hadmits ha) false).trans (congrArg _ htake), s.takeRefillLine_writes line v⟩
  case poisoned =>
    have htake : s.takeRefillLines h.msgid.toNat got false = s.refillFail line := by
      rw [State.takeRefillLines, hof, ← hline]
      change s.takeRefillLine rf.line (got.getD rf.idx none) = _
      rw [hv]
      rfl
    exact ⟨_, (exec_refillRespMessage ha.1 (hadmits ha) false).trans (congrArg _ htake),
      State.refillFail_poisons hheld line⟩
  case waits =>
    have htake : s.takeRefillLines h.msgid.toNat got true = s.refillNotNow rf := by
      rw [State.takeRefillLines, hof]
      rfl
    have hof' : rf ∈ s.refillsOf h.msgid.toNat := by
      rw [hof]
      exact List.mem_singleton_self rf
    have hmem : rf ∈ s.mem.refills := List.mem_of_mem_filter hof'
    exact ⟨_, (exec_refillRespMessage ha.1 (hadmits ha) true).trans (congrArg _ htake),
      State.refillNotNow_waits hmem htries⟩
  case exhausted =>
    have htake : s.takeRefillLines h.msgid.toNat got true = s.refillFail line := by
      rw [State.takeRefillLines, hof, ← hline]
      exact if_pos (by rw [Nat.ble_eq]; exact htries)
    exact ⟨_, (exec_refillRespMessage ha.1 (hadmits ha) true).trans (congrArg _ htake),
      State.refillFail_poisons hheld line⟩

end Sys2Proof.Machine
end
section
/-!
PROOF. Requests of links, power, tests and returns (R312, R316, R325, R404, R409, R411, R452, R453).
-/

namespace Sys2Proof.Machine

open Sys2Proof

variable {s t : State} {port : DictPort} {key v : Nat} {data : List Byte} {r : ERow}

/-! ### Entries that take their value -/

/-- A request for an entry that only takes its value sets it, and is answered OK. -/
theorem Accepted.exec_plain {i : Instr} (h : Accepted s port key data) (hrow : (Catalog.row key).map (·.acc) = some .rw)
    (hown : key / 256 ∉ ownEffects) (hmark : key / 256 ∉ [0x4030, 0x4031, 0x4032, 0x6030, 0x6031, 0x6032])
    (hi : exec i s = .next (s.dictRequest port key data)) :
    exec i s = .next ((s.setEnt key (leNat data)).answerOk port key data) := by
  obtain ⟨r, hr, hacc⟩ := Option.map_eq_some_iff.1 hrow
  have hnot : ¬ (key % 256 == 2 && [0x4030, 0x4031, 0x4032, 0x6030, 0x6031, 0x6032].contains (key / 256)) = true := by
    rw [Bool.and_eq_true, List.contains_iff_mem]
    exact fun h => hmark h.2
  rw [hi, h.dictRequest hr, State.dictApply_of_not_mem hown, hacc, if_neg (by decide), if_neg (by decide),
    if_neg (by decide), if_neg (by decide), if_neg hnot]

theorem row_ringCfg (r : Fin 3) (k : Fin 16) : (Catalog.row (Ent.ringCfg r k)).map (·.acc) = some .rw := by
  revert r k
  decide +kernel

/-- RING_CFG takes its value (R325). -/
theorem exec_ringCfgWrite {ring : Fin 3} {k : Fin 16} {w : Word64}
    (h : Accepted s port (Ent.ringCfg ring k) (leBytes 8 w.toNat)) : exec (.ringCfgWrite port ring k w) s =
      .next ((s.setEnt (Ent.ringCfg ring k) w.toNat).answerOk port (Ent.ringCfg ring k) (leBytes 8 w.toNat)) := by
  have hindex : Ent.ringCfg ring k / 256 = 0x7021 + ring := by simp only [Ent.ringCfg]; omega
  have hplain : ∀ ring : Fin 3, 0x7021 + ring.val ∉ ownEffects ∧
      0x7021 + ring.val ∉ [0x4030, 0x4031, 0x4032, 0x6030, 0x6031, 0x6032] := by decide
  obtain ⟨hown, hmark⟩ := hplain ring
  rw [← hindex] at hown hmark
  rw [h.exec_plain (row_ringCfg ring k) hown hmark rfl, leNat_leBytes w.isLt]

theorem row_slope : (Catalog.row Ent.slope).map (·.acc) = some .rw := by decide +kernel

/-- SLOPE takes its value (R411). -/
theorem exec_slopeWrite {x : BitVec 16} (h : Accepted s port Ent.slope (leBytes 2 x.toNat)) :
    exec (.slopeWrite port x) s = .next ((s.setEnt Ent.slope x.toNat).answerOk port Ent.slope (leBytes 2 x.toNat)) := by
  rw [h.exec_plain row_slope (by decide) (by decide) rfl, leNat_leBytes x.isLt]

theorem State.dictAnswer_links (t : State) (port : DictPort) (op : Nat) (sent : List Byte) (code : Nat)
    (data : List Byte) : (t.dictAnswer port op sent code data).links = t.links := by cases port <;> rfl

/-- The answer to a request leaves the links as they are. -/
@[simp] theorem State.answerOk_links (t : State) (port : DictPort) (key : Nat) (data : List Byte) :
    (t.answerOk port key data).links = t.links := State.dictAnswer_links t _ _ _ _ _

@[simp] theorem State.answerOk_port (t : State) (port : DictPort) (key : Nat) (data : List Byte) (p : Nat) :
    (t.answerOk port key data).port p = t.port p := State.port_congr (by rw [State.answerOk_links]) p

/-! ### PORT_ENABLE (R312) -/

theorem row_portEnable (p : Fin 6) : (Catalog.row (Ent.portEnable p)).isSome = true := by
  revert p
  decide +kernel

theorem State.dictApply_portEnable (p : Fin 6) : s.dictApply port r (Ent.portEnable p) v = s.setPortEnable p v := by
  have hi : Ent.portEnable p / 256 = 0x7003 := by simp only [Ent.portEnable]; omega
  have hn : Ent.portEnable p % 256 - 1 = p := by simp only [Ent.portEnable]; omega
  simp only [State.dictApply, hi, hn]

theorem exec_portEnableWrite {p : Fin 6} {b : Byte} (h : Accepted s port (Ent.portEnable p) [b]) :
    exec (.portEnableWrite port p b) s = .next ((s.setPortEnable p b.toNat).answerOk port (Ent.portEnable p) [b]) :=
  h.exec_eq (row_portEnable p) rfl fun _ => State.dictApply_portEnable p

theorem State.ent_portEnable_setPort (s : State) (p : Fin 6) (x : Port) :
    (s.setPort p x).ent (Ent.portEnable p) = s.ent (Ent.portEnable p) := by
  refine State.ent_setEnt_ne _ _ ?_
  simp only [Ent.portEnable, Ent.portState]
  omega

/-- A DOWN port that is enabled trains anew. -/
theorem State.setPortEnable_trains {p : Fin 6} (hrun : s.linksRun = true) (hst : (s.port p).state = 6) :
    (s.setPortEnable p 1).ent (Ent.portEnable p) = 1 ∧ ((s.setPortEnable p 1).port p).state = 1 := by
  have hcond : (s.linksRun && ((s.port p).state == 0 || (s.port p).state == 5 || (s.port p).state == 6)) = true := by
    rw [hrun, hst]
    rfl
  have henable : s.setPortEnable p 1 = (s.setEnt (Ent.portEnable p) 1).modPort p fun x => { x with state := 1 } :=
    if_pos hcond
  rw [henable]
  exact ⟨(State.ent_portEnable_setPort _ p _).trans (State.ent_setEnt _ _ _),
    congrArg Port.state (State.port_setPort _ _ _)⟩

/-- A port that holds nothing is disabled alone. -/
theorem State.setPortEnable_disables {p : Fin 6} (hheld : (s.port p).held = []) (hc : ∀ n, (s.ctx n).colls = []) :
    (s.setPortEnable p 0).ent (Ent.portEnable p) = 0 ∧ ((s.setPortEnable p 0).port p).state = 0 := by
  let u := s.setEnt (Ent.portEnable p) 0
  have hu : u.ent (Ent.portEnable p) = 0 := State.ent_setEnt _ _ _
  by_cases hst : (s.port p).state = 0
  · rw [show s.setPortEnable p 0 = u from if_pos hst]
    exact ⟨hu, hst⟩
  · let w := u.modPort p fun x => { x with state := 0 }
    have hw : w.port p = { s.port p with state := 0 } := State.port_setPort u p _
    have hfail : w.failPort p = w.setPort p (w.port p).cleared := by
      have hnone : (w.port p).held = [] := by rw [hw]; exact hheld
      rw [State.failPort_eq, hnone]
      rfl
    have hidle : (w.failPort p).abortOnPort p = w.failPort p := State.abortOnPort_idle (by rw [hfail]; exact hc) p
    have henable : s.setPortEnable p 0 = (w.failPort p).abortOnPort p := if_neg hst
    rw [henable, hidle, hfail]
    refine ⟨(State.ent_portEnable_setPort w p _).trans ((State.ent_portEnable_setPort u p _).trans hu), ?_⟩
    rw [State.port_setPort, hw]
    rfl

/-! ### PEER_UPDATE (R316) -/

theorem exec_peerUpdate {x : BitVec 32} (h : Accepted s port Ent.peerUpdate (leBytes 4 x.toNat)) :
    exec (.peerUpdate port x) s = .next ((s.peerTag (x.toNat % 64) (bitsAt x.toNat 6 12)
      (bitsAt x.toNat 18 8)).answerOk port Ent.peerUpdate (leBytes 4 x.toNat)) :=
  have hrow : (Catalog.row Ent.peerUpdate).isSome = true := by decide +kernel
  h.exec_eq hrow rfl fun r => by
    rw [leNat_leBytes x.isLt]
    rfl

/-- The cached peers of a context. -/
def State.peers (s : State) (n j : Nat) : Option Peer := SMap.get (fun _ => none) (s.ctx n).peers j

/-- One entry of the cached peer table takes the tag; where it names a peer of the block, messages carry it from then on. -/
theorem State.peerTag_spec {n j : Nat} {p : Peer} (hp : s.peers n j = some p) (tag : Nat) :
    (s.peerTag n j tag).peers n j = some { p with tag := tag } ∧
      (∀ n' j', (n', j') ≠ (n, j) → (s.peerTag n j tag).peers n' j' = s.peers n' j') ∧
      (s.peerTag n j tag).mem = s.mem ∧
      (s.peerTag n j tag).peerOf n j = (s.peerOf n j).map fun p => { p with tag := tag } := by
  have heq : s.peerTag n j tag =
      s.modCtx n fun c => { c with peers := SMap.set (fun _ => none) c.peers j (some { p with tag := tag }) } := by
    unfold State.peerTag
    rw [show SMap.get (fun _ => none) (s.ctx n).peers j = some p from hp]
  rw [heq]
  generalize hu :
    (s.modCtx n fun c => { c with peers := SMap.set (fun _ => none) c.peers j (some { p with tag := tag }) }) = u
  have hself : (u.ctx n).peers = SMap.set (fun _ => none) (s.ctx n).peers j (some { p with tag := tag }) := by
    rw [← hu, State.ctx_modCtx]
  have hnew : u.peers n j = some { p with tag := tag } := by
    rw [State.peers, hself, SMap.get_set_same]
  refine ⟨hnew, fun n' j' hne => ?_, by rw [← hu]; rfl, ?_⟩
  · by_cases hn : n' = n
    · subst hn
      rw [State.peers, hself, SMap.get_set_ne _ _ _ fun h => hne (by rw [h])]
      rfl
    · rw [State.peers, ← hu, State.ctx_modCtx_ne _ _ hn]
      rfl
  · have hent : ∀ k, u.ent k = s.ent k := fun k => by rw [← hu]; rfl
    have hblock : u.inBlock (u.ctxPart n) p.coord = s.inBlock (s.ctxPart n) p.coord := by
      rw [← hu]
      rfl
    have hold : s.peerOf n j = if p.valid && s.inBlock (s.ctxPart n) p.coord then some p else none := by
      unfold State.peerOf
      rw [show SMap.get (fun _ => none) (s.ctx n).peers j = some p from hp]
    have hnow : u.peerOf n j =
        if p.valid && u.inBlock (u.ctxPart n) p.coord then some { p with tag := tag } else none := by
      unfold State.peerOf
      rw [show SMap.get (fun _ => none) (u.ctx n).peers j = some { p with tag := tag } from hnew]
    rw [hold, hnow, hblock]
    split <;> rfl

/-! ### RING_VERIFY (R325) -/

theorem row_ringVerify (k : Fin 16) : (Catalog.row (Ent.ringVerify k)).isSome = true := by
  revert k
  decide +kernel

theorem State.dictApply_ringVerify (k : Fin 16) : s.dictApply port r (Ent.ringVerify k) v =
    (setBits v 3).foldl (fun s ring => s.startCheck k ring) s := by
  have hi : Ent.ringVerify k / 256 = 0x7024 := by simp only [Ent.ringVerify]; omega
  have hn : Ent.ringVerify k % 256 - 1 = k := by simp only [Ent.ringVerify]; omega
  simp only [State.dictApply, hi, hn]

/-- A request may name one ring. -/
theorem setBits_ring (ring : Fin 3) : setBits (leNat [BitVec.ofNat 8 (2 ^ ring.val)]) 3 = [ring.val] := by
  revert ring
  decide

/-- The check of a ring of one package succeeds at once. -/
theorem exec_ringVerify_alone {k : Fin 16} {ring : Fin 3}
    (h : Accepted s port (Ent.ringVerify k) [BitVec.ofNat 8 (2 ^ ring.val)]) (hv : s.ringValid k ring = true)
    (hp : s.ringPos k ring = 0) (hl : s.ringLen k ring = 1) :
    exec (.ringVerify port k (BitVec.ofNat 8 (2 ^ ring.val))) s =
      .next ((s.endCheck k ring 2).answerOk port (Ent.ringVerify k) [BitVec.ofNat 8 (2 ^ ring.val)]) :=
  h.exec_eq (row_ringVerify k) rfl fun r => by
    have hcond : ¬ (!s.ringValid k ring || s.ringPos k ring != 0) = true := by
      rw [hv, hp]
      decide
    rw [State.dictApply_ringVerify, setBits_ring, List.foldl_cons, List.foldl_nil, State.startCheck, if_neg hcond,
      if_pos hl]

/-! ### Power (R404, R409) -/

/-- One partition's part of a call for relearning. -/
def State.relearnOne (s : State) (k : Nat) : State :=
  State.modGov { s with freeCtr := s.freeCtr + 1 } k fun g => { g with relearn := true, alike := s.freeCtr }

theorem State.relearnOne_relearn (s : State) (k j : Nat) :
    ((s.relearnOne k).part j).gov.relearn = (decide (j = k) || (s.part j).gov.relearn) := by
  unfold State.relearnOne State.modGov
  by_cases h : j = k
  · rw [h, State.part_modPart, decide_eq_true rfl]
    rfl
  · rw [State.part_modPart_ne _ _ h, decide_eq_false h]
    rfl

theorem State.foldl_relearnOne (l : List Nat) (s : State) (j : Nat) :
    ((l.foldl State.relearnOne s).part j).gov.relearn = (decide (j ∈ l) || (s.part j).gov.relearn) := by
  induction l generalizing s with
  | nil => rfl
  | cons k l ih =>
    rw [List.foldl_cons, ih, State.relearnOne_relearn]
    by_cases h : j = k <;> simp [h]

/-- Every partition that is defined relearns. -/
theorem State.relearnAll_relearn {j : Nat} (h : s.partDefined j = true) : (s.relearnAll.part j).gov.relearn = true := by
  have hlt : j < 16 := by
    rw [State.partDefined, Bool.and_eq_true, Nat.blt_eq] at h
    exact h.1
  have hmem : j ∈ s.definedParts := List.mem_filter.2 ⟨List.mem_range.2 hlt, h⟩
  refine (State.foldl_relearnOne s.definedParts s j).trans ?_
  rw [decide_eq_true hmem, Bool.true_or]

theorem exec_powerCapWrite {x : BitVec 16} (h : Accepted s port Ent.powerCap (leBytes 2 x.toNat)) :
    exec (.powerCapWrite port x) s =
      .next ((s.setEnt Ent.powerCap x.toNat).relearnAll.answerOk port Ent.powerCap (leBytes 2 x.toNat)) :=
  have hrow : (Catalog.row Ent.powerCap).isSome = true := by decide +kernel
  h.exec_eq hrow rfl fun r => by
    rw [leNat_leBytes x.isLt]
    rfl

theorem row_govRelearn (k : Fin 16) : (Catalog.row (Ent.govRelearn k)).isSome = true := by
  revert k
  decide +kernel

theorem exec_govRelearn {k : Fin 16} (h : Accepted s port (Ent.govRelearn k) [1#8]) (hd : s.partDefined k = true) :
    exec (.govRelearn port k) s = .next ((s.relearn k).answerOk port (Ent.govRelearn k) [1#8]) :=
  h.exec_eq (row_govRelearn k) rfl fun r => by
    have hi : Ent.govRelearn k / 256 = 0x4014 := by simp only [Ent.govRelearn]; omega
    have hn : Ent.govRelearn k % 256 - 1 = k := by simp only [Ent.govRelearn]; omega
    simp only [State.dictApply, hi, hn, hd]
    rfl

/-! ### Self-tests and returns (R452, R453) -/

/-- An accepted request for a self-test starts the test that it names. -/
theorem exec_selftest {i : Instr} {b : Byte} (h : Accepted s port Ent.selftestReq [b])
    (hi : exec i s = .next (s.dictRequest port Ent.selftestReq [b])) :
    exec i s = .next ((s.testStart b.toNat).answerOk port Ent.selftestReq [b]) :=
  have hrow : (Catalog.row Ent.selftestReq).isSome = true := by decide +kernel
  h.exec_eq hrow hi fun _ => rfl

theorem bitsAt_returnReq {kind unit : Nat} (hk : kind < 8) (hu : unit < 65536) :
    bitsAt (kind + 256 * unit) 0 3 = kind ∧ bitsAt (kind + 256 * unit) 8 16 = unit := by
  unfold bitsAt
  norm_num only
  omega

/-- An accepted request for a return begins the return of the unit that it names. -/
theorem exec_returnRequest {i : Instr} {kind unit : Nat} (hk : kind < 8) (hu : unit < 65536)
    (h : Accepted s port Ent.returnReq (leBytes 4 (kind + 256 * unit)))
    (hi : exec i s = .next (s.dictRequest port Ent.returnReq (leBytes 4 (kind + 256 * unit)))) :
    ∃ t, exec i s = .next t ∧ t.rel.rets = s.rel.rets ++ [(kind, unit)] ∧
      t.ent Ent.returnStatus = 1 + 256 * unit + 16777216 * kind ∧ t.mem = s.mem := by
  have hrow : (Catalog.row Ent.returnReq).isSome = true := by decide +kernel
  obtain ⟨hkind, hunit⟩ := bitsAt_returnReq hk hu
  have happly : ∀ r, s.dictApply port r Ent.returnReq (leNat (leBytes 4 (kind + 256 * unit))) = s.returnStart kind unit :=
    fun r => by
      have hdo : ∀ v, s.dictApply port r Ent.returnReq v = s.returnStart (bitsAt v 0 3) (bitsAt v 8 16) := fun _ => rfl
      rw [leNat_leBytes (by omega), hdo, hkind, hunit]
  refine ⟨_, h.exec_eq hrow hi happly, ?_, ?_, ?_⟩
  · rw [State.answerOk_rel]
    rfl
  · rw [State.answerOk_ent]
    exact State.ent_setEnt _ _ _
  · rw [State.answerOk_mem]
    rfl

/-! ### The obligation -/

/-- Settles O53: each accepted request is its effect, then the answer OK. -/
theorem linkPowerAndTestRequests : Obligations.LinkPowerAndTestRequests := by
  unfold Obligations.LinkPowerAndTestRequests
  intro port p v ring k w x cluster slot stack g u s peer ok entry peersOf one quiet begun
  refine ⟨?enable, ?disable, ?peer, ?ringCfg, ?ringVerify, ?cap, ?slope, ?relearn, ?logic, ?memory, ?slotTest, ?coreSlot,
    ?group, ?upe⟩
  case enable =>
    rintro ⟨_, hreq, ha⟩ hrun hst
    cases hreq
    obtain ⟨hent, hstate⟩ := State.setPortEnable_trains hrun hst
    refine ⟨_, exec_portEnableWrite ha, ?_, ?_⟩
    · rw [State.answerOk_ent]
      exact hent
    · rw [State.answerOk_port]
      exact hstate
  case disable =>
    rintro ⟨_, hreq, ha⟩ ⟨hqueue, hreplay, hcolls⟩
    cases hreq
    have hheld : (s.port p).held = [] := Port.held_eq_nil hqueue fun f hf => by
      rw [hreplay] at hf
      exact absurd hf List.not_mem_nil
    obtain ⟨hent, hstate⟩ := State.setPortEnable_disables hheld hcolls
    refine ⟨_, exec_portEnableWrite ha, ?_, ?_⟩
    · rw [State.answerOk_ent]
      exact hent
    · rw [State.answerOk_port]
      exact hstate
  case peer =>
    rintro ⟨_, hreq, ha⟩ hp
    cases hreq
    obtain ⟨hself, hothers, hmem, hof⟩ := State.peerTag_spec hp (bitsAt v.toNat 18 8)
    have hpeers : ∀ (t : State) (n j : Nat),
        peersOf (t.answerOk port Ent.peerUpdate (leBytes 4 v.toNat)) n j = t.peers n j :=
      fun t n j => congrArg (fun c : Ctx => SMap.get (fun _ => none) c.peers j) (State.answerOk_ctx t _ _ _ n)
    refine ⟨_, exec_peerUpdate ha, (hpeers _ _ _).trans hself,
      fun n j hne => (hpeers _ n j).trans (hothers n j hne), ?_, ?_⟩
    · rw [State.answerOk_mem, hmem]
    · rw [← hof]
      refine State.peerOf_congr ?_ ?_ ?_ (fun k _ => ?_) entry
      · rw [State.answerOk_ctx]
      all_goals rw [State.answerOk_ent]
  case ringCfg =>
    rintro ⟨_, hreq, ha⟩
    cases hreq
    refine ⟨_, exec_ringCfgWrite ha, ?_, (State.answerOk_links _ _ _ _).trans (Reports.setEnt _ _ _).links⟩
    rw [State.answerOk_ent, State.ent_setEnt]
  case ringVerify =>
    rintro ⟨_, hreq, ha⟩ hv hp hl
    cases hreq
    obtain ⟨hstatus, -, -⟩ := s.endCheck_spec k ring (v := 2) (by decide)
    refine ⟨_, exec_ringVerify_alone ha hv hp hl, ?_⟩
    rw [State.entBits_congr (State.answerOk_ent _ _ _ _ _)]
    exact hstatus
  case cap =>
    rintro ⟨_, hreq, ha⟩
    cases hreq
    refine ⟨_, exec_powerCapWrite ha, ?_, fun j hj => ?_⟩
    · rw [State.answerOk_ent, State.relearnAll_eq]
      exact State.ent_setEnt _ _ _
    · have hdefined : (s.setEnt Ent.powerCap x.toNat).partDefined j = true := by
        have hlt : j < 16 := by
          rw [State.partDefined, Bool.and_eq_true, Nat.blt_eq] at hj
          exact hj.1
        rw [State.partDefined, State.ent_setEnt_ne]
        · exact hj
        · simp only [Ent.partClusters, Ent.powerCap]
          omega
      rw [State.answerOk_part]
      exact State.relearnAll_relearn hdefined
  case slope =>
    rintro ⟨_, hreq, ha⟩
    cases hreq
    refine ⟨_, exec_slopeWrite ha, ?_, State.dictAnswer_parts _ _ _ _ _ _⟩
    rw [State.answerOk_ent, State.ent_setEnt]
  case relearn =>
    rintro ⟨_, hreq, ha⟩ hd
    cases hreq
    refine ⟨_, exec_govRelearn ha hd, ?_⟩
    rw [State.answerOk_part, State.relearn, State.modGov, State.part_modPart]
  case logic =>
    rintro ⟨_, hreq, ha⟩
    cases hreq
    refine ⟨_, exec_selftest ha rfl, ?_, ?_⟩
    · rw [State.answerOk_rel]
      rfl
    · rw [State.answerOk_ent]
      exact State.ent_setEnt _ _ _
  case memory =>
    rintro ⟨_, hreq, ha⟩
    cases hreq
    refine ⟨_, exec_selftest ha rfl, ?_, ?_⟩
    · rw [State.answerOk_rel]
      rfl
    · rw [State.answerOk_ent]
      exact State.ent_setEnt _ _ _
  case slotTest =>
    rintro ⟨_, hreq, ha⟩
    cases hreq
    refine ⟨_, exec_selftest ha rfl, ?_, ?_⟩
    all_goals
      rw [State.answerOk_rel]
      rfl
  case coreSlot =>
    rintro ⟨_, hreq, ha⟩
    cases hreq
    exact exec_returnRequest (by decide) (by omega) ha rfl
  case group =>
    rintro ⟨_, hreq, ha⟩
    cases hreq
    exact exec_returnRequest (by decide) (by omega) ha rfl
  case upe =>
    rintro ⟨_, hreq, ha⟩
    cases hreq
    exact exec_returnRequest (by decide) (by omega) ha rfl

end Sys2Proof.Machine
end
